-- ==== Sys2Proof/Word.lean ====
section
/-! DEFINITION. The word types of the HL-7144: registers are 32 bits wide (R8), a 64-bit register is two of them (R9),
every structure in memory is a sequence of bytes, least significant byte first (R7). -/

namespace Sys2Proof

/-- One byte (R7). -/
abbrev Byte := BitVec 8

/-- The contents of one register (R8). -/
abbrev Word := BitVec 32

/-- The contents of one 64-bit register (R9). -/
abbrev DWord := BitVec 64

end Sys2Proof
end

