-- ==== Sys2Proof/Packets.lean ====
section
/-! DEFINITION. The operands of the block's commands: command ports, and the packets, blocks and messages that arrive
on its links (R456, R488 and the chapters of the links). Bytes in a packet are numbers below 256, in ascending address
order. -/

namespace Sys2Proof

/-- A command port (R456, R488): the anchor endpoint, the management endpoint of partition `q` (1 to 23), the
sideband, the service ring, the Sighting port, management core `c`, or the far initiator switch `sw` of the remote
register bridge. -/
inductive CmdPort where
  | anchor
  | ep (q : Fin 24)
  | sideband
  | ring
  | sighting
  | core (c : Fin 5)
  | far (sw : Fin 4096)
deriving DecidableEq, Repr, Inhabited

/-- The number that keys the state kept per command port (R488). -/
def CmdPort.key : CmdPort → Nat
  | .anchor => 0
  | .ep q => 32 + q.val
  | .sideband => 1
  | .ring => 2
  | .sighting => 3
  | .core c => 8 + c.val
  | .far sw => 4096 + sw.val

/-- CMD_PORT of a Cairn record (Table 14.1). Values 1 to 4 agree with PLAT_STATUS.SOURCE. -/
def CmdPort.code : CmdPort → Nat
  | .anchor => 1
  | .ep _ => 4
  | .sideband => 2
  | .ring => 3
  | .sighting => 5
  | .core _ => 7
  | .far _ => 6

/-- The partition of the port's command, 0x1F where it has none (Table 14.1). -/
def CmdPort.partition : CmdPort → Nat
  | .anchor => 0
  | .ep q => q.val
  | _ => 0x1F

end Sys2Proof

namespace Sys2Proof.Machine

/-! ### PCI Express -/

/-- The kinds of TLP that the Haldion tells apart (R250, R307, R379). -/
inductive TlpKind where
  | memRead | memWrite | atomic | cfgRead | cfgWrite | ioRead | ioWrite | msg | cpl | cplData
deriving DecidableEq, Repr, Inhabited

/-- A transaction layer packet. -/
structure Tlp where
  kind : TlpKind := .memRead
  tc : Nat := 0
  attr : Nat := 0
  /-- Poisoned. -/
  ep : Bool := false
  /-- Lock semantics. -/
  lock : Bool := false
  /-- An ATS translation request; a request whose address is translated. -/
  translReq : Bool := false
  translated : Bool := false
  reqId : Nat := 0
  tag : Nat := 0
  addr : Nat := 0
  /-- Length in dwords, 1 to 1,024. -/
  lenDw : Nat := 1
  firstBe : Nat := 0xF
  lastBe : Nat := 0
  /-- 1 FetchAdd, 2 Swap, 3 CAS. -/
  atomic : Nat := 0
  /-- The payload, whole dwords. -/
  data : List Nat := []
  /-- Completions: status (0 SC, 1 UR, 4 CA), bytes still owed, lower address and completer ID. -/
  status : Nat := 0
  byteCount : Nat := 0
  lowerAddr : Nat := 0
  cplId : Nat := 0
  /-- Configuration requests and ID-routed messages: target bus, device and function; register dword. -/
  target : Nat := 0
  reg : Nat := 0
  /-- Message code, and whether it is routed by ID, to the root complex, or broadcast downstream. -/
  code : Nat := 0
  route : Nat := 0
  /-- Prefixes or OHC content, 16 B at most. -/
  ext : List Nat := []
deriving DecidableEq, Repr, Inhabited

/-! ### The fabric (R282 to R284) -/

/-- A fabric packet. Field names follow Table 9.1; `payload` is padded; `abort` is END = ABORT. -/
structure FPkt where
  kind : Nat := 0
  flags : Nat := 0
  chunks : Nat := 4
  hops : Nat := 0
  dest : Nat := 0
  src : Nat := 0
  handle : Nat := 0
  srcPart : Nat := 0x1F
  seq : Nat := 0
  inc : Nat := 0
  mark : Nat := 0
  reqId : Nat := 0
  addr : Nat := 0
  reqF : Nat := 0
  cplF : Nat := 0
  ext : List Nat := []
  payload : List Nat := []
  abort : Bool := false
  crc : Nat := 0
deriving DecidableEq, Repr, Inhabited

/-! ### Lane blocks (Table 5.2) -/

/-- The equalisation fields of a PCI Express training set (R136, R144): phase, a preset or a coefficient set, Reject, and
FS and LF. -/
structure EqTs where
  phase : Nat := 0
  usePreset : Bool := false
  preset : Nat := 0
  pre : Nat := 0
  main : Nat := 0
  post : Nat := 0
  reject : Bool := false
  fs : Nat := 0
  lf : Nat := 0
deriving DecidableEq, Repr, Inhabited

/-- A TRAIN control block; on a lane of an H port, the partner's training set with its equalisation fields in `eq`. -/
structure TrainBlk where
  logical : Nat := 0
  rate : Nat := 0
  state : Nat := 0
  preReq : Nat := 0
  postReq : Nat := 0
  fom : Nat := 0
  ack : Nat := 0
  spareOk : Nat := 0
  eq : Option EqTs := none
deriving DecidableEq, Repr, Inhabited

/-- An ALIGN burst as the receiver of a port sees it: ALIGN_SEQ, WIDTH, and the lanes of the tile (0 to 17) whose ALIGN
blocks lie within the 48 UI window, each with the LOGICAL_LANE and the ALIGN_SEQ that it carries. -/
structure AlignBurst where
  seq : Nat := 0
  width : Nat := 0
  lanes : List (Nat × Nat × Nat) := []
deriving DecidableEq, Repr, Inhabited

/-- A SWAP control block: lane to be replaced, spare, REFUSED and the sender's switch ID. -/
structure SwapBlk where
  logical : Nat := 0
  spare : Nat := 0
  refused : Bool := false
  switchId : Nat := 0
deriving DecidableEq, Repr, Inhabited

/-! ### Margin messages (Tables 6.7 and 6.8) -/

/-- A margin slot: TYPE, COPY, TAG and BODY as a number (bit 0 is bit 0 of byte 0x02). -/
structure Margin where
  type : Nat := 0
  copy : Nat := 0
  tag : Nat := 0
  body : Nat := 0
deriving DecidableEq, Repr, Inhabited

/-- A flit as it arrives from the lanes: its 256 bytes, and the FEC symbols that the receiver marked as erasures, as
codeword positions 0 to 203 (R164, R167). -/
structure RawFlit where
  bytes : List Nat := []
  erased : List Nat := []
deriving DecidableEq, Repr, Inhabited

/-! ### Ticks, jobs and faults -/

/-- A tick mark (Table 4.1). -/
structure Mark where
  sourceId : Nat := 0
  depth : Nat := 0
  period : Nat := 0
  holdover : Bool := false
  number : Nat := 0
  remain : Nat := 0
deriving DecidableEq, Repr, Inhabited

/-- An audit sample (R185). -/
structure AuditSample where
  tick : Nat := 0
  s : Nat := 0
  rseq : Nat := 0
  avail : List Nat := []
deriving DecidableEq, Repr, Inhabited

/-- What the environment decides about a job step: the SVC is suspended inside it (R117, R118); a test of
hardware passed, or an owner has let go of a row; and the errors that a scrub meets, by row. -/
structure StepIn where
  held : Bool := false
  ok : Bool := true
  found : List (Nat × Bool) := []
deriving DecidableEq, Repr, Inhabited

/-- What a block detects (R399): a corrected or an uncorrectable error of a memory, or the die sensor's trip. Errors in a
buffer name its ingress port and the packet; errors in a table name the table (0 Gazetteer, 1 Bearing, 2 Routing-ID map,
3 Boundary, 4 Transit, 5 flow sequence), the entry, and the ingress port and partition of the access; `mac` and `row`
name the SRAM row. An error of the physical or data link layer of an H port comes with its AER bit, of the uncorrectable or
the correctable status (Table 7.5A). -/
inductive FaultIn where
  | sram (mac row : Nat)
  | buffer (port mac row : Nat)
  | bufferBad (port mac row : Nat) (packet : Option Nat)
  | tableBad (table index mac row port part : Nat)
  | ledgerBad (coll mac row : Nat)
  | core (c : Fin 5)
  | coreBad (c : Fin 5)
  | pcieLink (port : Nat) (unc : Bool) (bit : Nat)
  | thermal
deriving DecidableEq, Repr, Inhabited

/-! ### Functions of the service device -/

/-- What a Function Level Reset names: a VF by its function number, or the parent of a partition's VFs (R373). -/
inductive FlrTarget where
  | vf (n : Fin 4097)
  | parent (q : Fin 24)
deriving DecidableEq, Repr, Inhabited

/-! ### Service ring and Sighting commands (Tables 15.5 and 15.9) -/

/-- A COMMAND or RESPONSE frame of the service ring: DEST_SWITCH or RESPONDER, ORIGIN, HOPS, SEQ, OFFSET, data, and
whether its segment CRCs are right. -/
structure RingCmd where
  dest : Nat := 0xFFFF
  origin : Nat := 0x1000
  hops : Nat := 1
  seq : Nat := 0
  offset : Nat := 0
  data : List Byte := []
  crcOk : Bool := true
deriving DecidableEq, Repr, Inhabited

/-- A request on the Sighting port (R472). -/
structure SightReq where
  core : Fin 8 := 0
  index : Fin 16 := 0
  wide : Bool := false
  space : Fin 256 := 0
  addr : Nat := 0
  data : Nat := 0
  crcOk : Bool := true
deriving DecidableEq, Repr, Inhabited

/-! ### What the lanes and the partner of an H port bring -/

/-- The lane that loses block lock, and the invalid headers it met since its FOM window began (R132). -/
structure LockLoss where
  lane : Fin 18
  bad : Nat
deriving DecidableEq, Repr

/-- What a FOM window holds beside the eye: invalid headers, and the bits that a locked PRBS checker compared with the
errors among them (R138, R158). -/
structure WindowCount where
  bad : Nat
  bits : Nat
  errs : Nat
deriving DecidableEq, Repr

/-- The lane whose PRBS checker meets a run of bits, the first bit in bit 0 (R158). -/
structure PrbsRun where
  lane : Fin 18
  bits : Nat
deriving DecidableEq, Repr

/-- The end of PRBS lock: errors among its last 128 bits, and the bits compared before them with their errors (R158). -/
structure PrbsEnd where
  errors : Fin 129
  bits : Nat
  errs : Nat
deriving DecidableEq, Repr

/-- The lane that receives a Lane Margining command, and the command word (R159). -/
structure MarginWord where
  lane : Fin 18
  cmd : Fin 65536
deriving DecidableEq, Repr

/-- The H port whose link is free for a TLP, and its partner's free credits: posted, non-posted and completion headers and
data in turn (R253). -/
structure SendSlot where
  port : Fin 72
  credits : List Nat
deriving DecidableEq, Repr

end Sys2Proof.Machine
end

