-- ==== Sys2Proof/Syntax.lean ====
section
/-! DEFINITION. The commands of the block: one constructor for each row of the command table, with the operands of the row.
Times are in units of 62.5 ps; lanes are named by tile and lane, ports by number 0 to 71 (R5). -/

namespace Sys2Proof

open Sys2Proof.Machine

/-- A command. -/
inductive Instr where
  /-- REGISTER_WRITE (R11). -/
  | registerWrite (p : CmdPort) (a : Word) (size : Nat) (full : Bool) (v : DWord)
  /-- WRITE_LOW_HALF (R10). -/
  | writeLowHalf (p : CmdPort) (a v : Word)
  /-- WRITE_HIGH_HALF (R10). -/
  | writeHighHalf (p : CmdPort) (a v : Word)
  /-- READ_LOW_HALF (R9). -/
  | readLowHalf (p : CmdPort) (a : Word)
  /-- RC_READ (R11). -/
  | rcRead (p : CmdPort) (a : Word)
  /-- PWRGD_RISE (R77). -/
  | pwrgdRise
  /-- PWRGD_FALL (R78). -/
  | pwrgdFall
  /-- RST_N_FALL (R76). -/
  | rstNFall
  /-- RST_N_RISE (R77). -/
  | rstNRise (straps : Fin 8)
  /-- PERST_N_FALL (R76). -/
  | perstNFall (t : Fin 9)
  /-- PERST_N_RISE (R77). -/
  | perstNRise (t : Fin 9) (straps : Fin 8)
  /-- POWER_HOLD_END (R77). -/
  | powerHoldEnd (straps : Fin 8)
  /-- DEVICE_RESET (R82). -/
  | deviceReset (p : CmdPort) (v : Word)
  /-- DEVICE_RESET_END (R77). -/
  | deviceResetEnd (straps : Fin 8)
  /-- SR_BYPASS_OPEN (R79). -/
  | srBypassOpen
  /-- M1_ENTRY (R79). -/
  | m1Entry
  /-- RAIL_LOW (R500). -/
  | railLow (r : Fin 6)
  /-- BYPASS_SWITCHED (R502). -/
  | bypassSwitched (t8 : Bool)
  /-- T8_CLOSE (R89). -/
  | t8Close (p : CmdPort)
  /-- T8_OPEN (R89). -/
  | t8Open (p : CmdPort)
  /-- BOOT_INTERVAL_END (R517). -/
  | bootIntervalEnd
  /-- RAIL_RETURN (R500). -/
  | railReturn (r : Fin 6)
  /-- PLAT_START (R67). -/
  | platStart (p : CmdPort)
  /-- PLAT_BUFFER_WRITE (R66). -/
  | platBufferWrite (p : CmdPort) (off : Fin 65536) (v : Word)
  /-- CHUNK_HANDOVER (R66). -/
  | chunkHandover (p : CmdPort) (len : Fin 131072)
  /-- BUFFER_FREE (R68). -/
  | bufferFree
  /-- PLAT_END (R68). -/
  | platEnd (p : CmdPort)
  /-- PLAT_ABORT (R64). -/
  | platAbort (p : CmdPort)
  /-- PLAT_ACCEPTED (R69). -/
  | platAccepted
  /-- CLEARING_DONE (R71). -/
  | clearingDone
  /-- CLAIM_TIMEOUT (R66). -/
  | claimTimeout
  /-- STREAM_TIMEOUT (R66). -/
  | streamTimeout
  /-- BOOT_PORT_RELEASE (R84). -/
  | bootPortRelease
  /-- RUN_STATE_ACTIVATE (R84). -/
  | runStateActivate
  /-- CORES_START (R84). -/
  | coresStart
  /-- RUN_MODE_ENTERED (R84). -/
  | runModeEntered
  /-- NEED_PLAT_REPEAT (R93). -/
  | needPlatRepeat
  /-- NEED_PLAT (R94). -/
  | needPlat (pair : Fin 2) (part rev : Nat)
  /-- OFFER (R95). -/
  | offer (pair : Fin 2) (imageId length target minRev : Nat)
  /-- ACCEPT (R96). -/
  | accept (pair : Fin 2) (imageId : Nat)
  /-- DECLINE (R95). -/
  | decline (pair : Fin 2) (imageId : Nat)
  /-- OFFER_WITHDRAW (R95). -/
  | offerWithdraw (side : Fin 2)
  /-- DATA (R96). -/
  | neighbourData (pair : Fin 2) (offset : Nat) (body : List Byte)
  /-- CHUNK_ACK (R96). -/
  | chunkAck (pair : Fin 2) (offset : Nat)
  /-- NEIGHBOUR_DONE (R96). -/
  | neighbourDone (pair : Fin 2) (offset : Nat)
  /-- NEIGHBOUR_RESULT (R98). -/
  | neighbourResult (pair : Fin 2) (state code sec : Nat)
  /-- TICK_BOUNDARY (R115). -/
  | tickBoundary
  /-- TICK_MARK_SEND (R103). -/
  | tickMarkSend
  /-- TICK_MARK (R104). -/
  | tickMark (idx : Nat) (m : Mark) (time : Nat)
  /-- TICK_IN_EDGE (R109). -/
  | tickInEdge (time : Nat)
  /-- TICK_IN_MISSED (R109). -/
  | tickInMissed
  /-- DELAY_EXCHANGE (R106). -/
  | delayExchange
  /-- DELAY_REQ (R106). -/
  | delayReq (idx id time : Nat)
  /-- DELAY_RESP (R106). -/
  | delayResp (idx id t3t2 time : Nat)
  /-- PARENT_CHANGE (R104). -/
  | parentChange
  /-- ACQUIRING_TIMEOUT (R109). -/
  | acquiringTimeout
  /-- HOLDOVER_TIMEOUT (R109). -/
  | holdoverTimeout
  /-- TICK_NUMBER_LOAD (R108). -/
  | tickNumberLoad (p : CmdPort) (v : DWord)
  /-- BUDGET_END (R117). -/
  | budgetEnd (c : Fin 5) (overrun : Nat)
  /-- JOB_STEP (R123). -/
  | jobStep (inp : StepIn)
  /-- GAZETTEER_LOAD (R126). -/
  | gazetteerLoad (p : CmdPort)
  /-- BEARING_LOAD (R305). -/
  | bearingLoad (p : CmdPort)
  /-- BOUNDARY_LOAD (R388). -/
  | boundaryLoad (p : CmdPort)
  /-- FUNCTION_RESET (R375). -/
  | functionReset (p : CmdPort)
  /-- LANE_SWAP (R155). -/
  | laneSwap (p : CmdPort)
  /-- PLL_SWAP (R156). -/
  | pllSwap (p : CmdPort)
  /-- PLANE_SWAP (R418). -/
  | planeSwap (p : CmdPort)
  /-- SRAM_ROW_SWAP (R419). -/
  | sramRowSwap (p : CmdPort)
  /-- SCRUB (R420). -/
  | scrub (p : CmdPort)
  /-- LINK_RETRAIN (R200). -/
  | linkRetrain (p : CmdPort)
  /-- WIDTH_SPEED_CHANGE (R195). -/
  | widthSpeedChange (p : CmdPort)
  /-- JOB_CANCEL (R124). -/
  | jobCancel (p : CmdPort) (k : Fin 64) (handle : Fin 65536)
  /-- JOB_RELEASE (R125). -/
  | jobRelease (p : CmdPort) (k : Fin 64) (handle : Fin 65536)
  /-- SIGNAL_DETECT (R141). -/
  | signalDetect (t : Fin 9) (n : Fin 18)
  /-- CDR_LOCK (R141). -/
  | cdrLock (t : Fin 9) (n : Fin 18)
  /-- BLOCK_LOCK (R132): the sync headers of the run of blocks and their payloads as they arrive. -/
  | blockLock (t : Fin 9) (n : Fin 18) (heads loads : List Nat)
  /-- BLOCK_LOCK_LOSS (R149). -/
  | blockLockLoss (t : Fin 9) (x : LockLoss)
  /-- TRAINING_TIMEOUT (R141). -/
  | trainingTimeout (t : Fin 9) (n : Fin 18)
  /-- FOM_WINDOW_END (R138). -/
  | fomWindowEnd (t : Fin 9) (n : Fin 18) (eye spacing : Nat) (w : WindowCount)
  /-- TRAIN (R142). -/
  | train (t : Fin 9) (n : Fin 18) (b : TrainBlk)
  /-- ALIGN_BURST (R133). -/
  | alignBurst (p : Fin 72) (a : AlignBurst)
  /-- SWAP_REQUEST (R150). -/
  | swapRequest (p : Fin 72) (b : SwapBlk)
  /-- SWAP_ACKNOWLEDGE (R150). -/
  | swapAcknowledge (p : Fin 72) (b : SwapBlk)
  /-- MIRROR_MATCH (R153). -/
  | mirrorMatch (p : Fin 72) (offset : Nat)
  /-- PLL_LOCK_LOSS (R156). -/
  | pllLockLoss (t : Fin 9) (pll : Fin 2)
  /-- EQ_COMMIT (R161). -/
  | eqCommit (p : CmdPort) (t : Fin 9) (n : Fin 18)
  /-- LOOP (R157). -/
  | loop (p : CmdPort) (t : Fin 9) (n : Fin 18) (v : Fin 4)
  /-- PRBS_CTRL (R158). -/
  | prbsCtrl (p : CmdPort) (t : Fin 9) (n : Fin 18) (v : Word)
  /-- PRBS_LOCK (R158). -/
  | prbsLock (t : Fin 9) (x : PrbsRun)
  /-- PRBS_LOCK_LOSS (R158). -/
  | prbsLockLoss (t : Fin 9) (n : Fin 18) (x : PrbsEnd)
  /-- MARGIN_GO (R159). -/
  | marginGo (p : CmdPort) (t : Fin 9) (n : Fin 18) (v : Word)
  /-- MARGIN_DONE (R159). -/
  | marginDone (t : Fin 9) (n : Fin 18) (errors : Nat)
  /-- PCIE_MARGIN_COMMAND (R159). -/
  | pcieMarginCommand (t : Fin 9) (x : MarginWord)
  /-- FLIT_RECEIVE (R171). -/
  | flitReceive (p : Fin 72) (f : RawFlit)
  /-- FLIT_SEND (R162). -/
  | flitSend (p : Fin 72)
  /-- ACK_TIMER_EXPIRY (R176). -/
  | ackTimerExpiry (p : Fin 72)
  /-- CREDIT_RETURN_TIMEOUT (R183). -/
  | creditReturnTimeout (p : Fin 72)
  /-- AUDIT (R185). -/
  | audit (p : Fin 72) (a : AuditSample)
  /-- CONTAIN (R407). -/
  | contain (p : Fin 72) (m : Margin)
  /-- SWAP_PROPOSE (R196). -/
  | swapPropose (p : Fin 72) (x spare handle : Nat)
  /-- SWAP_REPLY (R196). -/
  | swapReply (p : Fin 72) (x handle : Nat) (refused : Bool)
  /-- SWAP_MATCHED (R196). -/
  | swapMatched (p : Fin 72) (x handle : Nat)
  /-- SWAP_SELECTED (R196). -/
  | swapSelected (p : Fin 72) (x spare handle : Nat)
  /-- INIT (R192). -/
  | linkInit (p : Fin 72) (sw port width rate rcvd : Nat)
  /-- INIT_GRANT (R192). -/
  | initGrant (p : Fin 72) (half : Fin 2) (grants : List Nat)
  /-- WIDTH_REQ (R195). -/
  | widthReq (p : Fin 72) (width rate handle : Nat)
  /-- WIDTH_ACK (R195). -/
  | widthAck (p : Fin 72) (handle : Nat) (refused : Bool)
  /-- MARGIN_REPEAT (R190). -/
  | marginRepeat (p : Fin 72)
  /-- EXCHANGE_TIMEOUT (R196). -/
  | exchangeTimeout (p : Fin 72)
  /-- INIT_TIMEOUT (R192). -/
  | initTimeout (p : Fin 72)
  /-- PEER_TIMEOUT (R197). -/
  | peerTimeout (p : Fin 72)
  /-- ADMIN_DOWN (R199). -/
  | adminDown (p : CmdPort) (x : Fin 72) (b : Bool)
  /-- HOLD_DOWN (R199). -/
  | holdDown (p : CmdPort) (x : Fin 72) (b : Bool)
  /-- TRAINING_RETRY (R199). -/
  | trainingRetry (p : Fin 72)
  /-- TLP_RECEIVE (R209). -/
  | tlpReceive (p : Fin 72) (t : Tlp)
  /-- TLP_TRANSMIT (R267). -/
  | tlpTransmit (x : SendSlot)
  /-- CONFIG_REQUEST (R209). -/
  | configRequest (q : Fin 24) (t : Tlp)
  /-- FUNCTION_LEVEL_RESET (R373). -/
  | functionLevelReset (x : FlrTarget)
  /-- VF_ENABLE (R356). -/
  | vfEnable (q : Fin 24) (num : Fin 65536) (en : Bool)
  /-- HOT_RESET (R210). -/
  | hotReset (p : Fin 72)
  /-- DL_DOWN (R232). -/
  | dlDown (p : Fin 72)
  /-- DL_ACTIVE (R519). -/
  | dlActive (p : Fin 72) (rate width retimers : Nat) (flit scaled : Bool)
  /-- BME_DRAIN_CLEAR (R230). -/
  | bmeDrainClear
  /-- DPC_SW_TRIGGER (R227). -/
  | dpcSwTrigger (p : CmdPort) (x : Fin 72)
  /-- DPC_RELEASE (R228). -/
  | dpcRelease (p : CmdPort) (x : Fin 72)
  /-- PRESENCE_LOST (R231). -/
  | presenceLost (p : Fin 72)
  /-- SHARE_ASSIGN_COMMIT (R245). -/
  | shareAssignCommit (p : CmdPort) (x : Fin 72)
  /-- SHARE_WINDOWS_COMMIT (R245). -/
  | shareWindowsCommit (p : CmdPort) (x : Fin 72)
  /-- PCFG_ACCESS (R238). -/
  | pcfgAccess (p : CmdPort) (x : Fin 72) (v : Word)
  /-- PCFG_COMPLETE (R238). -/
  | pcfgComplete (p : Fin 72) (status : Fin 8) (data : Word)
  /-- PCFG_TIMEOUT (R238). -/
  | pcfgTimeout (p : Fin 72)
  /-- PCIE_ADMIN_DOWN (R243). -/
  | pcieAdminDown (p : CmdPort) (x : Fin 72) (b : Bool)
  /-- PCIE_HOLD_DOWN (R243). -/
  | pcieHoldDown (p : CmdPort) (x : Fin 72) (b : Bool)
  /-- AER_HDR_ADVANCE (R243). -/
  | aerHdrAdvance (p : CmdPort) (x : Fin 72)
  /-- MSIX_PENDING_SEND (R219). -/
  | msixPendingSend (q : Fin 24) (vec : Fin 32)
  /-- PTM_REQUEST (R217). -/
  | ptmRequest (p : Fin 72) (t : Tlp)
  /-- ERROR_MESSAGE (R225). -/
  | errorMessage (p : Fin 72) (t : Tlp)
  /-- RECEIVER_DETECTION (R231). -/
  | receiverDetection (p : Fin 72)
  /-- CELL_TIME (R254). -/
  | cellTime
  /-- CELL_ARRIVAL (R257). -/
  | cellArrival (key seq : Nat) (good : Bool)
  /-- CELL_CONFIRM (R257). -/
  | cellConfirm (key seq : Nat)
  /-- CONFIRM_TIMEOUT (R257). -/
  | confirmTimeout (key seq : Nat)
  /-- PLANE_REMOVED (R258). -/
  | planeRemoved (k : Fin 9)
  /-- AGEING_SCAN (R264). -/
  | ageingScan (t : Fin 9)
  /-- FABRIC_PACKET_RECEIVE (R309). -/
  | fabricPacketReceive (p : Fin 72) (f : FPkt)
  /-- FLOW_HOLD_EXPIRY (R293). -/
  | flowHoldExpiry (sw : Fin 4096) (tc : Fin 8) (cls : Fin 3)
  /-- RETURN_HOLD_END (R298). -/
  | returnHoldEnd (p : Fin 72)
  /-- WINDOWS_COMMIT (R305). -/
  | windowsCommit (p : CmdPort)
  /-- GAZETTEER_COMMIT (R305). -/
  | gazetteerCommit (p : CmdPort)
  /-- BEARING_COMMIT (R305). -/
  | bearingCommit (p : CmdPort)
  /-- ROUTING_ID_COMMIT (R305). -/
  | routingIdCommit (p : CmdPort)
  /-- FABRIC_COMPLETION (R308). -/
  | fabricCompletion (f : FPkt)
  /-- BRIDGE_SLOT_TIMEOUT (R310). -/
  | bridgeSlotTimeout (t : Fin 9) (k : Fin 16384)
  /-- BRIDGE_SLOT_REUSE (R310). -/
  | bridgeSlotReuse (t : Fin 9) (k : Fin 16384)
  /-- RB_READ (R315). -/
  | rbRead (p : CmdPort) (wide : Bool)
  /-- RB_WRITE (R315). -/
  | rbWrite (p : CmdPort) (wide : Bool)
  /-- REG_REQUEST (R316). -/
  | regRequest (f : FPkt)
  /-- REG_RESPONSE (R317). -/
  | regResponse (f : FPkt)
  /-- RB_TIMEOUT (R317). -/
  | rbTimeout (p : CmdPort)
  /-- TALLY_CONTRIBUTION (R331). -/
  | tallyContribution (n : Fin 4097) (slot : Fin 16) (off : Nat) (bytes : List Byte) (be poisoned : Bool)
  /-- PARTIAL (R338). -/
  | tallyPartial (f : FPkt)
  /-- DONE (R338). -/
  | tallyDone (f : FPkt)
  /-- RESULT (R340). -/
  | tallyResult (f : FPkt)
  /-- ABORT (R343). -/
  | tallyAbort (f : FPkt)
  /-- ROUND_PACKED (R337). -/
  | roundPacked (c : Fin 4096)
  /-- ROUND_DELIVERED (R340). -/
  | roundDelivered (c : Fin 4096)
  /-- ROUND_TIMEOUT (R345). -/
  | roundTimeout (c : Fin 4096)
  /-- RESULT_TIMEOUT (R345). -/
  | resultTimeout (c : Fin 4096)
  /-- TALLY_COMMIT (R347). -/
  | tallyCommit (p : CmdPort) (c : Fin 4096)
  /-- LEDGER_CLEAR_DONE (R347). -/
  | ledgerClearDone (c : Fin 4096)
  /-- QUEUE_ENABLE (R359). -/
  | queueEnable (n : Fin 4097) (k : Fin 2048)
  /-- QUEUE_DISABLE (R360). -/
  | queueDisable (n : Fin 4097) (k : Fin 2048)
  /-- QUEUE_RESUME (R360). -/
  | queueResume (n : Fin 4097) (k : Fin 2048)
  /-- SQ_TAIL (R360). -/
  | sqTail (n : Fin 4097) (k : Fin 2048) (v : Word)
  /-- CQ_HEAD (R360). -/
  | cqHead (n : Fin 4097) (k : Fin 2048) (v : Word)
  /-- QUEUE_BIND (R363). -/
  | queueBind
  /-- ENGINE_SEGMENT (R363). -/
  | engineSegment (e : Fin 8)
  /-- ENGINE_READ_COMPLETION (R365). -/
  | engineReadCompletion (slot : Fin 8192) (gen : Nat) (bytes : List Byte) (status : Fin 8) (poisoned : Bool)
  /-- ENGINE_READ_TIMEOUT (R365). -/
  | engineReadTimeout (slot : Fin 8192)
  /-- VECTOR_PENDING_SEND (R371). -/
  | vectorPendingSend (n : Fin 4097) (vec : Fin 2048)
  /-- BOUNDARY_COMMIT (R387). -/
  | boundaryCommit (p : CmdPort) (table : Fin 256)
  /-- FAULT_DETECT (R399). -/
  | faultDetect (f : FaultIn)
  /-- CONTAIN_TRIGGER (R423). -/
  | containTrigger (p : CmdPort) (kind : Fin 16) (id : Fin 65536)
  /-- TRIGGER_DELIVERY (R405). -/
  | triggerDelivery (stop : Fin 10)
  /-- CONTAIN_RESTORE (R414). -/
  | containRestore (p : CmdPort) (k : Fin 64)
  /-- TRANSIT_SCAN (R409). -/
  | transitScan
  /-- QUARANTINE_END (R411). -/
  | quarantineEnd (idx : Fin 65536)
  /-- SPARE_WINDOW_END (R417). -/
  | spareWindowEnd (kind : Fin 5)
  /-- PATROL_SCRUB (R420). -/
  | patrolScrub (m : Nat) (row : Fin 512) (bad : Bool)
  /-- DATAPATH_PLL_LOSS (R466). -/
  | datapathPllLoss (ref : Bool)
  /-- REG_ACCESS_TIMEOUT (R466). -/
  | regAccessTimeout (p : CmdPort) (a : Word) (write : Bool)
  /-- WATCHDOG_EXPIRY (R469). -/
  | watchdogExpiry (c : Fin 5)
  /-- READY_TIMEOUT (R469). -/
  | readyTimeout (c : Fin 5)
  /-- CORE_EXCEPTION (R469). -/
  | coreException (c : Fin 5) (memory : Bool)
  /-- TAKEOVER_IMAGE_LOADED (R470). -/
  | takeoverImageLoaded
  /-- CORE_KICK (R468). -/
  | coreKick (c : Fin 5) (v : Word)
  /-- CORE_EVENT (R478). -/
  | coreEvent (c : Fin 5) (n : Fin 32)
  /-- CORE_LOG (R478). -/
  | coreLog (c : Fin 5) (v : Word)
  /-- CAIRN_STORE (R431). -/
  | cairnStore
  /-- CAIRN_CLEAR (R435). -/
  | cairnClear (p : CmdPort) (v : Word)
  /-- CLEAR_DONE (R436). -/
  | clearDone
  /-- SLOT_LATCH (R433). -/
  | slotLatch (p : CmdPort) (idx : Fin 16384)
  /-- BB_RECORD_LATCH (R439). -/
  | bbRecordLatch (p : CmdPort)
  /-- BB_CURSOR_ADVANCE (R439). -/
  | bbCursorAdvance (p : CmdPort)
  /-- FAULT_LOG_ADVANCE (R423). -/
  | faultLogAdvance (p : CmdPort) (cor : Bool)
  /-- BB_FREEZE (R438). -/
  | bbFreeze (p : CmdPort)
  /-- BB_UNFREEZE (R438). -/
  | bbUnfreeze (p : CmdPort)
  /-- EVENT_STATUS_CLEAR (R442). -/
  | eventStatusClear (p : CmdPort) (w : Fin 32) (v : Word)
  /-- EVT_PULSE_END (R445). -/
  | evtPulseEnd (n : Fin 4)
  /-- CNT_COMMIT (R450). -/
  | cntCommit (p : CmdPort) (k : Fin 1200)
  /-- CNT_COMMIT_ALL (R450). -/
  | cntCommitAll (p : CmdPort)
  /-- CNT_HOLD (R453). -/
  | cntHold (p : CmdPort)
  /-- CNT_RELEASE (R453). -/
  | cntRelease (p : CmdPort)
  /-- SNAP_HOLD_EXPIRED (R453). -/
  | snapHoldExpired (p : CmdPort)
  /-- COUNTER_WRAP (R451). -/
  | counterWrap (k : Nat)
  /-- SET_OFFSET (R460). -/
  | sbSetOffset (pecOk : Bool) (a : Nat)
  /-- READ (R460). -/
  | sbRead (pecOk : Bool)
  /-- WRITE (R460). -/
  | sbWrite (pecOk : Bool) (v : Nat)
  /-- WRITE_BLOCK (R460). -/
  | sbWriteBlock (pecOk : Bool) (bs : List Byte)
  /-- GET_STATUS (R460). -/
  | sbGetStatus (pecOk : Bool)
  /-- SETDASA (R460). -/
  | setdasa (a : Fin 128)
  /-- ENTDAA (R460). -/
  | entdaa (a : Fin 128)
  /-- RSTDAA (R460). -/
  | rstdaa
  /-- RING_READ_32 (R463). -/
  | ringRead32 (pair : Fin 2) (c : RingCmd)
  /-- RING_WRITE_32 (R463). -/
  | ringWrite32 (pair : Fin 2) (c : RingCmd)
  /-- RING_READ_64 (R485). -/
  | ringRead64 (pair : Fin 2) (c : RingCmd)
  /-- RING_WRITE_64 (R485). -/
  | ringWrite64 (pair : Fin 2) (c : RingCmd)
  /-- RING_WRITE_BLOCK (R463). -/
  | ringWriteBlock (pair : Fin 2) (c : RingCmd)
  /-- RESPONSE (R464). -/
  | ringResponse (pair : Fin 2) (r : RingCmd) (code : Fin 256)
  /-- ALARM (R463). -/
  | ringAlarm (pair : Fin 2) (crcOk : Bool) (sw source hops : Nat)
  /-- POLL (R474). -/
  | sightPoll (r : SightReq)
  /-- IDCODE (R474). -/
  | sightIdcode (r : SightReq)
  /-- CORE_STATUS (R474). -/
  | sightCoreStatus (r : SightReq)
  /-- HALT (R476). -/
  | sightHalt (r : SightReq)
  /-- RESUME (R476). -/
  | sightResume (r : SightReq)
  /-- STEP (R474). -/
  | sightStep (r : SightReq)
  /-- REG_READ (R474). -/
  | sightRegRead (r : SightReq)
  /-- REG_WRITE (R474). -/
  | sightRegWrite (r : SightReq)
  /-- TCM_READ (R474). -/
  | sightTcmRead (r : SightReq)
  /-- TCM_WRITE (R474). -/
  | sightTcmWrite (r : SightReq)
  /-- BREAK (R474). -/
  | sightBreak (r : SightReq)
  /-- WATCH (R474). -/
  | sightWatch (r : SightReq)
  /-- BAR_READ (R474). -/
  | sightBarRead (r : SightReq)
  /-- BAR_WRITE (R474). -/
  | sightBarWrite (r : SightReq)
  /-- MEM_READ (R474). -/
  | sightMemRead (r : SightReq)
  /-- MEM_WRITE (R474). -/
  | sightMemWrite (r : SightReq)
  /-- BREAKPOINT_HIT (R476). -/
  | breakpointHit (c : Fin 5) (watch : Bool) (idx : Fin 8)
  /-- BYPASS (R512). -/
  | tapBypass
  /-- SAMPLE_PRELOAD (R512). -/
  | tapSamplePreload (cells : Nat)
  /-- EXTEST (R512). -/
  | tapExtest
  /-- EXTEST_PULSE (R512). -/
  | tapExtestPulse
  /-- EXTEST_TRAIN (R512). -/
  | tapExtestTrain
  /-- HIGHZ (R512). -/
  | tapHighz
deriving DecidableEq, Repr

end Sys2Proof
end

