-- ==== Sys2Proof/Decode.lean ====
section
/-! DEFINITION. Words and commands. The command table gives no row any bits, so that no word spells a command: commands
come to the block as operations of its ports, links and pins. -/

namespace Sys2Proof

/-- The command that a word spells by the table's bits: none, for the table gives no row any. -/
def decodeTableWord (_nbits _w : Nat) : Option Instr := none

end Sys2Proof
end

