-- ==== Sys2Proof/Config.lean ====
section
/-! DEFINITION. Values that the spec leaves open and the machine goes on with: constants without a body, so that no
proof can see what they are. Each is applied to the model's own counter `Dev.freeCtr`, which steps with every use, or
to the operands it depends on. -/

namespace Sys2Proof

/-- Open values: the n-th value drawn (notes/assumptions/2.md). Each use takes as many low bits as it needs. -/
opaque Config.free : Nat → Nat

/-- OWNER of SRAM macro `m` (Table 13.10), which the spec does not assign (notes/assumptions/2.md). -/
opaque Config.sramOwner : Nat → Nat

/-- PORT_TAG of an initiating port that Table 9.8A does not list, by port key (notes/assumptions/46.md). -/
opaque Config.rbTag : Nat → Nat

/-- What the scrambler and the pattern generator of a lane start from, by lane number (R130, R158;
notes/assumptions/67.md). -/
opaque Config.laneSeed : Nat → Nat

/-- What the scrambler of an SRO pair holds as a frame begins, by pair and by what has left before (R130, R461;
notes/assumptions/75.md). -/
opaque Config.sroSeed : Nat → Nat

end Sys2Proof
end

