-- ==== Sys2Proof/Machine/Bits.lean ====
section
/-! DEFINITION. Bit fields, little-endian byte order (R7) and the checksums the spec names: CRC-32C (R42) and the
64-bit flit and cell checksum (R168). -/

namespace Sys2Proof.Machine

/-- Field of `w` bits of `v` whose lowest bit is `lo`. -/
def fld (v lo w : Nat) : Nat := v / 2 ^ lo % 2 ^ w

/-- Bit `i` of `v`. -/
def bitAt (v i : Nat) : Bool := v / 2 ^ i % 2 == 1

/-- A flag as a number. -/
def b2n (b : Bool) : Nat := if b then 1 else 0

/-- A word put together from (lowest bit, value) fields. -/
def pack (fs : List (Nat × Nat)) : Nat := fs.foldl (fun a f => a + f.2 * 2 ^ f.1) 0

/-- `v` with bit `i` set. -/
def setBit (v i : Nat) : Nat := if bitAt v i then v else v + 2 ^ i

/-- `v` with bit `i` cleared. -/
def clrBit (v i : Nat) : Nat := if bitAt v i then v - 2 ^ i else v

/-- `v` with the bits that are 1 in `m` cleared (RW1C, Table 0.3). -/
def rw1c (v m : Nat) : Nat := v - Nat.land v m

/-- How many bits of the low `n` bits of `v` are 1. -/
def popCount (n v : Nat) : Nat := (List.range n).foldl (fun a i => a + b2n (bitAt v i)) 0

/-- Saturating sum in `w` bits. -/
def satAdd (w a b : Nat) : Nat := min (2 ^ w - 1) (a + b)

/-- `n` bytes of `v`, least significant first (R7). -/
def toLe (n v : Nat) : List Nat :=
  match n with
  | 0 => []
  | n + 1 => v % 256 :: toLe n (v / 256)

/-- The number that bytes spell, least significant first (R7). -/
def ofLe (bs : List Nat) : Nat := bs.foldr (fun b a => b % 256 + 256 * a) 0

/-- `n` bytes of `bs` from offset `o`; bytes past the end read zero. -/
def slice (bs : List Nat) (o n : Nat) : List Nat := (List.range n).map (fun i => bs.getD (o + i) 0)

/-- The little-endian value of `n` bytes of `bs` from offset `o`. -/
def leAt (bs : List Nat) (o n : Nat) : Nat := ofLe (slice bs o n)

/-- `f` applied `n` times. -/
def iter {α : Type} (n : Nat) (f : α → α) (a : α) : α :=
  match n with
  | 0 => a
  | n + 1 => iter n f (f a)

/-- One bit of a reflected 32-bit CRC with polynomial 0x1EDC6F41. -/
def crc32cBit (c : Nat) : Nat := if c % 2 = 1 then Nat.xor (c / 2) 0x82F63B78 else c / 2

/-- One byte of CRC-32C. -/
def crc32cByte (c b : Nat) : Nat :=
  crc32cBit (crc32cBit (crc32cBit (crc32cBit (crc32cBit (crc32cBit (crc32cBit (crc32cBit (Nat.xor c (b % 256)))))))))

/-- CRC-32C of bytes (R42). -/
def crc32c (bs : List Nat) : Nat := Nat.xor (bs.foldl crc32cByte 0xFFFFFFFF) 0xFFFFFFFF

end Sys2Proof.Machine
end

