-- ==== Sys2Proof/Machine/Tab.lean ====
section
/-! DEFINITION. Sparse arrays: every array of registers, table of entries and memory of the device is a list of
(index, value) pairs in one canonical form: indices strictly rising, and no entry equal to what an unlisted index
reads as. Equal arrays are then equal data. -/

namespace Sys2Proof.Machine

/-- A sparse array of `α`. -/
abbrev Tab (α : Type) := List (Nat × α)

/-- What index `i` holds, `d` where nothing is listed. -/
def Tab.rdD {α : Type} (t : Tab α) (i : Nat) (d : α) : α :=
  match t with
  | [] => d
  | (k, v) :: r => if k = i then v else Tab.rdD r i d

/-- List `v` at index `i`, in rising order. -/
def Tab.ins {α : Type} (t : Tab α) (i : Nat) (v : α) : Tab α :=
  match t with
  | [] => [(i, v)]
  | (k, w) :: r => if k < i then (k, w) :: Tab.ins r i v else if k = i then (i, v) :: r else (i, v) :: (k, w) :: r

/-- Unlist index `i`. -/
def Tab.del {α : Type} (t : Tab α) (i : Nat) : Tab α :=
  match t with
  | [] => []
  | (k, w) :: r => if k = i then Tab.del r i else (k, w) :: Tab.del r i

/-- Write `v` at index `i` of an array whose unlisted entries read as `d`. -/
def Tab.wrD {α : Type} [DecidableEq α] (t : Tab α) (i : Nat) (v d : α) : Tab α :=
  if v = d then t.del i else t.ins i v

/-- What index `i` holds, the type's default where nothing is listed. -/
def Tab.rd {α : Type} [Inhabited α] (t : Tab α) (i : Nat) : α := t.rdD i default

/-- Write `v` at index `i` of an array whose unlisted entries read as the type's default. -/
def Tab.wr {α : Type} [Inhabited α] [DecidableEq α] (t : Tab α) (i : Nat) (v : α) : Tab α := t.wrD i v default

/-- Change what index `i` holds. -/
def Tab.upd {α : Type} [Inhabited α] [DecidableEq α] (t : Tab α) (i : Nat) (f : α → α) : Tab α := t.wr i (f (t.rd i))

/-- Change every listed entry; an entry that becomes the default is unlisted. -/
def Tab.mapAll {α : Type} [Inhabited α] [DecidableEq α] (t : Tab α) (f : Nat → α → α) : Tab α :=
  match t with
  | [] => []
  | (k, v) :: r => if f k v = default then Tab.mapAll r f else (k, f k v) :: Tab.mapAll r f

/-- Indices strictly rising from `lo`, and no default listed. -/
def Tab.wfFrom {α : Type} [DecidableEq α] (d : α) (lo : Nat) (t : Tab α) : Bool :=
  match t with
  | [] => true
  | (k, v) :: r => decide (lo ≤ k) && decide (v ≠ d) && Tab.wfFrom d (k + 1) r

/-- The canonical form of an array whose unlisted entries read as the type's default. -/
def Tab.wf {α : Type} [Inhabited α] [DecidableEq α] (t : Tab α) : Bool := t.wfFrom default 0

end Sys2Proof.Machine
end

