-- ==== Sys2Proof/Machine/CairnData.lean ====
section
/-! DEFINITION. The state of the Cairn log, the Black Box, the event sources and the performance counters (chapter
Cairn Log, Events and Counters, R425 to R455). -/

namespace Sys2Proof.Machine

/-- One Cairn record without its RECORD_CRC, which is a function of the rest (R425, Table 14.1). SEQ 0 is an empty
slot. `detail` holds the words of DETAIL from 0x20, missing words are zero (R426). -/
structure CairnRec where
  seq : Nat := 0
  tick : Nat := 0
  offset : Nat := 0
  code : Nat := 0
  severity : Nat := 0
  writer : Nat := 0
  partition : Nat := 0
  cmdPort : Nat := 0
  inst : Nat := 0
  detail : List Nat := []
deriving DecidableEq, Repr, Inhabited

/-- The log: writer queue, slots, ring counts, clear machine and Black Box (R428 to R439, Table 14.7). -/
structure CairnSt where
  /-- CAIRN_CTRL.MIN_SEVERITY (R430). -/
  minSeverity : Nat := 1
  /-- CAIRN_LAST_SEQ (R425). -/
  lastSeq : Nat := 0
  /-- The writer queue, oldest first (R431); a queued record has no SEQ yet. -/
  queue : List CairnRec := []
  /-- The FLOOD record's own entry (R432). -/
  flood : Option CairnRec := none
  /-- The 65,536 slots (R428). -/
  slots : Tab CairnRec := []
  /-- n of the LOW ring: records since its last clear (R429). -/
  nLow : Nat := 0
  /-- n of the MID ring. -/
  nMid : Nat := 0
  /-- Records in the HIGH ring since its last clear: the first 4,096 are the kept part. -/
  nHigh : Nat := 0
  /-- CAIRN_FILTERED, 32 bits, saturating. -/
  filtered : Nat := 0
  /-- CAIRN_DROPPED[s], 32 bits, saturating. -/
  dropped : Tab Nat := []
  /-- Drops of each severity since the previous boundary (R432). -/
  droppedNow : Tab Nat := []
  /-- CAIRN_CLEAR_STATUS.BUSY (R435). -/
  clearBusy : Bool := false
  /-- CAIRN_CLEAR_STATUS code. -/
  clearCode : Nat := 0
  /-- SCOPE of the clear in progress. -/
  clearScope : Nat := 0
  /-- CLEAR_SEQ (R435). -/
  clearSeq : Nat := 0
  /-- CMD_PORT of the clearing port (R436). -/
  clearPort : Nat := 0
  /-- Records the clear removed (R436). -/
  clearCount : Nat := 0
  /-- The 4,096 Black Box slots (R437). -/
  bb : Tab CairnRec := []
  /-- Records copied into the Black Box since its last clear. -/
  nBb : Nat := 0
  /-- BB_STATUS.FROZEN (R438). -/
  bbFrozen : Bool := false
  /-- Frozen by the isolation of a DEVICE domain, which only M0 ends (R438). -/
  bbDevice : Bool := false
  /-- BB_MISSED, 32 bits, saturating. -/
  bbMissed : Nat := 0
deriving DecidableEq, Repr, Inhabited

/-- EVENT_ROUTE[s] (Table 14.8). -/
structure EventRoute where
  vecEn : Bool := false
  alarm : Bool := false
  /-- Bit n drives EVT_N[n]. -/
  evtMask : Nat := 0
  vector : Nat := 0
deriving DecidableEq, Repr, Inhabited

/-- The event sources and their signalling (R440 to R446). -/
structure EventSt where
  /-- EVENT_STATUS: bit s is source s (R442). -/
  status : BitVec 1024 := 0
  /-- EVENT_ROUTE[s] (R443). -/
  route : Tab EventRoute := []
  /-- EVT_CTRL.PULSE (R445). -/
  pulse : Nat := 0
  /-- Bit n: the 1 us low pulse of EVT_N[n] is running (R445). -/
  pulseLow : Nat := 0
  /-- Vectors that have sent their message in the current tick, keyed 32q + vector (R444). -/
  vecSent : Tab Bool := []
  /-- Vectors whose message is held for the next boundary (R444). -/
  vecHeld : Tab Bool := []
  /-- Sources that have sent an alarm in the current tick (R446). -/
  alarmSent : Tab Bool := []
deriving DecidableEq, Repr, Inhabited

/-- One performance counter with its selection and snapshots (R447 to R452). SEL words are laid out as Table 14.10. -/
structure Cnt where
  /-- SEL in force. -/
  sel : Nat := 0
  /-- QUAL in force. -/
  qual : Nat := 0
  /-- Shadow copy of SEL (R450). -/
  selSh : Nat := 0
  /-- Shadow copy of QUAL. -/
  qualSh : Nat := 0
  /-- The pending pair (R241). -/
  pend : Option (Nat × Nat) := none
  /-- The pending pair was accepted in the tick MCLK cycle of the coming boundary (R32). -/
  late : Bool := false
  /-- The last accepted pair, to tell a changed shadow copy (R450). -/
  selAcc : Nat := 0
  /-- QUAL of the last accepted pair. -/
  qualAcc : Nat := 0
  /-- Port key of the port that last wrote the group (R240). -/
  lastPort : Option Nat := none
  /-- The 48-bit count. -/
  value : Nat := 0
  /-- OVF (R451). -/
  ovf : Bool := false
  /-- The last clock cycle, plus one, in which v was above 0: edge mode counts episodes (R448). -/
  lastCycle : Nat := 0
  /-- SNAP_A: [48] OVF, [47:0] value (R452). -/
  snapA : Nat := 0
  /-- SNAP_B. -/
  snapB : Nat := 0
deriving DecidableEq, Repr, Inhabited

/-- The counter block (Table 14.9). -/
structure CounterSt where
  tab : Tab Cnt := []
  /-- SNAP_TICK of banks A and B. -/
  snapTickA : Nat := 0
  snapTickB : Nat := 0
  /-- LAST_BANK: the bank written last; false is A. -/
  lastBank : Bool := false
  /-- Whether any bank has been written. -/
  banked : Bool := false
  /-- HOLD_BANK. -/
  holdBank : Bool := false
  /-- Holders (port key) and the time each hold was set (R453). -/
  holders : List (Nat × Nat) := []
  /-- CNT_COMMIT_STATUS.PENDING. -/
  commitPending : Bool := false
  /-- CNT_COMMIT_STATUS.DETAIL. -/
  commitDetail : Nat := 0
  /-- CNT_COMMIT_STATUS code. -/
  commitCode : Nat := 0
  /-- COUNTER_OVF has fired in the current tick (R451). -/
  ovfFired : Bool := false
deriving DecidableEq, Repr, Inhabited

end Sys2Proof.Machine
end

