-- ==== Sys2Proof/Machine/ContData.lean ====
section
/-! DEFINITION. The state of device faults, containment domains and spares (chapter Containment, Timeouts and Spares,
R399 to R424). -/

namespace Sys2Proof.Machine

/-- A fault record (Table 13.9). `kind` 0xF is no domain. -/
structure FaultRec where
  bit : Nat := 0
  cls : Nat := 0
  entryFull : Bool := false
  kind : Nat := 0xF
  id : Nat := 0
  tick : Nat := 0
  offset : Nat := 0
  source : Nat := 0
  detail : Nat := 0
  repeats : Nat := 0
deriving DecidableEq, Repr, Inhabited

/-- A containment trigger waiting at a margin-ring stop (R405). -/
structure Trigger where
  bit : Nat := 0
  kind : Nat := 0
  id : Nat := 0
  source : Nat := 0
  detail : Nat := 0
deriving DecidableEq, Repr, Inhabited

/-- CONTAIN_DOMAIN[k] (Table 13.11). -/
structure Domain where
  valid : Bool := false
  restoring : Bool := false
  kind : Nat := 0
  id : Nat := 0
  cause : Nat := 0
  tick : Nat := 0
  /-- Port concerned, for the FAULT_PRESENT check of PCIE_FATAL (R414). -/
  source : Nat := 0
deriving DecidableEq, Repr, Inhabited

/-- One SRAM macro (Table 13.10). -/
structure Macro where
  /-- Spare rows that swaps have taken. -/
  used : Nat := 0
  corrected : Nat := 0
  uncorrectable : Nat := 0
  /-- Rows replaced by a spare row. -/
  swapped : Tab Bool := []
deriving DecidableEq, Repr, Inhabited

/-- A key of the CONTAIN messages seen in the last 64 us (R407). -/
structure SeenKey where
  origin : Nat := 0
  tag : Nat := 0
  kind : Nat := 0
  id : Nat := 0
  time : Nat := 0
deriving DecidableEq, Repr, Inhabited

/-- Device faults, domains and spares (Table 13.8). -/
structure ContSt where
  corStatus : Nat := 0
  corMask : Nat := 0
  uncStatus : Nat := 0
  uncMask : Nat := 0
  /-- The RW severity bits (R400). -/
  uncSev : Nat := 0
  uncLog : List FaultRec := []
  corLog : List FaultRec := []
  uncOverflow : Bool := false
  corOverflow : Bool := false
  /-- Triggers waiting at each margin-ring stop, oldest first: stop t of tile t, stop 9 of the cluster (R405). -/
  stop : Tab (List Trigger) := []
  domain : Tab Domain := []
  /-- Isolated domains without an entry: kind and ID (R415). -/
  extra : List (Nat × Nat) := []
  /-- Isolations whose classification waits for the next boundary (Table 13.5). -/
  classify : List (Trigger × Bool) := []
  restorePending : Bool := false
  restoreCode : Nat := 0
  fenceDiscard : Nat := 0
  notForwarded : Nat := 0
  /-- CONTAINED_SWITCH: bit O is switch O (R408). -/
  contained : BitVec 4096 := 0
  seen : List SeenKey := []
  /-- The next TAG this Haldion issues (R407). -/
  nextTag : Nat := 0
  macros : Tab Macro := []
  /-- Counts of the current block per auto-spare kind and element, keyed 2^20 x kind + element (R417). -/
  count : Tab Nat := []
  /-- SPARE_EXHAUSTED was recorded for the element, keyed as `count` (R416). -/
  exhausted : Tab Bool := []
deriving DecidableEq, Repr, Inhabited

end Sys2Proof.Machine
end

