-- ==== Sys2Proof/Machine/CoreData.lean ====
section
/-! DEFINITION. The state of the management cores, the command ports, the sideband, the Sighting port, the test access
port and the package switches (chapters Management Cores, Command Ports and the Sighting Port, Register Map, and
Package, Power and Electrical Data). -/

namespace Sys2Proof.Machine

/-- CORE[c].STATUS.STATE (Table 15.12). -/
inductive CoreState where
  | reset | running | halted | failed | standby
deriving DecidableEq, Repr, Inhabited

/-- A breakpoint or watchpoint (Table 15.9). -/
structure DebugPoint where
  enable : Bool := false
  addr : Nat := 0
  mask : Nat := 0
  read : Bool := false
  write : Bool := false
deriving DecidableEq, Repr, Inhabited

/-- One management core (R467 to R476, Tables 15.11 and 15.12). -/
structure Core where
  state : CoreState := .reset
  /-- The role it runs; none reads 0xF. -/
  role : Option Nat := none
  haltReason : Nat := 0
  hitIndex : Nat := 0
  failCause : Nat := 0
  /-- CORE[c].WATCHDOG. -/
  watchdog : Nat := 4096
  /-- Boundaries since the last KICK. -/
  wdCount : Nat := 0
  /-- READY has been written since the start. -/
  ready : Bool := false
  /-- CORE[c].LOG words. -/
  log : Tab Nat := []
  bp : Tab DebugPoint := []
  wp : Tab DebugPoint := []
  /-- The 512 KiB memory, by byte, as the loader, a takeover or the Sighting port last wrote it. -/
  mem : Tab Nat := []
  /-- The 34 registers of REG_READ: 0 to 31 general, 32 program counter, 33 status. -/
  reg : Tab Nat := []
  /-- The firmware has run: what it did not write is open (notes/assumptions/40.md). -/
  ran : Bool := false
  /-- Bytes of `mem`, and registers from 2^20 on, written through the Sighting port since the core last ran. -/
  poked : Tab Bool := []
  /-- The state a halt interrupted was STANDBY. -/
  wasStandby : Bool := false
deriving DecidableEq, Repr, Inhabited

/-- The management cluster (R467 to R471). -/
structure CoreSt where
  core : Tab Core := []
  /-- CORE_ROLE_MAP: core that runs role r, plus 1; 0 none (reads 0xF). -/
  roleMap : Tab Nat := []
  /-- TAKEOVER_STATUS: ACTIVE, role, job slot key plus 1. -/
  takeover : Bool := false
  takeRole : Nat := 0
  takeJob : Nat := 0
  /-- The image of the role has been loaded and READY is awaited. -/
  takeLoaded : Bool := false
  /-- Roles whose core failed while the SPC was halted (R471). -/
  waiting : List Nat := []
  /-- The checkpoint areas, 64 KiB per role, by byte, keyed 65,536r + offset (R468). -/
  checkpoint : Tab Nat := []
deriving DecidableEq, Repr, Inhabited

/-- The state kept per command port (Table 16.6). -/
structure PortSt where
  /-- High halves latched by low-half reads, by address (R9). -/
  latch : Tab Nat := []
  /-- Staged low halves, by address (R10). -/
  staged : Tab (Option Nat) := []
  jobOp : Nat := 0
  jobArg : Tab Nat := []
  jobIssued : Nat := 0
  rbSwitch : Nat := 0
  rbOffset : Nat := 0
  rbWdata : Nat := 0
  rbRdata : Nat := 0
  rbBusy : Bool := false
  rbDone : Bool := false
  rbCode : Nat := 0
  /-- RB_SEQ (Table 9.8A). -/
  rbSeq : Nat := 0
  /-- PORT_TAG and far switch of the request in flight. -/
  rbTag : Nat := 0
  rbDest : Nat := 0
  cairnPage : Nat := 0
  /-- Slot number and record latched by a read of word 0 (R433); the record as its 16 words. -/
  slotLatch : Option (Nat × List Nat) := none
  bbCursor : Nat := 0
  bbLatch : Option (List Nat) := none
  /-- CNT_HOLD. -/
  cntHold : Bool := false
  /-- Sideband offset (R460). -/
  offset : Nat := 0
  /-- Level at which a far initiator's access is served (R316). -/
  farLevel : Nat := 0
deriving DecidableEq, Repr, Inhabited

/-- The Sighting port (R472 to R475). -/
structure SightSt where
  /-- A memory read waits for its completion; its data stands in the debug master's read slot. -/
  pending : Bool := false
  lastCmd : Nat := 0
  lastStatus : Nat := 0
deriving DecidableEq, Repr, Inhabited

/-- The sideband target, the service ring block and the register fabric (R460 to R466). -/
structure BusSt where
  /-- Status of the last sideband command. -/
  sbStatus : Nat := 0
  /-- I3C dynamic address, none until assigned. -/
  sbDynamic : Option Nat := none
  /-- RING_ERRORS of pairs 0 and 1, RING_ALARMS and REG_TIMEOUTS, saturating. -/
  ringErr0 : Nat := 0
  ringErr1 : Nat := 0
  ringAlarms : Nat := 0
  regTimeouts : Nat := 0
  /-- MCLK has fallen back to the common reference (R466). -/
  pllFallback : Bool := false
  /-- The common reference is absent: no command is answered (R466). -/
  refLost : Bool := false
deriving DecidableEq, Repr, Inhabited

/-- The instruction in force in the test access port (R512). -/
inductive TapInstr where
  | bypass | samplePreload | extest | extestPulse | extestTrain | highz
deriving DecidableEq, Repr, Inhabited

/-- The test access port and the package switches (R501, R502, R512). -/
structure PackageSt where
  tap : TapInstr := .bypass
  /-- Values preloaded into the boundary cells, as bits. -/
  tapCells : Nat := 0
  /-- Switch positions: true is the die position. -/
  srDie : Bool := true
  t8Die : Bool := false
deriving DecidableEq, Repr, Inhabited

end Sys2Proof.Machine
end

