-- ==== Sys2Proof/Machine/HubData.lean ====
section
/-! DEFINITION. The state of the engine hub: the Tally units with their collectives and ledgers (R320 to R350), and the
Traverse engines, queues and functions of the service device (R351 to R376). -/

namespace Sys2Proof.Machine

/-! ### Tally -/

/-- COLL[c] as its words (Table 10.15). -/
structure Coll where
  ctrl : Nat := 0
  elements : Nat := 0
  ledgerBase : Nat := 0
  members : Nat := 0
  children : Nat := 0
  parent : Nat := 0
  timing : Nat := 0
deriving DecidableEq, Repr, Inhabited

/-- MEMBER[m] (Table 10.17). -/
structure Memb where
  bind : Nat := 0
  notify : Nat := 0
  resultAddr : Nat := 0
  recordAddr : Nat := 0
deriving DecidableEq, Repr, Inhabited

/-- A ledger entry: the exact accumulator in units of the weight of bit 0 (Table 10.3), or the current value, and the
flags of Table 10.4. -/
structure Led where
  acc : Int := 0
  flags : Nat := 0
  val : Nat := 0
  has : Bool := false
deriving DecidableEq, Repr, Inhabited

/-- What waits in a unit's hold buffer (R334). -/
inductive HeldIn where
  | write (fn slot off : Nat) (data : List Nat) (be poisoned : Bool)
  | packet (f : FPkt)
deriving DecidableEq, Repr, Inhabited

/-- The round state of a collective (Table 10.16). -/
structure CollSt where
  /-- 0 UNUSED, 1 OPEN, 2 COMPLETE, 3 PACKING, 4 ROUNDING, 5 DELIVERING, 6 CLEARING. -/
  state : Nat := 0
  round : Nat := 0
  awaiting : Bool := false
  /-- The round whose result is awaited. -/
  awaitRound : Nat := 0
  lastStatus : Nat := 0
  contributions : Nat := 0
  ticksOpen : Nat := 0
  /-- Ticks since the close, while the result is awaited. -/
  ticksWait : Nat := 0
  /-- Element counts of the members, by index in the member range. -/
  count : Tab Nat := []
  /-- Next element expected, PARTIAL packets received, and DONE, by child index. -/
  childNext : Tab Nat := []
  childPkts : Tab Nat := []
  childDone : Tab Bool := []
  /-- OR of the children's FLAGS_OR. -/
  flagsOr : Nat := 0
  led : Tab Led := []
  /-- Tick number of the last close. -/
  closeTick : Nat := 0
  /-- Clearing has ended: round 0 opens at the next boundary (R347). -/
  cleared : Bool := false
  /-- An accepted retirement waits for its boundary. -/
  retire : Bool := false
  /-- Retired at its close: the ledger is freed after the send or delivery. -/
  ending : Bool := false
deriving DecidableEq, Repr, Inhabited

/-- The Tally block. -/
structure TallySt where
  /-- Shadow and committed copies. -/
  collSh : Tab Coll := []
  coll : Tab Coll := []
  childSh : Tab Nat := []
  child : Tab Nat := []
  membSh : Tab Memb := []
  memb : Tab Memb := []
  /-- The last write of each collective, child and member: its number x 65,536 + port key + 1 (R240). -/
  collPort : Tab Nat := []
  childPort : Tab Nat := []
  membPort : Tab Nat := []
  st : Tab CollSt := []
  /-- Writes to staged words so far, which orders the last writers. -/
  writes : Nat := 0
  detail : Nat := 0
  code : Nat := 0
  discard : Nat := 0
  aborts : Nat := 0
  rounds : Nat := 0
  updates : Tab Nat := []
  /-- Hold buffers of the units, oldest first: collective and what waits. -/
  hold : List (Nat × HeldIn) := []
deriving DecidableEq, Repr, Inhabited

/-! ### Traverse and the service functions -/

/-- Function state: 0 FREE, 1 ENABLED, 2 RESETTING (R356); generations count from 1. -/
structure Fn where
  state : Nat := 0
  gen : Nat := 1
  /-- It was removed: the reset ends in FREE. -/
  removed : Bool := false
  /-- VF Enable asks for it at the next tick its slot is FREE. -/
  wanted : Bool := false
  /-- Key plus 1 of the reset job in progress. -/
  job : Nat := 0
deriving DecidableEq, Repr, Inhabited

/-- How far the descriptor of a queue has come. -/
inductive RunPhase where
  | idle
  /-- The descriptor, then its list, is being read. -/
  | fetch
  /-- FENCE: zero-length reads on the paths of earlier descriptors are outstanding. -/
  | preFence
  | list
  /-- The next segment may start. -/
  | ready
  /-- Source reads of a segment are outstanding. -/
  | reading
  /-- Zero-length reads on other paths are outstanding; the end follows. -/
  | fence
deriving DecidableEq, Repr, Inhabited

/-- The descriptor in progress on a queue (R361 to R367). -/
structure Run where
  phase : RunPhase := .idle
  desc : List Nat := []
  list : List (Nat × Nat) := []
  /-- Destination bytes written, and bytes of the segment under way. -/
  done : Nat := 0
  seg : Nat := 0
  /-- The segment's source bytes by offset, and its reads still to be issued (address, offset, bytes). -/
  buf : Tab Nat := []
  todo : List (Nat × Nat × Nat) := []
  status : Nat := 0
  /-- Paths written since the last fence, with an address on each: 8 x the path + traffic class. -/
  paths : List (Nat × Nat) := []
  /-- Epoch under which the segment's destination was checked. -/
  epoch : Nat := 0
  /-- The segment's reads were issued before its destination check passed: address, and the marking rule (R368). -/
  prefetched : List (Nat × Nat) := []
  /-- Its place in the count of descriptors begun on the queue; read slots carry it. -/
  serial : Nat := 0
deriving DecidableEq, Repr, Inhabited

/-- One queue of a function (R357 to R362), keyed by pool entry. -/
structure Queue where
  sqSh : Nat := 0
  cqSh : Nat := 0
  szSh : Nat := 0
  sq : Nat := 0
  cq : Nat := 0
  sizes : Nat := 0
  weight : Nat := 1
  /-- 0 DISABLED, 1 IDLE, 2 ACTIVE, 3 CQ_FULL, 4 ERROR, 5 DRAINING. -/
  state : Nat := 0
  code : Nat := 0
  sqHead : Nat := 0
  sqTail : Nat := 0
  cqHead : Nat := 0
  cqTail : Nat := 0
  phase : Bool := true
  engine : Option Nat := none
  left : Nat := 0
  run : Run := {}
  /-- Descriptors read ahead of it, in ring order (R368), and the descriptors begun so far. -/
  ahead : List Run := []
  begun : Nat := 0
  /-- Finished completion entries that wait for room: bytes, whether they signal, and their traffic class. -/
  waiting : List (List Nat × Bool × Nat) := []
deriving DecidableEq, Repr, Inhabited

/-- An engine read slot (R365): queue, offset in the segment, bytes owed; `kind` 0 source, 1 descriptor, 2 list, 3
zero-length; job reads are kind 4. -/
structure RdSlot where
  used : Bool := false
  gen : Nat := 0
  fn : Nat := 0
  fnGen : Nat := 0
  queue : Nat := 0
  serial : Nat := 0
  kind : Nat := 0
  off : Nat := 0
  bytes : Nat := 0
  got : List Nat := []
  transit : Option Nat := none
  time : Nat := 0
deriving DecidableEq, Repr, Inhabited

/-- The Traverse engines and the function pool. Read slots are keyed 512 x engine + slot, those of jobs from 4,096. -/
structure TravSt where
  descAhead : Nat := 2
  kibAhead : Nat := 16
  readTimeout : Nat := 50
  prefDiscard : Nat := 0
  lateCpl : Nat := 0
  descErrors : Nat := 0
  bytes : Tab Nat := []
  fn : Tab Fn := []
  q : Tab Queue := []
  /-- Queues that wait for an engine, in the order of activation. -/
  waiting : List Nat := []
  slot : Tab RdSlot := []
  /-- Last served partition and function of each engine, and last served queue of each function. -/
  rrPart : Tab Nat := []
  rrFn : Tab Nat := []
  rrQ : Tab Nat := []
deriving DecidableEq, Repr, Inhabited

end Sys2Proof.Machine
end

