-- ==== Sys2Proof/Machine/LinkData.lean ====
section
/-! DEFINITION. The state of the lanes and of the Sherix links (chapters Lanes, and The Sherix Link Layer, R127 to
R201). -/

namespace Sys2Proof.Machine

/-- How far the FFE search of R142 has come on a lane. -/
inductive FfePhase where
  /-- The FOM at the starting coefficients is awaited. -/
  | start
  /-- A trial's acknowledgement is awaited. -/
  | ackWait
  /-- The FOM window of an applied trial runs. -/
  | window
  /-- The acknowledgement of a back-off is awaited. -/
  | backWait
  | done
deriving DecidableEq, Repr, Inhabited

/-- The FFE search: `pos` 0 to 3 is (post, +1), (post, -1), (pre, +1), (pre, -1). -/
structure Ffe where
  phase : FfePhase := .start
  best : Nat := 0
  trials : Nat := 0
  pos : Nat := 0
  changed : Bool := false
deriving DecidableEq, Repr, Inhabited

/-- The search of R144 on a lane of an H port: it runs, the preset asked for last, the best FOM with its preset, and the
preset kept at its end. -/
structure HEq where
  on : Bool := false
  cur : Nat := 0
  best : Option (Nat × Nat) := none
  kept : Option Nat := none
deriving DecidableEq, Repr, Inhabited

/-- TX_FFE_SET at reset: PRE 4, MAIN 36, POST 8 (Table 5.10). -/
def txReset : Nat := 4 + 36 * 256 + 8 * 65536

/-- One lane (Tables 5.4 and 5.8 to 5.14). -/
structure Lane where
  /-- Table 5.4. -/
  state : Nat := 0
  port : Option Nat := none
  /-- LOGICAL_LANE that this end sends on the lane; 0x1F none. -/
  logical : Nat := 0x1F
  /-- LOGICAL_LANE that the lane carries inward, by which the receiver places it (R134); 0x1F none. -/
  rxLogical : Nat := 0x1F
  fom : Nat := 0
  floor : Nat := 80
  health : Nat := 0
  hdrErr : Nat := 0
  /-- The present FOM window held an invalid header in lock (R139). -/
  sawBad : Bool := false
  frozen : Bool := false
  reversed : Bool := false
  polInv : Bool := false
  /-- The inverted input awaits its confirming run of headers (R132). -/
  confirm : Bool := false
  lock : Bool := false
  cdr : Bool := false
  /-- Scrambler of the transmitter, none before its first block, and the last 58 payload bits received (R130). -/
  scram : Option Nat := none
  descram : Nat := 0
  /-- The far end's last TRAIN block on this lane. -/
  far : TrainBlk := {}
  /-- Coefficients and CTLE setting in force. -/
  pre : Nat := 4
  main : Nat := 36
  post : Nat := 8
  ctle : Nat := 0
  /-- CTLE search: best FOM and its setting. -/
  ctleBest : Option (Nat × Nat) := none
  ffe : Ffe := {}
  hEq : HEq := {}
  /-- What its own TRAIN blocks carry: PRE_REQ, POST_REQ, COEF_ACK. -/
  preReq : Nat := 0
  postReq : Nat := 0
  coefAck : Nat := 0
  /-- Staged pair TX_FFE_SET and RX_CTLE_SET: shadow, accepted pair awaiting effect, pair in force (R161, R239). -/
  txSh : Nat := txReset
  rxSh : Nat := 0
  eqPend : Option (Nat × Nat) := none
  txAcc : Nat := txReset
  rxAcc : Nat := 0
  eqPort : Option Nat := none
  eqStatus : Nat := 0
  /-- SPARE lanes: the lane served, 0x1F none; and the far end's usability bit was seen. -/
  serves : Nat := 0x1F
  /-- Lane replaced by a spare: RETIRED until M0 (R148). -/
  retired : Bool := false
  loop : Nat := 0
  prbsGen : Nat := 0
  prbsChk : Nat := 0
  chkLock : Bool := false
  prbsErr : Nat := 0
  prbsBits : Nat := 0
  /-- MARGIN_CTRL fields and MARGIN_RESULT. -/
  marginCtrl : Nat := 0
  marginBusy : Bool := false
  marginDone : Bool := false
  preempted : Bool := false
  marginErrs : Nat := 0
  /-- Lane Margining at the Receiver: a step runs, the error count limit, and the lane's status word (R159). -/
  pcieStep : Bool := false
  pcieLimit : Nat := 4
  pcieMargin : Nat := 0
deriving DecidableEq, Repr, Inhabited

/-- One tile's lane resources. -/
structure TileSt where
  pll0 : Bool := false
  pll1 : Bool := false
  /-- PLL 1 carries the lanes; PLL 0 is out of use until M0 (R156). -/
  onPll1 : Bool := false
  /-- The far end last reported the spare that this one is wired to usable (R147): bit 0 lane 16, bit 1 lane 17. -/
  farSpare : Nat := 0
deriving DecidableEq, Repr, Inhabited

/-- A stored flit: its sequence, stored header fields and chunks (R165, R179). -/
structure SeqFlit where
  seq : Nat := 0
  fill : Nat := 0
  split : Nat := 0
  vcA : Nat := 0
  vcB : Nat := 0
  chA : Nat := 0
  chB : Nat := 0
  crVc : Nat := 0
  crUnits : Nat := 0
  chunks : List Nat := []
deriving DecidableEq, Repr, Inhabited

/-- A margin message in an S port's queue (R189); `age` orders arrivals. -/
structure MQueued where
  msg : Margin := {}
  age : Nat := 0
deriving DecidableEq, Repr, Inhabited

/-- An unanswered exchange of the margin slot (R190): kind 0 DELAY, 1 SWAP, 2 WIDTH; flits sent since. -/
structure Exchange where
  msg : Margin := {}
  flits : Nat := 0
deriving DecidableEq, Repr, Inhabited

/-- Why a port is PAUSED, and what ends it. -/
inductive PauseKind where
  | none
  /-- Initiator of a hard cut-over, waiting for the acknowledgement. -/
  | swapWait
  /-- Acknowledged on either end: ALIGN bursts follow. -/
  | swapAlign
  | degrade
  | pll
deriving DecidableEq, Repr, Inhabited

/-- One Sherix port (R162 to R201). -/
structure Link where
  /-- LINK_STATE: 0 DOWN, 1 TRAINING, 2 INIT, 3 UP, 4 PAUSED, 5 HELD. -/
  state : Nat := 0
  width : Nat := 0
  rate : Nat := 0
  degraded : Bool := false
  lastCause : Nat := 0
  holdDown : Bool := false
  autoDegrade : Bool := true
  adminDown : Bool := false
  /-- A T8 port whose bypass is closed on command (R89). -/
  bypassed : Bool := false
  ackTimer : Nat := 250
  farSwitch : Nat := 0
  farPort : Nat := 0
  /-- Width and rate asked for by WIDTH_SPEED_CHANGE until the next retrain (R195). -/
  askWidth : Option Nat := none
  askRate : Option Nat := none
  /-- The next link-down is the one that brings them in. -/
  askHold : Bool := false
  /-- UP at least once since run-mode entry, and the boundary at which the return hold ends (R298). -/
  wasUp : Bool := false
  hold : Option Nat := none
  n : Nat := 0
  a : Nat := 0
  e : Nat := 0
  lastAck : Nat := 0xFFF
  nakOut : Bool := false
  expiries : Nat := 0
  /-- The replay buffer, oldest first. -/
  buf : List SeqFlit := []
  /-- The next sequence to resend, and the start of the replay last started. -/
  replay : Option Nat := none
  replayStart : Option Nat := none
  /-- Grants received and AVAIL, grants given and units accepted and not yet returned, by VC. -/
  grantRx : Tab Nat := []
  avail : Tab Nat := []
  grantTx : Tab Nat := []
  held : Tab Nat := []
  /-- Credit debts in order: VC, units, time. -/
  debts : List (Nat × Nat × Nat) := []
  /-- Audit history: charges received by sequence (VC, units) and returns sent by own sequence. -/
  charged : List (Nat × Nat × Nat) := []
  returned : List (Nat × Nat × Nat) := []
  /-- Totals of both since link-up. -/
  chargedTot : Tab Nat := []
  returnedTot : Tab Nat := []
  /-- The received AUDIT that waits for flit S. -/
  auditIn : Option AuditSample := none
  /-- The last tick for which a received AUDIT was intact. -/
  auditSeen : Bool := true
  /-- INIT: what this end has received (bit 0 INIT, 1 and 2 grants), the rotation, and the peer's RCVD. -/
  rcvd : Nat := 0
  peerRcvd : Nat := 0
  initTurn : Nat := 0
  /-- The margin queue and its exchanges. -/
  mq : List MQueued := []
  mAge : Nat := 0
  ex : List Exchange := []
  nextTag : Nat := 0
  /-- CONTAIN keys seen in the last 64 flits: ORIGIN, TAG and flits since (R190). -/
  recent : List (Nat × Nat × Nat) := []
  pause : PauseKind := .none
  /-- The pause began in INIT, and ends there. -/
  fromInit : Bool := false
  /-- ALIGN_SEQ of the next burst sent. -/
  alignSeq : Nat := 0
  /-- Cut-overs under way: this end's logical lane and the spare, one or two merged; requests that wait their turn (R151). -/
  swaps : List (Nat × Nat) := []
  swapQueue : List (Nat × Nat) := []
  /-- This end started the cut-over under way, under R149. -/
  swapInit : Bool := false
  /-- Mirror swap under way: LOGICAL_LANE that its messages name, spare and job handle; this end's lane; own and peer
matched, own and peer selected. -/
  mirror : Option (Nat × Nat × Nat) := none
  mirrorLane : Nat := 0
  mirrorOwn : Bool := false
  mirrorPeer : Bool := false
  selOwn : Bool := false
  selPeer : Bool := false
  /-- Job key that waits on this port: WIDTH_REQ acknowledged 1, refused 2. -/
  widthAns : Nat := 0
  /-- The last training left no usable width; the port retries (R199). -/
  trainFailed : Bool := false
  /-- Receive streams of bytes by VC (R165), and bytes of begun packets still to be placed, by VC. -/
  rx : Tab (List Nat) := []
  tx : Tab (List Nat) := []
  /-- The packet begun on each VC: its ID plus 1. -/
  txPkt : Tab Nat := []
  fecCorr : Nat := 0
  fecUncorr : Nat := 0
  crcErr : Nat := 0
  ahead : Nat := 0
  dup : Nat := 0
  replaysNak : Nat := 0
  replaysTimer : Nat := 0
  stall : Nat := 0
  auditMissed : Nat := 0
  marginDrop : Nat := 0
  /-- Fenced by containment: no packet begins or enters (R404). -/
  fenced : Bool := false
  /-- DEVICE isolation: IDLE flits only (Table 13.3). -/
  idleOnly : Bool := false
  /-- Whole packets with a flit unacknowledged, by the sequence of their last flit, for the failover (R198). -/
  inReplay : List (Nat × List Nat) := []
deriving DecidableEq, Repr, Inhabited

/-- Lanes, tiles and links. Lanes are keyed 18t + n. -/
structure LinkSt where
  lane : Tab Lane := []
  tile : Tab TileSt := []
  link : Tab Link := []
deriving DecidableEq, Repr, Inhabited

end Sys2Proof.Machine
end

