-- ==== Sys2Proof/Machine/ModeData.lean ====
section
/-! DEFINITION. The state of reset, the mode machine, the Plat loader, the configuration that a Plat brings into force
and the neighbour exchange (chapters The Legend ROM and the Plat Image, and Power-Up, Reset and the Mode Machine). -/

namespace Sys2Proof.Machine

/-- The two ordering variants (R1). -/
inductive Variant where
  | hl7144 | hl7080
deriving DecidableEq, Repr, Inhabited

/-- What manufacture fixed in one part (R44, R47): variant, silicon revision and fuses. -/
structure PartCfg where
  variant : Variant := .hl7144
  siliconRev : Nat := 0x0100
  /-- Spare lanes fused off: bit 2t lane 16, bit 2t + 1 lane 17 of tile t. -/
  laneOff : Nat := 0
  /-- Spare lane PLL of tile t fused off. -/
  pllOff : Nat := 0
  /-- The ninth plane fused off. -/
  planeOff : Bool := false
  /-- Spare SRAM rows that manufacturing repair used, per macro. -/
  rowsUsed : Tab Nat := []
deriving DecidableEq, Repr, Inhabited

/-- The base modes of Table 1.5. -/
inductive Mode where
  | m0 | m1 | m2 | m3 | m4 | m5 | m6 | m7 | m10
deriving DecidableEq, Repr, Inhabited

/-- How far a run-mode entry has come (Table 3.9). -/
inductive EntryPhase where
  /-- No entry under way. -/
  | none
  /-- STATE became ACCEPTED. -/
  | accepted
  /-- The boot port is idle; tiles have their roles and cuts. -/
  | tilesSet
  /-- The content written in M2 is the active state. -/
  | activated
  /-- The cores have started. -/
  | coresStarted
deriving DecidableEq, Repr, Inhabited

/-- Reset inputs, reset release, bypasses and the base mode (R76 to R89). The values are those on entry to M1. -/
structure ModeSt where
  base : Mode := .m1
  /-- Levels of PWRGD, RST_N and the nine PERST_N inputs. -/
  pwrgd : Bool := true
  rstN : Bool := true
  perst : Nat := 0x1FF
  /-- AUTH_SEL as sampled (R63). -/
  authSel : Nat := 0
  /-- The 100 us hold after PWRGD rose has ended (R77). -/
  holdEnded : Bool := true
  /-- The 20 us M0 of DEVICE_RESET runs (R76). -/
  devReset : Bool := false
  /-- PERST_N_T0 caused the present M0 while PWRGD and RST_N stayed high (R77). -/
  perstM0 : Bool := false
  /-- The MCLK cycle in which the present M0 began (R78). -/
  m0Cycle : Nat := 0
  /-- Reset release has happened (R77). -/
  released : Bool := true
  /-- The service ring bypass is open (R79, Table 3.12). -/
  srOpen : Bool := true
  /-- The T8 bypass is open (R89). -/
  t8Open : Bool := false
  /-- BYPASS_CTRL.T8_CLOSE. -/
  t8Close : Bool := false
  /-- RESET_CAUSE (Table 3.5). -/
  causePower : Bool := true
  causeRst : Bool := false
  causePerst : Bool := false
  causeDev : Bool := false
  resetPort : Nat := 0
  entry : EntryPhase := .none
  /-- The part is in the state of R500 after a rail fell: no command is answered until PWRGD has been low. -/
  railFail : Bool := false
  /-- Rails below their monitor threshold, bit r of Table 17. -/
  railsLow : Nat := 0
  /-- The RESPONDER value drawn on entry to M1, a free value (R464). -/
  responder : Nat := 0
deriving DecidableEq, Repr, Inhabited

/-- A section of the image that has passed its checks: type, index, offset of its record, body (R50, R71). -/
structure PlatSec where
  type : Nat := 0
  index : Nat := 0
  offset : Nat := 0
  body : List Nat := []
deriving DecidableEq, Repr, Inhabited

/-- PLAT_STATUS.STATE (Table 2.13). -/
inductive PlatState where
  | idle | receiving | validating | applying | accepted | rejected
deriving DecidableEq, Repr, Inhabited

/-- A rejection: code, section, detail and offset (Table 2.14, R524). -/
structure Reject where
  code : Nat := 0
  section_ : Nat := 0
  detail : Nat := 0
  offset : Nat := 0
deriving DecidableEq, Repr, Inhabited

/-- A Tile Roles entry (Table 2.7). -/
structure TileCfg where
  /-- 0 Off, 1 H, 2 S. -/
  role : Nat := 0
  rateMax : Nat := 0
  clocking : Nat := 0
  spares : Nat := 0
deriving DecidableEq, Repr, Inhabited

/-- A Partitions entry (Table 2.8). -/
structure PartEntry where
  present : Bool := false
  upstream : Nat := 0
  reserve : Nat := 0
  down : Nat := 0
deriving DecidableEq, Repr, Inhabited

/-- A quota of the Function Pool (Table 2.9). -/
structure Quota where
  vf : Nat := 0
  msix : Nat := 0
deriving DecidableEq, Repr, Inhabited

/-- Authority of one port kind: LEVEL and MAY_AMEND where an entry lowers them (R457). -/
structure AuthEntry where
  set : Bool := false
  level : Nat := 0
  amend : Bool := false
deriving DecidableEq, Repr, Inhabited

/-- A Core Firmware image (R58). -/
structure Firmware where
  loadOffset : Nat := 0
  entry : Nat := 0
  image : List Nat := []
deriving DecidableEq, Repr, Inhabited

/-- An Auto-Spare Policy entry (Table 2.9). -/
structure SparePolicy where
  enable : Bool := false
  threshold : Nat := 0
  window : Nat := 0
deriving DecidableEq, Repr, Inhabited

/-- A Lock Mask entry (R61). -/
structure LockEntry where
  kind : Nat := 0
  space : Nat := 0
  partition : Nat := 0
  length : Nat := 0
  base : Nat := 0
deriving DecidableEq, Repr, Inhabited

/-- What the Plat and its amendments have brought into force. -/
structure RunCfg where
  /-- RUN_MODE of the accepted image (Table 2.4). -/
  runMode : Nat := 0
  switchId : Nat := 0
  /-- PLAT_IMAGE_ID and AMEND_SEQ_IN_FORCE. -/
  imageId : Nat := 0
  amendSeq : Nat := 0
  tile : Tab TileCfg := []
  /-- Width code of the port that starts at slot s of tile t, keyed 8t + s (R55). -/
  cut : Tab Nat := []
  part : Tab PartEntry := []
  pfMsix : Nat := 1
  quota : Tab Quota := []
  auth : Tab AuthEntry := []
  /-- QoS (R60): TCn to VCn, not lossy, 2,000 us, weight 16 unless listed. -/
  tcToVc : Tab Nat := []
  lossy : Nat := 0
  ageing : Tab Nat := []
  weight : Tab Nat := []
  tickPeriod : Nat := 1
  tickSourceRole : Bool := false
  tickSource : Nat := 0
  budget : Tab Nat := []
  /-- The firmware store: images of cores 0 to 3, and of core 4 at its start (R58). -/
  firmware : Tab Firmware := []
  spare : Tab SparePolicy := []
  /-- The Debug Ceiling in force, by role (R75). -/
  ceiling : Tab Nat := []
  lock : List LockEntry := []
  sealed : Bool := false
deriving DecidableEq, Repr, Inhabited

/-- The loader (R64 to R71). -/
structure PlatSt where
  state : PlatState := .idle
  source : Nat := 0
  isAmend : Bool := false
  bufFree : Bool := true
  /-- Port key of the port that holds the claim, and the MCLK cycle of its START (R66). -/
  claim : Option Nat := none
  claimCycle : Nat := 0
  /-- STATE, SOURCE and IS_AMEND before the START that holds (R66). -/
  before : PlatState × Nat × Bool := (.idle, 0, false)
  /-- A handover has followed the START. -/
  handed : Bool := false
  /-- END has been written and waits for the last chunk. -/
  ended : Bool := false
  /-- PLAT_BYTES. -/
  bytes : Nat := 0
  /-- PLAT_BUFFER, by byte. -/
  buf : Tab Nat := []
  /-- The bytes handed over and not yet checked. -/
  chunk : List Nat := []
  /-- The bytes checked so far, in order. -/
  img : List Nat := []
  /-- The header has passed stage 1. -/
  headerOk : Bool := false
  /-- Offset of the next section record and its index. -/
  nextOff : Nat := 64
  nextIdx : Nat := 0
  /-- Sections that have passed their checks; those of a full image stand in their destinations (R71). -/
  secs : List PlatSec := []
  /-- The staged registers: what the sections of a full image set at run-mode entry (R71, R84). -/
  staged : RunCfg := {}
  reject : Reject := {}
  /-- Destinations are being cleared after a rejection (R71). -/
  clearing : Bool := false
  /-- AMEND_STATUS (Table 2.11). -/
  amendState : Nat := 0
  amendHandle : Nat := 0
  /-- The sections of the amendment that is staging or waits for its tick (R73), and what its records carry. -/
  amendSecs : List PlatSec := []
  amendSeqNext : Nat := 0
  amendId : Nat := 0
  amendLen : Nat := 0
  amendPort : Nat := 0
deriving DecidableEq, Repr, Inhabited

/-- One side of the neighbour exchange, as a holder (R94 to R99, Table 3.11). -/
structure NeighbourSide where
  state : Nat := 0
  code : Nat := 0
  /-- The image copy held for that side; none held when empty. -/
  copy : List Nat := []
  /-- Bytes of the copy sent, and the OFFSET of the last CHUNK_ACK that matched it. -/
  sent : Nat := 0
  acked : Nat := 0
  /-- DONE has been sent. -/
  done : Bool := false
deriving DecidableEq, Repr, Inhabited

/-- The neighbour exchange (R92 to R99). -/
structure NeighbourSt where
  side0 : NeighbourSide := {}
  side1 : NeighbourSide := {}
  /-- As a requester: the SRI pair of the accepted holder, and the MCLK cycle and IMAGE_ID of its OFFER (R95). -/
  holder : Option Nat := none
  offerCycle : Nat := 0
  offerId : Nat := 0
  /-- As a requester: the next DATA offset expected and bytes in the buffer. -/
  nextOff : Nat := 0
  filled : Nat := 0
  /-- As a requester: IMAGE_LENGTH of the offer. -/
  length : Nat := 0
deriving DecidableEq, Repr, Inhabited

end Sys2Proof.Machine
end

