-- ==== Sys2Proof/Machine/OutData.lean ====
section
/-! DEFINITION. What leaves the block: the model's own record of the messages, packets, frames and responses that the
spec says the Haldion sends. -/

namespace Sys2Proof.Machine

/-- A neighbour message (R92): TYPE, a reserved byte, LENGTH, OFFSET and BODY. -/
def neighbourMsg (type offset : Nat) (body : List Nat) : List Nat :=
  [type, 0] ++ toLe 2 body.length ++ toLe 4 offset ++ body

/-- One thing that left the block. -/
inductive Out where
  /-- An MSI-X write of function key `fn`, vector `vec` (R219, R371). -/
  | msix (fn vec addr data : Nat)
  /-- An alarm frame on both SRO pairs: switch ID and event source (R446). -/
  | alarm (switch src : Nat)
  /-- A pulse or a level on EVT_N[n] is a function of the state and is not recorded. A neighbour message on SRO pair
  `pair`, laid out as R92 says. -/
  | neighbour (pair : Nat) (msg : List Nat)
  /-- A tick mark on output `dst` (R103): 0 and 1 the SRO pairs, 16 + P S port P. -/
  | mark (dst sourceId depth period : Nat) (holdover : Bool) (number remain : Nat)
  /-- A delay request and a delay response (R106). -/
  | delayReq (dst id : Nat)
  | delayResp (dst id t3t2 : Nat)
  /-- The value a register read returned to a command port, by port key (R465). -/
  | readData (port : Nat) (value : Nat)
  /-- A TLP leaves H port `port`. -/
  | tlp (port : Nat) (t : Tlp)
  /-- A flit leaves S port `port`: its 256 bytes (R164); its blocks on the lanes follow as `lane`. -/
  | flit (port : Nat) (bytes : List Nat)
  /-- Flow-control credits of a TLP are returned on H port `port`: class, header and data credits (R252); class 3 is the
  initial advertisement, with the six amounts of Table 8.1 in `amounts`. -/
  | fc (port cls hdr data : Nat) (amounts : List Nat)
  /-- 66-bit blocks in order on the transmit pair of lane `lane` (18t + n), scrambled and, at a PAM4 rate, as 33 levels
of two bits each (R128 to R131). A block that is sent until something happens is recorded once. -/
  | lane (lane : Nat) (pam4 : Bool) (words : List Nat)
  /-- The first 128 bits of a test pattern on the transmit pair of a lane; at a PAM4 rate as levels (R158). -/
  | pattern (lane : Nat) (pam4 : Bool) (word : Nat)
  /-- Symbols received and sent on again by a lane in loop FAR (R157). -/
  | looped (lane : Nat) (words : List Nat)
  /-- What arrives on the receive pairs of T8 while its bypass is closed leaves unchanged on the transmit pairs `lanes`:
  blocks in order, or the bytes of a flit (R501, R503). -/
  | through (lanes what : List Nat)
  /-- Equalisation fields of a training set sent on a lane of an H port (R136, R144). -/
  | eqTs (lane : Nat) (ts : EqTs)
  /-- The link of H port `port` is commanded: 0 to Disabled, 1 to train from Detect, 2 a Hot Reset, 3 to Recovery. -/
  | linkCmd (port cmd : Nat)
  /-- A Function Level Reset of physical function `f` behind shared port `port` (R210, R214). -/
  | flr (port f : Nat)
  /-- An error or interrupt message to the host of partition `q` (R225), by code. -/
  | hostMsg (q code reqId : Nat)
  /-- The response to a sideband, ring or Sighting command: status and data. -/
  | response (port status : Nat) (data : List Nat)
  /-- A service ring frame forwarded on pair `pair`. -/
  | ring (pair : Nat) (bytes : List Nat)
  /-- The 66-bit blocks, scrambled, in which the entry before this one in the list leaves on SRO pair `pair` (R461). -/
  | sro (pair : Nat) (words : List Nat)
  /-- The bytes of a Sighting response on SLIO (R472). -/
  | slio (bytes : List Nat)
deriving DecidableEq, Repr, Inhabited

end Sys2Proof.Machine
end

