-- ==== Sys2Proof/Machine/PcieData.lean ====
section
/-! DEFINITION. The state of the PCI Express side: the configuration spaces of the partitions' virtual switches, their
error registers, the physical ports and the staged groups of a shared endpoint port (chapter PCI Express Ports and
Partitions, R202 to R245). -/

namespace Sys2Proof.Machine

/-- The kinds of function that keep a configuration space (R208, R351). -/
inductive FnKind where
  | up | mgmt | down | engine | svcPf | svcView | svcVf
deriving DecidableEq, Repr, Inhabited

/-- One AER register set (R221 to R223). Masks and severities reset to the specification's defaults. -/
structure Aer where
  uncSta : Nat := 0
  uncMask : Nat := 0x04400000
  uncSev : Nat := 0x00462030
  corSta : Nat := 0
  corMask : Nat := 0xE000
  /-- Recorded headers, oldest first: the error bit and the header's words (four at most, R223). -/
  hdrs : List (Nat × List Nat) := []
deriving DecidableEq, Repr, Inhabited

/-- SHARE_WIN[q] (Table 7.7): upper dwords of base and offset, size in units of 4 GiB. -/
structure ShareWin where
  baseHi : Nat := 0
  size : Nat := 0
  offsetHi : Nat := 0
deriving DecidableEq, Repr, Inhabited

/-- SHARE_ASSIGN[f] (after Table 7.8). -/
structure ShareAsg where
  valid : Bool := false
  vfn : Nat := 0
  partition : Nat := 0
deriving DecidableEq, Repr, Inhabited

/-- The staged groups of a shared endpoint port (R237, R239, R245, Table 7.9). -/
structure ShareSt where
  /-- SHARE_PBUS; nothing written: the reset value P. -/
  pbus : Option Nat := none
  winSh : Tab ShareWin := []
  win : Tab ShareWin := []
  winPend : Option (Tab ShareWin) := none
  winPort : Option Nat := none
  winCode : Nat := 0
  asgSh : Tab ShareAsg := []
  asg : Tab ShareAsg := []
  asgPend : Option (Tab ShareAsg) := none
  asgPort : Option Nat := none
  asgCode : Nat := 0
  /-- SHARE_STATUS.DETAIL. -/
  detail : Nat := 0
deriving DecidableEq, Repr, Inhabited

/-- PCFG_ADDR, PCFG_DATA and PCFG_STATUS (R238). -/
structure PcfgSt where
  busy : Bool := false
  write : Bool := false
  func : Nat := 0
  reg : Nat := 0
  data : Nat := 0
  done : Bool := false
  timeout : Bool := false
  status : Nat := 0
deriving DecidableEq, Repr, Inhabited

/-- One PCI Express port (Tables 7.7 and 7.8). -/
structure PciePort where
  /-- Table 7.8A. -/
  ltssm : Nat := 0
  retimers : Nat := 0
  flit : Bool := false
  dlActive : Bool := false
  /-- Rate code of Table 5.1. -/
  rate : Nat := 0
  /-- Lanes in use. -/
  width : Nat := 0
  holdDown : Bool := false
  adminDown : Bool := false
  /-- Physical presence of a partner (R231). -/
  present : Bool := false
  aer : Aer := {}
  dpcCompUr : Bool := false
  dpcTrigEn : Nat := 0
  dpcTriggered : Bool := false
  dpcReason : Nat := 0
  dpcSource : Nat := 0
  share : ShareSt := {}
  pcfg : PcfgSt := {}
  /-- The next link-down is commanded: no Surprise Down (R232). -/
  commanded : Bool := false
  /-- Fenced by containment: no TLP enters or leaves (R227, R404). -/
  fenced : Bool := false
deriving DecidableEq, Repr, Inhabited

/-- A configuration request that the Haldion has sent on to an endpoint and whose completion it awaits (R235). -/
structure CfgOpen where
  partition : Nat := 0
  port : Nat := 0
  func : Nat := 0
  reg : Nat := 0
  write : Bool := false
  reqId : Nat := 0
  tag : Nat := 0
deriving DecidableEq, Repr, Inhabited

/-- A non-posted request of physical function `func` behind shared port `port`, as its partition sees it (R236, R237). -/
structure UpOpen where
  port : Nat := 0
  func : Nat := 0
  partition : Nat := 0
  reqId : Nat := 0
  tag : Nat := 0
deriving DecidableEq, Repr, Inhabited

/-- Upstream time in ns, 0 where none is known, and the cycle in which it was served (R217). -/
structure PtmUp where
  known : Bool := false
  ns : Nat := 0
  at_ : Nat := 0
deriving DecidableEq, Repr, Inhabited

/-- A PTM request that waits (R217). -/
structure PtmAsk where
  partition : Nat := 0
  port : Nat := 0
  reqId : Nat := 0
  tag : Nat := 0
deriving DecidableEq, Repr, Inhabited

/-- Every virtual configuration space and port (R209). Configuration space is kept by dword, keyed
1,024 x function key + dword; what is not listed holds its reset value. -/
structure PcieSt where
  port : Tab PciePort := []
  cfg : Tab Nat := []
  /-- AER of each function, by function key. -/
  aer : Tab Aer := []
  /-- BME_DRAIN of each bridge, by function key: 1 more than the number of the first packet that entered after the change,
0 while the bit is 0 (R230). -/
  bmeDrain : Tab Nat := []
  /-- Presence Detect State of each view, by function key (R231, R233). -/
  viewPresent : Tab Bool := []
  /-- MSI-X table words, keyed (function key x 4,096 + vector) x 4 + word; word 3 resets to 1, masked. -/
  msixTab : Tab Nat := []
  /-- MSI-X pending bits, keyed function key x 4,096 + vector. -/
  msixPend : Tab Bool := []
  /-- Causes of a fundamental reset of partition q that last: bit 0 PERST_N, 1 Hot Reset, 2 DL_Down (R210). -/
  partReset : Tab Nat := []
  /-- Bus number captured on each partition's upstream port. -/
  capBus : Tab Nat := []
  /-- Configuration requests forwarded and open (R235). -/
  cfgOpen : List CfgOpen := []
  /-- Upper BAR dwords last written 0xFFFF_FFFF, keyed (port x 256 + function) x 1,024 + dword (R235). -/
  barSizing : Tab Bool := []
  /-- What is known of the dwords that may be the upper half of a 64-bit memory BAR, keyed as `barSizing`: 1 it is none, 2 it
is one (R235). -/
  barUpper : Tab Nat := []
  /-- The SR-IOV capability of each function, by dword, keyed port x 256 + function (R235). -/
  sriovAt : Tab Nat := []
  /-- Non-posted requests of functions behind shared ports that open no Transit entry, until their last completion
(R236, R237). -/
  upOpen : List UpOpen := []
  /-- Time that each partition's upstream port last served (R217). -/
  ptmUp : Tab PtmUp := []
  /-- PTM requests that wait for it: partition, port, and the request's ID and tag (R217). -/
  ptmWait : List PtmAsk := []
  /-- Downstream ports of each partition whose PME_TO_Ack has arrived since the last PME_Turn_Off, by bit (R209). -/
  pmeAck : Tab Nat := []
deriving DecidableEq, Repr, Inhabited

end Sys2Proof.Machine
end

