-- ==== Sys2Proof/Machine/SwitchData.lean ====
section
/-! DEFINITION. The state of the switch core, the Graticule, the Transit table, the flow sequence table and the Fabric
Bridges (chapters Switch Core, Buffers and Latency, and Fabric Routing, Translation and Bridging, R246 to R319, and
R409 to R412). -/

namespace Sys2Proof.Machine

/-- What a packet of the switch core carries: a TLP, or a fabric packet. -/
inductive Body where
  | tlp (t : Tlp)
  | fab (f : FPkt)
deriving DecidableEq, Repr, Inhabited

/-- A packet in the switch core. `ing` is its ingress port, 0xFF for a packet that an engine or the Haldion itself
originates. -/
structure Pkt where
  id : Nat := 0
  ing : Nat := 0xFF
  dst : Nat := 0
  vc : Nat := 0
  /-- The VC on which it arrived, whose credit it holds. -/
  inVc : Nat := 0
  tc : Nat := 0
  /-- 0 posted, 1 non-posted, 2 completion (R250). -/
  cls : Nat := 0
  /-- The cycle in which its first cell was written (R264). -/
  time : Nat := 0
  cells : Nat := 1
  /-- Cells that have been written: all of them, but of a packet still arriving on an S port (R267). -/
  wr : Nat := 0
  /-- Cells that have left the VOQ. -/
  sent : Nat := 0
  body : Body := .tlp {}
  /-- The Routing-ID entry with which a fabric request was delivered: all that follows uses its fields (R32, R306). -/
  rid : Nat := 0
  /-- Requester's partition. -/
  part : Nat := 0x1F
  /-- A non-posted request that opens a Transit entry (R269): the switch or port it goes to; the entry once opened. -/
  needTransit : Bool := false
  /-- The requester's ID and tag as its own link knows them, kept for the Transit entry. -/
  reqId : Nat := 0
  tag : Nat := 0
  transit : Option Nat := none
  pushable : Bool := false
  /-- Epoch of its Boundary check, while it is in flight (R391). -/
  epoch : Option Nat := none
  /-- Bridges whose BME_DRAIN waits for it, by function key (R230). -/
  bridges : List Nat := []
  /-- A fabric packet that a failover re-sends keeps its FLOW_SEQ (R290). -/
  sequenced : Bool := false
deriving DecidableEq, Repr, Inhabited

/-- A cell that its input tile has sent and that is not yet confirmed (R246, R257). Its header's VOQ is `voq`, its ordering
class that of its packet. -/
structure Cell where
  tile : Nat := 0
  etile : Nat := 0
  voq : Nat := 0
  seq : Nat := 0
  /-- First and last flags, and the entry timestamp of its packet in us, 21 bits (R246). -/
  first : Bool := false
  last : Bool := false
  stamp : Nat := 0
  plane : Nat := 0
  time : Nat := 0
  /-- It waits to be sent again. -/
  resend : Bool := false
  pkt : Pkt := {}
deriving DecidableEq, Repr, Inhabited

/-- A packet in egress staging with the cells that have arrived (R253). -/
structure Staged where
  pkt : Pkt := {}
  got : Nat := 0
deriving DecidableEq, Repr, Inhabited

/-- A deficit round-robin arbiter: the VC being served and the deficit of each VC in cells (R255). -/
structure Drr where
  cur : Nat := 0
  left : Tab Nat := []
deriving DecidableEq, Repr, Inhabited

/-- A Transit entry (R269, R409). -/
structure TEntry where
  /-- 0 free, 1 open, 2 quarantined. -/
  state : Nat := 0
  gen : Nat := 1
  part : Nat := 0
  /-- The requester: 0 a host or device, 1 a Traverse engine. -/
  engine : Bool := false
  /-- Where completions go: ingress port, requester ID, tag, TC; of an engine read: slot. -/
  port : Nat := 0
  reqId : Nat := 0
  tag : Nat := 0
  tc : Nat := 0
  /-- Target: a far switch, or a local port. -/
  destSwitch : Option Nat := none
  destPort : Nat := 0
  bytes : Nat := 0
  time : Nat := 0
deriving DecidableEq, Repr, Inhabited

/-- A receive class of a stream: expected sequence and KNOWN (R291). -/
structure RxClass where
  e : Nat := 0
  known : Bool := false
deriving DecidableEq, Repr, Inhabited

/-- A receive entry of the flow sequence table. -/
structure RxFlow where
  inc : Nat := 0
  c0 : RxClass := {}
  c1 : RxClass := {}
  c2 : RxClass := {}
deriving DecidableEq, Repr, Inhabited

/-- A transmit entry: the three counters (R291). -/
structure TxFlow where
  c0 : Nat := 0
  c1 : Nat := 0
  c2 : Nat := 0
deriving DecidableEq, Repr, Inhabited

/-- A packet held for its turn (R292, R293). -/
structure Held where
  port : Nat := 0
  /-- The VC whose credit it holds. -/
  vc : Nat := 0
  time : Nat := 0
  pkt : FPkt := {}
deriving DecidableEq, Repr, Inhabited

/-- A fabric request under conversion at a destination Bridge (R310, R311). -/
structure BReq where
  tile : Nat := 0
  pkt : FPkt := {}
  /-- Pieces: slot, bytes, first address; done data by piece; sent so far. -/
  pieces : List (Nat × Nat × Nat) := []
  got : Tab (List Nat) := []
  /-- Bytes of the piece still owed. -/
  owed : Tab Nat := []
  next : Nat := 0
  left : Nat := 0
deriving DecidableEq, Repr, Inhabited

/-- A return slot: 0 free, 1 in use, 2 retired (R310). -/
structure BSlot where
  state : Nat := 0
  gen : Bool := false
  rid : Nat := 0
  time : Nat := 0
deriving DecidableEq, Repr, Inhabited

/-- A slot that becomes free: its generation bit turns (R310). -/
def BSlot.freed (x : BSlot) : BSlot := { gen := !x.gen }

/-- One Graticule plane (R258, R424): 0 spare, 1 active, 2 removed. -/
structure Plane where
  state : Nat := 0
  crcErr : Nat := 0
  timeouts : Nat := 0
  /-- Errors in the current block. -/
  errors : Nat := 0
deriving DecidableEq, Repr, Inhabited

/-- Counters of an ingress port (Table 8.4). -/
structure Ingress where
  used : Nat := 0
  pushout : Nat := 0
  agedLossless : Nat := 0
  agedLossy : Nat := 0
  cutAbort : Nat := 0
  /-- A push-out Note, and an ageing Note, have been written in this tick (R263, R265). -/
  noted : Bool := false
  agedNoted : Bool := false
deriving DecidableEq, Repr, Inhabited

/-- The switch core and its tables. -/
structure SwSt where
  nextPkt : Nat := 0
  /-- VOQs, keyed 1,024 x tile + 8d + v, in order of entry (R249). -/
  voq : Tab (List Pkt) := []
  /-- Next sequence of a VOQ, and the next one its resequencer delivers, by VOQ key. -/
  seq : Tab Nat := []
  exp : Tab Nat := []
  /-- Unconfirmed cells in order of sending, and cells waiting in resequencers (R257). -/
  unconf : List Cell := []
  rsq : List Cell := []
  /-- Cells confirmed at the egress whose confirmation is on its way: VOQ key and sequence. -/
  confirming : List (Nat × Nat) := []
  /-- Packets from the engine hub and from the Haldion's own functions that wait for the engine link of their port's tile,
keyed as `voq` (R26, R253). -/
  eng : Tab (List Pkt) := []
  /-- The packet that an S port's receive stream is writing, keyed 8 x port + v: 0 none or not yet in a VOQ, 1 its rest is
discarded, else 2 more than the packet's number (R267, R268). -/
  writing : Tab Nat := []
  /-- Partitions of which a Traverse engine holds a request for want of a Transit entry (R271, R272). -/
  hubWait : Tab Bool := []
  /-- Packets discarded with cells in flight: those cells are confirmed and go no further (R248). -/
  dead : List Nat := []
  /-- Staging, keyed 8 x port + v. -/
  staging : Tab (List Staged) := []
  /-- Arbiters: egress tiles 0 to 8, input tiles 16 to 24, engine links 32 to 40 toward the hub and 48 to 56 from it, link
VCs by port from 64. -/
  drr : Tab Drr := []
  /-- Round-robin pointers. -/
  rr : Tab Nat := []
  plane : Tab Plane := []
  retransmit : Tab Nat := []
  dupDiscard : Tab Nat := []
  ingress : Tab Ingress := []
  /-- The Transit table (R269 to R273, R409 to R412). -/
  tr : Tab TEntry := []
  trTimeout : Tab Nat := []
  boundCycles : Tab Nat := []
  atBound : Tab Bool := []
  boundNoted : Tab Bool := []
  timeouts : Nat := 0
  late : Nat := 0
  /-- Flow sequence table (R291). -/
  tx : Tab TxFlow := []
  rx : Tab RxFlow := []
  held : List Held := []
  /-- Destination Bridges. -/
  bslot : Tab BSlot := []
  breq : List BReq := []
  slotWait : Nat := 0
  /-- NO_ROUTE, HOP_EXPIRED and Bridge records written in this tick, by key. -/
  routeNoted : Tab Bool := []
  /-- Packets whose last cell has reached the engine hub, oldest first. -/
  hubIn : List Pkt := []
  /-- Register packets that have reached the remote register bridge, oldest first. -/
  regIn : List FPkt := []
deriving DecidableEq, Repr, Inhabited

end Sys2Proof.Machine
end

