-- ==== Sys2Proof/Machine/Formats.lean ====
section
/-! DEFINITION. The entry formats of the tables that software and the Plat load, and the checks that a commit, a load job
and the Plat loader share (R285, R302 to R305, R313, R381, R387). -/

namespace Sys2Proof.Machine

/-- Codes of Tables 9.7 and 12.5; 0 is accepted. -/
abbrev FmtCode := Nat

/-! ### Gazetteer entries (R303) -/

def gazValid (e : Nat) : Bool := bitAt e 0
def gazDir (e : Nat) : Bool := bitAt e 1
def gazWrite (e : Nat) : Bool := bitAt e 2
def gazHandle (e : Nat) : Nat := fld e 3 16
def gazPage (e : Nat) : Nat := if gazDir e then fld e 12 52 else fld e 19 45

/-- Check of a Gazetteer entry: only an entry in use is checked (R305). -/
def gazCheck (e : Nat) : FmtCode :=
  if !gazValid e then 0
  else if gazDir e then (if fld e 3 9 ≠ 0 then 1 else 0)
  else if 0xB800 ≤ gazHandle e then 2 else 0

/-! ### Bearing entries (Table 9.3) -/

def wayValid (e k : Nat) : Bool := bitAt e (8 * k + 7)
def wayPort (e k : Nat) : Nat := fld e (8 * k) 7
def wayAlt (e k : Nat) : Bool := bitAt e (32 + k)

/-- Check of a Bearing entry against the S ports of the cut. -/
def bearingCheck (isS : Nat → Bool) (e : Nat) : FmtCode :=
  if (List.range 4).any (wayValid e) then
    if fld e 36 28 ≠ 0 then 1
    else if (List.range 4).any (fun k => wayValid e k && !isS (wayPort e k)) then 5 else 0
  else 0

/-! ### Handles (Table 9.7A) -/

def ridKind (e : Nat) : Nat := fld e 0 2
def ridPartition (e : Nat) : Nat := fld e 2 5
def ridPort (e : Nat) : Nat := fld e 7 7
def ridTagSpace (e : Nat) : Nat := fld e 14 2
def ridProxy (e : Nat) : Nat := fld e 16 16

/-- Check of a handle. `part q` gives a defined partition's upstream port and downstream map. -/
def ridCheck (part : Nat → Option (Nat × Nat)) (e : Nat) : FmtCode :=
  if ridKind e = 0 then 0
  else if ridTagSpace e = 3 then 6
  else match part (ridPartition e) with
    | none => 6
    | some (up, down) =>
      if ridKind e = 1 then (if ridPort e = up then 0 else 6)
      else if ridKind e = 2 then (if bitAt down (ridPort e) then 0 else 6)
      else if ridPort e = 0x7F then 0 else 6

/-! ### Peer windows (Table 9.4) -/

/-- A peer window entry. -/
structure Win where
  ctrl : Nat := 0
  gzFirst : Nat := 0
  base : Nat := 0
  size : Nat := 0
  target : Nat := 0
deriving DecidableEq, Repr, Inhabited

def Win.valid (w : Win) : Bool := bitAt w.ctrl 0
def Win.isExport (w : Win) : Bool := bitAt w.ctrl 1
def Win.gazMode (w : Win) : Bool := fld w.ctrl 2 2 == 1
def Win.granuleCode (w : Win) : Nat := fld w.ctrl 4 2
def Win.write (w : Win) : Bool := bitAt w.ctrl 6
def Win.partition (w : Win) : Nat := fld w.ctrl 8 5
def Win.handle (w : Win) : Nat := fld w.ctrl 16 16

/-- Bytes of a granule: 4 KiB, 2 MiB, 1 GiB. -/
def granuleBytes (code : Nat) : Nat := if code = 0 then 4096 else if code = 1 then 2 ^ 21 else 2 ^ 30
def Win.granule (w : Win) : Nat := granuleBytes w.granuleCode

/-- An address lies in the window. -/
def Win.holds (w : Win) (a : Nat) : Bool := decide (w.base ≤ a) && decide (a < w.base + w.size)

/-- Check of one window by itself, in the order of Table 9.7. -/
def winCheck (partDef : Nat → Bool) (w : Win) : FmtCode :=
  if !w.valid then 0
  else if fld w.ctrl 13 3 ≠ 0 ∨ bitAt w.ctrl 7 = true ∨ fld w.gzFirst 22 10 ≠ 0 ∨ (w.gazMode = false ∧ w.gzFirst ≠ 0)
      ∨ (w.gazMode = true ∧ w.target ≠ 0) then 1
  else if 0xB800 ≤ w.handle then 2
  else if 1 < fld w.ctrl 2 2 ∨ w.granuleCode = 3 ∨ w.base % w.granule ≠ 0 ∨ w.size % w.granule ≠ 0
      ∨ w.target % w.granule ≠ 0 ∨ w.size = 0
      ∨ (w.gazMode = true ∧ 4194304 < fld w.gzFirst 0 22 + w.size / w.granule) ∨ partDef w.partition = false then 3
  else 0

/-- Two valid windows overlap: imports of one partition, or exports of one handle (R302). -/
def winOverlap (a b : Win) : Bool :=
  a.valid && b.valid && a.isExport == b.isExport &&
  (if a.isExport then a.handle == b.handle else a.partition == b.partition) &&
  decide (a.base < b.base + b.size) && decide (b.base < a.base + a.size)

/-- The 32 bytes of a window as an entry, and back as words. -/
def Win.ofBytes (bs : List Nat) : Win :=
  { ctrl := leAt bs 0 4, gzFirst := leAt bs 4 4, base := leAt bs 8 8, size := leAt bs 16 8, target := leAt bs 24 8 }

/-- Word `k` (0 to 7) of a window entry, and the entry with that word written. -/
def Win.word (w : Win) (k : Nat) : Nat :=
  match k with
  | 0 => w.ctrl | 1 => w.gzFirst | 2 => fld w.base 0 32 | 3 => fld w.base 32 32
  | 4 => fld w.size 0 32 | 5 => fld w.size 32 32 | 6 => fld w.target 0 32 | _ => fld w.target 32 32

/-- Replace the low or the high half of a 64-bit value. -/
def setHalf (v : Nat) (high : Bool) (x : Nat) : Nat :=
  if high then v % 2 ^ 32 + x % 2 ^ 32 * 2 ^ 32 else v / 2 ^ 32 * 2 ^ 32 + x % 2 ^ 32

/-! ### Boundary rules (Table 12.3) -/

/-- A Boundary rule. -/
structure Rule where
  ctrl : Nat := 0
  req : Nat := 0
  base : Nat := 0
  limit : Nat := 0
  rsvd : Nat := 0
  /-- The entry is unreadable: it matches every access and denies it (R401). -/
  bad : Bool := false
deriving DecidableEq, Repr, Inhabited

def Rule.valid (r : Rule) : Bool := bitAt r.ctrl 31
def Rule.allowsRead (r : Rule) : Bool := bitAt r.ctrl 30
def Rule.allowsWrite (r : Rule) : Bool := bitAt r.ctrl 29
def Rule.prefetch (r : Rule) : Bool := bitAt r.ctrl 28
def Rule.hostSpace (r : Rule) : Bool := bitAt r.ctrl 27
def Rule.partition (r : Rule) : Nat := fld r.ctrl 8 5
def Rule.kindBit (r : Rule) (k : Nat) : Bool := bitAt r.ctrl (20 + k)
def Rule.switchAny (r : Rule) : Bool := bitAt r.req 31
def Rule.reqSwitch (r : Rule) : Nat := fld r.req 16 12
def Rule.partAny (r : Rule) : Bool := bitAt r.req 15
def Rule.reqPart (r : Rule) : Nat := fld r.req 8 5

/-- Check of a rule (Table 12.5): only a VALID rule is checked. -/
def ruleCheck (partDef : Nat → Bool) (r : Rule) : FmtCode :=
  if !r.valid then 0
  else if fld r.ctrl 24 3 ≠ 0 ∨ fld r.ctrl 13 7 ≠ 0 ∨ fld r.ctrl 0 8 ≠ 0 ∨ fld r.req 28 3 ≠ 0 ∨ fld r.req 13 2 ≠ 0
      ∨ fld r.req 0 8 ≠ 0 ∨ r.rsvd ≠ 0 ∨ fld r.base 0 12 ≠ 0 ∨ fld r.limit 0 12 ≠ 0xFFF ∨ r.limit < r.base
      ∨ (r.hostSpace = false ∧ (2 ^ 57 ≤ r.base ∨ 2 ^ 57 ≤ r.limit)) ∨ (r.hostSpace = false ∧ r.partition ≠ 0) then 1
  else if r.hostSpace = true ∧ partDef r.partition = false then 2
  else 0

def Rule.ofBytes (bs : List Nat) : Rule :=
  { ctrl := leAt bs 0 4, req := leAt bs 4 4, base := leAt bs 8 8, limit := leAt bs 16 8, rsvd := leAt bs 24 8 }

/-- Word `k` (0 to 7) of a rule. -/
def Rule.word (r : Rule) (k : Nat) : Nat :=
  match k with
  | 0 => r.ctrl | 1 => r.req | 2 => fld r.base 0 32 | 3 => fld r.base 32 32
  | 4 => fld r.limit 0 32 | 5 => fld r.limit 32 32 | 6 => fld r.rsvd 0 32 | _ => fld r.rsvd 32 32

/-- A valid rule's range meets [lo, hi] of a space. -/
def Rule.meets (r : Rule) (host : Bool) (q lo hi : Nat) : Bool :=
  r.valid && r.hostSpace == host && (!host || r.partition == q) && decide (r.base ≤ hi) && decide (lo ≤ r.limit)

end Sys2Proof.Machine
end

