-- ==== Sys2Proof/Machine/TableData.lean ====
section
/-! DEFINITION. The tables of the table complex with their staged groups (R25, R239, R305, R387): the copies in force,
the shadow writes since the last accepted commit, and what an accepted commit will bring into force. -/

namespace Sys2Proof.Machine

/-- A staged group whose entries are `V` (R239, R240). A read returns the shadow copy: the entry written since the last
accepted commit, else the pending one, else the one in force. -/
structure Grp (V : Type) where
  dirty : Tab (Option V) := []
  pend : Tab (Option V) := []
  /-- Port key of the port that last wrote any field of the group. -/
  lastPort : Option Nat := none
  /-- An accepted commit awaits its tick. -/
  pending : Bool := false
deriving DecidableEq, Repr, Inhabited

/-- What the shadow copy holds at `i`, with `act` in force. -/
def Grp.read {V : Type} (g : Grp V) (i : Nat) (act : V) : V :=
  match g.dirty.rd i with
  | some v => v
  | none => match g.pend.rd i with
    | some v => v
    | none => act

/-- Write shadow entry `i`, with `act` in force: an entry that stands again as it was accepted is no change (R240). -/
def Grp.write {V : Type} [DecidableEq V] (g : Grp V) (port i : Nat) (v act : V) : Grp V :=
  { g with dirty := g.dirty.wr i (if v = (g.pend.rd i).getD act then none else some v), lastPort := some port }

/-- The entries a commit would bring into force. -/
def Grp.changes {V : Type} (g : Grp V) : List (Nat × V) :=
  g.dirty.filterMap (fun e => e.2.map (fun v => (e.1, v)))

/-- The shadow changes become pending (R239). -/
def Grp.accept {V : Type} [DecidableEq V] (g : Grp V) : Grp V :=
  { g with pend := g.changes.foldl (fun t e => t.wr e.1 (some e.2)) g.pend, dirty := [], pending := true }

/-- The pending entries have taken effect. -/
def Grp.effect {V : Type} (g : Grp V) : Grp V := { g with pend := [], pending := false }

/-- Entries of a commit that still waits stay pending. -/
def Grp.keep {V : Type} [DecidableEq V] (g : Grp V) (es : List (Nat × V)) : Grp V :=
  { g with pend := es.foldl (fun t e => t.wr e.1 (some e.2)) g.pend, pending := true }

/-- A commit from a port other than the last writer is rejected with FOREIGN_STAGE, unless no field has changed since
the last accepted commit (R240). -/
def Grp.foreign {V : Type} (g : Grp V) (port : Nat) : Bool :=
  match g.lastPort with
  | none => false
  | some k => !g.changes.isEmpty && k != port

/-- The fabric block's tables and control (Table 9.9). -/
structure FabSt where
  returnTicks : Nat := 1024
  hopLimit : Nat := 16
  /-- INCARNATION, drawn at run-mode entry (R291). -/
  incarnation : Nat := 0
  flowHold : Nat := 64
  bridgeTimeout : Nat := 50
  rbTimeout : Nat := 100
  /-- FABRIC_COMMIT_STATUS.REJECTED and CODE, and FABRIC_COMMIT_DETAIL. -/
  rejected : Nat := 0
  code : Nat := 0
  detail : Nat := 0
  noRoute : Nat := 0
  hopExpired : Nat := 0
  flowDup : Nat := 0
  flowGap : Nat := 0
  pktCrcErr : Nat := 0
  xlateMiss : Nat := 0
  lateCpl : Nat := 0
  badKind : Nat := 0
  win : Tab Win := []
  winGrp : Grp Win := {}
  gaz : Tab Nat := []
  gazGrp : Grp Nat := {}
  bearing : Tab Nat := []
  bearingGrp : Grp Nat := {}
  rid : Tab Nat := []
  ridGrp : Grp Nat := {}
deriving DecidableEq, Repr, Inhabited

/-- Key of rule `i` of the central table and of gate `g`, and of the tables themselves. -/
def ruleKey (table i : Nat) : Nat := if table = 0xFF then i else 16384 + 128 * table + i

/-- The Boundary block (Table 12.6). -/
structure BndSt where
  /-- BOUNDARY_CONFIG.MODE: true is gate mode (R377). -/
  gateMode : Bool := false
  epoch : Nat := 0
  rule : Tab Rule := []
  /-- The staged group of each table: 0xFF central, g a gate. -/
  grp : Tab (Grp Rule) := []
  code : Nat := 0
  detail : Nat := 0
  gate : Nat := 0
  denied : Nat := 0
  noMatch : Nat := 0
  debugDenied : Nat := 0
  /-- RULE_COUNT words by rule key: [31:16] DENIED, [15:0] PREFETCH_DISCARD. -/
  count : Tab Nat := []
  /-- Accesses in flight by epoch (R391). -/
  flight : Tab Nat := []
  /-- Rules and locked regions already recorded in this tick (R386). -/
  ruleLogged : Tab Bool := []
  regionLogged : Tab Bool := []
deriving DecidableEq, Repr, Inhabited

/-- A commit accepted and waiting for its boundary, in the order of acceptance (row 3 of Table 4.5). -/
inductive Commit where
  | windows (es : List (Nat × Win))
  | gazetteer (es : List (Nat × Nat))
  | bearing (es : List (Nat × Nat))
  | rid (es : List (Nat × Nat))
  | rules (table : Nat) (es : List (Nat × Rule))
  /-- The commit step of the job in slot key `k`. -/
  | job (k : Nat)
  | shareWin (port : Nat)
  | shareAsg (port : Nat)
  /-- The SHARE_ASSIGN or bus numbers changed: the Routing-ID map follows (R314). -/
  | eq (lane : Nat)
deriving DecidableEq, Repr, Inhabited

end Sys2Proof.Machine
end

