-- ==== Sys2Proof/Machine/TickData.lean ====
section
/-! DEFINITION. The state of the survey tick, the step budgets and the jobs (chapter The Survey Tick and Step-Cut
Jobs, R100 to R126, R517, R518, R520). Times are in units of 62.5 ps, the unit of REMAIN (Table 4.1). -/

namespace Sys2Proof.Machine

/-- The tick states of Table 4.2. -/
inductive TickState where
  | acquiring | locked | holdover | freeRun | source
deriving DecidableEq, Repr, Inhabited

/-- What a follower remembers of one mark input (R104). Inputs are numbered 0 and 1 for the SRI pairs and
16 + P for S port P. -/
structure TickInput where
  /-- Accepted marks have come from this input. -/
  seen : Bool := false
  sourceId : Nat := 0
  depth : Nat := 0
  holdover : Bool := false
  /-- Boundaries since its last accepted mark. -/
  age : Nat := 0
  /-- Consecutive boundaries at which it ranked first without being the parent. -/
  first : Nat := 0
  /-- TICK_PERIOD_MISMATCH was recorded for it. -/
  mismatch : Bool := false
  /-- TICK_SOURCE_CONFLICT was recorded for it. -/
  conflict : Bool := false
deriving DecidableEq, Repr, Inhabited

/-- The tick unit (Tables 4.1 to 4.4). -/
structure TickSt where
  state : TickState := .acquiring
  /-- The device has joined the survey tick (last row of Table 3.9). -/
  joined : Bool := false
  /-- At least one boundary has passed (R517). -/
  started : Bool := false
  /-- TICK_NUMBER: the number of the last boundary. -/
  number : Nat := 0
  /-- The number that the next boundary takes. -/
  nextNumber : Nat := 0
  /-- Instants of the last and the next boundary. -/
  last : Nat := 0
  next : Nat := 0
  /-- Parent input, and the fields of its marks (R518). -/
  parent : Option Nat := none
  sourceId : Nat := 0
  depth : Nat := 0
  inputs : Tab TickInput := []
  /-- An accepted mark or edge has announced the coming boundary. -/
  announced : Bool := false
  /-- Consecutive accepted marks from the parent, or consecutive edges one period apart. -/
  run : Nat := 0
  /-- Delay exchanges done since acquisition, parent change or loss of signal, 8 at most. -/
  exchanges : Nat := 0
  /-- The last 8 measured hop delays, newest first. -/
  delays : List Nat := []
  /-- t1 of the exchanges that wait for their response, by ID. -/
  open_ : Tab (Option Nat) := []
  nextId : Nat := 0
  /-- Boundaries since the last exchange began. -/
  sinceExchange : Nat := 0
  /-- TICK_OFFSET in ps. -/
  offsetPs : Int := 0
  /-- Slew and step corrections still to be made, in units (R111). -/
  slew : Int := 0
  stepLeft : Int := 0
  /-- The parent's number to adopt when the step ends. -/
  adopt : Option Nat := none
  /-- An edge of TICK_IN came just before the boundary it belongs to: the instant of the boundary after that one. -/
  after : Option Nat := none
  /-- TICK_PIN_DELAY in ps. -/
  pinDelay : Nat := 0
  /-- TICK_NUMBER_LOAD: the value last written, and one waiting for the next edge. -/
  numberReg : Nat := 0
  numberLoad : Option Nat := none
  /-- The learned rate (R110): so many units for so many periods; the instant from which it is measured, with the boundaries
  since; what the periods placed so far have left over, in units by the number of periods. -/
  learned : Option (Nat × Nat) := none
  rateFrom : Option (Nat × Nat) := none
  rateRest : Nat := 0
  /-- The last TICK_IN edge, and the instant at which the next is predicted. -/
  lastEdge : Option Nat := none
  /-- TICK_LOSS_COUNT. -/
  loss : Nat := 0
  /-- Step budgets (R116, R117): carry, cycles in force, ticks with overrun, window open, by core. -/
  carry : Tab Nat := []
  inForce : Tab Nat := []
  overrunTicks : Tab Nat := []
  windowOpen : Tab Bool := []
deriving DecidableEq, Repr, Inhabited

/-- JOB[s].STATUS.STATE (Table 4.8). -/
inductive JobState where
  | free | queued | running | committing | done | failed | cancelled
deriving DecidableEq, Repr, Inhabited

/-- One job (Tables 4.6 to 4.10). -/
structure Job where
  state : JobState := .free
  internal : Bool := false
  source : Nat := 0
  op : Nat := 0
  arg0 : Nat := 0
  arg1 : Nat := 0
  arg2 : Nat := 0
  arg3 : Nat := 0
  /-- Partition of the submitting Tenant port (R122); none for any other submitter. -/
  tenant : Option Nat := none
  /-- Partition whose host space a load reads (R126). -/
  space : Nat := 0
  progress : Nat := 0
  total : Nat := 0
  result : Nat := 0
  detail : Nat := 0
  /-- CANCEL, and the end that containment asks for (R86). -/
  cancel : Bool := false
  abandon : Bool := false
  /-- Submission order (R123). -/
  order : Nat := 0
  /-- It holds a job lock (R118). -/
  locked : Bool := false
  /-- Entries staged by its load steps: index and value. -/
  staged : Tab Nat := []
  /-- Words of the entries staged, for entries wider than 8 bytes. -/
  stagedWide : Tab (List Nat) := []
  /-- The step of a repair job that comes next, and what it carries. -/
  phase : Nat := 0
  aux : Nat := 0
deriving DecidableEq, Repr, Inhabited

/-- The job block (R119 to R126). Slots are keyed 0 to 63, jobs without a slot from 64 on (R520). -/
structure JobSt where
  slot : Tab Job := []
  /-- Generation of each slot less 1. -/
  gen : Tab Nat := []
  nextOrder : Nat := 1
  nextSlotless : Nat := 64
  /-- Submission order of the job that had the last round-robin turn. -/
  lastTurn : Nat := 0
  /-- The job whose step the SVC suspended when its window closed (R117). -/
  suspended : Option Nat := none
deriving DecidableEq, Repr, Inhabited

end Sys2Proof.Machine
end

