-- ==== Sys2Proof/Machine/Dev.lean ====
section
/-! DEFINITION. The whole device: one field per block of Table 1.1, the state kept per command port, and the model's own
records (time, what left the block, the free-value counter). -/

namespace Sys2Proof.Machine

/-- The device. `now` is time in units of 62.5 ps: one DCLK cycle is 10 units, one MCLK cycle 20. `out` records what
left the block, newest first. `freeCtr` counts the free values drawn. These three are the model's own. -/
structure Dev where
  now : Nat := 0
  part : PartCfg := {}
  mode : ModeSt := {}
  plat : PlatSt := {}
  run : RunCfg := {}
  nb : NeighbourSt := {}
  tick : TickSt := {}
  jobs : JobSt := {}
  cores : CoreSt := {}
  port : Tab PortSt := []
  sight : SightSt := {}
  bus : BusSt := {}
  pkg : PackageSt := {}
  pcie : PcieSt := {}
  ln : LinkSt := {}
  sw : SwSt := {}
  tally : TallySt := {}
  trav : TravSt := {}
  fab : FabSt := {}
  bnd : BndSt := {}
  cont : ContSt := {}
  /-- The commits that wait, in the order of acceptance; those marked came in the tick MCLK cycle of the coming boundary, or
  later, and wait for the one after it (R32). -/
  commits : List (Bool × Commit) := []
  cairn : CairnSt := {}
  evt : EventSt := {}
  cnt : CounterSt := {}
  out : List Out := []
  freeCtr : Nat := 0
deriving DecidableEq, Repr, Inhabited

end Sys2Proof.Machine
end

