-- ==== Sys2Proof/Machine/Blocks.lean ====
section
/-! DEFINITION. The line coding of Sherix lanes and the test patterns: 66-bit blocks and their control types (R129, R131),
the self-synchronising scrambler (R130), the Gray code of the PAM4 levels (R128) and the PRBS patterns (R158). Bits in a
number stand in the order in which they are sent: bit 0 first. -/

namespace Sys2Proof.Machine

/-! ### Blocks (R129, R131, Table 5.2) -/

/-- Sync headers: a data block sends 0 then 1, a control block 1 then 0. -/
def dataHeader : Nat := 2
def ctrlHeader : Nat := 1

/-- A 66-bit block: header in bits 0 and 1, payload bits 0 to 63 in bits 2 to 65. -/
def mkBlock (header payload : Nat) : Nat := header + 4 * (payload % 2 ^ 64)
def blockHeader (b : Nat) : Nat := b % 4
def blockPayload (b : Nat) : Nat := b / 4 % 2 ^ 64

/-- Blocks from their headers and payloads, in order. -/
def lineBlocks (heads loads : List Nat) : List Nat := List.zipWith (fun h p => mkBlock (h % 4) p) heads loads

/-- Headers 00 and 11 are invalid. -/
def headerValid (b : Nat) : Bool := blockHeader b == dataHeader || blockHeader b == ctrlHeader

/-- The type field of a control block's payload. -/
def payloadType (p : Nat) : Nat := p % 256

/-- The payloads of the four control blocks; fields not named are zero. -/
def idlePayload : Nat := 0x1E
def alignPayload (logical width seq : Nat) : Nat :=
  pack [(0, 0x4B), (8, logical % 32), (16, width % 8), (24, seq % 2 ^ 32)]
def trainPayload (b : TrainBlk) : Nat :=
  pack [(0, 0x55), (8, b.logical % 32), (13, b.rate % 4), (16, b.state % 16), (20, b.preReq % 4), (22, b.postReq % 4),
        (24, b.fom % 256), (32, b.ack % 4), (34, b.spareOk % 4)]
def swapPayload (ack : Bool) (b : SwapBlk) : Nat :=
  pack [(0, 0x66), (8, b2n ack), (13, b.logical % 32), (18, b.spare % 2), (19, b2n b.refused), (20, b.switchId % 4096)]

def idleBlock : Nat := mkBlock ctrlHeader idlePayload
def alignBlock (logical width seq : Nat) : Nat := mkBlock ctrlHeader (alignPayload logical width seq)
def trainBlock (b : TrainBlk) : Nat := mkBlock ctrlHeader (trainPayload b)
def swapBlock (ack : Bool) (b : SwapBlk) : Nat := mkBlock ctrlHeader (swapPayload ack b)
def dataBlock (w : Nat) : Nat := mkBlock dataHeader w

/-! ### Scrambler x^58 + x^39 + 1 (R130)

The state is the last 58 bits on the line, the newest in bit 57. -/

/-- Scramble the low `m` bits of `x`, `m` at most 39: the new state and the line bits. -/
def scramChunk (m s x : Nat) : Nat × Nat :=
  let out := Nat.xor (Nat.xor x (s / 2 ^ 19)) s % 2 ^ m
  ((s + out * 2 ^ 58) / 2 ^ m, out)

/-- Scramble one payload. -/
def scramWord (s x : Nat) : Nat × Nat :=
  let (s1, lo) := scramChunk 32 s (x % 2 ^ 32)
  let (s2, hi) := scramChunk 32 s1 (x / 2 ^ 32 % 2 ^ 32)
  (s2, lo + 2 ^ 32 * hi)

/-- Scramble the payloads of blocks in order; sync headers go out as they are. -/
def scramBlocks (s : Nat) (bs : List Nat) : Nat × List Nat :=
  match bs with
  | [] => (s, [])
  | b :: r =>
    let (s1, w) := scramWord s (blockPayload b)
    let (s2, ws) := scramBlocks s1 r
    (s2, mkBlock (blockHeader b) w :: ws)

/-- Descramble one payload: the new state and the payload. It is right once 58 payload bits have come in. -/
def descramWord (s w : Nat) : Nat × Nat :=
  let r := s + w * 2 ^ 58
  (r / 2 ^ 64, Nat.xor (Nat.xor w (r / 2 ^ 19)) r % 2 ^ 64)

/-- Descramble blocks in order. -/
def descramBlocks (s : Nat) (bs : List Nat) : Nat × List Nat :=
  match bs with
  | [] => (s, [])
  | b :: r =>
    let (s1, x) := descramWord s (blockPayload b)
    let (s2, xs) := descramBlocks s1 r
    (s2, mkBlock (blockHeader b) x :: xs)

/-! ### PAM4 levels (R128) -/

/-- The first bits of `n` pairs. -/
def pairMask (n : Nat) : Nat := (4 ^ n - 1) / 3

/-- The levels of `n` bit pairs, two bits a level: 00, 01, 11 and 10, first bit more significant, are 0, 1, 2 and 3. -/
def grayLevels (n w : Nat) : Nat :=
  let first := Nat.land w (pairMask n)
  let second := Nat.land (w / 2) (pairMask n)
  2 * first + Nat.xor first second

/-- The bit pairs of `n` levels. -/
def grayBits (n l : Nat) : Nat :=
  let first := Nat.land (l / 2) (pairMask n)
  first + 2 * Nat.xor (Nat.land l (pairMask n)) first

/-- A block on the line. -/
def onLine (pam4 : Bool) (b : Nat) : Nat := if pam4 then grayLevels 33 b else b

/-! ### PRBS (R158) -/

/-- Taps of the patterns by their code in PRBS_CTRL: x^7 + x^6 + 1, x^13 + x^12 + x^2 + x + 1, x^31 + x^28 + 1. -/
def prbsTaps (code : Nat) : List Nat := if code = 1 then [7, 6] else if code = 2 then [13, 12, 2, 1] else [31, 28]
def prbsOrder (code : Nat) : Nat := (prbsTaps code).headD 31

/-- The next bit after the last `order` bits `s`, the newest in the highest place. -/
def prbsNext (code s : Nat) : Nat :=
  ((prbsTaps code).foldl (fun a k => a + b2n (bitAt s (prbsOrder code - k))) 0) % 2

/-- The `n` bits that follow the bits `s`. -/
def prbsRun (code n s : Nat) : Nat :=
  match n with
  | 0 => 0
  | n + 1 =>
    let b := prbsNext code s
    b + 2 * prbsRun code n (s / 2 + b * 2 ^ (prbsOrder code - 1))

/-- A received run seeds the checker with its first bits and 128 error-free bits follow. -/
def prbsHolds (code run : Nat) : Bool :=
  let seed := run % 2 ^ prbsOrder code
  seed != 0 && run / 2 ^ prbsOrder code % 2 ^ 128 == prbsRun code 128 seed

/-! ### PCI Express transmit presets (R136) -/

/-- Pre-cursor and post-cursor of presets 0 to 10 of the PCI Express specification with FS = 48 and LF = 12, in units of
1/48 (PRESUMED: the specification's ratios, rounded; notes/assumptions/68.md). -/
def pciePreset : List (Nat × Nat) :=
  [(0, 12), (0, 8), (0, 10), (0, 6), (0, 0), (5, 0), (6, 0), (5, 10), (6, 6), (8, 0), (0, 18)]

/-- The coefficient set that a training set asks for: a preset, or coefficients within the specification's rules for
FS = 48 and LF = 12; none for a request that is rejected. -/
def EqTs.coefs (e : EqTs) : Option (Nat × Nat) :=
  if e.usePreset then pciePreset[e.preset]?
  else if e.pre ≤ 12 ∧ e.pre + e.main + e.post = 48 ∧ 12 + e.pre + e.post ≤ e.main then some (e.pre, e.post)
  else none

end Sys2Proof.Machine
end

