-- ==== Sys2Proof/Machine/SerialOut.lean ====
section
/-! DEFINITION. The line form of what leaves on the serial pins: frames and marks of the service ring as 66-bit blocks on
the SRO pairs (R461, R462, Tables 15.4 and 15.5) and the response bytes of the Sighting port on SLIO (R472). -/

namespace Sys2Proof.Machine

/-! ### CRC-8, polynomial 0x07 (R461, R472)

The bits of a byte enter most significant first, as in the ordinary CRC-8 (PRESUMED; notes/assumptions/75.md). -/

def crc8Bit (c : Nat) : Nat := if 128 ≤ c then Nat.xor (2 * c % 256) 7 else 2 * c
def crc8Byte (c b : Nat) : Nat := iter 8 crc8Bit (Nat.xor c (b % 256))
def crc8 (bs : List Nat) : Nat := bs.foldl crc8Byte 0

/-! ### Service ring frames (R461) -/

def sofPayload (type word len : Nat) : Nat := pack [(0, 0x33), (8, type % 256), (16, len / 8 % 2 ^ 16), (32, word % 2 ^ 32)]
def segEndPayload (crc : Nat) (last : Bool) : Nat := pack [(0, 0x4B), (8, crc % 2 ^ 32), (40, b2n last)]

/-- One segment: its data blocks and its SEG_END, whose CRC-32C covers `before` and the segment. -/
def segBlocks (before seg : List Nat) (last : Bool) : List Nat :=
  (List.range (seg.length / 8)).map (fun i => dataBlock (leAt seg (8 * i) 8)) ++
    [mkBlock ctrlHeader (segEndPayload (crc32c (before ++ seg)) last)]

/-- The segments of a body after the first `n`, of 256 B each but the last. -/
def segsBlocks (n : Nat) (before body : List Nat) : List Nat :=
  match n with
  | 0 => segBlocks before body true
  | n + 1 => segBlocks before (body.take 256) false ++ segsBlocks n [] (body.drop 256)

/-- A frame whose body is a whole number of 8 B units. A frame without a body has one SEG_END, over SOF bytes 1 to 7
(DEDUCED; notes/assumptions/75.md). -/
def frameBlocks (type word : Nat) (body : List Nat) : List Nat :=
  let sof := sofPayload type word body.length
  mkBlock ctrlHeader sof :: segsBlocks ((body.length - 1) / 256) ((toLe 8 sof).drop 1) body

/-- One segment of the DATA frame of a chunk: the image's byte `off` on, of `total`; SOF stands before the first (R96,
Table 15.5). -/
def dataBlocks (off total : Nat) (seg : List Nat) : List Nat :=
  let rel := off % 65536
  let len := min 65536 (total - (off - rel))
  let sof := sofPayload 0x25 (off - rel) len
  if rel = 0 then mkBlock ctrlHeader sof :: segBlocks ((toLe 8 sof).drop 1) seg (seg.length == len)
  else segBlocks [] seg (rel + seg.length == len)

/-- A tick mark: MARK_A and MARK_B (Table 15.4). -/
def markBlocks (sourceId depth period : Nat) (holdover : Bool) (number remain : Nat) : List Nat :=
  let a := pack [(0, 0x66), (8, number % 2 ^ 56)]
  let f := pack [(0, sourceId % 2 ^ 12), (12, depth % 32), (17, period % 8), (20, b2n holdover), (21, remain % 2 ^ 24)]
  [mkBlock ctrlHeader a, mkBlock ctrlHeader (pack [(0, 0x78), (8, f), (53, crc8 (toLe 8 a ++ toLe 6 f))])]

/-- Whole 8 B units. -/
def padded8 (body : List Nat) : List Nat := body ++ List.replicate ((8 - body.length % 8) % 8) 0

/-- An alarm as the Haldion originates it, with HOPS 4,095 (R463). -/
def alarmBody (switch src : Nat) : List Nat := toLe 2 switch ++ toLe 2 src ++ toLe 2 4095 ++ [0, 0]

/-- The pairs on which it leaves, the last first, and the blocks before the scrambler; none for what does not leave on an
SRO pair. WORD of a COMMAND, a RESPONSE and an ALARM is zero (DESIGN CHOICE; notes/assumptions/75.md). -/
def Out.ringBlocks : Out → List (Nat × List Nat)
  | .alarm switch src => let bs := frameBlocks 0x18 0 (alarmBody switch src); [(1, bs), (0, bs)]
  | .neighbour pair msg => [(pair, frameBlocks (msg.headD 0) (leAt msg 4 4) (padded8 (msg.drop 8)))]
  | .mark dst sourceId depth period holdover number remain =>
    if dst < 2 then [(dst, markBlocks sourceId depth period holdover number remain)] else []
  | .delayReq dst id => if dst < 2 then [(dst, frameBlocks 0x02 (id % 16) [])] else []
  | .delayResp dst id t3t2 => if dst < 2 then [(dst, frameBlocks 0x03 (id % 16) (toLe 8 t3t2))] else []
  | .ring pair bytes => [(pair, frameBlocks (bytes.headD 0) 0 (bytes.drop 1))]
  | _ => []

/-- What the scrambler of SRO pair `pair` holds as a frame begins, `n` things having left before: IDLE blocks fill every
gap (R461), and how many there were is time, so the value is free (R130; notes/assumptions/75.md). -/
def sroSeed (pair n : Nat) : Nat := Config.sroSeed (2 * n + pair) % 2 ^ 58

/-- The response frame of the Sighting port: ACK, STATUS, DATA and the CRC over both (R472). -/
def sightFrame (status : Nat) (data : List Nat) : List Nat := 0x5A :: status % 256 :: data ++ [crc8 (status % 256 :: data)]

/-- The line form of one thing that leaves, `n` things having left before it. -/
def Out.onLine (n : Nat) (o : Out) : List Out :=
  match o with
  | .response port status data => if port = CmdPort.sighting.key then [.slio (sightFrame status data)] else []
  | o => o.ringBlocks.map (fun x => .sro x.1 (scramBlocks (sroSeed x.1 n) x.2).2)

/-- A DATA message leaves after `old`, as one segment of the frame of its chunk. -/
def withData (old : List Out) (pair off total : Nat) (seg : List Nat) : List Out :=
  .neighbour pair (neighbourMsg 0x25 off seg) :: .sro pair (scramBlocks (sroSeed pair old.length) (dataBlocks off total seg)).2 :: old

/-- `os`, newest first, leave after `old`: each is followed in the list by its line form. -/
def withLines (old : List Out) : List Out → List Out
  | [] => old
  | o :: os =>
    let t := withLines old os
    o :: (o.onLine t.length ++ t)

end Sys2Proof.Machine
end

