-- ==== Sys2Proof/Machine/Ops.lean ====
section
/-! DEFINITION. Operations that every block uses: the part's geometry, modes, time, performance counting, event
sources, MSI-X messages and the writing of Cairn records. -/

namespace Sys2Proof.Machine

/-! ### The part (R1, R2, R5) -/

/-- Tiles present on the variant (Table 0.1). -/
def Variant.tiles : Variant → Nat
  | .hl7144 => 9
  | .hl7080 => 5

def Dev.is7144 (d : Dev) : Bool := d.part.variant == .hl7144
def Dev.tiles (d : Dev) : Nat := d.part.variant.tiles
def Dev.ports (d : Dev) : Nat := 8 * d.tiles

/-- Lane `n` of tile `t` is usable (Table 2.2, LANE_MAP). -/
def Dev.laneUsable (d : Dev) (t n : Nat) : Bool :=
  decide (t < d.tiles) && (decide (n < 16) || (decide (n < 18) && !bitAt d.part.laneOff (2 * t + (n - 16))))

/-- PORT_KIND-independent name of a physical element: the tile and slot of port `p` (R5). -/
def portTile (p : Nat) : Nat := p / 8
def portSlot (p : Nat) : Nat := p % 8

/-! ### Modes (Table 1.5) -/

/-- MODE_STATUS.BASE of a base mode (Table 3.4); M0 has none. -/
def Mode.num : Mode → Nat
  | .m0 => 0 | .m1 => 1 | .m2 => 2 | .m3 => 3 | .m4 => 4 | .m5 => 5 | .m6 => 6 | .m7 => 7 | .m10 => 10

/-- M3 to M7. -/
def Mode.isRun : Mode → Bool
  | .m3 | .m4 | .m5 | .m6 | .m7 => true
  | _ => false

def Dev.inRun (d : Dev) : Bool := d.mode.base.isRun
def Dev.inRunOrTest (d : Dev) : Bool := d.mode.base.isRun || d.mode.base == .m10

/-- The base mode that RUN_MODE names. -/
def Mode.ofNum (n : Nat) : Option Mode :=
  if n = 3 then some .m3 else if n = 4 then some .m4 else if n = 5 then some .m5 else if n = 6 then some .m6
  else if n = 7 then some .m7 else if n = 10 then some .m10 else none

/-- Role of tile `t` in force: 0 Off, 1 H, 2 S (Table 2.7). -/
def Dev.role (d : Dev) (t : Nat) : Nat := (d.run.tile.rd t).role

/-- Lanes of the port that a width code cuts (R55). -/
def widthOf (code : Nat) : Nat := if code = 0 then 0 else 2 ^ code

/-- Lanes of port `p`; 0 when its slot starts no port. -/
def Dev.cutWidth (d : Dev) (p : Nat) : Nat := widthOf (d.run.cut.rd p)

/-- Port `p` exists as an H port, or as an S port. -/
def Dev.isH (d : Dev) (p : Nat) : Bool := decide (p < d.ports) && d.role (portTile p) == 1 && d.cutWidth p != 0
def Dev.isS (d : Dev) (p : Nat) : Bool := decide (p < d.ports) && d.role (portTile p) == 2 && d.cutWidth p != 0

/-- The S ports and the H ports of the cut, in ascending order. -/
def Dev.sPorts (d : Dev) : List Nat := (List.range d.ports).filter d.isS
def Dev.hPorts (d : Dev) : List Nat := (List.range d.ports).filter d.isH

/-- Partition whose upstream port is `p`. -/
def Dev.upstreamOf (d : Dev) (p : Nat) : Option Nat :=
  (List.range 24).find? (fun q => (d.run.part.rd q).present && (d.run.part.rd q).upstream == p)

/-- Partitions whose downstream map holds port `p` (R56). -/
def Dev.sharers (d : Dev) (p : Nat) : List Nat :=
  (List.range 24).filter (fun q => (d.run.part.rd q).present && bitAt (d.run.part.rd q).down p)

/-- A port in two or more downstream maps is a shared endpoint port, in M4, M5 and M7 (R56, R234). -/
def Dev.isShared (d : Dev) (p : Nat) : Bool :=
  decide (2 ≤ (d.sharers p).length) && (d.mode.base == .m4 || d.mode.base == .m5 || d.mode.base == .m7)

/-- The one partition of an upstream or non-shared port; 0x1F otherwise (Table 7.8). -/
def Dev.portPartition (d : Dev) (p : Nat) : Nat :=
  match d.upstreamOf p with
  | some q => q
  | none => match d.sharers p with
    | [q] => q
    | _ => 0x1F

/-- The anchor tile: the tile of partition 0's upstream port (R56). -/
def Dev.anchorPort (d : Dev) : Nat := (d.run.part.rd 0).upstream

/-! ### Time (R100, R101) -/

/-- Length of a tick period in units of 62.5 ps: 0.512 us x 2^PERIOD (R57). -/
def periodUnits (code : Nat) : Nat := 8192 * 2 ^ code
def Dev.period (d : Dev) : Nat := periodUnits d.run.tickPeriod

/-- The MCLK cycle of the present instant: MCLK has a period of 20 units (R28). -/
def Dev.mclk (d : Dev) : Nat := d.now / 20

/-- The tick MCLK cycle of the coming boundary has begun: it contains the first DCLK cycle at or after the boundary (R101). -/
def Dev.tickCycleHere (d : Dev) : Bool := d.tick.joined && decide ((d.tick.next + 9) / 10 * 10 / 20 ≤ d.mclk)

/-- An accepted commit waits for its boundary: the coming one, or the one after it (R32). Of a share group or a lane's pair
the later commit replaces the earlier (R241). -/
def Dev.queueCommit (d : Dev) (c : Commit) : Dev :=
  let once := match c with
    | .shareWin _ => true
    | .shareAsg _ => true
    | .eq _ => true
    | _ => false
  { d with commits := (if once then d.commits.filter (fun x => x.2 != c) else d.commits) ++ [(d.tickCycleHere, c)] }

/-- Units in a microsecond. -/
def usUnits : Nat := 16000

/-- DCLK cycles from the last boundary to now, for OFFSET (Table 14.1). -/
def Dev.offset (d : Dev) : Nat := (d.now - d.tick.last) / 10 % 2 ^ 24

/-- The TICK and OFFSET that a record written now carries: zero before the first boundary (R425, R517). -/
def Dev.stampTick (d : Dev) : Nat := if d.tick.started then d.tick.number else 0
def Dev.stampOffset (d : Dev) : Nat := if d.tick.started then d.offset else 0

/-! ### Function keys and MSI-X (R219) -/

def fnUp (q : Nat) : Nat := q
def fnMgmt (q : Nat) : Nat := 32 + q
def fnEngine (q : Nat) : Nat := 64 + q
def fnView (q : Nat) : Nat := 96 + q
def fnPf : Nat := 128
def fnVf (n : Nat) : Nat := 1024 + n
def fnDown (q p : Nat) : Nat := 8192 + 72 * q + p

/-- Key of dword `w` of a function's configuration space. -/
def cfgKey (fn w : Nat) : Nat := 1024 * fn + w

/-- The Command register's Bus Master Enable and Memory Space Enable of a function. -/
def Dev.bme (d : Dev) (fn : Nat) : Bool := bitAt (d.pcie.cfg.rd (cfgKey fn 1)) 2
def Dev.mse (d : Dev) (fn : Nat) : Bool := bitAt (d.pcie.cfg.rd (cfgKey fn 1)) 1

/-- Dword of the MSI-X capability, at 0x0A0 on a management endpoint (Table 7.3) and on a service function
(Table 11.2). -/
def msixCap : Nat := 40

/-- Message Control: MSI-X Enable and Function Mask. -/
def Dev.msixEnabled (d : Dev) (fn : Nat) : Bool := bitAt (d.pcie.cfg.rd (cfgKey fn msixCap)) 31
def Dev.msixFnMask (d : Dev) (fn : Nat) : Bool := bitAt (d.pcie.cfg.rd (cfgKey fn msixCap)) 30

/-- Key of a vector of a function, and word `w` of its table entry; the mask bit resets to 1. -/
def msixKey (fn vec : Nat) : Nat := 4096 * fn + vec
def Dev.msixWord (d : Dev) (fn vec w : Nat) : Nat :=
  d.pcie.msixTab.rdD (4 * msixKey fn vec + w) (if w = 3 then 1 else 0)

/-- A message of this vector may leave: enabled, not masked, Bus Master Enable 1 (R219). -/
def Dev.msixOpen (d : Dev) (fn vec : Nat) : Bool :=
  d.msixEnabled fn && !d.msixFnMask fn && !bitAt (d.msixWord fn vec 3) 0 && d.bme fn

/-- What has left the block after `os`, newest first, each with its line form on the serial pins (R461, R472): while a rail
is low, and until PWRGD has been low after that, every driver is off and nothing leaves (R500). -/
def Dev.shown (d : Dev) (os : List Out) : List Out := if d.mode.railFail then d.out else withLines d.out os

/-- Something leaves the block. -/
def Dev.emit (d : Dev) (o : Out) : Dev := { d with out := d.shown [o] }

/-- The balls of tile `t` connect to the die: only those of T8 pass a package switch (R501). -/
def Dev.atDie (d : Dev) (t : Nat) : Bool := t != 8 || d.pkg.t8Die

/-- The transmit pair that the closed T8 bypass joins to the receive pair of lane `n` (R503). -/
def t8Mate (n : Nat) : Nat := if n < 8 then n + 8 else if n < 16 then n - 8 else 33 - n

/-- `what` arrives on lanes `ns` of tile `t`: the die does `f` with it, and a closed T8 bypass passes it lane for lane,
whatever the state of the part (R501, R503). -/
def Dev.lanesIn (d : Dev) (t : Nat) (ns what : List Nat) (f : Dev → Dev) : Dev :=
  if d.atDie t then f d
  else if ns.isEmpty || what.isEmpty then d
  else { d with out := .through (ns.map (fun n => 18 * t + t8Mate n)) what :: d.out }

/-- Signal a vector: its message leaves, or its pending bit sets (R219). -/
def Dev.msixSend (d : Dev) (fn vec : Nat) : Dev :=
  if d.msixOpen fn vec then
    d.emit (.msix fn vec (d.msixWord fn vec 0 + 2 ^ 32 * d.msixWord fn vec 1) (d.msixWord fn vec 2))
  else { d with pcie.msixPend := d.pcie.msixPend.wr (msixKey fn vec) true }

/-- A pending message is sent when its conditions hold (R219). -/
def Dev.msixRetry (d : Dev) (fn vec : Nat) : Dev :=
  if d.pcie.msixPend.rd (msixKey fn vec) && d.msixOpen fn vec then
    ({ d with pcie.msixPend := d.pcie.msixPend.wr (msixKey fn vec) false }).msixSend fn vec
  else d

/-! ### Event sources (R440 to R446) -/

/-- Source `s` can fire on this variant (R2, Table 14.3). -/
def Dev.sourcePresent (d : Dev) (s : Nat) : Bool :=
  d.is7144 || !((decide (0x060 + 40 ≤ s) && decide (s < 0x0C0)) || (decide (0x0C0 + 320 ≤ s) && decide (s < 0x300)))

/-- EVENT_STATUS bit of source `s`. -/
def Dev.evtBit (d : Dev) (s : Nat) : Bool := d.evt.status.getLsbD s

/-- Some source that drives EVT_N[n] has its status bit set (R445). -/
def EventSt.pinCond (e : EventSt) (n : Nat) : Bool :=
  e.route.any (fun r => bitAt r.2.evtMask n && e.status.getLsbD r.1)

/-- EVT_N[n] is driven low (R445, R500); HIGHZ releases it in M10 (R512). -/
def Dev.evtLow (d : Dev) (n : Nat) : Bool :=
  d.inRunOrTest && !d.mode.railFail && !(d.mode.base == .m10 && d.pkg.tap == .highz) &&
    (if bitAt d.evt.pulse n then bitAt d.evt.pulseLow n else d.evt.pinCond n)

/-- Pins in pulse mode whose condition rose from `old` to `new` start their 1 us pulse (R445). -/
def EventSt.startPulses (old new : EventSt) : EventSt :=
  (List.range 4).foldl (fun e n =>
    if bitAt e.pulse n && !old.pinCond n && new.pinCond n then { e with pulseLow := setBit e.pulseLow n } else e) new

/-- The endpoint that a source messages (R444). -/
def sourceEndpoint (s : Nat) : Nat := if 0x300 ≤ s ∧ s < 0x360 then (s - 0x300) / 4 else 0

/-- Send a routed vector, or hold it when it has sent one in this tick (R444). -/
def Dev.signalVector (d : Dev) (q vec : Nat) : Dev :=
  if d.mode.base == .m6 then d
  else if d.evt.vecSent.rd (32 * q + vec) then { d with evt.vecHeld := d.evt.vecHeld.wr (32 * q + vec) true }
  else ({ d with evt.vecSent := d.evt.vecSent.wr (32 * q + vec) true }).msixSend (fnMgmt q) vec

/-- Send the source's alarm, once per tick (R446). -/
def Dev.signalAlarm (d : Dev) (s : Nat) : Dev :=
  if d.evt.alarmSent.rd s then d
  else ({ d with evt.alarmSent := d.evt.alarmSent.wr s true }).emit (.alarm d.run.switchId s)

/-- Set the status bit of source `s`, whatever its route says (R442). -/
def EventSt.set (e : EventSt) (s : Nat) : EventSt :=
  e.startPulses { e with status := e.status ||| (1#1024 <<< s) }

/-- An event source fires (R442 to R446). -/
def Dev.fire (d : Dev) (s : Nat) : Dev :=
  if d.sourcePresent s then
    let r := d.evt.route.rd s
    let d1 := { d with evt := d.evt.set s }
    let d2 := if r.vecEn && !d.evtBit s then d1.signalVector (sourceEndpoint s) r.vector else d1
    if r.alarm then d2.signalAlarm s else d2
  else d

/-- Fire several sources in turn. -/
def Dev.fireAll (d : Dev) (ss : List Nat) : Dev := ss.foldl Dev.fire d

/-- The instance sources of families 3 to 5 (Table 14.4). -/
def srcTile (t c : Nat) : Nat := 0x060 + 8 * t + c
def srcPort (p c : Nat) : Nat := 0x0C0 + 8 * p + c
def srcPart (q c : Nat) : Nat := 0x300 + 4 * q + c

/-! ### Performance counting (R447 to R451) -/

/-- Fields of SEL (Table 14.10). -/
def Cnt.enabled (c : Cnt) : Bool := bitAt c.sel 31
def Cnt.chained (c : Cnt) : Bool := bitAt c.sel 30
def Cnt.edge (c : Cnt) : Bool := bitAt c.sel 29
def Cnt.event (c : Cnt) : Nat := fld c.sel 0 8

/-- The cycle index of counter `k`'s clock: MCLK for the management cluster, DCLK otherwise (R447). -/
def Dev.cntCycle (d : Dev) (k : Nat) : Nat := if 1104 ≤ k then d.now / 20 else d.now / 10

/-- Set OVF of counter `k`; the first setting in a tick fires COUNTER_OVF once (R451). -/
def Dev.setOvf (d : Dev) (k : Nat) : Dev :=
  let d1 := { d with cnt.tab := d.cnt.tab.upd k (fun c => { c with ovf := true }) }
  if d.cnt.ovfFired then d1 else ({ d1 with cnt.ovfFired := true }).fire 0x3C2

/-- The odd partner `k + 1` counts the wraps of counter `k` (R451). -/
def Dev.pairChained (d : Dev) (k : Nat) : Bool := d.is7144 && k % 2 == 0 && (d.cnt.tab.rd (k + 1)).chained

/-- What a wrap of counter `k` does: OVF, or the chained partner advances (R451). -/
def Dev.cntWrap (d : Dev) (k : Nat) : Dev :=
  if d.pairChained k then
    let c := d.cnt.tab.rd (k + 1)
    if c.enabled then
      let d1 := { d with cnt.tab := d.cnt.tab.wr (k + 1) { c with value := (c.value + 1) % 2 ^ 48 } }
      if c.value + 1 = 2 ^ 48 then d1.setOvf (k + 1) else d1
    else d
  else d.setOvf k

/-- Deliver the amount `v` of one cycle to counter `k` (R448). -/
def Dev.cntBump (d : Dev) (k v : Nat) : Dev :=
  if v = 0 then d
  else
    let c := d.cnt.tab.rd k
    let cyc := d.cntCycle k
    let add := if c.edge then (if c.lastCycle = cyc + 1 ∨ c.lastCycle = cyc then 0 else 1) else v
    let d1 := { d with cnt.tab := d.cnt.tab.wr k { c with value := (c.value + add) % 2 ^ 48, lastCycle := cyc + 1 } }
    if 2 ^ 48 ≤ c.value + add then d1.cntWrap k else d1

/-- Deliver an event to the enabled counters `lo` to `hi - 1` that select it; `amount` gives v from QUAL (R449). -/
def Dev.count (d : Dev) (lo hi ev : Nat) (amount : Nat → Nat) : Dev :=
  (d.cnt.tab.filter (fun kc => decide (lo ≤ kc.1) && decide (kc.1 < hi) && kc.2.enabled && kc.2.event == ev &&
      !(kc.2.chained && kc.1 % 2 == 1))).foldl (fun d kc => d.cntBump kc.1 (amount kc.2.qual)) d

/-- Count an event of tile `t`'s block at a slot and VC (Table 14.6). -/
def Dev.countTile (d : Dev) (t ev slot vc v : Nat) : Dev :=
  d.count (96 * t) (96 * t + 96) ev (fun q =>
    if ev = 5 then (if bitAt q (8 + vc) then v else 0)
    else if ev ≤ 4 ∨ ev = 7 then (if bitAt q slot && bitAt q (8 + vc) then v else 0)
    else if (8 ≤ ev ∧ ev ≤ 12) ∨ ev = 0x12 then (if bitAt q slot then v else 0)
    else v)

/-- Count an event of the Graticule, the table complex, the engine hub or the management cluster. `inst` is the
instance its mask or partition field selects. -/
def Dev.countGrat (d : Dev) (ev inst v : Nat) : Dev :=
  d.count 864 896 ev (fun q => if ev = 0x42 then v else if bitAt q inst then v else 0)
def Dev.countTable (d : Dev) (ev q v : Nat) : Dev :=
  d.count 896 992 ev (fun ql => if 0x53 ≤ ev then v else if bitAt ql 15 || fld ql 0 5 == q then v else 0)
def Dev.countHub (d : Dev) (ev inst v : Nat) : Dev :=
  d.count 992 1104 ev (fun q => if ev = 0x60 ∨ ev = 0x63 ∨ ev = 0x64 then (if bitAt q inst then v else 0) else v)
def Dev.countMgmt (d : Dev) (ev inst v : Nat) : Dev :=
  d.count 1104 1200 ev (fun q => if bitAt q inst then v else 0)

/-! ### Cairn records (R425 to R432) -/

/-- Error, Fatal and Audit records are always queued and may use every entry of the writer queue (R430, R431). -/
def sevHigh (sev : Nat) : Bool := decide (3 ≤ sev)

/-- A record of severity `sev` finds an entry it may use (R431). -/
def CairnSt.hasEntry (c : CairnSt) (sev : Nat) : Bool :=
  decide (c.queue.length < 512) &&
    (sevHigh sev || decide ((c.queue.filter (fun r => !sevHigh r.severity)).length < 448))

/-- Put a record into the writer queue, filter it or drop it (R430, R431). -/
def Dev.enqueue (d : Dev) (r : CairnRec) : Dev :=
  if r.severity < d.cairn.minSeverity ∧ sevHigh r.severity = false then
    ({ d with cairn.filtered := satAdd 32 d.cairn.filtered 1 }).countMgmt 0x73 r.severity 1
  else if d.cairn.hasEntry r.severity then { d with cairn.queue := d.cairn.queue ++ [r] }
  else ({ d with
      cairn.dropped := d.cairn.dropped.upd r.severity (fun n => satAdd 32 n 1)
      cairn.droppedNow := d.cairn.droppedNow.upd r.severity (fun n => satAdd 32 n 1) }).countMgmt 0x73 r.severity 1

/-- What a record says besides its code and severity. -/
structure RecArgs where
  part : Nat := 0x1F
  port : Nat := 0
  inst : Nat := 0
  detail : List Nat := []
  writer : Nat := 0

/-- Write a record of `code` and fire its source (R425, R431). -/
def Dev.log (d : Dev) (code sev : Nat) (a : RecArgs := {}) : Dev :=
  (d.enqueue { tick := d.stampTick, offset := d.stampOffset, code := code, severity := sev, writer := a.writer,
               partition := a.part, cmdPort := a.port, inst := a.inst % 2 ^ 16, detail := a.detail }).fire code

/-- The VALUE_DROPPED record of a dropped write (R521). -/
def Dev.dropped (d : Dev) (p : CmdPort) (addr value sev : Nat) : Dev :=
  d.log 0x04A sev { part := p.partition, port := p.code, detail := [addr, value % 2 ^ 32] }

/-- The same for a 64-bit register: the value at 0x28 as 8 B (R521). -/
def Dev.dropped64 (d : Dev) (p : CmdPort) (addr value sev : Nat) : Dev :=
  d.log 0x04A sev { part := p.partition, port := p.code, detail := [addr, 0, value % 2 ^ 32, value / 2 ^ 32 % 2 ^ 32] }

/-! ### Command ports (Table 16.6) -/

/-- The state kept for a command port. -/
def Dev.portSt (d : Dev) (p : CmdPort) : PortSt := d.port.rd p.key
def Dev.setPort (d : Dev) (p : CmdPort) (f : PortSt → PortSt) : Dev := { d with port := d.port.upd p.key f }

/-- A free value of `w` bits (notes/assumptions/2.md). -/
def Dev.freeVal (d : Dev) (w : Nat) : Nat := Config.free d.freeCtr % 2 ^ w
def Dev.tickFree (d : Dev) : Dev := { d with freeCtr := d.freeCtr + 1 }

end Sys2Proof.Machine
end

