-- ==== Sys2Proof/Machine/Auth.lean ====
section
/-! DEFINITION. Authority: the level each command port carries, the right to amend and the right to load (R63, R456,
R457, Tables 2.10 and 15.2). -/

namespace Sys2Proof.Machine

/-- PORT_KIND of a command port (Table 15.2); the Sighting port and the cores have none. -/
def portKind : CmdPort → Option Nat
  | .anchor => some 0
  | .ep _ => some 1
  | .sideband => some 2
  | .ring => some 3
  | .far _ => some 3
  | .sighting => none
  | .core _ => none

/-- AUTH_SEL bit `n` as sampled (R63). -/
def Dev.strap (d : Dev) (n : Nat) : Bool := bitAt d.mode.authSel n

/-- Default LEVEL of a port kind: 3 Steward, 2 Tenant, 1 Observer (Table 15.2). -/
def Dev.defaultLevel (d : Dev) (kind : Nat) : Nat :=
  if kind = 0 then 3 else if kind = 1 then 2 else if kind = 2 then 1 else if d.strap 2 then 3 else 1

/-- Default MAY_AMEND of a port kind (Table 15.2). -/
def Dev.defaultAmend (d : Dev) (kind : Nat) : Bool := kind == 0 || (kind == 3 && d.strap 2)

/-- LEVEL and MAY_AMEND in force: an entry only lowers them (R457). -/
def Dev.kindLevel (d : Dev) (kind : Nat) : Nat :=
  let e := d.run.auth.rd kind
  if e.set then min e.level (d.defaultLevel kind) else d.defaultLevel kind
def Dev.kindAmend (d : Dev) (kind : Nat) : Bool :=
  let e := d.run.auth.rd kind
  d.defaultAmend kind && (!e.set || e.amend)

/-- Level of a far initiator, by switch: what its request carried (R316, Table 9.8A), kept while it is served. -/
def Dev.farLevel (d : Dev) (sw : Nat) : Nat := min (d.port.rd (4096 + sw)).farLevel (d.kindLevel 3)

/-- The authority level of a command port (R456). A core equals Steward (R459); the Sighting port carries Debugger
authority, which its own rules describe, and reads as 0 here. -/
def Dev.level (d : Dev) : CmdPort → Nat
  | .core _ => 3
  | .sighting => 0
  | .far sw => d.farLevel sw.val
  | p => match portKind p with
    | some k => d.kindLevel k
    | none => 0

def Dev.isSteward (d : Dev) (p : CmdPort) : Bool := d.level p == 3

/-- The partition a Tenant acts for. A port that is no endpoint and that an Authority entry lowers to Tenant acts for none:
it reads what every Tenant reads, and owns nothing (Table 15.1). -/
def Dev.tenantOf (d : Dev) (p : CmdPort) : Option Nat :=
  match p with
  | .ep q => if d.level p == 2 then some q.val else none
  | .anchor => if d.level p == 2 then some 0 else none
  | _ => if d.level p == 2 then some 32 else none

/-- MAY_AMEND acts only on a port whose level is Steward (R457). -/
def Dev.mayAmend (d : Dev) (p : CmdPort) : Bool :=
  match portKind p with
  | some k => d.isSteward p && d.kindAmend k
  | none => false

/-- The port may load a full image (Table 2.10). -/
def Dev.mayLoadFull (d : Dev) : CmdPort → Bool
  | .anchor => d.strap 0
  | .sideband => d.strap 1
  | .ring => d.strap 2
  | _ => false

/-- PLAT_STATUS.SOURCE of a port (Table 2.13). -/
def sourceCode : CmdPort → Nat
  | .anchor => 1
  | .sideband => 2
  | .ring => 3
  | .far _ => 3
  | .ep _ => 4
  | _ => 0

/-- AUTH_IN_FORCE (Table 15.11). -/
def Dev.authWord (d : Dev) : Nat :=
  pack ((List.range 4).flatMap (fun k => [(8 * k, d.kindLevel k), (8 * k + 2, b2n (d.kindAmend k))]))

end Sys2Proof.Machine
end

