-- ==== Sys2Proof/Machine/JobOps.lean ====
section
/-! DEFINITION. Job slots and handles, internal jobs, and the mode status that jobs, isolated domains and halted cores
make up (R86, R119, R125, R520, Table 3.4). -/

namespace Sys2Proof.Machine

/-- The handle of the job in slot key `k`; 0 for a job without a slot (R119, R520). -/
def Dev.handle (d : Dev) (k : Nat) : Nat := if k < 64 then 64 * (d.jobs.gen.rd k + 1) + k else 0

def JobState.num : JobState → Nat
  | .free => 0 | .queued => 1 | .running => 2 | .committing => 3 | .done => 4 | .failed => 5 | .cancelled => 6

/-- QUEUED, RUNNING or COMMITTING (Table 4.7, CONFLICT). -/
def Job.active (j : Job) : Bool := j.state == .queued || j.state == .running || j.state == .committing

/-- DONE, FAILED or CANCELLED. -/
def Job.ended (j : Job) : Bool := j.state == .done || j.state == .failed || j.state == .cancelled

/-- Every job with its key, slots and jobs without a slot. -/
def Dev.jobList (d : Dev) : List (Nat × Job) := d.jobs.slot
def Dev.activeJobs (d : Dev) : List (Nat × Job) := d.jobList.filter (fun e => e.2.active)

/-- The lowest free slot: it is the one that a new job takes (DESIGN CHOICE, notes/assumptions/39.md). -/
def Dev.freeSlot (d : Dev) : Option Nat := (List.range 64).find? (fun s => (d.jobs.slot.rd s).state == .free)

/-- JOB_SLOTS_FREE (Table 4.6). -/
def Dev.slotsFree (d : Dev) : Nat := ((List.range 64).filter (fun s => (d.jobs.slot.rd s).state == .free)).length

/-- Put a job under key `k` and give it the next place in submission order. -/
def Dev.putJob (d : Dev) (k : Nat) (j : Job) : Dev :=
  { d with jobs.slot := d.jobs.slot.wr k { j with order := d.jobs.nextOrder }, jobs.nextOrder := d.jobs.nextOrder + 1 }

/-- Start an internal job: in the lowest free slot, without a slot when none is free (R520). Answers its key. -/
def Dev.startInternal (d : Dev) (j : Job) : Dev × Nat :=
  let j1 := { j with internal := true, source := 0, state := if j.state == .free then .queued else j.state }
  match d.freeSlot with
  | some s => (d.putJob s j1, s)
  | none =>
    let k := d.jobs.nextSlotless
    (({ d with jobs.nextSlotless := k + 1 }).putJob k j1, k)

/-- Free slot key `k`; its generation advances (R119). -/
def Dev.releaseSlot (d : Dev) (k : Nat) : Dev :=
  { d with jobs.slot := d.jobs.slot.wr k {}, jobs.gen := if k < 64 then d.jobs.gen.upd k (fun g => (g + 1) % 1023) else d.jobs.gen }

/-- A job ends with a state, a result and its DETAIL. An internal job writes its result record and releases its slot
(R125); the end of any other job fires its source. -/
def Dev.endJob (d : Dev) (k : Nat) (st : JobState) (result detail : Nat) : Dev :=
  let j := d.jobs.slot.rd k
  let h := d.handle k
  if j.internal then
    (d.releaseSlot k).log (if st == JobState.done then 0x028 else 0x029) (if st == JobState.done then 1 else 2)
      { port := 7, inst := k % 64, detail := [pack [(16, h), (0, j.op)], result + 256 * (detail % 2 ^ 24)] }
  else
    ({ d with jobs.slot := d.jobs.slot.wr k { j with state := st, result := result, detail := detail % 2 ^ 24, locked := false } }).fire
      (if st == JobState.done then 0x028 else 0x029)

/-- Operations that set M8 while they run (Table 4.9); SRAM_ROW_SWAP when it copies (ARG2 bit 0, R419). -/
def Job.isService (j : Job) : Bool :=
  j.op == 0x05 || j.op == 0x06 || j.op == 0x07 || (j.op == 0x08 && bitAt j.arg2 0) || j.op == 0x0A || j.op == 0x0B ||
    j.op == 0x82

/-- M8: at least one service job runs (Table 3.4). -/
def Dev.m8 (d : Dev) : Bool :=
  d.jobList.any (fun e => e.2.isService && (e.2.state == .running || e.2.state == .committing))

/-- HALTED_CORES (Table 3.4). -/
def Dev.haltedCores (d : Dev) : Nat :=
  (List.range 5).foldl (fun a c => a + b2n ((d.cores.core.rd c).state == .halted) * 2 ^ c) 0

/-- Some domain is isolated (R403, R415). -/
def Dev.anyIsolated (d : Dev) : Bool := d.cont.domain.any (fun e => e.2.valid) || !d.cont.extra.isEmpty

/-- M9: at least one domain is isolated, in a run mode (R30, R86). -/
def Dev.m9 (d : Dev) : Bool := d.inRun && d.anyIsolated

/-- MODE_STATUS (Table 3.4). -/
def Dev.modeStatus (d : Dev) : Nat :=
  pack [(11, d.haltedCores), (10, b2n (d.haltedCores != 0)), (9, b2n d.m9), (8, b2n d.m8), (0, d.mode.base.num)]

/-- Run `f`; when the base mode or an overlay has changed, MODE_CHANGE fires (R85, Table 14.3). -/
def Dev.watchMode (d : Dev) (f : Dev → Dev) : Dev :=
  let e := f d
  if e.modeStatus = d.modeStatus then e else e.fire 0x020

end Sys2Proof.Machine
end

