-- ==== Sys2Proof/Machine/Faults.lean ====
section
/-! DEFINITION. Device faults: their status bits, records and triggers (R399 to R402, R405, R423). -/

namespace Sys2Proof.Machine

/-- Severity bits that read RO 1 and the bits whose severity is RW (Table 13.2, R400). -/
def sevFixed : Nat := pack [(4, 1), (5, 1), (11, 1), (13, 1), (14, 1), (16, 1), (17, 1)]
def sevWritable : Nat := pack [(0, 1), (1, 1), (6, 1), (7, 1), (8, 1), (9, 1)]

/-- DEV_UNCOR_SEVERITY (R400). -/
def ContSt.severity (c : ContSt) : Nat := sevFixed + Nat.land c.uncSev sevWritable

/-- Words 0 to 7 of a fault record (Table 13.9). -/
def FaultRec.words (r : FaultRec) : List Nat :=
  [pack [(24, r.bit), (22, r.cls), (21, b2n r.entryFull), (16, r.kind), (0, r.id)], r.tick % 2 ^ 32, r.offset % 2 ^ 24,
   r.source % 2 ^ 16, fld r.detail 0 32, fld r.detail 32 32, r.repeats, 0]

/-- Put a record into a queue of four; the same bit and source only counts a repeat (R402, Table 13.9). Answers the
queue and whether the record found no place. -/
def queueFault (q : List FaultRec) (r : FaultRec) : List FaultRec × Bool :=
  if q.any (fun e => e.bit == r.bit && e.source == r.source) then
    (q.map (fun e => if e.bit = r.bit ∧ e.source = r.source then { e with repeats := satAdd 16 e.repeats 1 } else e), false)
  else if 4 ≤ q.length then (q, true)
  else (q ++ [r], false)

/-- Write the Cairn record of a fault; a masked fault fires no source (R399, R402). -/
def Dev.faultLog (d : Dev) (code sev : Nat) (masked : Bool) (r : FaultRec) : Dev :=
  let c : CairnRec := { tick := d.stampTick, offset := d.stampOffset, code := code, severity := sev, partition := if r.kind = 4 then r.id else 0x1F, inst := r.source % 2 ^ 16, detail := r.words.take 7 }
  let e := d.enqueue c
  if masked then e else e.fire code

/-- A correctable fault (Table 13.1): status bit, fault record, Cairn record at Note or the severity another rule gives
(R427). -/
def Dev.corFault (d : Dev) (bit source : Nat) (detail : Nat := 0) (sev : Nat := 1) : Dev :=
  let masked := bitAt d.cont.corMask bit
  let r : FaultRec := { bit := bit, cls := 0, tick := d.stampTick, offset := d.stampOffset, source := source, detail := detail }
  let (q, full) := if masked then (d.cont.corLog, false) else queueFault d.cont.corLog r
  let d1 := { d with cont := { d.cont with corStatus := setBit d.cont.corStatus bit, corLog := q,
                                           corOverflow := d.cont.corOverflow || full } }
  d1.faultLog (0x018 + bit) sev masked r

/-- The severity of uncorrectable bit `bit` is fatal. -/
def Dev.isFatal (d : Dev) (bit : Nat) : Bool := bitAt d.cont.severity bit

/-- Put a trigger into the queue of a stop. The first 32 places are the stop's queue, the rest hold in their status
bits; a held bit and source forms one trigger however often its fault recurs (R405). -/
def ContSt.pushTrigger (c : ContSt) (stop : Nat) (t : Trigger) : ContSt :=
  let q := c.stop.rd stop
  if (q.drop 32).any (fun e => e.bit == t.bit && e.source == t.source) then c
  else { c with stop := c.stop.wr stop (q ++ [t]) }

/-- The tile that a fault concerns, by its domain or its stop: none for one of the management cluster. -/
def faultTile (stop kind id : Nat) : Option Nat :=
  if kind = 1 then some id else if kind = 2 ∨ kind = 3 then some (id / 8) else if stop < 9 then some stop else none

/-- The loops and the PRBS tests of tile `t` stop (R86). -/
def Dev.stopTests (d : Dev) (t : Nat) : Dev :=
  { d with ln.lane := d.ln.lane.mapAll (fun k l => if k / 18 = t then { l with loop := 0, prbsGen := 0, prbsChk := 0, chkLock := false, state := if l.state = 11 then 0 else l.state } else l) }

/-- The tests of the tile that a fatal fault in M10 concerns stop, if it concerns one (R86). -/
def Dev.haltTests (d : Dev) (t : Option Nat) : Dev :=
  match t with
  | some t => d.stopTests t
  | none => d

/-- An uncorrectable fault (Table 13.2): its status bit and fault record; a non-fatal fault writes its Cairn record now,
a fatal one forms a containment trigger at its stop and is recorded at the next boundary (R399, R402, R405, Table 13.5).
A fatal fault in M10 is recorded at severity Fatal, stops the test on the tile concerned and forms no trigger (R86). -/
def Dev.uncFault (d : Dev) (bit source stop kind id : Nat) (detail : Nat := 0) (sev : Nat := 2) : Dev :=
  let fatal := d.isFatal bit
  let masked := bitAt d.cont.uncMask bit
  let r : FaultRec := { bit := bit, cls := if fatal then 2 else 1, kind := if fatal then kind else 0xF,
                        id := if fatal then id else 0, tick := d.stampTick, offset := d.stampOffset, source := source,
                        detail := detail }
  let (q, full) := if masked then (d.cont.uncLog, false) else queueFault d.cont.uncLog r
  let d1 := { d with cont := { d.cont with uncStatus := setBit d.cont.uncStatus bit, uncLog := q,
                                           uncOverflow := d.cont.uncOverflow || full } }
  if fatal && d.mode.base != .m10 then
    { d1 with cont := d1.cont.pushTrigger stop { bit := bit, kind := kind, id := id, source := source, detail := detail } }
  else
    (d1.haltTests (if fatal then faultTile stop kind id else none)).faultLog bit (if fatal then 4 else sev) masked r

/-- A read of word `w` of DEV_FAULT_LOG or DEV_COR_LOG: the head of the queue; word 7 advances it (R423). -/
def Dev.readFaultLog (d : Dev) (cor : Bool) (w : Nat) : Dev × Nat :=
  let q := if cor then d.cont.corLog else d.cont.uncLog
  let v := match q with
    | r :: _ => r.words.getD w 0
    | [] => 0
  let d1 := if w = 7 then
      (if cor then { d with cont.corLog := q.drop 1 } else { d with cont.uncLog := q.drop 1 }) else d
  (d1, v)

/-- DEV_FAULT_CTRL: RECORDS_QUEUED of the uncorrectable queue and the overflow bits (Table 13.8). -/
def ContSt.faultCtrl (c : ContSt) : Nat :=
  pack [(8, c.uncLog.length), (1, b2n c.corOverflow), (0, b2n c.uncOverflow)]

/-! ### Auto-spare counting (R416, R417) -/

/-- The policy entry of a kind in force; absent: disabled, threshold 0 (R57). -/
def Dev.policy (d : Dev) (kind : Nat) : SparePolicy := d.run.spare.rd kind

/-- The threshold of a kind: a plane threshold of 0 means 64 (R417). -/
def Dev.spareThreshold (d : Dev) (kind : Nat) : Nat :=
  let t := (d.policy kind).threshold
  if kind = 2 ∧ t = 0 then 64 else t

/-- The block length of a kind in ticks: 1,024 for planes without a threshold of their own. -/
def Dev.spareWindow (d : Dev) (kind : Nat) : Nat :=
  if kind = 2 ∧ (d.policy 2).threshold = 0 then 1024 else (d.policy kind).window

/-- Key of a count. -/
def spareKey (kind elem : Nat) : Nat := 2 ^ 20 * kind + elem

/-- Count one event of an element. Answers whether the count has just reached its threshold (R417). -/
def Dev.spareCount (d : Dev) (kind elem : Nat) : Dev × Bool :=
  let n := d.cont.count.rd (spareKey kind elem) + 1
  ({ d with cont.count := d.cont.count.wr (spareKey kind elem) n }, d.spareThreshold kind != 0 && n == d.spareThreshold kind)

/-- A block of a kind ends: its counts start from zero (R417). -/
def Dev.spareBlockEnd (d : Dev) (kind : Nat) : Dev :=
  { d with cont.count := d.cont.count.filter (fun e => e.1 / 2 ^ 20 != kind) }

/-- SPARE_EXHAUSTED, once per element (R416). -/
def Dev.spareExhausted (d : Dev) (kind elem : Nat) : Dev :=
  if d.cont.exhausted.rd (spareKey kind elem) then d
  else ({ d with cont.exhausted := d.cont.exhausted.wr (spareKey kind elem) true }).log 0x02A 2
    { inst := elem, detail := [kind, elem] }

end Sys2Proof.Machine
end

