-- ==== Sys2Proof/Machine/Cores.lean ====
section
/-! DEFINITION. The management cores: start, failure, takeover by the spare core, watchdogs, halts, and the core-only
registers (R467 to R471, R476 to R478). -/

namespace Sys2Proof.Machine

def Dev.core (d : Dev) (c : Nat) : Core := d.cores.core.rd c
def Dev.setCore (d : Dev) (c : Nat) (f : Core → Core) : Dev := { d with cores.core := d.cores.core.upd c f }

/-- The core that runs role `r`; `r` = 4 is the standby spare (R467). -/
def Dev.roleCore (d : Dev) (r : Nat) : Option Nat :=
  match d.cores.roleMap.rd r with
  | 0 => none
  | n + 1 => some n

/-- The role whose Debug Ceiling, budget and WRITER code apply to core `c`; a core without a role keeps its own number
(R467, DEDUCED for a core that has failed). -/
def Dev.roleOf (d : Dev) (c : Nat) : Nat := (d.core c).role.getD c

/-- Level of the Debug Ceiling for core `c` (R467, R474). -/
def Dev.debugLevel (d : Dev) (c : Nat) : Nat := d.run.ceiling.rd (d.roleOf c)

/-- A core that runs firmware: RUNNING, or in STANDBY. -/
def Core.active (k : Core) : Bool := k.state == .running || k.state == .standby

/-! ### Start (Table 3.9, R468) -/

/-- The memory of a core with an image loaded and the rest zero. -/
def Firmware.memory (f : Firmware) : Tab Nat :=
  (List.range f.image.length).foldl (fun (t : Tab Nat) i => t.wr (f.loadOffset + i) (f.image.getD i 0)) []

/-- A core starts firmware `f` at its ENTRY, with role `r`. -/
def Core.start (k : Core) (f : Firmware) (r : Nat) (s : CoreState) : Core :=
  { k with state := s, role := some r, haltReason := 0, hitIndex := 0, wdCount := 0, ready := false, bp := [], wp := [], mem := f.memory, reg := Tab.wr ([] : Tab Nat) 32 f.entry, ran := true, poked := [], wasStandby := false }

/-- FMC, CTC, TLC and SVC start with their roles, the SPC as the standby core. -/
def Dev.startCores (d : Dev) : Dev :=
  let d1 := (List.range 5).foldl (fun e c => e.setCore c (fun k => k.start (d.run.firmware.rd c) c (if c = 4 then .standby else .running))) d
  { d1 with cores.roleMap := (List.range 5).map (fun r => (r, r + 1)) }

/-! ### Failure and takeover (R469 to R471, Table 15.7) -/

/-- The spare is taken for role `r`: an internal CORE_TAKEOVER job runs, and the SPC stops. -/
def Dev.startTakeover (d : Dev) (r : Nat) : Dev :=
  d.watchMode (fun e =>
    let (e1, k) := e.tickFree.startInternal { op := 0x82, arg0 := r, state := .running, total := e.freeVal 32 }
    let e2 := e1.setCore 4 (fun s => { s with state := .reset, role := none, wasStandby := false, bp := [], wp := [] })
    { e2 with cores := { e2.cores with takeover := true, takeRole := r, takeJob := k + 1, takeLoaded := false, roleMap := e2.cores.roleMap.wr 4 0 } })

/-- A role has lost its core: the SPC takes it, or will when it resumes, when kind 4 of the policy is enabled; with no
spare left the loss is recorded. -/
def Dev.coverRole (d : Dev) (r : Nat) : Dev :=
  let s := d.core 4
  let spare := s.state == .standby || (s.state == .halted && s.wasStandby)
  if !spare then d.spareExhausted 4 r
  else if !(d.policy 4).enable then d
  else if s.state == .standby then d.startTakeover r
  else { d with cores.waiting := d.cores.waiting ++ [r] }

/-- The takeover that runs ends without its role: the SPC has failed. -/
def Dev.takeoverFails (d : Dev) : Dev :=
  if d.cores.takeover then
    ({ d.tickFree with cores := { d.cores with takeover := false, takeLoaded := false, takeJob := 0 } }).endJob (d.cores.takeJob - 1) .failed 6 (d.freeVal 24)
  else d

/-- Core `c` fails with a cause of Table 15.12; it is held in reset until M0 and CORE_FAILED is set. A core that has
failed, or never started, does not fail again. -/
def Dev.coreFail (d : Dev) (c cause : Nat) : Dev :=
  let k := d.core c
  if k.state == .reset && !(c == 4 && d.cores.takeover) || k.state == .failed then d
  else d.watchMode (fun e =>
    let e1 := e.setCore c (fun s => { s with state := .failed, role := none, failCause := cause, haltReason := 0, hitIndex := 0, wdCount := 0, bp := [], wp := [], wasStandby := false })
    let e2 := { e1 with cores.roleMap := e1.cores.roleMap.mapAll (fun _ n => if n = c + 1 then 0 else n) }
    let e3 := if c = 4 then e2.takeoverFails else e2
    let e4 := e3.uncFault 12 c 9 0xF 0 cause
    match k.role with
    | some r => if c < 4 ∧ r < 4 then e4.coverRole r else if r < 4 then e4.spareExhausted 4 r else e4
    | none => e4)

/-- WATCHDOG_EXPIRY: a running core's watchdog has reached its period (R469). -/
def watchdogExpiry (c : Fin 5) (d : Dev) : Dev :=
  let k := d.core c
  if k.state = .running ∧ k.ready = true ∧ k.watchdog ≤ k.wdCount then d.coreFail c 1 else d

/-- READY_TIMEOUT: a core that runs has not written READY within 1 ms of its start (R469). -/
def readyTimeout (c : Fin 5) (d : Dev) : Dev :=
  let k := d.core c
  if k.active && !k.ready then d.coreFail c 5 else d

/-- An uncorrectable error in the memory of core `c` (Table 13.2). -/
def Dev.coreMemoryFails (d : Dev) (c detail : Nat) : Dev := (d.uncFault 3 c 9 0xF 0 detail).coreFail c 3

/-- CORE_EXCEPTION: a core takes a fatal exception, or meets an uncorrectable error in its memory (R469). -/
def coreException (c : Fin 5) (memory : Bool) (d : Dev) : Dev :=
  if !(d.core c).active && !(memory && (d.core c).state == .halted) then d
  else if memory then d.coreMemoryFails c 0
  else d.coreFail c 2

/-- A corrected error in a core memory or the firmware store, counted for core `c`; reaching the threshold of kind 4
fails the core (R417, R469). -/
def Dev.coreMemoryCorrected (d : Dev) (c : Nat) : Dev :=
  let (d1, hit) := (d.corFault 6 c).spareCount 4 c
  if hit then d1.coreFail c 4 else d1

/-- TAKEOVER_IMAGE_LOADED: the role's image stands in the SPC memory, the rest is clear, and the SPC starts at its ENTRY
(Table 15.7). -/
def takeoverImageLoaded (d : Dev) : Dev :=
  if d.cores.takeover && !d.cores.takeLoaded then
    let r := d.cores.takeRole
    let d1 := d.setCore 4 (fun s => s.start (d.run.firmware.rd r) r .running)
    ({ d1 with cores := { d1.cores with takeLoaded := true, roleMap := d1.cores.roleMap.wr r 5 } }).corFault 5 4 r
  else d

/-- At the first boundary after READY the role's step work resumes and the takeover job is DONE (Table 15.7). -/
def Dev.takeoverBoundary (d : Dev) : Dev :=
  if d.cores.takeover && d.cores.takeLoaded && (d.core 4).ready then
    d.watchMode (fun e =>
      ({ e with cores := { e.cores with takeover := false, takeLoaded := false, takeJob := 0 } }).endJob (e.cores.takeJob - 1) .done 0 0)
  else d

/-- The watchdogs of running cores count a boundary (R469). -/
def Dev.watchdogs (d : Dev) : Dev :=
  { d with cores.core := d.cores.core.mapAll (fun _ k => if k.state = .running ∧ k.ready = true then { k with wdCount := k.wdCount + 1 } else k) }

/-- The SVC runs steps: a core runs its role, is not halted, and has resumed it after a takeover (R123, R125). -/
def Dev.svcRuns (d : Dev) : Bool :=
  match d.roleCore 3 with
  | some c => (d.core c).state == .running && !(d.cores.takeover && d.cores.takeRole == 3)
  | none => false

/-! ### Halts (R476, R471, R477) -/

/-- Core `c` halts for a reason of Table 15.12. -/
def Dev.haltCore (d : Dev) (c reason hit : Nat) : Dev :=
  d.watchMode (fun e => e.setCore c (fun k => { k with state := .halted, haltReason := reason, hitIndex := hit, wasStandby := k.state == .standby || (k.state == .halted && k.wasStandby) }))

/-- The role that the SPC takes first of those that wait: CTC, FMC, SVC, TLC (R471). -/
def firstRole (rs : List Nat) : Option Nat := [1, 0, 3, 2].find? (fun r => rs.contains r)

/-- The roles that wait for the SPC: the first is taken, the others are left without a core (R471). -/
def Dev.takeWaiting (d : Dev) : Dev :=
  match (firstRole d.cores.waiting).filter (fun _ => (d.core 4).state == .standby) with
  | some r =>
    (d.cores.waiting.filter (· != r)).foldl (fun e x => e.spareExhausted 4 x) (({ d with cores.waiting := [] }).startTakeover r)
  | none => d

/-- Core `c` leaves the halt and runs on from the halted instruction; what its firmware does from there is open. -/
def Dev.resumeCore (d : Dev) (c : Nat) : Dev :=
  if (d.core c).state == .halted then
    (d.watchMode (fun e => e.setCore c (fun k => { k with state := if k.wasStandby then .standby else .running, haltReason := 0, hitIndex := 0, wasStandby := false, poked := [] }))).takeWaiting
  else d

/-- The levels in force have changed to `d.run.ceiling` from `old`: roles that fell below level 2 run on without
breakpoints (R477). -/
def Dev.ceilingLowered (d : Dev) (old : Nat → Nat) : Dev :=
  (List.range 5).foldl (fun e c =>
    let r := e.roleOf c
    if 2 ≤ old r ∧ e.run.ceiling.rd r < 2 then (e.resumeCore c).setCore c (fun k => { k with bp := [], wp := [] }) else e) d

/-- BREAKPOINT_HIT: enabled breakpoint or watchpoint `i` of a running core halts it, if the ceiling allows (R397,
R476). -/
def breakpointHit (c : Fin 5) (watch : Bool) (i : Fin 8) (d : Dev) : Dev :=
  let k := d.core c
  let on := if watch then (k.wp.rd i).enable else (k.bp.rd i).enable
  if k.active && on && decide (2 ≤ d.debugLevel c) then d.haltCore c (if watch then 4 else 3) i else d

/-! ### Core-only registers (Table 15.11) -/

/-- CORE[c].KICK: any write restarts the watchdog; bit 0 is READY. -/
def Dev.writeKick (d : Dev) (c v : Nat) : Dev :=
  d.setCore c (fun k => { k with wdCount := 0, ready := k.ready || bitAt v 0 })

/-- CORE[c].EVENT fires a firmware source. -/
def Dev.writeEvent (d : Dev) (v : Nat) : Dev := d.fire (0x3E0 + fld v 0 5)

/-- CORE[c].LOG[i]: word 15 queues the record with TICK, OFFSET and WRITER of the writer (R425, R468). -/
def Dev.writeLog (d : Dev) (c i v : Nat) : Dev :=
  let d1 := d.setCore c (fun k => { k with log := k.log.wr i (v % 2 ^ 32) })
  if i = 15 then
    let w := fun j => (d1.core c).log.rd j
    d1.enqueue { tick := d1.stampTick, offset := d1.stampOffset, code := fld (w 5) 0 10, severity := fld (w 5) 16 3, writer := d1.roleOf c + 1, partition := fld (w 6) 0 5, cmdPort := fld (w 6) 8 8, inst := fld (w 6) 16 16, detail := [w 8, w 9, w 10, w 11, w 12, w 13, w 14] }
  else d1

/-- CORE[c].WATCHDOG takes 16 to 65,535. -/
def watchdogOk (v : Nat) : Bool := decide (16 ≤ v) && decide (v < 65536)

/-! ### Reading the cores block -/

def CoreState.num : CoreState → Nat
  | .reset => 0 | .running => 1 | .halted => 2 | .failed => 3 | .standby => 4

/-- CORE[c].STATUS (Table 15.12). -/
def Core.status (k : Core) : Nat :=
  pack [(28, k.state.num), (24, k.role.getD 0xF), (20, k.haltReason), (16, k.hitIndex), (8, k.failCause)]

/-- CORE_ROLE_MAP. -/
def CoreSt.roleWord (s : CoreSt) : Nat :=
  pack ((List.range 5).map (fun r => (4 * r, if s.roleMap.rd r = 0 then 0xF else s.roleMap.rd r - 1)))

/-- TAKEOVER_STATUS. -/
def Dev.takeoverStatus (d : Dev) : Nat :=
  if d.cores.takeover then pack [(31, 1), (16, d.cores.takeRole), (0, d.handle (d.cores.takeJob - 1))] else 0

/-- DEBUG_CEILING. -/
def RunCfg.ceilingWord (r : RunCfg) : Nat := pack ((List.range 5).map (fun k => (2 * k, r.ceiling.rd k)))

/-- REG_READ of core `c`: a register written through the port since the core last ran, or an open value. -/
def Dev.coreReg (d : Dev) (c i : Nat) : Dev × Nat :=
  let k := d.core c
  if k.poked.rd (2 ^ 20 + i) || !k.ran then (d, k.reg.rd i) else (d.tickFree, d.freeVal 64)

/-- Byte `a` of the memory of core `c`, likewise. -/
def Dev.coreByte (d : Dev) (c a : Nat) : Dev × Nat :=
  let k := d.core c
  if k.poked.rd a || !k.ran then (d, k.mem.rd a) else (d.tickFree, d.freeVal 8)

/-- `n` bytes of core memory from `a`. -/
def Dev.coreBytes (d : Dev) (c a n : Nat) : Dev × List Nat :=
  (List.range n).foldl (fun x i => let y := x.1.coreByte c (a + i); (y.1, x.2 ++ [y.2])) (d, [])

/-- Write register `i` of a halted core. -/
def Dev.setCoreReg (d : Dev) (c i v : Nat) : Dev :=
  d.setCore c (fun k => { k with reg := k.reg.wr i v, poked := k.poked.wr (2 ^ 20 + i) true })

/-- Write bytes of core memory; they stay as written only while the core is halted. -/
def Dev.setCoreBytes (d : Dev) (c a : Nat) (bs : List Nat) : Dev :=
  let halted := (d.core c).state == .halted
  (List.range bs.length).foldl (fun e i =>
    e.setCore c (fun k => { k with mem := k.mem.wr (a + i) (bs.getD i 0), poked := if halted then k.poked.wr (a + i) true else k.poked })) d

end Sys2Proof.Machine
end

