-- ==== Sys2Proof/Machine/Aer.lean ====
section
/-! DEFINITION. PCI Express error logging: the partition views, the physical copies and error messages (R221 to R225). -/

namespace Sys2Proof.Machine

/-! ### Register sets -/

/-- The kind of a function key. -/
def fnKind (fn : Nat) : FnKind :=
  if fn < 32 then .up else if fn < 64 then .mgmt else if fn < 96 then .engine else if fn < 128 then .svcView
  else if fn = fnPf then .svcPf else if fn < 8192 then .svcVf else .down

/-- Bits of Table 7.5A: of every function, of every port, and of downstream ports. -/
def aerEvery : Nat := pack [(12, 1), (16, 1), (18, 1), (20, 1)]
def aerPort : Nat := pack [(4, 1), (13, 1), (17, 1), (22, 1), (25, 1)]
def aerDown : Nat := pack [(5, 1), (21, 1), (24, 1), (26, 1)]

/-- Implemented bits of a function (R222, Table 7.5A); an engine bridge has no physical port, a VF no AER (R354). -/
def aerUncBits (k : FnKind) : Nat :=
  match k with
  | .up => aerEvery + aerPort + 2 ^ 15
  | .down => aerEvery + aerPort + aerDown + 2 ^ 15
  | .engine | .mgmt => aerEvery + 2 ^ 15
  | .svcPf | .svcView => aerEvery
  | .svcVf => 0
def aerCorBits (k : FnKind) : Nat :=
  match k with
  | .up | .down => pack [(0, 1), (6, 1), (7, 1), (8, 1), (12, 1), (13, 1), (14, 1), (15, 1)]
  | .svcVf => 0
  | _ => pack [(13, 1), (15, 1)]

/-- Log an error: status bit, and its header when it is not masked; a full queue of headers sets Header Log Overflow
(R223). An error without a header takes its place in the queue, for First Error Pointer, and none of the four headers. -/
def Aer.log (a : Aer) (unc : Bool) (bit : Nat) (hdr : List Nat) : Aer :=
  let masked := if unc then bitAt a.uncMask bit else bitAt a.corMask bit
  let a1 := if unc then { a with uncSta := setBit a.uncSta bit } else { a with corSta := setBit a.corSta bit }
  if masked || !unc then a1
  else if hdr.isEmpty then (if a.hdrs.contains (bit, []) then a1 else { a1 with hdrs := a.hdrs ++ [(bit, [])] })
  else if (a.hdrs.filter (fun h => !h.2.isEmpty)).length < 4 then { a1 with hdrs := a.hdrs ++ [(bit, hdr.take 14)] }
  else { a1 with corSta := setBit a1.corSta 15 }

/-- Headers in the queue (HEADERS_QUEUED). -/
def Aer.queued (a : Aer) : Nat := (a.hdrs.filter (fun h => !h.2.isEmpty)).length

/-- First Error Pointer: the bit of the error at the head of the queue. -/
def Aer.firstPtr (a : Aer) : Nat :=
  match a.hdrs with
  | h :: _ => h.1
  | [] => 0

/-- An error is advisory: it is not fatal, and its function answers it, forwards it or is not its last receiver
(PRESUMED, the role-based reporting of PCI Express, notes/assumptions/71.md). -/
def Aer.soft (a : Aer) (unc adv : Bool) (bit : Nat) : Bool := adv && unc && !bitAt a.uncSev bit

/-- Log an error that may be advisory: Advisory Non-Fatal is set beside the error's own bit. -/
def Aer.note (a : Aer) (unc adv : Bool) (bit : Nat) (hdr : List Nat) : Aer :=
  let a1 := a.log unc bit hdr
  if a.soft unc adv bit then { a1 with corSta := setBit a1.corSta 13 } else a1

/-- Address words of a header: one below 4 GiB, else two. -/
def addrWords (a : Nat) : List Nat := if 2 ^ 32 ≤ a then [fld a 32 32, fld a 0 32] else [fld a 0 32]

/-- Words of the header after the second: address, target, or requester. -/
def Tlp.headTail (t : Tlp) : List Nat :=
  match t.kind with
  | .cpl | .cplData => [pack [(16, t.reqId % 65536), (8, t.tag % 256), (0, t.lowerAddr % 128)]]
  | .cfgRead | .cfgWrite => [pack [(16, t.target % 65536), (2, t.reg % 1024)]]
  | .msg => [pack [(16, t.target % 65536)], 0]
  | _ => addrWords t.addr

/-- Format and type of a TLP outside Flit Mode. -/
def Tlp.fmtType (t : Tlp) : Nat :=
  let far := if 2 ^ 32 ≤ t.addr then 0x20 else 0
  match t.kind with
  | .memRead => far | .memWrite => 0x40 + far | .atomic => 0x4B + t.atomic % 4 + far
  | .cfgRead => 0x04 | .cfgWrite => 0x44 | .ioRead => 0x02 | .ioWrite => 0x42
  | .msg => (if t.data.isEmpty then 0x30 else 0x70) + t.route % 8 | .cpl => 0x0A | .cplData => 0x4A

/-- The second word of a header outside Flit Mode. -/
def Tlp.word1 (t : Tlp) : Nat :=
  match t.kind with
  | .cpl | .cplData => pack [(16, t.cplId % 65536), (13, t.status % 8), (0, t.byteCount % 4096)]
  | .msg => pack [(16, t.reqId % 65536), (8, t.tag % 256), (0, t.code % 256)]
  | _ => pack [(16, t.reqId % 65536), (8, t.tag % 256), (4, t.lastBe % 16), (0, t.firstBe % 16)]

/-- The header words of a TLP, in the layout of PCI Express (notes/assumptions/30.md). -/
def Tlp.header (t : Tlp) : List Nat :=
  pack [(24, t.fmtType), (23, fld t.tag 9 1), (20, t.tc % 8), (19, fld t.tag 8 1), (18, fld t.attr 2 1), (14, b2n t.ep),
        (12, t.attr % 4), (10, b2n t.translReq), (11, b2n t.translated), (0, t.lenDw % 1024)] :: t.word1 :: t.headTail

/-- The header words in Flit Mode: type, TC, the number of OHC words and length; requester and a 14-bit tag; the rest; then
the OHC words, 14 DW at most (R223, notes/assumptions/30.md). -/
def Tlp.flitHeader (t : Tlp) : List Nat :=
  let ohc := (t.ext.length + 3) / 4
  let be := if t.kind = .cpl ∨ t.kind = .cplData ∨ t.kind = .msg then [] else [pack [(4, t.lastBe % 16), (0, t.firstBe % 16)]]
  let id := if t.kind = .cpl ∨ t.kind = .cplData then t.cplId else t.reqId
  ([pack [(24, t.fmtType), (21, t.tc % 8), (16, (ohc + be.length) % 32), (10, t.attr % 8), (0, t.lenDw % 1024)],
    pack [(16, id % 65536), (15, b2n t.ep), (0, t.tag % 16384)]] ++ t.headTail ++ be ++ (List.range ohc).map (fun i => leAt t.ext (4 * i) 4)).take 14

/-! ### Views -/

/-- The AER of a function's view. -/
def Dev.viewAer (d : Dev) (fn : Nat) : Aer := d.pcie.aer.rd fn

/-- The partition that a function key belongs to. -/
def fnPartition (fn : Nat) : Nat :=
  if fn < 32 then fn else if fn < 64 then fn - 32 else if fn < 96 then fn - 64 else if fn < 128 then fn - 96
  else if fn < 8192 then 0 else (fn - 8192) / 72

/-- The error message an error gives rise to: ERR_COR 0x30, ERR_NONFATAL 0x31, ERR_FATAL 0x33. -/
def aerMsg (unc fatal : Bool) : Nat := if !unc then 0x30 else if fatal then 0x33 else 0x31

/-- The reporting enable of a message: Device Control bits 2:0 (dword 26 of the PCI Express capability at 0x060), or
SERR# Enable of the Command register for uncorrectable errors. -/
def Dev.errEnabled (d : Dev) (fn code : Nat) : Bool :=
  let dc := d.pcie.cfg.rd (cfgKey fn 26)
  let serr := bitAt (d.pcie.cfg.rd (cfgKey fn 1)) 8
  if code = 0x30 then bitAt dc 0 else if code = 0x31 then bitAt dc 1 || serr else bitAt dc 2 || serr

/-- Log an error in a partition's view and send its message to the partition's host (R221, R225); a bit that the function
does not implement logs nothing (R222). `adv` tells that the error is of an advisory kind. -/
def Dev.aerView (d : Dev) (fn : Nat) (unc : Bool) (bit : Nat) (hdr : List Nat := []) (adv : Bool := false) : Dev :=
  let a := d.viewAer fn
  let soft := a.soft unc adv bit
  let masked := if unc then bitAt a.uncMask bit || (soft && bitAt a.corMask 13) else bitAt a.corMask bit
  let code := aerMsg (unc && !soft) (bitAt a.uncSev bit)
  if !bitAt (if unc then aerUncBits (fnKind fn) else aerCorBits (fnKind fn)) bit then d
  else
    let d1 := { d with pcie.aer := d.pcie.aer.wr fn (a.note unc adv bit hdr) }
    if !masked && d.errEnabled fn code then d1.emit (.hostMsg (fnPartition fn) code fn) else d1

/-- The views of port `p`: the upstream bridge, or the downstream bridge of every partition that holds the port. -/
def Dev.viewsOf (d : Dev) (p : Nat) : List Nat :=
  match d.upstreamOf p with
  | some q => [fnUp q]
  | none => (d.sharers p).map (fun q => fnDown q p)

/-- The bridge of partition `q` on port `p`. -/
def Dev.bridgeOf (d : Dev) (q p : Nat) : Nat := if d.upstreamOf p = some q then fnUp q else fnDown q p

/-! ### Physical copies (R221, R223) -/

def Dev.pport (d : Dev) (p : Nat) : PciePort := d.pcie.port.rd p
def Dev.setPport (d : Dev) (p : Nat) (f : PciePort → PciePort) : Dev :=
  { d with pcie.port := d.pcie.port.upd p f }

/-- The header words of a TLP on port `p`: in Flit Mode the longer log (R223). -/
def Dev.hdrAt (d : Dev) (p : Nat) (t : Tlp) : List Nat := if (d.pport p).flit then t.flitHeader else t.header

/-- The kind of bridge that port `p` is, for the bits of its physical copy. -/
def Dev.physKind (d : Dev) (p : Nat) : FnKind := if (d.upstreamOf p).isSome then .up else .down

/-- Log an error in the physical copy of port `p`, with its Cairn record; a fatal error sets PCIE_FATAL, whose record
is then the one record of the event (R223, R399, R427). -/
def Dev.aerPhys (d : Dev) (p : Nat) (unc : Bool) (bit : Nat) (hdr : List Nat := []) (adv : Bool := false) : Dev :=
  let a := (d.pport p).aer
  if !bitAt (if unc then aerUncBits (d.physKind p) else aerCorBits (d.physKind p)) bit then d
  else
    let d1 := d.setPport p (fun s => { s with aer := a.note unc adv bit hdr })
    let args : RecArgs := { inst := p, part := d.portPartition p, detail := [p, bit] ++ hdr.take 4 }
    if !unc then d1.log (srcPort p 3) 1 args
    else if bitAt a.uncSev bit && !bitAt a.uncMask bit then
      let (kind, id) := match d.upstreamOf p with
        | some q => (4, q)
        | none => (3, p)
      (d1.fire (srcPort p 4)).uncFault 16 p (portTile p) kind id bit 3
    else d1.log (srcPort p 4) 2 args

end Sys2Proof.Machine
end

