-- ==== Sys2Proof/Machine/Counters.lean ====
section
/-! DEFINITION. Counter selection and its commit, snapshots and holds (R447 to R455), and the once-per-boundary work of
the event sources (R444, R446, R517). -/

namespace Sys2Proof.Machine

/-- The block of counter `k`: 0 tile, 1 Graticule, 2 table complex, 3 engine hub, 4 management cluster (R447). -/
def cntBlock (k : Nat) : Nat :=
  if k < 864 then 0 else if k < 896 then 1 else if k < 992 then 2 else if k < 1104 then 3 else 4

/-- The block of an event and the QUAL bits that it names (Table 14.6). Event NONE belongs to every block. -/
def eventBits (blk ev : Nat) : Option Nat :=
  if ev = 0 then some 0
  else if blk = 0 then
    if 1 ≤ ev ∧ ev ≤ 4 ∨ ev = 7 then some 0xFFFF
    else if ev = 5 then some 0xFF00
    else if 8 ≤ ev ∧ ev ≤ 12 ∨ ev = 0x12 then some 0x00FF
    else if ev = 6 ∨ 0x0D ≤ ev ∧ ev ≤ 0x11 then some 0
    else none
  else if blk = 1 then (if ev = 0x40 ∨ ev = 0x41 then some 0x1FF else if ev = 0x42 then some 0 else none)
  else if blk = 2 then
    if 0x50 ≤ ev ∧ ev ≤ 0x52 then some 0x801F else if 0x53 ≤ ev ∧ ev ≤ 0x55 then some 0 else none
  else if blk = 3 then
    if ev = 0x60 then some 0x7 else if ev = 0x63 ∨ ev = 0x64 then some 0xFF
    else if 0x61 ≤ ev ∧ ev ≤ 0x67 then some 0 else none
  else
    if ev = 0x70 ∨ ev = 0x71 then some 0x1F else if ev = 0x72 ∨ ev = 0x73 then some 0x3F
    else if ev = 0x74 then some 0xFF else none

/-- The instances that a mask of this event may select on this part. -/
def Dev.qualPresent (d : Dev) (ev qual : Nat) : Bool :=
  if ev = 0x40 ∨ ev = 0x41 then !(bitAt qual 8 && d.part.planeOff)
  else if 0x50 ≤ ev ∧ ev ≤ 0x52 then bitAt qual 15 || decide (fld qual 0 5 < 24)
  else true

/-- The block code of a selection: 0 accepted, else Table 14.11. -/
def Dev.cntCheck (d : Dev) (k sel qual : Nat) : Nat :=
  match eventBits (cntBlock k) (fld sel 0 8) with
  | none => 1
  | some m => if Nat.land qual (0xFFFF - m) ≠ 0 ∨ d.qualPresent (fld sel 0 8) qual = false then 2 else 0

/-- Bytes `addr` to `addr + len - 1` of the BAR meet a locked range of kind 1 of a sealed device (R61, R74). -/
def Dev.barLocked (d : Dev) (addr len : Nat) : Bool :=
  d.run.sealed && d.run.lock.any (fun e =>
    e.kind == 1 && e.length != 0 && decide (e.base < addr + len) && decide (addr < e.base + e.length))

/-- BAR address of CNT[k] (Table 14.9). -/
def cntAddr (k : Nat) : Nat := 0x03E10000 + 0x10 * k

/-- The result code of a commit of counter `k` by port `p` (R240, R242, R450). -/
def Dev.cntCommitCode (d : Dev) (p : CmdPort) (k : Nat) : Nat :=
  let c := d.cnt.tab.rd k
  if c.selSh = c.selAcc ∧ c.qualSh = c.qualAcc then 0
  else if c.lastPort ≠ none ∧ c.lastPort ≠ some p.key then 0xF0
  else if d.barLocked (cntAddr k) 8 then 0xF1
  else d.cntCheck k c.selSh c.qualSh

/-- An accepted shadow pair becomes the pending pair (R239, R241). -/
def Cnt.accept (c : Cnt) : Cnt :=
  { c with pend := some (c.selSh, c.qualSh), selAcc := c.selSh, qualAcc := c.qualSh }

/-- Commit counter `k`, leaving the status register to the caller. -/
def Dev.cntCommitOne (d : Dev) (p : CmdPort) (k : Nat) : Dev :=
  if d.cntCommitCode p k = 0 then
    { d with cnt.tab := d.cnt.tab.upd k (fun c => { c.accept with late := d.tickCycleHere }), cnt.commitPending := true }
  else d

/-- CNT_COMMIT with GO = 1 (R450). -/
def Dev.cntCommitGo (d : Dev) (p : CmdPort) (k : Nat) : Dev :=
  let d1 := d.cntCommitOne p k
  { d1 with cnt.commitCode := d.cntCommitCode p k, cnt.commitDetail := k }

/-- The counters whose shadow copy changed since their last commit, in ascending order. -/
def Dev.cntChanged (d : Dev) : List Nat :=
  (d.cnt.tab.filter (fun e => e.2.selSh != e.2.selAcc || e.2.qualSh != e.2.qualAcc)).map Prod.fst

/-- CNT_COMMIT with ALL = 1: every changed counter, the first failure is reported (R450). -/
def Dev.cntCommitAll (d : Dev) (p : CmdPort) : Dev :=
  let ks := d.cntChanged
  let bad := ks.find? (fun k => d.cntCommitCode p k != 0)
  let d1 := ks.foldl (fun e k => e.cntCommitOne p k) d
  let code := match bad with
    | some k => d.cntCommitCode p k
    | none => 0
  { d1 with cnt.commitCode := code, cnt.commitDetail := bad.getD 0 }

/-- Counter `k` belongs to an absent tile (R2). -/
def Dev.cntAbsent (d : Dev) (k : Nat) : Bool := !d.is7144 && decide (480 ≤ k) && decide (k < 864)

/-- A write of CNT_COMMIT (Table 14.9): ALL before GO. A number that names no counter is dropped (R521). -/
def Dev.writeCntCommit (d : Dev) (p : CmdPort) (value : Nat) : Dev :=
  let k := fld value 0 11
  if bitAt value 30 then d.cntCommitAll p
  else if !bitAt value 31 then d
  else if 1200 ≤ k ∨ d.cntAbsent k = true then d.dropped p 0x3E00020 value 2
  else d.cntCommitGo p k

/-- The pending selection of counter `k` takes effect and the counter restarts from zero (R450). -/
def Dev.cntEffect (d : Dev) (k : Nat) : Dev :=
  let c := d.cnt.tab.rd k
  match c.pend with
  | none => d
  | some (sel, qual) =>
    if c.late then { d with cnt.tab := d.cnt.tab.wr k { c with late := false } }
    else
    let c1 := { c with sel := sel, qual := qual, pend := none, value := 0, lastCycle := 0 }
    let d1 := { d with cnt.tab := d.cnt.tab.wr k c1 }
    if bitAt sel 30 != c.chained then
      { d1 with cnt.tab := d1.cnt.tab.upd (k - 1) (fun e => { e with value := 0, lastCycle := 0 }) }
    else d1

/-- Row 3 of Table 4.5 for the counters (R450). -/
def Dev.cntEffects (d : Dev) : Dev :=
  let d1 := (d.cnt.tab.map Prod.fst).foldl Dev.cntEffect d
  { d1 with cnt.commitPending := d1.cnt.tab.any (fun e => e.2.pend.isSome) }

/-- The word a snapshot keeps of a counter: OVF and value (R452). -/
def Cnt.snap (c : Cnt) : Nat := pack [(0, c.value), (48, b2n c.ovf)]

/-- The bank that the next boundary writes; false is A (R452, R453). -/
def CounterSt.nextBank (c : CounterSt) : Bool :=
  if c.holders.isEmpty then (if c.banked then !c.lastBank else false) else !c.holdBank

/-- Row 1 of Table 4.5: every counter's value and OVF go into one bank (R452). -/
def Dev.snapshot (d : Dev) (number : Nat) : Dev :=
  let b := d.cnt.nextBank
  { d with
    cnt.tab := d.cnt.tab.mapAll (fun _ c => if b then { c with snapB := c.snap } else { c with snapA := c.snap })
    cnt.snapTickA := if b then d.cnt.snapTickA else number
    cnt.snapTickB := if b then number else d.cnt.snapTickB
    cnt.lastBank := b, cnt.banked := true }

/-- A write of CNT_HOLD = 1 (R453). -/
def Dev.holdOn (d : Dev) (p : CmdPort) : Dev :=
  let c := d.cnt
  let hs := if c.holders.any (fun h => h.1 == p.key) then c.holders else c.holders ++ [(p.key, d.now)]
  ({ d with cnt.holdBank := if c.holders.isEmpty then c.lastBank else c.holdBank, cnt.holders := hs }).setPort p
    (fun s => { s with cntHold := true })

/-- A write of CNT_HOLD = 0 (R453). -/
def Dev.holdOff (d : Dev) (p : CmdPort) : Dev :=
  ({ d with cnt.holders := d.cnt.holders.filter (fun h => h.1 != p.key) }).setPort p
    (fun s => { s with cntHold := false })

/-- SNAP_HOLD_EXPIRED: a port's hold ends 100 ms after it was set (R453). -/
def snapHoldExpired (p : CmdPort) (d : Dev) : Dev :=
  if d.cnt.holders.any (fun h => h.1 == p.key) then
    (d.holdOff p).log 0x3C4 1 { port := p.code, part := p.partition }
  else d

/-- CNT_SNAP_STATUS (Table 14.9). -/
def CounterSt.status (c : CounterSt) : Nat :=
  pack [(2, b2n (!c.holders.isEmpty)), (1, b2n c.holdBank), (0, b2n c.lastBank)]

/-- COUNTER_WRAP: counter `k` stands at 2^48 - 1 and counts one more (R451). -/
def counterWrap (k : Nat) (d : Dev) : Dev :=
  let c := d.cnt.tab.rd k
  if c.enabled && c.value == 2 ^ 48 - 1 && !(c.chained && k % 2 == 1) then
    ({ d with cnt.tab := d.cnt.tab.wr k { c with value := 0, lastCycle := d.cntCycle k + 1 } }).cntWrap k
  else d

/-! ### Events at a boundary, and their registers -/

/-- What a boundary, or before the first the end of a boot interval, does for the event sources: alarms and vectors may
be sent again, and held vector messages leave (R444, R446, R517). -/
def Dev.eventBoundary (d : Dev) : Dev :=
  let held := d.evt.vecHeld.map Prod.fst
  let d1 := { d with evt.vecSent := [], evt.vecHeld := [], evt.alarmSent := [], cnt.ovfFired := false }
  held.foldl (fun e k => e.signalVector (k / 32) (k % 32)) d1

/-- A write of 1s to EVENT_STATUS[w] (R442). -/
def Dev.clearEvents (d : Dev) (w value : Nat) : Dev :=
  { d with evt.status := d.evt.status &&& ~~~(BitVec.ofNat 1024 (value % 2 ^ 32 * 2 ^ (32 * w))) }

/-- EVENT_STATUS[w]. -/
def Dev.eventWord (d : Dev) (w : Nat) : Nat := fld d.evt.status.toNat (32 * w) 32

/-- EVT_PULSE_END: the 1 us low pulse of EVT_N[n] ends (R445). -/
def evtPulseEnd (n : Fin 4) (d : Dev) : Dev := { d with evt.pulseLow := clrBit d.evt.pulseLow n.val }

/-- EVENT_ROUTE[s] as a word and from a word (Table 14.8). -/
def EventRoute.word (r : EventRoute) : Nat :=
  pack [(31, b2n r.vecEn), (30, b2n r.alarm), (8, r.evtMask), (0, r.vector)]
def EventRoute.ofWord (v : Nat) : EventRoute :=
  { vecEn := bitAt v 31, alarm := bitAt v 30, evtMask := fld v 8 4, vector := fld v 0 5 }

/-- A write of EVENT_ROUTE[s] (R443); a pin whose condition rises starts its pulse (R445). -/
def Dev.writeRoute (d : Dev) (s value : Nat) : Dev :=
  { d with evt := d.evt.startPulses { d.evt with route := d.evt.route.wr s (EventRoute.ofWord value) } }

end Sys2Proof.Machine
end

