-- ==== Sys2Proof/Machine/PlatCheck.lean ====
section
/-! DEFINITION. The checks of a Plat image: header, section records, section contents and the end checks (R48 to R62,
R68, R523, R524, Tables 2.16 and 2.16A). Each check answers the first failure it finds. -/

namespace Sys2Proof.Machine

/-- The first failure among entries 0 to n - 1. -/
def firstFail (n : Nat) (f : Nat → Option Reject) : Option Reject := (List.range n).findSome? f

/-- A failure when a condition holds. -/
def failIf (b : Bool) (r : Reject) : Option Reject := if b then some r else none

/-! ### Header (stage 1) -/

/-- A header failure: SECTION 0xFFFF, DETAIL 0, offset of the failing field (Table 2.16A). -/
def hdrRej (code off : Nat) : Reject := { code := code, section_ := 0xFFFF, detail := 0, offset := off }

/-- Stage 1 of R68 on the first 64 bytes. AMEND_PENDING reads no field of the header; it is reported at FLAGS, which makes
the image an amendment (DESIGN CHOICE, notes/assumptions/37.md). -/
def Dev.headerFail (d : Dev) (img : List Nat) : Option Reject :=
  let rm := leAt img 0x12 1
  let amend := bitAt (leAt img 0x13 1) 0
  let sw := leAt img 0x14 2
  failIf (leAt img 0 4 != 0x54414C50) (hdrRej 0x04 0)
  <|> failIf (crc32c (slice img 0 60) != leAt img 0x3C 4) (hdrRej 0x05 0x3C)
  <|> failIf (leAt img 5 1 != 1) (hdrRej 0x06 5)
  <|> failIf (leAt img 4 1 != 0) (hdrRej 0x06 4)
  <|> failIf (leAt img 6 2 != 64) (hdrRej 0x07 6)
  <|> failIf (decide (leAt img 8 4 < 88) || decide (67108864 < leAt img 8 4) || leAt img 8 4 % 8 != 0) (hdrRej 0x07 8)
  <|> failIf (leAt img 0xC 2 == 0 || decide (1024 < leAt img 0xC 2)) (hdrRej 0x0E 0xC)
  <|> failIf (leAt img 0xE 2 != 0xFFFF && leAt img 0xE 2 != (if d.is7144 then 0x7144 else 0x7080)) (hdrRej 0x08 0xE)
  <|> failIf (decide (d.part.siliconRev < leAt img 0x10 2)) (hdrRej 0x09 0x10)
  <|> failIf (Mode.ofNum rm == none) (hdrRej 0x02 0x12)
  <|> failIf (rm == 7 && !d.is7144) (hdrRej 0x10 0x12)
  <|> failIf (amend != d.inRun) (hdrRej 0x02 0x13)
  <|> failIf (amend && rm != d.run.runMode) (hdrRej 0x02 0x12)
  <|> failIf (amend && sw != d.run.switchId) (hdrRej 0x02 0x14)
  <|> failIf (amend && leAt img 0x20 8 != d.run.imageId) (hdrRej 0x21 0x20)
  <|> failIf (amend && leAt img 0x28 4 != d.run.amendSeq + 1) (hdrRej 0x22 0x28)
  <|> failIf (amend && (d.plat.amendState == 1 || d.plat.amendState == 2)) (hdrRej 0x24 0x13)
  <|> failIf (leAt img 0x16 2 != 0) (hdrRej 0x0F 0x16)
  <|> failIf (leAt img 0x2C 16 != 0) (hdrRej 0x0F 0x2C)
  <|> failIf (leAt img 0x13 1 / 2 != 0) (hdrRej 0x0F 0x13)
  <|> failIf (fld sw 12 4 != 0) (hdrRej 0x0F 0x14)
  <|> failIf (!amend && leAt img 0x20 8 != 0) (hdrRej 0x0F 0x20)
  <|> failIf (!amend && leAt img 0x28 4 != 0) (hdrRej 0x0F 0x28)

/-! ### What earlier sections of the image say -/

/-- The body of the first section of a type. -/
def secBody (secs : List PlatSec) (ty : Nat) : Option (List Nat) :=
  (secs.find? (fun s => s.type == ty)).map PlatSec.body

def TileCfg.ofBytes (bs : List Nat) (t : Nat) : TileCfg :=
  { role := leAt bs (8 * t + 1) 1, rateMax := leAt bs (8 * t + 2) 1, clocking := leAt bs (8 * t + 3) 1,
    spares := leAt bs (8 * t + 4) 1 }

def PartEntry.ofBytes (bs : List Nat) (i : Nat) : PartEntry :=
  { present := true, upstream := leAt bs (32 * i + 1) 1, reserve := leAt bs (32 * i + 4) 4,
    down := leAt bs (32 * i + 8) 16 }

/-- Roles, cuts and partitions that an image (or, for an amendment, the image in force) sets. -/
structure ImgCtx where
  /-- The device checks an amendment. -/
  amend : Bool
  runMode : Nat
  tiles : Nat
  tile : Nat → TileCfg
  /-- Width code of the port that starts at port number p. -/
  cut : Nat → Nat
  part : Nat → Option PartEntry

def ImgCtx.isRole (c : ImgCtx) (r p : Nat) : Bool :=
  decide (p / 8 < c.tiles) && (c.tile (p / 8)).role == r && c.cut p != 0
def ImgCtx.partDef (c : ImgCtx) (q : Nat) : Bool := (c.part q).isSome
def ImgCtx.partPorts (c : ImgCtx) (q : Nat) : Option (Nat × Nat) := (c.part q).map (fun e => (e.upstream, e.down))

/-- Tiles whose role is H or S, in order. -/
def ImgCtx.activeTiles (c : ImgCtx) : List Nat := (List.range c.tiles).filter (fun t => (c.tile t).role != 0)

/-- The context of the image that is arriving. -/
def Dev.imgCtx (d : Dev) (img : List Nat) (secs : List PlatSec) : ImgCtx :=
  if bitAt (leAt img 0x13 1) 0 then
    { amend := true, runMode := d.run.runMode, tiles := d.tiles, tile := fun t => d.run.tile.rd t,
      cut := fun p => d.run.cut.rd p,
      part := fun q => if (d.run.part.rd q).present then some (d.run.part.rd q) else none }
  else
    let tb := (secBody secs 1).getD []
    let tile := fun t => TileCfg.ofBytes tb t
    let act := (List.range d.tiles).filter (fun t => (tile t).role != 0)
    let cb := (secBody secs 2).getD []
    let pb := (secBody secs 3).getD []
    { amend := false, runMode := leAt img 0x12 1, tiles := d.tiles, tile := tile,
      cut := fun p => match act.idxOf? (p / 8) with
        | some i => leAt cb (16 * i + 8 + p % 8) 1
        | none => 0
      part := fun q =>
        ((List.range (pb.length / 32)).find? (fun i => leAt pb (32 * i) 1 == q)).map (PartEntry.ofBytes pb) }

/-! ### Section contents -/

/-- A failure at byte `x` of the body of section `i` whose record lies at `o`. -/
def bodyRej (i o code detail x : Nat) : Reject :=
  { code := code, section_ := i, detail := detail % 256, offset := o + 16 + x }

/-- A body of the wrong length: the failing item is the section's record (notes/assumptions/54.md). -/
def lenRej (i o code : Nat) : Reject := { code := code, section_ := i, detail := 0, offset := o }

/-- Tile Roles (R54, R83, R523). -/
def rolesFail (c : ImgCtx) (laneUsable : Nat → Nat → Bool) (i o : Nat) (b : List Nat) : Option Reject :=
  let T := TileCfg.ofBytes b
  let hs := (List.range c.tiles).filter (fun t => (T t).role == 1)
  let ss := (List.range c.tiles).filter (fun t => (T t).role == 2)
  let rm := c.runMode
  failIf (b.length != 8 * c.tiles) (lenRej i o 0x25)
  <|> firstFail c.tiles (fun t =>
    failIf (leAt b (8 * t) 1 != t) (bodyRej i o 0x11 t (8 * t))
    <|> failIf (decide (2 < (T t).role)) (bodyRej i o 0x11 t (8 * t + 1))
    <|> failIf (decide ((if (T t).role = 1 then 5 else if (T t).role = 2 then 2 else 0) < (T t).rateMax))
          (bodyRej i o 0x11 t (8 * t + 2))
    <|> failIf (decide (4 ≤ (T t).clocking)) (bodyRej i o 0x0F t (8 * t + 3))
    <|> failIf (decide (4 ≤ (T t).spares)) (bodyRej i o 0x0F t (8 * t + 4))
    <|> failIf (leAt b (8 * t + 5) 3 != 0) (bodyRej i o 0x0F t (8 * t + 5)))
  <|> firstFail c.tiles (fun t =>
    failIf ((bitAt (T t).spares 0 && !laneUsable t 16) || (bitAt (T t).spares 1 && !laneUsable t 17))
      (bodyRej i o 0x10 t (8 * t + 4)))
  <|> (if rm = 3 ∨ rm = 4 then ss.head?.map (fun t => bodyRej i o 0x11 t (8 * t))
       else if rm = 6 then hs.head?.map (fun t => bodyRej i o 0x11 t (8 * t)) else none)
  <|> failIf (rm == 7 && !ss.isEmpty && !ss.contains 8) (bodyRej i o 0x11 8 64)
  <|> failIf (((rm == 3 || rm == 4 || rm == 5) && hs.isEmpty) || ((rm == 5 || rm == 6 || rm == 7) && ss.isEmpty))
        (bodyRej i o 0x11 0xFF 0)

/-- Port Cuts (R55, R83). A width code is reported at its own byte of SLOT_WIDTH, and so is a byte of any array field
(DESIGN CHOICE, notes/assumptions/37.md). -/
def cutsFail (c : ImgCtx) (i o : Nat) (b : List Nat) : Option Reject :=
  let act := c.activeTiles
  let T := fun k => leAt b (16 * k) 1
  let W := fun k s => leAt b (16 * k + 8 + s) 1
  failIf (b.length != 16 * act.length) (lenRej i o 0x25)
  <|> firstFail act.length (fun k =>
    failIf (leAt b (16 * k + 1) 7 != 0) (bodyRej i o 0x0F (T k) (16 * k + 1))
    <|> firstFail 8 (fun s => failIf (decide (4 < W k s)) (bodyRej i o 0x12 (T k) (16 * k + 8 + s))))
  <|> firstFail act.length (fun k => failIf (decide (c.tiles ≤ T k)) (bodyRej i o 0x10 (T k) (16 * k)))
  <|> firstFail act.length (fun k => failIf (T k != act.getD k 0) (bodyRej i o 0x12 (T k) (16 * k)))
  <|> firstFail act.length (fun k =>
    failIf ((List.range 8).any (fun s => W k s != 0 &&
        (s % 2 ^ (W k s - 1) != 0 ||
         (List.range 8).any (fun r => decide (s < r) && decide (r < s + 2 ^ (W k s - 1)) && W k r != 0))))
      (bodyRej i o 0x12 (act.getD k 0) (16 * k)))
  <|> (if c.runMode = 7 then match act.idxOf? 8 with
        | some k => failIf ((List.range 8).map (W k) != [3, 0, 0, 0, 3, 0, 0, 0]) (bodyRej i o 0x12 8 (16 * k))
        | none => none
       else none)

/-- Partitions (R56, R523). -/
def partsFail (c : ImgCtx) (i o : Nat) (b : List Nat) : Option Reject :=
  let n := b.length / 32
  let q := fun k => leAt b (32 * k) 1
  let E := PartEntry.ofBytes b
  let absent := fun p => decide (p < 72) && decide (c.tiles ≤ p / 8)
  let downs := fun k => (List.range 72).filter (fun p => bitAt (E k).down p)
  failIf (b.length % 32 != 0) (lenRej i o 0x25)
  <|> firstFail n (fun k =>
    failIf (decide (23 < q k)) (bodyRej i o 0x13 (q k) (32 * k))
    <|> failIf (leAt b (32 * k + 2) 2 != 0) (bodyRej i o 0x0F (q k) (32 * k + 2))
    <|> failIf (decide (2 ^ 72 ≤ (E k).down)) (bodyRej i o 0x0F (q k) (32 * k + 8))
    <|> failIf (leAt b (32 * k + 0x18) 8 != 0) (bodyRej i o 0x0F (q k) (32 * k + 0x18)))
  <|> firstFail n (fun k =>
    failIf (absent (E k).upstream) (bodyRej i o 0x10 (q k) (32 * k + 1))
    <|> failIf ((downs k).any absent) (bodyRej i o 0x10 (q k) (32 * k + 8)))
  <|> firstFail n (fun k =>
    failIf (!c.isRole 1 (E k).upstream) (bodyRej i o 0x13 (q k) (32 * k + 1))
    <|> failIf ((downs k).any (fun p => !c.isRole 1 p)) (bodyRej i o 0x13 (q k) (32 * k + 8)))
  <|> firstFail n (fun k =>
    failIf (decide (0 < k) && decide (q k ≤ q (k - 1))) (bodyRej i o 0x13 (q k) (32 * k))
    <|> failIf (c.runMode == 3 && k == 1) (bodyRej i o 0x13 (q k) (32 * k))
    <|> failIf ((List.range n).any (fun j => bitAt (E j).down (E k).upstream ||
          (j != k && (E j).upstream == (E k).upstream))) (bodyRej i o 0x13 (q k) (32 * k + 1))
    <|> failIf (decide (65536 < ((List.range (k + 1)).map (fun j => (E j).reserve)).sum))
          (bodyRej i o 0x13 (q k) (32 * k + 4)))
  <|> failIf (n == 0 || q 0 != 0) (bodyRej i o 0x13 0 0)

/-- Function Pool: quotas of undefined partitions count zero (R57). -/
def poolFail (c : ImgCtx) (i o : Nat) (b : List Nat) : Option Reject :=
  let qs := (List.range 24).filter c.partDef
  failIf (b.length != 104) (lenRej i o 0x25)
  <|> failIf (leAt b 0 2 == 0 || decide (2048 < leAt b 0 2)) (bodyRej i o 0x14 0 0)
  <|> failIf (leAt b 2 6 != 0) (bodyRej i o 0x0F 0 2)
  <|> failIf (decide (4096 < (qs.map (fun q => leAt b (8 + 4 * q) 2)).sum)) (bodyRej i o 0x14 0 8)
  <|> failIf (decide (16384 < leAt b 0 2 + (qs.map (fun q => leAt b (8 + 4 * q + 2) 2)).sum)) (bodyRej i o 0x14 0 8)

/-- Number of entries of an Authority body: an all-zero last group is padding (R523). -/
def authEntries (b : List Nat) : Nat :=
  let n := b.length / 4
  if n ≠ 0 ∧ leAt b (4 * (n - 1)) 4 = 0 then n - 1 else n

/-- Authority and Amend Authority. `lvl` and `amd` are the values that must not be raised (R457). -/
def authFail (lvl : Nat → Nat) (amd : Nat → Bool) (i o : Nat) (b : List Nat) : Option Reject :=
  let n := authEntries b
  let k := fun j => leAt b (4 * j) 1
  failIf (b.length % 8 != 0) (lenRej i o 0x25)
  <|> firstFail n (fun j =>
    failIf (decide (3 < k j)) (bodyRej i o 0x26 j (4 * j))
    <|> failIf (decide (3 < leAt b (4 * j + 1) 1)) (bodyRej i o 0x26 j (4 * j + 1))
    <|> failIf (decide (1 < leAt b (4 * j + 2) 1)) (bodyRej i o 0x26 j (4 * j + 2))
    <|> failIf (leAt b (4 * j + 3) 1 != 0) (bodyRej i o 0x0F j (4 * j + 3)))
  <|> firstFail n (fun j =>
    failIf (decide (lvl (k j) < leAt b (4 * j + 1) 1)) (bodyRej i o 0x19 j (4 * j + 1))
    <|> failIf (leAt b (4 * j + 2) 1 == 1 && !amd (k j)) (bodyRej i o 0x19 j (4 * j + 2)))
  <|> firstFail n (fun j => failIf ((List.range j).any (fun m => k m == k j)) (bodyRej i o 0x26 j (4 * j)))

/-- QoS; an Amend QoS ignores TC_TO_VC and LOSSY (R60, R523). -/
def qosFail (amend : Bool) (i o : Nat) (b : List Nat) : Option Reject :=
  failIf (b.length != 56) (lenRej i o 0x25)
  <|> (if amend then none else firstFail 8 (fun n => failIf (decide (7 < leAt b n 1)) (bodyRej i o 0x26 n n)))
  <|> failIf (leAt b 9 7 != 0) (bodyRej i o 0x0F 0 9)
  <|> firstFail 8 (fun n => failIf (decide (leAt b (0x10 + 4 * n) 4 < 64) || decide (1000000 < leAt b (0x10 + 4 * n) 4))
        (bodyRej i o 0x26 n (0x10 + 4 * n)))
  <|> firstFail 8 (fun n => failIf (leAt b (0x30 + n) 1 == 0) (bodyRej i o 0x26 n (0x30 + n)))

/-- Largest step budget: the period in MCLK cycles, rounded down (Table 2.9). -/
def budgetMax (period : Nat) : Nat := 4096 * 2 ^ period / 10

/-- Tick; Amend Step Budgets ignores PERIOD, ROLE and SOURCE (R523). -/
def tickFail (amend : Option Nat) (i o : Nat) (b : List Nat) : Option Reject :=
  let full := amend.isNone
  let per := amend.getD (leAt b 0 1)
  failIf (b.length != 16) (lenRej i o 0x25)
  <|> failIf (full && decide (4 < leAt b 0 1)) (bodyRej i o 0x16 0 0)
  <|> failIf (full && decide (1 < leAt b 1 1)) (bodyRej i o 0x16 0 1)
  <|> failIf (full && decide (2 < leAt b 2 1)) (bodyRej i o 0x16 0 2)
  <|> failIf (leAt b 3 1 != 0) (bodyRej i o 0x0F 0 3)
  <|> firstFail 5 (fun k => failIf (decide (leAt b (4 + 2 * k) 2 < 64) || decide (budgetMax per < leAt b (4 + 2 * k) 2))
        (bodyRej i o 0x16 k (4 + 2 * k)))
  <|> failIf (leAt b 14 2 != 0) (bodyRej i o 0x0F 0 14)

/-- `n` rounded up to a multiple of 8. -/
def up8 (n : Nat) : Nat := (n + 7) / 8 * 8

/-- Core Firmware; `prev` is the CORE of the firmware section before (R58). -/
def firmwareFail (prev : Option Nat) (i o : Nat) (b : List Nat) : Option Reject :=
  let core := leAt b 0 1
  let lo := leAt b 4 4
  let n := leAt b 8 4
  let en := leAt b 12 4
  failIf (decide (b.length < 16) || b.length != up8 (16 + n)) (lenRej i o 0x25)
  <|> failIf (decide (4 < core)) (bodyRej i o 0x17 core 0)
  <|> failIf (leAt b 1 3 != 0) (bodyRej i o 0x0F core 1)
  <|> failIf (decide (524288 < lo + n)) (bodyRej i o 0x17 core 4)
  <|> failIf (decide (en < lo) || decide (lo + n ≤ en)) (bodyRej i o 0x17 core 12)
  <|> failIf (match prev with
        | some c => decide (core ≤ c)
        | none => false) (bodyRej i o 0x17 core 0)

/-- Entry size and table size of a table load: type 0x0009 to 0x000D, or the amendment type that shares its body. -/
def loadEntryBytes (ty : Nat) : Nat :=
  if ty = 0x09 ∨ ty = 0x41 then 8 else if ty = 0x0A ∨ ty = 0x42 then 8 else if ty = 0x0B ∨ ty = 0x43 then 4 else 32
def loadTableSize (ty mode : Nat) : Nat :=
  if ty = 0x09 ∨ ty = 0x41 then 4194304 else if ty = 0x0A ∨ ty = 0x42 then 4096
  else if ty = 0x0B ∨ ty = 0x43 then 65536 else if ty = 0x0C ∨ ty = 0x44 then 64
  else if mode = 0 then 8192 else 128

/-- What a lock forbids to an amendment (R70 LOCKED, R74, R305, R393). -/
structure LockCtx where
  /-- A BAR range of kind 1 meets [addr, addr + len). -/
  bar : Nat → Nat → Bool
  /-- Gazetteer index i lies in a range of kind 3. -/
  gaz : Nat → Bool
  /-- A rule overlaps a locked region of kind 2. -/
  rule : Rule → Bool
  /-- The rule in force under a key of `ruleKey`, with the earlier sections of the same amendment applied. -/
  ruleNow : Nat → Rule
  /-- Window `w` as the image in force, where one is, and the earlier sections leave it. -/
  winNow : Nat → Win

/-- BAR address of entry `x` of the table that a load section names. -/
def loadAddr (ty table x : Nat) : Nat :=
  if ty = 0x09 ∨ ty = 0x41 then 0x01000000 + 8 * x else if ty = 0x0A ∨ ty = 0x42 then 0x00C08000 + 8 * x
  else if ty = 0x0B ∨ ty = 0x43 then 0x00C40000 + 4 * x else if ty = 0x0C ∨ ty = 0x44 then 0x00C01000 + 0x20 * x
  else if table = 0xFF then 0x03010000 + 0x20 * x else 0x03080000 + 0x1000 * table + 0x20 * x

/-- Table loads 0x0009 to 0x000D and 0x0041 to 0x0045 (R59, R303, R305, R387). `gates` is the number of gates of the
tiles present, `mode` the Boundary MODE that earlier sections or the image in force fixed. -/
def loadFail (c : ImgCtx) (ports : Nat) (mode : Option Nat) (lk : LockCtx) (ty i o : Nat) (b : List Nat) :
    Option Reject :=
  let first := leAt b 0 4
  let count := leAt b 4 4
  let gate := leAt b 8 1
  let md := leAt b 9 1
  let sz := loadEntryBytes ty
  let bnd := ty == 0x0D || ty == 0x45
  let body := fun j => slice b (16 + sz * j) sz
  let rej := fun j => bodyRej i o 0x15 j (16 + sz * j)
  -- Tables 9.7 and 12.5: codes up to `fmtMax` are formats and ranges, the others references
  let code := fun j => if ty = 0x09 ∨ ty = 0x41 then gazCheck (ofLe (body j))
    else if ty = 0x0A ∨ ty = 0x42 then bearingCheck (c.isRole 2) (ofLe (body j))
    else if ty = 0x0B ∨ ty = 0x43 then (if 0xB800 ≤ first + j then 1 else ridCheck c.partPorts (ofLe (body j)))
    else if ty = 0x0C ∨ ty = 0x44 then winCheck c.partDef (Win.ofBytes (body j))
    else ruleCheck c.partDef (Rule.ofBytes (body j))
  let fmtMax := if bnd then 1 else 3
  -- TAG_SPACE 3 of a handle is a range; a port number below 72 beyond the ports of the variant is absent (R523)
  let range := fun j => (decide (1 ≤ code j) && decide (code j ≤ fmtMax)) ||
    ((ty == 0x0B || ty == 0x43) && ridKind (ofLe (body j)) != 0 && ridTagSpace (ofLe (body j)) == 3)
  let gone := fun p => decide (ports ≤ p) && decide (p < 72)
  let absent := fun j =>
    if ty = 0x0A ∨ ty = 0x42 then (List.range 4).any (fun k => wayValid (ofLe (body j)) k && gone (wayPort (ofLe (body j)) k))
    else (ty == 0x0B || ty == 0x43) && (ridKind (ofLe (body j)) == 1 || ridKind (ofLe (body j)) == 2) && gone (ridPort (ofLe (body j)))
  let win := fun m => if first ≤ m ∧ m < first + count then Win.ofBytes (body (m - first)) else lk.winNow m
  failIf (decide (b.length < 16) || b.length != up8 (16 + count * sz)) (lenRej i o 0x15)
  <|> failIf (decide (loadTableSize ty md < first + count)) (bodyRej i o 0x15 0 0)
  <|> failIf (!bnd && gate != 0) (bodyRej i o 0x15 0 8)
  <|> failIf ((!bnd && md != 0) || decide (1 < md)) (bodyRej i o 0x15 0 9)
  <|> failIf (bnd && (md == 0) != (gate == 0xFF)) (bodyRej i o 0x15 0 8)
  <|> failIf (leAt b 10 6 != 0) (bodyRej i o 0x0F 0 10)
  <|> failIf (bnd && md == 1 && decide (73 < gate)) (bodyRej i o 0x15 gate 8)
  <|> failIf (bnd && md == 1 && decide (ports ≤ gate) && decide (gate < 72)) (bodyRej i o 0x10 gate 8)
  <|> failIf (bnd && mode != none && mode != some md) (bodyRej i o 0x15 0 9)
  <|> firstFail count (fun j => failIf (range j) (rej j))
  <|> firstFail count (fun j => failIf (absent j) { rej j with code := 0x10 })
  <|> firstFail count (fun j => failIf (code j != 0) (rej j))
  <|> (if c.amend then firstFail count (fun j =>
        failIf (lk.bar (loadAddr ty gate (first + j)) sz || ((ty == 0x41) && lk.gaz (first + j)) ||
                (bnd && (lk.rule (Rule.ofBytes (body j)) || lk.rule (lk.ruleNow (ruleKey gate (first + j))))))
          { rej j with code := 0x23 })
       else none)
  <|> (if ty = 0x0C ∨ ty = 0x44 then firstFail count (fun j =>
        failIf ((List.range 64).any (fun m => m != first + j && winOverlap (win m) (win (first + j)))) (rej j))
       else none)

/-- Auto-Spare Policy (Table 2.9). -/
def spareFail (i o : Nat) (b : List Nat) : Option Reject :=
  let n := b.length / 8
  failIf (b.length % 8 != 0) (lenRej i o 0x25)
  <|> firstFail n (fun j =>
    failIf (decide (4 < leAt b (8 * j) 1)) (bodyRej i o 0x26 j (8 * j))
    <|> failIf (decide (1 < leAt b (8 * j + 1) 1)) (bodyRej i o 0x26 j (8 * j + 1))
    <|> failIf (leAt b (8 * j + 2) 2 != 0) (bodyRej i o 0x0F j (8 * j + 2))
    <|> failIf (leAt b (8 * j + 6) 2 == 0) (bodyRej i o 0x26 j (8 * j + 6)))
  <|> firstFail n (fun j =>
    failIf ((List.range j).any (fun m => leAt b (8 * m) 1 == leAt b (8 * j) 1)) (bodyRej i o 0x26 j (8 * j)))

/-- Debug Ceiling; an amendment may not raise a level (R53). -/
def ceilingFail (inForce : Option (Nat → Nat)) (i o : Nat) (b : List Nat) : Option Reject :=
  failIf (b.length != 8) (lenRej i o 0x25)
  <|> firstFail 5 (fun r => failIf (decide (3 < leAt b r 1)) (bodyRej i o 0x1F r r))
  <|> failIf (leAt b 5 3 != 0) (bodyRej i o 0x0F 0 5)
  <|> (match inForce with
      | some lv => firstFail 5 (fun r => failIf (decide (lv r < leAt b r 1)) (bodyRej i o 0x1F r r))
      | none => none)

/-- A Lock Mask entry of a body. -/
def LockEntry.ofBytes (b : List Nat) (k : Nat) : LockEntry :=
  { kind := leAt b (16 * k) 1, space := leAt b (16 * k + 1) 1, partition := leAt b (16 * k + 2) 1,
    length := leAt b (16 * k + 4) 4, base := leAt b (16 * k + 8) 8 }

/-- Lock Mask (R61); a fabric region is refused in a gate-mode image (R394). -/
def lockFail (gateImage : Bool) (i o : Nat) (b : List Nat) : Option Reject :=
  let n := b.length / 16
  let E := LockEntry.ofBytes b
  failIf (b.length % 16 != 0) (lenRej i o 0x25)
  <|> failIf (n == 0 || decide (256 < n)) (bodyRej i o 0x18 0 0)
  <|> firstFail n (fun k =>
    failIf ((E k).kind == 0 || decide (3 < (E k).kind)) (bodyRej i o 0x18 k (16 * k))
    <|> failIf (decide (1 < (E k).space) || ((E k).kind != 2 && (E k).space != 0)) (bodyRej i o 0x18 k (16 * k + 1))
    <|> failIf (decide (23 < (E k).partition) || (!((E k).kind == 2 && (E k).space == 1) && (E k).partition != 0))
          (bodyRej i o 0x18 k (16 * k + 2))
    <|> failIf (leAt b (16 * k + 3) 1 != 0) (bodyRej i o 0x0F k (16 * k + 3))
    <|> failIf (((E k).kind == 1 && ((E k).length % 4 != 0 || decide (0x08000000 < (E k).base + max 1 (E k).length))) ||
                ((E k).kind == 2 && ((E k).length % 4096 != 0 || decide (2 ^ 64 < (E k).base + max 1 (E k).length) ||
                  ((E k).space == 0 && decide (2 ^ 57 < (E k).base + max 1 (E k).length)))) ||
                ((E k).kind == 3 && decide (4194304 < (E k).base + max 1 (E k).length))) (bodyRej i o 0x18 k (16 * k + 4))
    <|> failIf (((E k).kind == 1 && (E k).base % 4 != 0) || ((E k).kind == 2 && (E k).base % 4096 != 0))
          (bodyRej i o 0x18 k (16 * k + 8))
    <|> failIf (gateImage && (E k).kind == 2 && (E k).space == 0) (bodyRej i o 0x18 k (16 * k)))

/-- The section walk of a nested image: every record before the trailer, every CRC good, no Neighbour Copy inside
(R62). `n` bounds the number of sections left. -/
def nestedWalk (img : List Nat) (off n : Nat) : Bool :=
  let L := leAt img 8 4
  match n with
  | 0 => off == L - 8
  | n + 1 =>
    let len := leAt img (off + 4) 4
    decide (off + 16 + len ≤ L - 8) && crc32c (slice img (off + 16) len) == leAt img (off + 8) 4 &&
      leAt img off 2 != 0x11 && leAt img off 2 != 0x4B && nestedWalk img (off + 16 + len) n

/-- What the Haldion checks of a nested image (R62). Of its header these are MAGIC, the CRC, HEADER_SIZE, IMAGE_LENGTH and
AMEND; FORMAT, RUN_MODE, TARGET_PART, MIN_SILICON_REV, the reserved fields and a SECTION_COUNT above 1,024 are left to the
receiving neighbour (DESIGN CHOICE, notes/assumptions/37.md). -/
def nestedOk (img : List Nat) : Bool :=
  let L := leAt img 8 4
  leAt img 0 4 == 0x54414C50 && crc32c (slice img 0 60) == leAt img 0x3C 4 && leAt img 6 2 == 64 &&
    decide (88 ≤ L) && decide (L ≤ 4194304) && L % 8 == 0 && L == img.length &&
    !bitAt (leAt img 0x13 1) 0 && nestedWalk img 64 (leAt img 0xC 2) &&
    crc32c (slice img 0 (L - 8)) == leAt img (L - 8) 4 && leAt img (L - 4) 4 == 0x504C4154

/-- Neighbour Copy (R62). -/
def copyFail (earlier : List PlatSec) (i o : Nat) (b : List Nat) : Option Reject :=
  failIf (decide (b.length < 8 + 88) || b.length != 8 + leAt b 16 4) (lenRej i o 0x1A)
  <|> failIf (decide (1 < leAt b 0 1)) (bodyRej i o 0x1A 0 0)
  <|> failIf (leAt b 1 7 != 0) (bodyRej i o 0x0F 0 1)
  <|> failIf (!nestedOk (b.drop 8)) (bodyRej i o 0x1A 0 8)
  <|> failIf (earlier.any (fun s => (s.type == 0x11 || s.type == 0x4B) && leAt s.body 0 1 == leAt b 0 1))
        (bodyRej i o 0x1A 0 0)

/-! ### Section records (stage 2) -/

/-- Types this device knows (Table 2.6). -/
def knownType (ty : Nat) : Bool :=
  (decide (1 ≤ ty) && decide (ty ≤ 0x11)) || (decide (0x41 ≤ ty) && decide (ty ≤ 0x4B)) ||
  (decide (0x7000 ≤ ty) && decide (ty ≤ 0x7EFF)) || ty == 0x7FFF

/-- The type may stand in this image kind (Table 2.6). -/
def kindAllowed (amend : Bool) (ty : Nat) : Bool :=
  if decide (1 ≤ ty) && decide (ty ≤ 0x11) || ty == 0x7FFF then !amend
  else if decide (0x41 ≤ ty) && decide (ty ≤ 0x4B) then amend else true

/-- How many sections of a type an image may hold (Table 2.6); none where there is no limit. -/
def typeLimit (c : ImgCtx) (ty : Nat) : Option Nat :=
  if ty = 0x03 then (if (List.range c.tiles).any (fun t => (c.tile t).role == 1) then some 1 else some 0)
  else if ty = 0x04 then (if c.runMode = 6 then some 0 else some 1)
  else if ty = 0x08 then some 5
  else if ty = 0x11 ∨ ty = 0x4B then some 2
  else if (0x09 ≤ ty ∧ ty ≤ 0x0D) ∨ (0x41 ≤ ty ∧ ty ≤ 0x45) ∨ (0x7000 ≤ ty ∧ ty ≤ 0x7EFF) then none
  else if knownType ty then some 1 else none

/-- Boundary MODE fixed by earlier sections or, for an amendment, by the image in force (R59, R377). -/
def Dev.bndMode (d : Dev) (c : ImgCtx) (secs : List PlatSec) : Option Nat :=
  if c.amend then some (b2n d.bnd.gateMode)
  else (secBody secs 0x0D).map (fun b => leAt b 9 1)

/-- A rule overlaps a locked region of kind 2 (R393). -/
def Dev.ruleLocked (d : Dev) (r : Rule) : Bool :=
  d.run.sealed && d.run.lock.any (fun e => e.kind == 2 && e.length != 0 &&
    r.meets (e.space == 1) e.partition e.base (e.base + e.length - 1))

/-- Gazetteer index `i` lies in a sealed range of kind 3 (R74). -/
def Dev.gazLocked (d : Dev) (i : Nat) : Bool :=
  d.run.sealed && d.run.lock.any (fun e => e.kind == 3 && decide (e.base ≤ i) && decide (i < e.base + e.length))

/-- The last value that earlier Amend Boundary sections give a rule key. -/
def amendedRule (secs : List PlatSec) (key : Nat) : Option Rule :=
  (secs.reverse.filter (fun s => s.type == 0x45)).findSome? (fun s =>
    let first := leAt s.body 0 4
    let gate := leAt s.body 8 1
    ((List.range (leAt s.body 4 4)).find? (fun j => ruleKey gate (first + j) == key)).map
      (fun j => Rule.ofBytes (slice s.body (16 + 32 * j) 32)))

/-- The last value that earlier window sections give window `w`. -/
def loadedWin (secs : List PlatSec) (w : Nat) : Option Win :=
  (secs.reverse.filter (fun s => s.type == 0x0C || s.type == 0x44)).findSome? (fun s =>
    let first := leAt s.body 0 4
    if first ≤ w ∧ w < first + leAt s.body 4 4 then some (Win.ofBytes (slice s.body (16 + 32 * (w - first)) 32)) else none)

def Dev.lockCtx (d : Dev) (secs : List PlatSec) : LockCtx :=
  { bar := d.barLocked, gaz := d.gazLocked, rule := d.ruleLocked,
    ruleNow := fun k => (amendedRule secs k).getD (d.bnd.rule.rd k),
    winNow := fun w => (loadedWin secs w).getD (d.fab.win.rd w) }

/-- Content checks of a known section (R68, R523). -/
def Dev.contentFail (d : Dev) (c : ImgCtx) (secs : List PlatSec) (ty i o : Nat) (b : List Nat) : Option Reject :=
  if ty = 0x01 then rolesFail c d.laneUsable i o b
  else if ty = 0x02 then cutsFail c i o b
  else if ty = 0x03 then partsFail c i o b
  else if ty = 0x04 then poolFail c i o b
  else if ty = 0x05 then authFail d.defaultLevel d.defaultAmend i o b
  else if ty = 0x4A then authFail d.kindLevel d.kindAmend i o b
  else if ty = 0x06 then qosFail false i o b
  else if ty = 0x46 then qosFail true i o b
  else if ty = 0x07 then tickFail none i o b
  else if ty = 0x48 then tickFail (some d.run.tickPeriod) i o b
  else if ty = 0x08 then
    firmwareFail ((secs.filter (fun s => s.type == 0x08)).getLast?.map (fun s => leAt s.body 0 1)) i o b
  else if (0x09 ≤ ty ∧ ty ≤ 0x0D) ∨ (0x41 ≤ ty ∧ ty ≤ 0x45) then
    loadFail c d.ports (d.bndMode c secs) (d.lockCtx secs) ty i o b
  else if ty = 0x0E ∨ ty = 0x47 then spareFail i o b
  else if ty = 0x0F then ceilingFail none i o b
  else if ty = 0x49 then ceilingFail (some (fun r => d.run.ceiling.rd r)) i o b
  else if ty = 0x10 then lockFail ((secBody secs 0x0D).any (fun x => leAt x 9 1 == 1)) i o b
  else if ty = 0x11 ∨ ty = 0x4B then copyFail secs i o b
  else if ty = 0x7FFF then
    (failIf (b.length != 8) (lenRej i o 0x25) <|> failIf (leAt b 0 8 != 0) (bodyRej i o 0x0F 0 0))
  else none

/-- No record of a section fits between `o` and the trailer. -/
def noRoom (img : List Nat) (o : Nat) : Bool := decide (leAt img 8 4 < o + 24)

/-- The record of section `i` at `o` does not lie before the trailer (R68). -/
def overruns (img : List Nat) (o : Nat) : Bool := decide (leAt img 8 4 < o + 16 + leAt img (o + 4) 4 + 8) || noRoom img o

/-- Stage 2 of R68 on the section whose record lies at `o`, when its last byte has arrived. An informational section, or a
skipped unknown one, is taken whatever its LENGTH and padding: no code is given for a LENGTH that is not a multiple of 8,
or for padding that is not zero (DESIGN CHOICE, notes/assumptions/37.md). -/
def Dev.sectionFail (d : Dev) (img : List Nat) (secs : List PlatSec) (i o : Nat) : Option Reject :=
  let c := d.imgCtx img secs
  let ty := leAt img o 2
  let len := leAt img (o + 4) 4
  let at_ := fun code x => ({ code := code, section_ := i, detail := 0, offset := o + x } : Reject)
  let body := slice img (o + 16) len
  let n := (secs.filter (fun s => s.type == ty)).length
  failIf (overruns img o) (at_ 0x0A 0)
  <|> failIf (decide (leAt img 0xC 2 ≤ i)) (at_ 0x0E 0)
  <|> failIf (leAt img (o + 2) 2 / 2 != 0) (at_ 0x0F 2)
  <|> failIf (leAt img (o + 12) 4 != 0) (at_ 0x0F 12)
  <|> failIf (!knownType ty && !bitAt (leAt img (o + 2) 2) 0) (at_ 0x0C 0)
  <|> failIf (!kindAllowed c.amend ty) (at_ 0x20 0)
  <|> failIf (secs.any (fun s => decide (ty < s.type)) || secs.any (fun s => s.type == 0x7FFF && ty != 0x7FFF))
        (at_ 0x0D 0)
  <|> failIf (match typeLimit c ty with
        | some m => decide (m ≤ n)
        | none => false) (at_ 0x0E 0)
  <|> failIf (crc32c body != leAt img (o + 8) 4) (at_ 0x0B 8)
  <|> d.contentFail c secs ty i o body

/-! ### End checks (stage 3) -/

/-- The first required section that is missing: its DETAIL (R53, Table 2.16A). -/
def missingSection (c : ImgCtx) (secs : List PlatSec) : Option Nat :=
  let has := fun ty => secs.any (fun s => s.type == ty)
  let cores := (secs.filter (fun s => s.type == 0x08)).map (fun s => leAt s.body 0 1)
  if c.amend then none
  else if !has 1 then some 1
  else if !has 2 then some 2
  else if (List.range c.tiles).any (fun t => (c.tile t).role == 1) && !has 3 then some 3
  else if !has 7 then some 7
  else ((List.range 5).find? (fun k => !cores.contains k)).map (fun k => 0x80 + k)

/-- Stage 3 of R68. -/
def Dev.endFail (d : Dev) (img : List Nat) (secs : List PlatSec) (bytes : Nat) : Option Reject :=
  let c := d.imgCtx img secs
  let L := leAt img 8 4
  let out := fun code detail off => ({ code := code, section_ := 0xFFFF, detail := detail % 256, offset := off } : Reject)
  let inSec := fun code detail (s : PlatSec) =>
    ({ code := code, section_ := s.index, detail := detail, offset := s.offset } : Reject)
  let sealedImg := secs.any (fun s => s.type == 0x7FFF)
  failIf (bytes != L) (out 0x07 0 bytes)
  <|> failIf (leAt img (L - 4) 4 != 0x504C4154) (out 0x1E 0 (L - 4))
  <|> failIf (crc32c (slice img 0 (L - 8)) != leAt img (L - 8) 4) (out 0x1B 0 (L - 8))
  <|> failIf (secs.length != leAt img 0xC 2) (out 0x0E secs.length (L - 8))
  <|> ((missingSection c secs).map (fun m => out 0x0E m (L - 8)))
  <|> (if sealedImg then none else (secs.find? (fun s => s.type == 0x10)).map (inSec 0x18 0))
  <|> (if sealedImg then
        (secs.find? (fun s => s.type == 0x0F && decide (1 < leAt s.body 1 1))).map (inSec 0x1F 1) else none)

end Sys2Proof.Machine
end

