-- ==== Sys2Proof/Machine/Boundary.lean ====
section
/-! DEFINITION. The Boundary check, its denials, epochs and commits (R377 to R398). -/

namespace Sys2Proof.Machine

/-! ### The check (R380 to R383, R394) -/

/-- Attributes of a check (Table 12.2): `kind` 0 host port, 1 fabric, 2 engine, 3 debug master. -/
structure Chk where
  kind : Nat := 0
  sw : Nat := 0
  part : Nat := 0x1F
  host : Bool := true
  space : Nat := 0
  addr : Nat := 0
  /-- Tile whose counters see the check. -/
  tile : Option Nat := none
deriving DecidableEq, Repr, Inhabited

/-- R382 for one rule. -/
def Rule.matches_ (r : Rule) (c : Chk) : Bool :=
  r.bad || r.valid && r.hostSpace == c.host && (!c.host || r.partition == c.space) && decide (r.base ≤ c.addr) &&
  decide (c.addr ≤ r.limit) && r.kindBit c.kind && (r.switchAny || r.reqSwitch == c.sw) &&
  (r.partAny || r.reqPart == c.part)

/-- Rules of a table in force, by key, in ascending index order. -/
def Dev.tableRules (d : Dev) (table : Nat) : List (Nat × Rule) :=
  let lo := ruleKey table 0
  let n := if table = 0xFF then 8192 else 128
  d.bnd.rule.filter (fun e => decide (lo ≤ e.1) && decide (e.1 < lo + n))

/-- The first matching rule of a table. -/
def Dev.findRule (d : Dev) (table : Nat) (c : Chk) : Option (Nat × Rule) :=
  (d.tableRules table).find? (fun e => e.2.matches_ c)

/-- Locked regions of kind 2 that hold an address of a sealed device: index in the Lock Mask. -/
def Dev.lockedAt (d : Dev) (host : Bool) (space addr : Nat) : Option Nat :=
  if d.run.sealed then
    (List.range d.run.lock.length).find? (fun k =>
      let e := d.run.lock.getD k {}
      e.kind == 2 && (e.space == 1) == host && (!host || e.partition == space) && decide (e.base ≤ addr) &&
        decide (addr < e.base + e.length))
  else none

/-- The outcome of a check: allowed kinds, the prefetch mark, the deciding rule and the locked region it lies in. -/
structure Verdict where
  read : Bool := true
  write : Bool := true
  prefetch : Bool := false
  rule : Option Nat := none
  locked : Option Nat := none
deriving DecidableEq, Repr, Inhabited

/-- Check an access against a table (R382, R394). -/
def Dev.verdict (d : Dev) (table : Nat) (c : Chk) : Verdict :=
  let lk := d.lockedAt c.host c.space c.addr
  match d.findRule table c with
  | some (k, r) => { read := r.allowsRead && !r.bad, write := r.allowsWrite && !r.bad, prefetch := r.allowsRead && r.prefetch && !r.bad, rule := some k, locked := lk }
  | none => { read := lk.isNone, write := lk.isNone, locked := lk }

/-- Access kinds: 0 read, 1 write, 2 AtomicOp (R383). -/
def Verdict.allows (v : Verdict) (access : Nat) : Bool :=
  if access = 0 then v.read else if access = 1 then v.write else v.read && v.write

/-- The table a check point uses in the mode in force: `gate` in gate mode, the central table otherwise. -/
def Dev.checkTable (d : Dev) (gate : Nat) : Nat := if d.bnd.gateMode then gate else 0xFF

/-! ### Denials (R385, R386) -/

/-- Count and record a denial of the data path. -/
def Dev.recordDenial (d : Dev) (v : Verdict) (c : Chk) : Dev :=
  let b := { d.bnd with denied := satAdd 32 d.bnd.denied 1 }
  let b1 := match v.rule with
    | some k => { b with count := b.count.upd k (fun n => pack [(16, satAdd 16 (fld n 16 16) 1), (0, fld n 0 16)]) }
    | none => if v.locked.isSome then { b with noMatch := satAdd 32 b.noMatch 1 } else b
  let cnt := match v.rule with
    | some k => fld (b1.count.rd k) 16 16
    | none => b1.noMatch
  let args : RecArgs :=
    { part := c.part, inst := v.rule.getD 0,
      detail := [pack [(16, c.sw), (8, c.kind), (0, c.part)], pack [(8, b2n c.host), (0, c.space)], fld c.addr 0 32,
                 fld c.addr 32 32, cnt] }
  let d1 := { d with bnd := b1 }
  let d2 := match c.tile with
    | some t => d1.countTile t 0x11 0 0 1
    | none => d1
  match v.locked with
  | some k =>
    if d2.bnd.regionLogged.rd k then d2
    else ({ d2 with bnd.regionLogged := d2.bnd.regionLogged.wr k true }).log 0x381 5 args
  | none =>
    let key := v.rule.getD 0
    if d2.bnd.ruleLogged.rd key then d2
    else ({ d2 with bnd.ruleLogged := d2.bnd.ruleLogged.wr key true }).log 0x380 2 args

/-- One check of the data path: the verdict, with denial recorded. Answers whether the access is allowed. -/
def Dev.check (d : Dev) (gate : Nat) (c : Chk) (access : Nat) : Dev × Bool × Verdict :=
  let v := d.verdict (d.checkTable gate) c
  let d1 := match c.tile with
    | some t => d.countTile t 0x10 0 0 1
    | none => d
  if v.allows access then (d1, true, v) else (d1.recordDenial v c, false, v)

/-! ### Epochs (R389 to R391) -/

/-- The counted epoch of an access of epoch `e`: the seven before the current one are exact, older ones are folded. -/
def BndSt.fold (b : BndSt) (e : Nat) : Nat := max e (b.epoch - 7)

/-- An access of the current epoch enters flight. -/
def BndSt.enter (b : BndSt) : BndSt := { b with flight := b.flight.upd b.epoch (· + 1) }

/-- An access of epoch `e` leaves flight. -/
def BndSt.leave (b : BndSt) (e : Nat) : BndSt := { b with flight := b.flight.upd (b.fold e) (· - 1) }

/-- A new epoch takes force; the oldest counts fold. -/
def BndSt.advance (b : BndSt) : BndSt :=
  let e := b.epoch + 1
  let b1 := { b with epoch := e }
  { b1 with flight := b.flight.foldl (fun t x => Tab.upd t (b1.fold x.1) (· + x.2)) ([] : Tab Nat) }

/-- BOUNDARY_DRAIN: the oldest epoch with an access in flight. -/
def BndSt.drain (b : BndSt) : Nat :=
  match b.flight with
  | (e, _) :: _ => e
  | [] => b.epoch

def Dev.leaveEpoch (d : Dev) (e : Option Nat) : Dev :=
  match e with
  | some k => { d with bnd := d.bnd.leave k }
  | none => d

/-! ### Commits (R387, R393) -/

/-- The port of gate `g` exists, or it is an engine gate. -/
def Dev.gateExists (d : Dev) (g : Nat) : Bool := decide (g < d.ports) || g == 72 || g == 73

/-- A rule range overlaps a locked region in its space (R393). -/
def Dev.ruleInLock (d : Dev) (r : Rule) : Bool :=
  d.run.sealed && d.run.lock.any (fun e =>
    e.kind == 2 && e.length != 0 && r.meets (e.space == 1) e.partition e.base (e.base + e.length - 1))

/-- The code of a change of rule key `k` to `r` (R387, R393). -/
def Dev.ruleCode (d : Dev) (k : Nat) (r : Rule) : Nat :=
  let partDef := fun q => (d.run.part.rd q).present
  if ruleCheck partDef r ≠ 0 then ruleCheck partDef r
  else if d.ruleInLock r || d.ruleInLock (d.bnd.rule.rd k) then 0xF1 else 0

/-- The result of committing a table: code and index of the first failure. -/
def Dev.bndCommitResult (d : Dev) (p : CmdPort) (table : Nat) : Nat × Nat :=
  let g := d.bnd.grp.rd table
  if table ≠ 0xFF ∧ d.gateExists table = false then (3, 0)
  else if g.foreign p.key then (0xF0, 0)
  else if (table == 0xFF) == d.bnd.gateMode then (0xF2, 0)
  else match g.changes.find? (fun e => d.ruleCode (ruleKey table e.1) e.2 != 0) with
    | some (i, r) => (d.ruleCode (ruleKey table i) r, i)
    | none => (0, 0)

/-- BOUNDARY_COMMIT with GO (R387). -/
def Dev.bndCommit (d : Dev) (p : CmdPort) (table : Nat) : Dev :=
  let (code, det) := d.bndCommitResult p table
  let g := d.bnd.grp.rd table
  let d1 := { d with bnd.code := code, bnd.detail := det, bnd.gate := table }
  if code = 0 then
    ({ d1 with bnd.grp := d1.bnd.grp.wr table g.accept }).queueCommit (.rules table g.changes)
  else d1

/-- BOUNDARY_COMMIT_STATUS (Table 12.7): PENDING shows the table of the last commit. -/
def BndSt.status (b : BndSt) : Nat :=
  pack [(31, b2n (b.grp.any (fun e => e.2.pending))), (16, b.detail), (8, b.gate), (0, b.code)]

/-- Rules of a table take effect. -/
def Dev.applyRules (d : Dev) (table : Nat) (es : List (Nat × Rule)) : Dev :=
  { d with bnd.rule := es.foldl (fun t e => t.wr (ruleKey table e.1) e.2) d.bnd.rule }

end Sys2Proof.Machine
end

