-- ==== Sys2Proof/Machine/Coding.lean ====
section
/-! DEFINITION. Codes on the links: CRC-64 with its implicit sequence (R168, R169), the RS(204, 192) FEC (R166, R167),
the flit header (R165), the margin slot (R187) and the byte layout of fabric packets (R282, R284). -/

namespace Sys2Proof.Machine

/-! ### CRC-64 (R168) -/

def crc64Poly : Nat := 0xC96C5795D7870F42
def ones64 : Nat := 0xFFFFFFFFFFFFFFFF

/-- One bit of the reflected register. -/
def crc64Bit (c : Nat) : Nat := if c % 2 = 1 then Nat.xor (c / 2) crc64Poly else c / 2

/-- One byte enters the register. -/
def crc64Byte (c b : Nat) : Nat := iter 8 crc64Bit (Nat.xor c (b % 256))

/-- CRC-64 of bytes with sequence `s` in the seed. -/
def crc64 (s : Nat) (bs : List Nat) : Nat := Nat.xor (bs.foldl crc64Byte (Nat.xor ones64 s)) ones64

/-- The bit step run backward: the polynomial has its top bit set, so the shifted-out bit shows in bit 63. -/
def crc64Unbit (c : Nat) : Nat :=
  if 2 ^ 63 ≤ c then Nat.xor c crc64Poly * 2 % 2 ^ 64 + 1 else c * 2

/-- The byte step run backward. -/
def crc64Unbyte (c b : Nat) : Nat := Nat.xor (iter 8 crc64Unbit c) (b % 256)

/-- The seed sequence whose CRC over `bs` is `crc`: the register run backward over the bytes (R171). The CRC matches
sequence `s` exactly when this is `s`. -/
def crc64Seed (bs : List Nat) (crc : Nat) : Nat :=
  Nat.xor (bs.reverse.foldl crc64Unbyte (Nat.xor crc ones64)) ones64

/-! ### GF(2^10) and the FEC (R166, R167) -/

/-- Multiply by alpha. -/
def gfX (a : Nat) : Nat := if 512 ≤ a then Nat.xor (a * 2 - 1024) 9 else a * 2

/-- Product in GF(2^10). -/
def gfMulN (n a b acc : Nat) : Nat :=
  match n with
  | 0 => acc
  | n + 1 => gfMulN n (gfX a) (b / 2) (if b % 2 = 1 then Nat.xor acc a else acc)
def gfMul (a b : Nat) : Nat := gfMulN 10 a b 0

def gfPow (a n : Nat) : Nat :=
  match n with
  | 0 => 1
  | n + 1 => gfMul a (gfPow a n)

/-- alpha^n. -/
def gfAlpha (n : Nat) : Nat := iter (n % 1023) gfX 1

/-- Inverse: a^1022, by squares. -/
def gfInv (a : Nat) : Nat :=
  (List.range 9).foldl (fun (p : Nat × Nat) _ => let s := gfMul p.1 p.1; (s, gfMul p.2 s)) (a, 1) |>.2

/-- Polynomials over GF(2^10), lowest coefficient first. -/
def polyAdd : List Nat → List Nat → List Nat
  | [], q => q
  | p, [] => p
  | a :: p, b :: q => Nat.xor a b :: polyAdd p q
def polyScale (c : Nat) (p : List Nat) : List Nat := p.map (gfMul c)
def polyMul : List Nat → List Nat → List Nat
  | [], _ => []
  | a :: p, q => polyAdd (polyScale a q) (0 :: polyMul p q)
def polyEval (p : List Nat) (x : Nat) : Nat := p.foldr (fun a r => Nat.xor a (gfMul x r)) 0

/-- The generator without its leading coefficient, highest first. -/
def fecGen : List Nat :=
  (((List.range 12).foldl (fun g i => polyMul g [gfAlpha i, 1]) [1]).reverse).drop 1

/-- The remainder register of 12 symbols, highest first, after one more message symbol. -/
def fecStep (r : List Nat) (m : Nat) : List Nat :=
  let f := Nat.xor m (r.getD 0 0)
  (List.range 12).map (fun i => Nat.xor (r.getD (i + 1) 0) (gfMul f (fecGen.getD i 0)))

/-- Symbol `k` of a string of bytes: bits 10k to 10k + 9 (R166). -/
def symOf (bs : List Nat) (k : Nat) : Nat := fld (leAt bs (10 * k / 8) 3) (10 * k % 8) 10

/-- The message symbols m_0 to m_191 of a flit, and its parity symbols p_0 to p_11. -/
def fecMsg (bs : List Nat) : List Nat := (List.range 192).map (symOf bs)
def fecParity (bs : List Nat) : List Nat := (fecMsg bs).foldl fecStep (List.replicate 12 0)

/-- The 15 parity bytes of symbols. -/
def fecBytes (ps : List Nat) : List Nat := toLe 15 (ps.foldr (fun p a => p + 1024 * a) 0)

/-- The codeword of a received flit, position 0 is m_0 and 203 is p_11. -/
def fecWord (bs : List Nat) : List Nat := fecMsg bs ++ (List.range 12).map (symOf (slice bs 0xF0 16))

/-- Syndromes S_0 to S_11: the codeword, highest power first, at alpha^i. -/
def fecSyn (w : List Nat) : List Nat :=
  (List.range 12).map (fun i => w.foldl (fun a c => Nat.xor (gfMul a (gfAlpha i)) c) 0)

/-- State of the Berlekamp-Massey recursion: locator, previous locator, length, gap. -/
structure Bm where
  lam : List Nat := [1]
  prev : List Nat := [1]
  len : Nat := 0
deriving Repr, Inhabited

/-- One step of the recursion at syndrome `r`, with `f` erasures already in the locator. -/
def bmStep (syn : List Nat) (f : Nat) (b : Bm) (r : Nat) : Bm :=
  let d := (List.range b.lam.length).foldl
    (fun a i => if i ≤ r then Nat.xor a (gfMul (b.lam.getD i 0) (syn.getD (r - i) 0)) else a) 0
  let p := 0 :: b.prev
  if d = 0 then { b with prev := p }
  else
    let lam := polyAdd b.lam (polyScale d p)
    if 2 * b.len ≤ r + f then { lam := lam, prev := polyScale (gfInv d) b.lam, len := r + 1 + f - b.len }
    else { b with lam := lam, prev := p }

/-- Value of the symbol at a root by Forney's formula, with the first consecutive root alpha^0. -/
def forney (omega lam : List Nat) (x : Nat) : Nat :=
  let xi := gfInv x
  let odd := (List.range lam.length).foldl
    (fun a i => if i % 2 = 1 then Nat.xor a (gfMul (lam.getD i 0) (gfPow xi (i - 1))) else a) 0
  gfMul x (gfMul (polyEval omega xi) (gfInv odd))

/-- Bounded-distance decoding with erasures: the codeword with e errors and f erasures that meets 2e + f <= 12 and
e + f <= 8, and how many symbols were corrected; none when there is no such codeword (R167). -/
def fecDecode (w erased : List Nat) : Option (List Nat × Nat) :=
  let syn := fecSyn w
  if syn.all (fun s => s == 0) then some (w, 0)
  else
    let f := erased.length
    let start := erased.foldl (fun g k => polyMul g [1, gfAlpha (203 - k)]) [1]
    let b := ((List.range 12).drop f).foldl (fun b r => bmStep syn f b r) { lam := start, prev := start, len := f }
    let omega := (polyMul b.lam syn).take 12
    let roots := (List.range 204).filter (fun k => polyEval b.lam (gfInv (gfAlpha (203 - k))) == 0)
    let fixed := (List.range 204).map (fun k =>
      if roots.contains k then Nat.xor (w.getD k 0) (forney omega b.lam (gfAlpha (203 - k))) else w.getD k 0)
    let changed := (List.range 204).filter (fun k => fixed.getD k 0 != w.getD k 0)
    let e := (changed.filter (fun k => !erased.contains k)).length
    if (fecSyn fixed).all (fun s => s == 0) && decide (2 * e + f ≤ 12) && decide (e + f ≤ 8) then
      some (fixed, changed.length)
    else none

/-- Bytes 0x00 to 0xEF from message symbols. -/
def fecUnmsg (w : List Nat) : List Nat := toLe 240 ((w.take 192).foldr (fun m a => m + 1024 * a) 0)

/-! ### The flit (Tables 6.2 and 6.3) -/

/-- The fields of a flit header. -/
structure FlitHdr where
  kind : Nat := 0
  rpl : Bool := false
  nak : Bool := false
  ackSeq : Nat := 0xFFF
  crVc : Nat := 0
  crUnits : Nat := 0
  vcA : Nat := 0
  split : Nat := 0
  vcB : Nat := 0
  fill : Nat := 0
  chA : Nat := 0
  chB : Nat := 0
  rsvd : Nat := 0
deriving DecidableEq, Repr, Inhabited

def FlitHdr.word (h : FlitHdr) : Nat :=
  pack [(0, h.kind), (4, b2n h.rpl), (5, b2n h.nak), (6, h.ackSeq), (18, h.crVc), (21, h.crUnits), (32, h.vcA),
        (35, h.split), (39, h.vcB), (42, h.fill), (46, h.chA), (53, h.chB), (60, h.rsvd)]

def FlitHdr.ofWord (v : Nat) : FlitHdr :=
  { kind := fld v 0 4, rpl := bitAt v 4, nak := bitAt v 5, ackSeq := fld v 6 12, crVc := fld v 18 3,
    crUnits := fld v 21 11, vcA := fld v 32 3, split := fld v 35 4, vcB := fld v 39 3, fill := fld v 42 4,
    chA := fld v 46 7, chB := fld v 53 7, rsvd := fld v 60 4 }

/-- The rules of R165 on an accepted flit; a broken one is a protocol violation. -/
def FlitHdr.ok (h : FlitHdr) (chunks : List Nat) : Bool :=
  decide (h.kind ≤ 1) && decide (h.fill ≤ 13) && decide (h.split ≤ h.fill) && h.rsvd == 0 &&
  (h.kind == 1 || (h.fill == 0 && h.chA == 0 && h.chB == 0 && h.crUnits == 0 && !h.rpl)) &&
  (if h.split < h.fill then h.vcB != h.vcA else h.vcB == 0) &&
  (chunks.drop (16 * h.fill)).all (fun b => b == 0)

def Margin.bytes (m : Margin) : List Nat := m.type % 256 :: (m.copy % 4 * 16 + m.tag % 16) :: toLe 14 m.body
def Margin.ofBytes (bs : List Nat) : Margin :=
  { type := leAt bs 0 1, copy := fld (leAt bs 1 1) 4 2, tag := fld (leAt bs 1 1) 0 4, body := leAt bs 2 14 }

/-- The 256 bytes of a flit: header, margin slot, payload, CRC-64 with seed sequence `s`, FEC and the zero byte. -/
def flitBytes (h : FlitHdr) (m : Margin) (payload : List Nat) (s : Nat) : List Nat :=
  let body := toLe 8 h.word ++ m.bytes ++ slice payload 0 208
  let msg := body ++ toLe 8 (crc64 s body)
  msg ++ fecBytes (fecParity msg) ++ [0]

/-! ### Fabric packets (Tables 9.1 and R284) -/

def FPkt.tc (f : FPkt) : Nat := fld f.flags 0 3
def FPkt.order (f : FPkt) : Nat := fld f.flags 3 2
def FPkt.dateline (f : FPkt) : Bool := bitAt f.flags 5
def FPkt.poisoned (f : FPkt) : Bool := bitAt f.flags 6
def FPkt.hasExt (f : FPkt) : Bool := bitAt f.flags 7

/-- Header, extension and padded payload. -/
def FPkt.front (f : FPkt) : List Nat :=
  [f.kind % 256, f.flags % 256, f.chunks % 256, f.hops % 256] ++ toLe 4 (pack [(0, f.dest), (12, f.src)]) ++
  toLe 2 f.handle ++ [f.srcPart % 256, 0] ++ toLe 4 f.seq ++ toLe 4 f.inc ++ toLe 4 f.mark ++ toLe 4 f.reqId ++
  [0, 0, 0, 0] ++ toLe 8 f.addr ++ toLe 4 f.reqF ++ toLe 4 f.cplF ++ f.ext ++ f.payload

/-- PACKET_CRC: CRC-32C with HOPS and DATELINE taken as zero (R284). -/
def FPkt.crcOf (f : FPkt) : Nat := crc32c ({ f with hops := 0, flags := clrBit f.flags 5 } : FPkt).front

/-- The packet as bytes, tail included. -/
def FPkt.bytes (f : FPkt) : List Nat :=
  f.front ++ ([if f.abort then 0xEA else 0xE0, 0, 0, 0] ++ toLe 4 f.crc ++ List.replicate 8 0)

/-- The packet that bytes spell. -/
def FPkt.ofBytes (bs : List Nat) : FPkt :=
  let flags := leAt bs 1 1
  let extLen := if bitAt flags 7 then 16 else 0
  let total := 16 * leAt bs 2 1
  { kind := leAt bs 0 1, flags := flags, chunks := leAt bs 2 1, hops := leAt bs 3 1,
    dest := fld (leAt bs 4 4) 0 12, src := fld (leAt bs 4 4) 12 12, handle := leAt bs 8 2, srcPart := leAt bs 0xA 1,
    seq := leAt bs 0xC 4 % 2 ^ 24, inc := leAt bs 0x10 4, mark := leAt bs 0x14 4 % 2 ^ 24,
    reqId := leAt bs 0x18 4 % 2 ^ 24, addr := leAt bs 0x20 8, reqF := leAt bs 0x28 4, cplF := leAt bs 0x2C 4,
    ext := slice bs 48 extLen, payload := slice bs (48 + extLen) (total - 64 - extLen),
    abort := leAt bs (total - 16) 1 == 0xEA, crc := leAt bs (total - 12) 4 }

/-- A packet that this Haldion originates: payload padded, CHUNKS and PACKET_CRC computed. -/
def FPkt.seal (f : FPkt) : FPkt :=
  let pay := f.payload ++ List.replicate ((16 - f.payload.length % 16) % 16) 0
  let ext := if f.ext.isEmpty then [] else slice f.ext 0 16
  let g := { f with payload := pay, ext := ext, flags := if f.ext.isEmpty then clrBit f.flags 7 else setBit f.flags 7,
                    chunks := 4 + ext.length / 16 + pay.length / 16 }
  { g with crc := g.crcOf }

/-- Every byte enable is set. -/
def Tlp.fullBe (t : Tlp) : Bool := decide (t.firstBe = 0xF) && (decide (t.lenDw ≤ 1) || decide (t.lastBe = 0xF))

/-- Credit units of a packet (R182). -/
def FPkt.units (f : FPkt) : Nat := (16 * f.chunks + 63) / 64

/-- Kinds of Table 9.2. -/
def FPkt.known (f : FPkt) : Bool :=
  [0x01, 0x02, 0x03, 0x04, 0x05, 0x08, 0x09, 0x0A, 0x0B, 0x10, 0x11, 0x18, 0x19, 0x1A].contains f.kind
def FPkt.pushable (f : FPkt) : Bool := decide (0x18 ≤ f.kind) && decide (f.kind ≤ 0x1A)
def FPkt.isTally (f : FPkt) : Bool := decide (0x08 ≤ f.kind) && decide (f.kind ≤ 0x0B)
def FPkt.isReg (f : FPkt) : Bool := f.kind == 0x10 || f.kind == 0x11
/-- Sequenced kinds 0x01 to 0x0B (R290). -/
def FPkt.sequenced (f : FPkt) : Bool := decide (f.kind ≤ 0x0B)

/-- Fields of REQ_FIELDS and CPL_FIELDS. -/
def FPkt.firstBe (f : FPkt) : Nat := fld f.reqF 0 4
def FPkt.lastBe (f : FPkt) : Nat := fld f.reqF 4 4
def FPkt.lenDw (f : FPkt) : Nat := if fld f.reqF 8 10 = 0 then 1024 else fld f.reqF 8 10
def FPkt.atomicOp (f : FPkt) : Nat := fld f.reqF 21 3
/-- Bytes that a request's completions return in all: what it asks for; a CAS carries two operands and returns one (PRESUMED,
notes/assumptions/30.md). -/
def answerBytes (atomic lenDw : Nat) : Nat := if atomic = 3 then 2 * lenDw else 4 * lenDw
def FPkt.answerBytes (f : FPkt) : Nat := Machine.answerBytes (if f.kind = 3 then f.atomicOp else 0) f.lenDw
def Tlp.answerBytes (t : Tlp) : Nat := Machine.answerBytes (if t.kind = .atomic then t.atomic else 0) t.lenDw
def FPkt.status (f : FPkt) : Nat := fld f.cplF 0 3
def FPkt.byteCount (f : FPkt) : Nat := fld f.cplF 3 13
def FPkt.lowerAddr (f : FPkt) : Nat := fld f.cplF 16 7

end Sys2Proof.Machine
end

