-- ==== Sys2Proof/Machine/Switch.lean ====
section
/-! DEFINITION. The switch core without the Graticule: QoS, VOQs, buffer cells and their credits, staging, the Transit
table, synthesized completions and the Bearing lookup (R246 to R253, R260 to R274, R285 to R301, R409 to R412). -/

namespace Sys2Proof.Machine

/-! ### QoS (R60, R260) -/

/-- The VC of a TC: TCn maps to VCn where the Plat lists nothing. Listed values are kept plus 1. -/
def Dev.vcOf (d : Dev) (tc : Nat) : Nat :=
  match d.run.tcToVc.rd tc with
  | 0 => tc
  | v + 1 => v
def Dev.ageingUs (d : Dev) (tc : Nat) : Nat := if d.run.ageing.rd tc = 0 then 2000 else d.run.ageing.rd tc
def Dev.weight (d : Dev) (v : Nat) : Nat := if d.run.weight.rd v = 0 then 16 else d.run.weight.rd v

/-- The TCs that map to a VC. -/
def Dev.tcsOf (d : Dev) (v : Nat) : List Nat := (List.range 8).filter (fun tc => d.vcOf tc == v)
/-- A VC is lossy when every TC that maps to it is (R260). -/
def Dev.vcLossy (d : Dev) (v : Nat) : Bool := !(d.tcsOf v).isEmpty && (d.tcsOf v).all (fun tc => bitAt d.run.lossy tc)
/-- VCs onto which at least one TC maps; in M7 the dateline VCs of R300 carry no TC of their own. -/
def Dev.usedVcs (d : Dev) : List Nat := (List.range 8).filter (fun v => !(d.tcsOf v).isEmpty)

/-- Share of an ingress port: 4,096 cells for each lane of its cut (R247). -/
def Dev.share (d : Dev) (p : Nat) : Nat := if d.isH p || d.isS p then 4096 * d.cutWidth p else 0
/-- GRANT[v] of a Sherix ingress port (R251). -/
def Dev.grantOf (d : Dev) (p v : Nat) : Nat :=
  if (d.tcsOf v).isEmpty then 0 else min 65535 (d.share p / d.usedVcs.length)
/-- Staging cells of a port (R253). -/
def Dev.stagingCap (d : Dev) (p : Nat) : Nat := 64 * d.cutWidth p

def voqKey (tile dst vc : Nat) : Nat := 1024 * tile + 8 * dst + vc

/-! ### Deficit round-robin (R255) -/

/-- A VC with nothing eligible keeps no deficit. -/
def Drr.drop (r : Drr) (busy : Nat → Bool) : Drr := { r with left := r.left.filter (fun e => busy e.1) }

/-- The round: the current VC is served while its deficit covers its cost in cells; else the next VC gets its quantum, when
it has something to send. `fuel` bounds the turns. -/
def Drr.turn (fuel : Nat) (r : Drr) (w cost : Nat → Nat) (elig : Nat → Bool) : Option (Nat × Drr) :=
  match fuel with
  | 0 => none
  | n + 1 =>
    if elig r.cur ∧ cost r.cur ≤ r.left.rd r.cur then some (r.cur, { r with left := r.left.upd r.cur (· - cost r.cur) })
    else
      let v := (r.cur + 1) % 8
      Drr.turn n { cur := v, left := if elig v then r.left.upd v (· + w v) else r.left } w cost elig

/-- Choose among VCs (R255): `busy` VCs keep their deficit, one of the eligible ones is served. A packet has at most 80
cells, so 81 rounds of eight VCs serve one when any is eligible. Answers the VC, and the arbiter. -/
def Drr.pickOf (r : Drr) (w cost : Nat → Nat) (busy elig : Nat → Bool) : Drr × Option Nat :=
  let r0 := r.drop busy
  match Drr.turn (if (List.range 8).any elig then 648 else 0) r0 w cost elig with
  | some (v, r1) => (r1, some v)
  | none => (r0, none)

/-- The choice of an arbiter that passes one cell at a time. -/
def Drr.pick (r : Drr) (w : Nat → Nat) (elig : Nat → Bool) : Drr × Option Nat := r.pickOf w (fun _ => 1) elig elig

/-! ### Packets and cells -/

/-- Bytes of a TLP's header with its prefixes: 3 or 4 DW, a message always 4. -/
def Tlp.headSize (t : Tlp) : Nat :=
  (if t.kind = .cpl ∨ t.kind = .cplData then 12 else if t.kind = .msg ∨ 2 ^ 32 ≤ t.addr then 16 else 12) + t.ext.length

/-- Bytes of a TLP as the link delivers it. -/
def Tlp.size (t : Tlp) : Nat := t.headSize + t.data.length

def Body.size : Body → Nat
  | .tlp t => t.size
  | .fab f => 16 * f.chunks

/-- Cells of a packet (R246). -/
def Body.cells (b : Body) : Nat := (b.size + 63) / 64

/-- Bytes before the data of a packet, and bytes of data. -/
def Body.head : Body → Nat
  | .tlp t => t.headSize
  | .fab f => 16 * f.chunks - 16 - f.payload.length
def Body.data : Body → Nat
  | .tlp t => t.data.length
  | .fab f => f.payload.length

/-- Data credits of 16 B that cells `k` to `k + n - 1` of a packet end (R252). -/
def Body.credits (b : Body) (k n : Nat) : Nat :=
  ((List.range ((b.data + 15) / 16)).filter (fun j =>
    let c := (b.head + min (16 * (j + 1)) b.data - 1) / 64
    decide (k ≤ c) && decide (c < k + n))).length

/-- Ordering class of a TLP (R250). -/
def TlpKind.cls : TlpKind → Nat
  | .memWrite => 0 | .msg => 0 | .cpl => 2 | .cplData => 2 | _ => 1

def Dev.ing (d : Dev) (p : Nat) : Ingress := d.sw.ingress.rd p
def Dev.setIng (d : Dev) (p : Nat) (f : Ingress → Ingress) : Dev := { d with sw.ingress := d.sw.ingress.upd p f }

/-- Cells `k` to `k + n - 1` of packet `p` are freed in the buffer: their slots, and their credit (R183, R248, R252). An H
port returns the header credit with the first cell, each data credit with the cell that holds its last byte. -/
def Dev.freeCells (d : Dev) (p : Pkt) (k n : Nat) : Dev :=
  if p.ing = 0xFF ∨ n = 0 then d
  else
    let d1 := d.setIng p.ing (fun s => { s with used := s.used - n })
    if d1.isS p.ing then
      if p.pushable then d1
      else { d1 with ln.link := d1.ln.link.upd p.ing (fun l =>
        { l with debts := l.debts ++ [(p.inVc, n, d.now)] }) }
    else if k = 0 ∨ p.body.credits k n ≠ 0 then d1.emit (.fc p.ing p.cls (if k = 0 then 1 else 0) (p.body.credits k n) [])
    else d1

/-- The cells of a packet that are still in its VOQ are freed. -/
def Dev.freeRest (d : Dev) (p : Pkt) : Dev := d.freeCells p p.sent (p.wr - p.sent)

/-- Put a packet at the tail of its VOQ at tile `tile`; its cells take slots of its ingress port's share (R248). The
credit of a pushable packet is owed back at once (R262). -/
def Dev.enterVoq (d : Dev) (tile : Nat) (p : Pkt) : Dev :=
  let cells := p.body.cells
  let q := { p with id := d.sw.nextPkt, time := if p.time = 0 then d.now else p.time, cells := cells, wr := if p.wr = 0 then cells else min cells p.wr, sent := 0 }
  let d1 := { d with sw.nextPkt := d.sw.nextPkt + 1, sw.voq := d.sw.voq.upd (voqKey tile p.dst p.vc) (· ++ [q]) }
  let d2 := if p.ing = 0xFF then d1 else d1.setIng p.ing (fun s => { s with used := s.used + q.wr })
  if p.pushable then
    { d2 with ln.link := d2.ln.link.upd p.ing (fun l => { l with debts := l.debts ++ [(p.inVc, q.cells, d2.now)] }) }
  else d2

/-- The packets held from ingress port `ing` on VC `v`, oldest first, with their VOQ keys. -/
def Dev.heldOn (d : Dev) (ing v : Nat) : List (Nat × Pkt) :=
  d.sw.voq.flatMap (fun e => (e.2.filter (fun p => p.ing == ing && p.inVc == v)).map (fun p => (e.1, p)))

/-- Push out the oldest pushable packet held from `ing` on `v` (R263), when there is one. -/
def Dev.pushOutOne (d : Dev) (ing v : Nat) : Dev :=
  let c := (d.heldOn ing v).filter (fun e => e.2.pushable && e.2.sent == 0)
  match c with
  | [] => d
  | e0 :: r =>
    let e := r.foldl (fun a b => if b.2.id < a.2.id then b else a) e0
    let d1 := { d with sw.voq := d.sw.voq.upd e.1 (fun q => q.filter (fun x => x.id != e.2.id)) }
    let n := satAdd 32 (d1.ing ing).pushout 1
    let d2 := (d1.setIng ing (fun s => { s with used := s.used - e.2.cells, pushout := n })).countTile (portTile ing) 0x0B (portSlot ing) v 1
    let d3 := d2.fire (srcPort ing 6)
    if (d3.ing ing).noted then d3
    else (d3.setIng ing (fun s => { s with noted := true })).log (srcPort ing 6) 1 { inst := ing, detail := [n] }

/-- Cells held from ingress port `ing` on VC `v`: in its VOQs, sent and not confirmed, and on hold (R263, R293). -/
def Dev.heldCells (d : Dev) (ing v : Nat) : Nat :=
  (d.heldOn ing v).foldl (fun a e => a + (e.2.wr - e.2.sent)) 0 +
    (d.sw.unconf.filter (fun c => c.pkt.ing == ing && c.pkt.inVc == v)).length +
    (d.sw.held.filter (fun h => h.port == ing && h.vc == v)).foldl (fun a h => a + h.pkt.units) 0

/-- Make room for a pushable packet of `cells` cells (R263), at most `n` push-outs. -/
def Dev.pushOut (d : Dev) (n ing v cells : Nat) : Dev :=
  match n with
  | 0 => d
  | n + 1 =>
    if d.heldCells ing v + cells ≤ d.grantOf ing v then d else (d.pushOutOne ing v).pushOut n ing v cells

/-- A packet arrives at its VOQ. -/
def Dev.pushVoq (d : Dev) (tile : Nat) (p : Pkt) : Dev :=
  (if p.pushable then d.pushOut (d.heldOn p.ing p.inVc).length p.ing p.inVc p.body.cells else d).enterVoq tile p

/-! ### Lists of packets -/

/-- The packet that each sub-queue rule lets leave (R250): the first of its class with no posted packet before it. -/
def headsOf (q : List Pkt) : List Pkt :=
  let post := q.find? (fun p => p.cls == 0)
  let before := q.takeWhile (fun p => p.cls != 0)
  let np := before.find? (fun p => p.cls == 1)
  let cp := before.find? (fun p => p.cls == 2)
  ([np, cp, post].filterMap id)

/-- Replace or remove the packet of the same number. -/
def setPkt (q : List Pkt) (p : Pkt) : List Pkt := q.map (fun x => if x.id = p.id then p else x)
def delPkt (q : List Pkt) (id : Nat) : List Pkt := q.filter (fun x => x.id != id)

/-! ### The Transit table (R269 to R273, R409 to R412) -/

def Dev.trEntry (d : Dev) (k : Nat) : TEntry := d.sw.tr.rd k
def Dev.trUsed (d : Dev) (q : Nat) : Nat := (d.sw.tr.filter (fun e => e.2.state == 1 && e.2.part == q)).length
def Dev.trReserve (d : Dev) (q : Nat) : Nat := (d.run.part.rd q).reserve
/-- S, the shared pool (R270). -/
def Dev.trShared (d : Dev) : Nat := 65536 - (List.range 24).foldl (fun a q => a + d.trReserve q) 0
def Dev.trSharedFree (d : Dev) : Nat :=
  d.trShared - (List.range 24).foldl (fun a q => a + (d.trUsed q - d.trReserve q)) 0

/-- The lowest free entry: entries in use are listed, so some index up to their number is free. -/
def Dev.trFree (d : Dev) : Option Nat :=
  (List.range (min 65536 (d.sw.tr.length + 1))).find? (fun k => (d.trEntry k).state == 0)

/-- Round-robin over the waiting partitions for shared entries: no waiting partition comes between the last one served
and `q` (R272). -/
def Dev.trTurn (d : Dev) (q : Nat) : Bool :=
  let last := d.sw.rr.rd 5000
  let dist := fun r => (r + 24 - last - 1) % 24
  (List.range 24).all (fun r => r == q || !d.sw.atBound.rd r || decide (d.trUsed r < d.trReserve r) || decide (dist q < dist r))

/-- A request of `q` can take an entry now (R270). -/
def Dev.trAvail (d : Dev) (q : Nat) : Bool :=
  d.trFree.isSome && (decide (d.trUsed q < d.trReserve q) || (decide (0 < d.trSharedFree) && d.trTurn q))

def nextGen (m g : Nat) : Nat := if m ≤ g then 1 else g + 1

/-- Open an entry. Answers its index. -/
def Dev.trOpen (d : Dev) (e : TEntry) : Dev × Option Nat :=
  match d.trFree with
  | some k =>
    let old := d.trEntry k
    let rr := if d.trUsed e.part < d.trReserve e.part then d.sw.rr else d.sw.rr.wr 5000 e.part
    (({ d with sw.tr := d.sw.tr.wr k { e with state := 1, gen := old.gen, time := d.now }, sw.rr := rr }).countTable 0x50 e.part 1, some k)
  | none => (d, none)

/-- REQ_ID of an open entry. -/
def Dev.trReqId (d : Dev) (k : Nat) : Nat := k + 65536 * (d.trEntry k).gen

/-- TRANSIT_TIMEOUT of a partition, in time units: 100 us by default 100 (R424). -/
def Dev.trTimeoutOf (d : Dev) (q : Nat) : Nat :=
  (if d.sw.trTimeout.rd q = 0 then 100 else d.sw.trTimeout.rd q) * 100 * usUnits

/-- Retire an entry: its generation advances; by timeout, ageing or isolation it is quarantined (R409, R411). -/
def Dev.trRetire (d : Dev) (k : Nat) (quarantine : Bool) : Dev :=
  let e := d.trEntry k
  { d with sw.tr := d.sw.tr.wr k { gen := nextGen 255 e.gen, state := if quarantine then 2 else 0, part := e.part } }

/-! ### Completions that the Haldion originates -/

/-- The ID of the upstream bridge of partition `q`. -/
def Dev.upBridgeId (d : Dev) (q : Nat) : Nat := 256 * d.pcie.capBus.rd q

/-- A packet from the hub or from the Haldion's own functions waits for the engine link of its port's tile (R26, R253). -/
def Dev.pushEng (d : Dev) (p : Pkt) : Dev :=
  let q := { p with id := d.sw.nextPkt, ing := 0xFF, time := d.now, cells := p.body.cells, wr := p.body.cells, sent := 0 }
  { d with sw.nextPkt := d.sw.nextPkt + 1, sw.eng := d.sw.eng.upd (voqKey (portTile p.dst) p.dst p.vc) (· ++ [q]) }

/-- A TLP that the Haldion itself sends out of H port `port` leaves over the engine link of that port's tile; the boot port,
which has no staging, sends it at once. -/
def Dev.sendTlp (d : Dev) (port : Nat) (t : Tlp) : Dev :=
  if !d.inRunOrTest then d.emit (.tlp port t)
  else d.pushEng { dst := port, vc := d.vcOf t.tc, inVc := d.vcOf t.tc, tc := t.tc, cls := t.kind.cls, body := .tlp t, part := 0x1F }

/-- A completion with a status and no data, to a requester on H port `port`. -/
def Dev.sendCpl (d : Dev) (port tc reqId tag cplId status bytes : Nat) : Dev :=
  d.sendTlp port { kind := .cpl, tc := tc, reqId := reqId, tag := tag, cplId := cplId, status := status, byteCount := bytes }

/-- A run that takes a failure issues no more reads; 0 is no failure. -/
def Run.failed (r : Run) (st : Nat) : Run :=
  if st = 0 then r else { r with status := if r.status = 0 then st else r.status, todo := [] }

/-- An engine read slot whose entry was retired ends READ_TIMEOUT: the slot is marked failed (R410). -/
def Dev.failSlot (d : Dev) (k status : Nat) : Dev :=
  let s := d.trav.slot.rd k
  if s.used then
    let d1 := { d with trav.slot := d.trav.slot.wr k { gen := s.gen + 1 } }
    let st := if s.kind = 1 then 0x21 else if s.kind = 2 then 0x03 else status
    if 4096 ≤ k then { d1 with trav.slot := d1.trav.slot.wr k { s with bytes := 0, kind := 5 } }
    else if (d.trav.fn.rd s.fn).gen = s.fnGen then
      { d1 with trav.q := d1.trav.q.upd s.queue (fun q =>
        let put := fun (r : Run) => if r.serial = s.serial then r.failed st else r
        { q with run := put q.run, ahead := q.ahead.map put }) }
    else d1
  else d

/-- Answer the requester of a retired entry with Completer Abort (R410). -/
def Dev.trAnswer (d : Dev) (e : TEntry) : Dev :=
  if e.engine then d.failSlot e.tag 0x05
  else d.sendCpl e.port e.tc e.reqId e.tag (d.upBridgeId e.part) 4 e.bytes

/-- The requester of an entry lies inside an isolated domain (R410). -/
def Dev.requesterIsolated (d : Dev) (e : TEntry) : Bool :=
  let lies := fun (kind id : Nat) => (kind == 4 && id == e.part) || (kind == 3 && id == e.port && !e.engine) || (kind == 1 && !e.engine && id == portTile e.port) || kind == 0
  d.cont.domain.any (fun x => x.2.valid && lies x.2.kind x.2.id) || d.cont.extra.any (fun x => lies x.1 x.2)

/-- Retire an entry by timeout, ageing or isolation and answer its requester (R410). -/
def Dev.trAbort (d : Dev) (k : Nat) : Dev :=
  let e := d.trEntry k
  if e.state = 1 then
    let d1 := d.trRetire k true
    if d.requesterIsolated e then d1 else d1.trAnswer e
  else d

/-- A late completion (R412). -/
def Dev.lateCpl (d : Dev) (reqId : Nat) : Dev :=
  ({ d with sw.late := satAdd 32 d.sw.late 1 }).log 0x3A7 1 { inst := reqId % 65536, detail := [reqId] }

/-! ### Bearing (R285 to R289) -/

def Dev.link (d : Dev) (p : Nat) : Link := d.ln.link.rd p
def Dev.setLink (d : Dev) (p : Nat) (f : Link → Link) : Dev := { d with ln.link := d.ln.link.upd p f }

/-- LINK_STATE is UP, or PAUSED from UP. -/
def Link.live (l : Link) : Bool := l.state == 3 || (l.state == 4 && !l.fromInit)

/-- The way out of port `p` is usable (R286, R408). -/
def Dev.portUsable (d : Dev) (p : Nat) : Bool :=
  let l := d.link p
  l.live && l.hold.isNone && !d.cont.contained.getLsbD l.farSwitch

/-- The stream's hash (R287). -/
def streamHash (src dest tc : Nat) : Nat :=
  crc32c [src % 256, src / 256 % 16 + 16 * (dest % 16), dest / 16 % 256, tc]

/-- The first usable way of a set from a starting place, in cyclic order. -/
def cyclicFind (v : List Nat) (start : Nat) (ok : Nat → Bool) : Option Nat :=
  ((List.range v.length).map (fun i => v.getD ((start + i) % v.length) 0)).find? ok

/-- The outcome of a Bearing lookup. -/
inductive Way where
  | port (p : Nat)
  /-- VALID ways, none usable: the lowest VALID way's port. -/
  | wait (p : Nat)
  | none
deriving DecidableEq, Repr, Inhabited

/-- Look up the way of a stream (R287, R289). -/
def Dev.wayOf (d : Dev) (src dest tc : Nat) : Way :=
  let e := d.fab.bearing.rd dest
  let valid := (List.range 4).filter (wayValid e)
  let prim := valid.filter (fun k => !wayAlt e k)
  let alts := valid.filter (fun k => wayAlt e k)
  let v := if prim.isEmpty then alts else prim
  let h := streamHash src dest tc
  let ok := fun k => d.portUsable (wayPort e k)
  match v, valid with
  | [], _ => .none
  | _ :: _, first =>
    match cyclicFind v (h % v.length) ok with
    | some k => .port (wayPort e k)
    | Option.none => match (if alts.isEmpty then Option.none else cyclicFind alts (h % alts.length) ok) with
      | some k => .port (wayPort e k)
      | Option.none => .wait (wayPort e (first.getD 0 0))

/-- The VC of a fabric packet, with the dateline of M7 (R300). -/
def Dev.fabVc (d : Dev) (f : FPkt) : Nat :=
  let v := d.vcOf f.tc
  if d.mode.base == .m7 && f.dateline && decide (v < 4) then v + 4 else v

/-- Once per key per tick. -/
def Dev.once (d : Dev) (key : Nat) (f : Dev → Dev) : Dev :=
  if d.sw.routeNoted.rd key then d else f { d with sw.routeNoted := d.sw.routeNoted.wr key true }

/-- A packet that cannot be routed (R289): `hop` tells HOP_EXPIRED from NO_ROUTE. Counted and recorded. -/
def Dev.unrouted (d : Dev) (f : FPkt) (hop : Bool) : Dev :=
  let d1 := if hop then { d with fab.hopExpired := satAdd 32 d.fab.hopExpired 1 }
    else { d with fab.noRoute := satAdd 32 d.fab.noRoute 1 }
  d1.once ((if hop then 8192 else 4096) + f.dest) (fun e =>
    e.log (if hop then 0x3A1 else 0x3A0) 2 { inst := f.dest, detail := [f.src, f.dest, f.tc] })

/-- The completion with a status that this Haldion originates for a fabric request (R289, R312, R385). -/
def Dev.fabReply (d : Dev) (f : FPkt) (status : Nat) : FPkt :=
  if f.kind = 0x10 then
    ({ kind := 0x11, flags := 7 + 16, hops := d.fab.hopLimit, dest := f.src, src := f.dest, srcPart := 0x1F, addr := f.addr, reqF := f.reqF,
       cplF := 0x02 * 2 ^ 24, payload := List.replicate 16 0 } : FPkt).seal
  else
    ({ kind := 0x04, flags := f.tc + 16, hops := d.fab.hopLimit, dest := f.src, src := d.run.switchId, srcPart := 0x1F, inc := d.fab.incarnation,
       reqId := f.reqId, cplF := pack [(0, status), (3, f.answerBytes % 8192)] } : FPkt).seal

/-- Queue a fabric packet toward egress S port `p` at tile `tile`; `wr` of its cells have been written, 0 for all. -/
def Dev.queueFab (d : Dev) (tile ing inVc p : Nat) (f : FPkt) (resend : Bool) (wr : Nat := 0) : Dev :=
  let vc := d.fabVc f
  d.pushVoq tile { ing := ing, dst := p, vc := vc, inVc := inVc, tc := f.tc, cls := f.order, body := .fab f, part := f.srcPart, wr := wr,
                   pushable := f.pushable && d.vcLossy vc && d.isS ing, sequenced := resend || f.src != d.run.switchId }

/-- Route a fabric packet out of this Haldion: `n` bounds the reply that an unroutable request gives rise to. `ing` is
its ingress port, 0xFF when it originates here; `fwd` decrements HOPS (R288). The answer to a register request of the
Haldion itself reaches its own bridge. -/
def Dev.routeFab (d : Dev) (n : Nat) (tile ing inVc : Nat) (f : FPkt) (fwd resend : Bool) (wr : Nat := 0) : Dev :=
  match n with
  | 0 => d
  | n + 1 =>
    let reply := fun (e : Dev) (hop : Bool) =>
      let e1 := e.unrouted f hop
      if f.order = 1 ∧ f.src ≠ d.run.switchId then e1.routeFab n tile 0xFF 0 (e1.fabReply f 1) false false
      else if f.kind = 0x10 then { e1 with sw.regIn := e1.sw.regIn ++ [e1.fabReply f 1] } else e1
    if fwd && f.hops == 0 then reply d true
    else
      let g := if fwd then { f with hops := f.hops - 1 } else f
      let ring := fun p => d.mode.base == .m7 && p == ing && (p == 64 || p == 68)
      match d.wayOf f.src f.dest f.tc with
      | .none => reply (d.countTable 0x54 0 1) false
      | .port p => if ring p then reply (d.countTable 0x54 0 1) false else (d.countTable 0x54 0 1).queueFab tile ing inVc p g resend wr
      | .wait p => (d.countTable 0x54 0 1).queueFab tile ing inVc p g resend wr

/-- Domain of a fault on ingress port `p`: LINK of an S port, PORT of an H downstream port, PARTITION of an upstream port
(Tables 13.2 and 13.3); no port has no domain. -/
def Dev.ingressDomain (d : Dev) (p : Nat) : Nat × Nat :=
  if p = 0xFF then (0xF, 0)
  else if d.isS p then (2, p)
  else match d.upstreamOf p with
    | some q => (4, q)
    | none => (3, p)

/-! ### Packets that end early (R248, R264, R268) -/

/-- The packet of a number, wherever it is: in a VOQ, before an engine link, in staging or in flight. -/
def Dev.packetOf (d : Dev) (id : Nat) : Option Pkt :=
  (d.sw.voq.findSome? (fun v => v.2.find? (fun x => x.id == id))).or
    ((d.sw.eng.findSome? (fun v => v.2.find? (fun x => x.id == id))).or
      ((d.sw.staging.findSome? (fun s => (s.2.map Staged.pkt).find? (fun x => x.id == id))).or
        ((d.sw.unconf.map Cell.pkt).find? (fun x => x.id == id))))

/-- An S egress port has begun the packet. -/
def Dev.begunOn (d : Dev) (x : Pkt) : Bool := decide (x.dst < 72) && (d.link x.dst).txPkt.rd x.vc == x.id + 1

/-- What is left of a packet begun on an S egress port goes out as zeros with END = ABORT (R284). -/
def abortRest (n : Nat) : List Nat := List.replicate (n - 16) 0 ++ 0xEA :: List.replicate 15 0

/-- A packet's body as it ends with ABORT, and whether it does. -/
def Body.aborted : Body → Body
  | .fab f => .fab { f with abort := true }
  | .tlp t => .tlp t
def Body.isAborted : Body → Bool
  | .fab f => f.abort
  | .tlp _ => false

/-- A packet is discarded whole: its cells in the VOQ and in staging go, cells in flight are confirmed and go no further,
and its credit is owed. One that an S egress port has begun is ended there with the abort marker. One whose last cell
had not been written, or that had begun to leave, counts in CUT_ABORT (R268). -/
def Dev.endPacket (d : Dev) (id : Nat) : Dev :=
  match d.packetOf id with
  | none => d
  | some x => if d.begunOn x && x.body.isAborted then d else
    let begun := d.begunOn x
    let flying := d.sw.unconf.any (fun c => c.pkt.id == id)
    let queued := (d.sw.voq.flatMap (fun v => v.2.filter (fun y => y.id == id)))
    let stop := fun (s : Staged) => { s with got := s.pkt.cells, pkt := { s.pkt with body := s.pkt.body.aborted } }
    let d1 := { d with
      sw.voq := d.sw.voq.mapAll (fun _ q => q.filter (fun y => y.id != id))
      sw.eng := d.sw.eng.mapAll (fun _ q => q.filter (fun y => y.id != id))
      sw.staging := d.sw.staging.mapAll (fun _ q => if begun then q.map (fun (s : Staged) => if s.pkt.id = id then stop s else s) else q.filter (fun (s : Staged) => s.pkt.id != id))
      sw.writing := d.sw.writing.mapAll (fun _ w => if w = id + 2 then 1 else w)
      sw.dead := if flying then d.sw.dead ++ [id] else d.sw.dead }
    let d2 := if begun then d1.setLink x.dst (fun l => { l with tx := l.tx.wr x.vc (abortRest (l.tx.rd x.vc).length) }) else d1.leaveEpoch x.epoch
    let d3 := queued.foldl (fun e y =>
      let e1 := e.freeRest y
      if e1.isS y.ing && !y.pushable && decide (y.wr < y.cells) then e1.setLink y.ing (fun l => { l with debts := l.debts ++ [(y.inVc, y.cells - y.wr, e1.now)] }) else e1) d2
    let short := begun || queued.any (fun y => decide (y.wr < y.cells))
    if short && x.ing != 0xFF then d3.setIng x.ing (fun s => { s with cutAbort := satAdd 16 s.cutAbort 1 }) else d3

/-- The staging of port `p` is emptied: its packets are gone. -/
def Dev.dropStaging (d : Dev) (p : Nat) : Dev :=
  let mine := fun (k : Nat) => k / 8 == p
  let gone := (d.sw.staging.filter (fun e => mine e.1)).flatMap (fun e => e.2.map Staged.pkt)
  gone.foldl (fun e x => e.leaveEpoch x.epoch) { d with sw.staging := d.sw.staging.filter (fun e => !mine e.1) }

/-- The packets that port `p` is receiving are cut short (R268, R404): what has entered a VOQ ends; what has not counts too, and
the rest of each is discarded as it comes. -/
def Dev.cutStreams (d : Dev) (p : Nat) : Dev :=
  (d.link p).rx.foldl (fun e s =>
    let k := 8 * p + s.1
    let w := d.sw.writing.rd k
    let units := (16 * max 4 (leAt s.2 2 1) + 63) / 64
    let owed := fun (l : Link) => { l with debts := l.debts ++ [(s.1, units, e.now)] }
    let e1 := if w = 0 then (e.setIng p (fun i => { i with cutAbort := satAdd 16 i.cutAbort 1 })).setLink p owed else if w = 1 then e else e.endPacket (w - 2)
    { e1 with sw.writing := e1.sw.writing.wr k 1 }) d

/-- Cells that are being written for packets arriving on an S port and that no VOQ counts yet: all of a packet without a VOQ, the
one begun of another (R248). -/
def Dev.arriving (d : Dev) (p : Nat) : Nat :=
  (d.link p).rx.foldl (fun a e =>
    let w := d.sw.writing.rd (8 * p + e.1)
    a + (if w = 0 then (e.2.length + 63) / 64 else if w = 1 ∨ e.2.length % 64 = 0 then 0 else 1)) 0

/-! ### Packets that grow (R267) -/

/-- The body of a passing packet of which more has come: `f` is the packet so far. -/
def Body.grown (b : Body) (f : FPkt) : Body :=
  match b with
  | .fab g => .fab { g with ext := f.ext, payload := f.payload, crc := f.crc, abort := f.abort }
  | .tlp t => .tlp t

/-- `wr` cells of packet `id` are written now, with what `f` holds, wherever its cells stand. -/
def Dev.growPkt (d : Dev) (id wr : Nat) (f : FPkt) : Dev :=
  match d.packetOf id with
  | none => d
  | some x =>
    let grow := fun (y : Pkt) => if y.id = id then { y with wr := min y.cells wr, body := y.body.grown f } else y
    let cell := fun (c : Cell) => { c with pkt := grow c.pkt }
    let d1 := { d with
      sw.voq := d.sw.voq.mapAll (fun _ q => q.map grow)
      sw.unconf := d.sw.unconf.map cell
      sw.rsq := d.sw.rsq.map cell
      sw.staging := d.sw.staging.mapAll (fun _ q => q.map (fun (s : Staged) => { s with pkt := grow s.pkt })) }
    d1.setIng x.ing (fun s => { s with used := s.used + (min x.cells wr - x.wr) })
end Sys2Proof.Machine
end

