-- ==== Sys2Proof/Machine/TallyNum.lean ====
section
/-! DEFINITION. Tally arithmetic: formats, exact contributions, the order of MIN and MAX, packed elements and the one
rounding (R323 to R327, R336, R339). -/

namespace Sys2Proof.Machine

/-- Bytes of an element and of a ledger entry of a format (Tables 10.1 and 10.3). -/
def elemSize (fmt : Nat) : Nat := if fmt = 0 ∨ fmt = 4 then 8 else if fmt = 1 then 4 else 2
def entrySize (fmt : Nat) : Nat := if fmt = 0 then 272 else if fmt = 1 then 40 else 16

/-- Exponent bits and fraction bits of a floating-point format. -/
def fpBits (fmt : Nat) : Nat × Nat :=
  if fmt = 0 then (11, 52) else if fmt = 1 then (8, 23) else if fmt = 2 then (8, 7) else (5, 10)

/-- The format and operation exist together (R323). -/
def formatOp (fmt op mode : Nat) : Bool := decide (fmt ≤ 4) && decide (op ≤ 5) && decide (mode ≤ 3) && (decide (op ≤ 2) || fmt == 4)

/-- Two's complement of `w` bits. -/
def signed (w v : Nat) : Int := if bitAt v (w - 1) then (v % 2 ^ w : Int) - 2 ^ w else (v % 2 ^ w : Nat)

/-- The canonical quiet NaN of a format (R339). -/
def quietNaN (fmt : Nat) : Nat := let (eb, fb) := fpBits fmt; (2 ^ eb - 1) * 2 ^ fb + 2 ^ (fb - 1)
def infinity (fmt : Nat) : Nat := let (eb, fb) := fpBits fmt; (2 ^ eb - 1) * 2 ^ fb
def signBit (fmt : Nat) : Nat := let (eb, fb) := fpBits fmt; 2 ^ (eb + fb)

/-- Sign, exponent field and fraction field of a value. -/
def fpParts (fmt v : Nat) : Bool × Nat × Nat := let (eb, fb) := fpBits fmt; (bitAt v (eb + fb), fld v fb eb, fld v 0 fb)

def isNaN (fmt v : Nat) : Bool := let (eb, _) := fpBits fmt; let (_, e, f) := fpParts fmt v; fmt != 4 && e == 2 ^ eb - 1 && f != 0
def isInf (fmt v : Nat) : Bool := let (eb, _) := fpBits fmt; let (_, e, f) := fpParts fmt v; fmt != 4 && e == 2 ^ eb - 1 && f == 0

/-- NAN, POS_INF, NEG_INF and NONNEG of one value (Table 10.4). -/
def valueFlags (fmt v : Nat) : Nat :=
  if fmt = 4 then 8
  else
    let (s, e, f) := fpParts fmt v
    pack [(0, b2n (isNaN fmt v)), (1, b2n (isInf fmt v && !s)), (2, b2n (isInf fmt v && s)), (3, b2n (!(s && e == 0 && f == 0)))]

/-- The magnitude of a finite value in units of the least subnormal. -/
def magnitude (fmt v : Nat) : Nat :=
  let (_, fb) := fpBits fmt
  let (_, e, f) := fpParts fmt v
  if e = 0 then f else (f + 2 ^ fb) * 2 ^ (e - 1)

/-- What one contribution adds to a SUM ledger entry, and its flags (R325, R326). `span` is SPAN_LSB plus 133. -/
def contribute (fmt span v : Nat) : Int × Nat :=
  if fmt = 4 then (signed 64 v, 8)
  else
    let fl := valueFlags fmt v
    let (s, _, _) := fpParts fmt v
    if isNaN fmt v || isInf fmt v then (0, fl)
    else
      let m := magnitude fmt v
      if fmt = 2 then
        let q := m / 2 ^ span
        let fl1 := fl + (if m % 2 ^ span = 0 then 0 else 16)
        if 2 ^ 88 ≤ q then (0, Nat.lor fl1 (32 + (if s then 4 else 2)))
        else (if s then -(q : Int) else q, fl1)
      else (if s then -(m : Int) else m, fl)

/-- The key by which MIN and MAX order values: sign and magnitude, -0 below +0 (R324). -/
def orderKey (fmt v : Nat) : Int :=
  if fmt = 4 then signed 64 v
  else
    let w := 8 * elemSize fmt
    if bitAt v (w - 1) then -((v % 2 ^ (w - 1) : Nat) : Int) - 1 else (v % 2 ^ (w - 1) : Nat)

/-- The value that stays when `new` meets `cur` (R324, R327). -/
def combine (fmt op cur new : Nat) : Nat :=
  if op = 1 then (if orderKey fmt new < orderKey fmt cur then new else cur)
  else if op = 2 then (if orderKey fmt cur < orderKey fmt new then new else cur)
  else if op = 3 then Nat.land cur new else if op = 4 then Nat.lor cur new else Nat.xor cur new

/-- Round a positive magnitude in units of the least subnormal to the format: value bits without sign, inexact,
overflow (R339 rule 4). -/
def roundMag (fmt mode : Nat) (neg : Bool) (m : Nat) : Nat × Bool × Bool :=
  let (eb, fb) := fpBits fmt
  let bits := Nat.log2 m + 1
  if bits ≤ fb + 1 then (m, false, false)
  else
    let sh := bits - (fb + 1)
    let q := m / 2 ^ sh
    let r := m % 2 ^ sh
    let half := 2 ^ (sh - 1)
    let up := if mode = 0 then (decide (half < r) || (r == half && q % 2 == 1)) else if mode = 1 then false
      else if mode = 2 then r != 0 && !neg else r != 0 && neg
    let v := sh * 2 ^ fb + q + b2n up
    if (2 ^ eb - 1) * 2 ^ fb ≤ v then
      ((if mode = 0 ∨ (mode = 2 ∧ neg = false) ∨ (mode = 3 ∧ neg = true) then infinity fmt else infinity fmt - 1), true, true)
    else (v, r != 0, false)

/-- The result element of a SUM entry and its RESULT_FLAGS (R339). -/
def finishSum (fmt mode span : Nat) (acc : Int) (flags : Nat) : Nat × Nat :=
  if fmt = 4 then
    (if acc < -(2 ^ 63) then (2 ^ 63, 4) else if 2 ^ 63 ≤ acc then (2 ^ 63 - 1, 4) else ((acc % 2 ^ 64).toNat, 0))
  else if bitAt flags 0 || (bitAt flags 1 && bitAt flags 2) then (quietNaN fmt, 0)
  else if bitAt flags 1 then (infinity fmt, 0)
  else if bitAt flags 2 then (signBit fmt + infinity fmt, 0)
  else if acc = 0 then (if bitAt flags 3 then 0 else signBit fmt, 0)
  else
    let neg := decide (acc < 0)
    let m := acc.natAbs * (if fmt = 2 then 2 ^ span else 1)
    let (v, inex, ovf) := roundMag fmt mode neg m
    (v + (if neg then signBit fmt else 0), pack [(0, b2n inex), (1, b2n ovf)])

/-- The result element of a MIN, MAX or bitwise entry: the NaN rule for MIN and MAX (R324, R339). -/
def finishValue (fmt op v flags : Nat) : Nat := if op ≤ 2 ∧ fmt ≠ 4 ∧ bitAt flags 0 = true then quietNaN fmt else v

/-- The 32-bit digits of an accumulator, lowest first, `n` of them (R336). -/
def digitsOf (n : Nat) (acc : Int) : List Nat :=
  match n with
  | 0 => []
  | n + 1 => (acc % 2 ^ 32).toNat :: digitsOf n (acc / 2 ^ 32)

/-- Digits of the narrowest two's complement form, 1 to 67. -/
def digitCount (acc : Int) : Nat :=
  ((List.range 68).find? (fun n => decide (1 ≤ n) && decide (-(2 ^ (32 * n - 1)) ≤ acc) && decide (acc < 2 ^ (32 * n - 1)))).getD 67

/-- Zero digits at the low end. -/
def lowDigits (acc : Int) : Nat := ((List.range 68).find? (fun n => decide (acc % 2 ^ (32 * (n + 1)) ≠ 0))).getD 0

/-- A packed SUM element (Table 10.8): the canonical packing. -/
def packSum (acc : Int) (flags : Nat) : List Nat :=
  if acc = 0 then toLe 4 (flags % 256)
  else
    let lo := lowDigits acc
    let v := acc / 2 ^ (32 * lo)
    let n := digitCount v
    toLe 4 (pack [(0, flags % 256), (8, lo), (16, n)]) ++ (digitsOf n v).flatMap (toLe 4)

/-- A packed element of the other operations. -/
def packValue (fmt v flags : Nat) : List Nat := toLe 4 (flags % 256) ++ toLe (if elemSize fmt = 8 then 8 else 4) v

/-- An element unpacked: accumulator or value, flags and its length, when it is canonical. -/
structure Unpacked where
  acc : Int := 0
  val : Nat := 0
  flags : Nat := 0
  len : Nat := 4
deriving DecidableEq, Repr, Inhabited

/-- Unpack a SUM element at the head of a payload (R336, R338). -/
def unpackSum (bs : List Nat) : Option Unpacked :=
  let d := leAt bs 0 4
  let n := fld d 16 7
  let lo := fld d 8 7
  let len := 4 + 4 * n
  let top := leAt bs (4 * n) 4
  let under := leAt bs (4 * n - 4) 4
  if bs.length < len ∨ bitAt d 15 = true ∨ fld d 23 9 ≠ 0 ∨ 67 < lo + n then none
  else if n = 0 then (if lo = 0 then some { flags := fld d 0 8 } else none)
  else if leAt bs 4 4 = 0 then none
  else if 2 ≤ n ∧ ((top = 0 ∧ bitAt under 31 = false) ∨ (top = 0xFFFFFFFF ∧ bitAt under 31 = true)) then none
  else some { acc := signed (32 * n) (leAt bs 4 (4 * n)) * 2 ^ (32 * lo), flags := fld d 0 8, len := len }

/-- Unpack an element of the other operations. -/
def unpackValue (fmt : Nat) (bs : List Nat) : Option Unpacked :=
  let n := if elemSize fmt = 8 then 8 else 4
  let d := leAt bs 0 4
  let v := leAt bs 4 n
  if bs.length < 4 + n ∨ fld d 8 24 ≠ 0 ∨ 2 ^ (8 * elemSize fmt) ≤ v then none
  else some { val := v, flags := fld d 0 8, len := 4 + n }

/-- Unpack `n` elements back to back. -/
def unpackAll (fmt op n : Nat) (bs : List Nat) : Option (List Unpacked) :=
  match n with
  | 0 => some []
  | n + 1 =>
    match (if op = 0 then unpackSum bs else unpackValue fmt bs) with
    | none => none
    | some u => (unpackAll fmt op n (bs.drop u.len)).map (u :: ·)

end Sys2Proof.Machine
end

