-- ==== Sys2Proof/Machine/Graticule.lean ====
section
/-! DEFINITION. The Graticule: matching, planes, confirmation and resequencing, and the engine links (R19 to R22, R26,
R253 to R258, R267, R271). -/

namespace Sys2Proof.Machine

/-! ### Planes -/

def Dev.planeSt (d : Dev) (k : Nat) : Plane := d.sw.plane.rd k
/-- The active set, in ascending order; P is its size. -/
def Dev.activePlanes (d : Dev) : List Nat := (List.range 9).filter (fun k => (d.planeSt k).state == 1)

/-- GR_STATUS (Table 8.6). -/
def Dev.grStatus (d : Dev) : Nat :=
  pack ((16, d.activePlanes.length) :: d.activePlanes.map (fun k => (k, 1)))

/-! ### Eligibility (R250, R254, R271, R310) -/

/-- Cells held in a port's staging, and cells on their way to it: those that wait in a resequencer, and those sent that have
not arrived. -/
def Dev.stagedCells (d : Dev) (p : Nat) : Nat :=
  (List.range 8).foldl (fun a v => a + (d.sw.staging.rd (8 * p + v)).foldl (fun b s => b + s.got) 0) 0
def Dev.flyingCells (d : Dev) (p : Nat) : Nat :=
  (d.sw.rsq.filter (fun c => c.voq / 8 % 128 == p)).length +
    (d.sw.unconf.filter (fun c => c.voq / 8 % 128 == p && decide ((c.seq + 65536 - d.sw.exp.rd c.voq) % 65536 < 32768) &&
      !d.sw.rsq.any (fun x => x.voq == c.voq && x.seq == c.seq))).length

/-- No staging cell of a port is free. -/
def Dev.stagingFull (d : Dev) (p : Nat) : Bool := decide (d.stagingCap p ≤ d.stagedCells p + d.flyingCells p)

/-- The largest number of pieces a fabric read is cut into at 512 B boundaries (R311). -/
def pieceCount (addr bytes : Nat) : Nat := if bytes = 0 then 1 else (addr % 512 + bytes + 511) / 512

/-- Tag limit of a handle's TAG_SPACE (R310). -/
def tagLimit (space : Nat) : Nat := if space = 0 then 256 else if space = 1 then 1024 else 16384

/-- Free return slots of tile `t` below a limit, lowest first, at most `n`. -/
def Dev.freeSlots (d : Dev) (t limit n : Nat) : List Nat :=
  ((List.range (min limit (d.sw.bslot.length + n))).filter (fun s => (d.sw.bslot.rd (16384 * t + s)).state == 0)).take n

/-- A non-posted fabric request at the head toward an H port needs return slots (R310). -/
def Dev.slotsReady (d : Dev) (p : Pkt) : Bool :=
  match p.body with
  | .fab f =>
    if d.isH p.dst && p.cls == 1 then
      let e := p.rid
      let n := if f.kind = 2 then pieceCount f.addr (4 * f.lenDw) else 1
      (d.freeSlots (portTile p.dst) (tagLimit (ridTagSpace e)) n).length == n
    else true
  | .tlp _ => true

/-- The head may leave its VOQ: sub-queue order is `headsOf`; the bound, the return slots, the link of an S port and the
fence are checked here. Answers the reason of Table 8.3 that stops it, or none. -/
def Dev.stopReason (d : Dev) (p : Pkt) : Option Nat :=
  if 0 < p.sent then (if d.stagingFull p.dst = true ∨ p.wr ≤ p.sent then some 1 else none)
  else if p.needTransit && p.transit.isNone && !d.trAvail p.part then some 3
  else if !d.slotsReady p then some 3
  else if d.isS p.dst && !(d.link p.dst).live then some 2
  else if d.stagingFull p.dst then some 1
  else none

/-- The eligible head of a VOQ: a packet that has begun goes on first. -/
def Dev.eligible (d : Dev) (key : Nat) : Option Pkt :=
  let q := d.sw.voq.rd key
  match q.find? (fun p => decide (0 < p.sent)) with
  | some p => if (d.stopReason p).isNone then some p else none
  | none => ((headsOf q).find? (fun p => (d.stopReason p).isNone))

/-- Some VOQ of tile `i` toward a port of tile `e` has an eligible head on VC `v`: the port, from a starting slot. -/
def Dev.eligiblePort (d : Dev) (i e v start : Nat) : Option Nat :=
  ((List.range 8).map (fun s => 8 * e + (start + s) % 8)).find? (fun p => (d.eligible (voqKey i p v)).isSome)

/-! ### Planes of one cell time (R256) -/

/-- A matched cell: input and egress tile, its plane colour, and the cell's VOQ and sequence. -/
structure Matched where
  inp : Nat
  out : Nat
  col : Nat
  key : Nat
  seq : Nat
deriving DecidableEq, Repr, Inhabited

/-- The tile of a matched cell on one side. -/
def Matched.at_ (m : Matched) (inp : Bool) : Nat := if inp then m.inp else m.out

/-- Colours free at an input tile and at an egress tile. -/
def freeAt (ms : List Matched) (n : Nat) (inp : Bool) (v : Nat) : List Nat :=
  (List.range n).filter (fun c => !ms.any (fun m => m.at_ inp == v && m.col == c))

/-- Swap colours `a` and `b` along the path that starts at vertex `v` with an edge of colour `a`. -/
def flipPath (n : Nat) (ms : List Matched) (inp : Bool) (v a b : Nat) : List Matched :=
  match n with
  | 0 => ms
  | n + 1 =>
    match ms.find? (fun m => m.at_ inp == v && m.col == a) with
    | none => ms
    | some m => { m with col := b } :: flipPath n (ms.filter (fun x => x != m)) (!inp) (m.at_ (!inp)) b a

/-- Add a cell and give it a colour that neither tile uses; the cells on the alternating path change theirs. -/
def addPair (n : Nat) (ms : List Matched) (i e key seq : Nat) : List Matched :=
  let fi := freeAt ms n true i
  let fe := freeAt ms n false e
  match fi.find? (fun c => fe.contains c), fi, fe with
  | some c, _, _ => { inp := i, out := e, col := c, key := key, seq := seq } :: ms
  | none, a :: _, b :: _ => { inp := i, out := e, col := a, key := key, seq := seq } :: flipPath 20 ms false e a b
  | none, _, _ => ms

/-- The cells of one cell time go to the planes of their colours (R256). -/
def Dev.assignPlanes (d : Dev) (ms : List Matched) : Dev :=
  ms.foldl (fun e m =>
    let pl := d.activePlanes.getD m.col 0
    ({ e with sw.unconf := e.sw.unconf.map (fun (c : Cell) => if c.voq = m.key ∧ c.seq = m.seq then { c with plane := pl } else c) }).countGrat 0x40 pl 1) d

/-! ### Sending cells -/

/-- The Transit entry that a packet's header opens as it leaves its VOQ (R271). -/
def Dev.openFor (d : Dev) (p : Pkt) : Dev × Pkt :=
  if p.needTransit && p.transit.isNone then
    let bytes := match p.body with
      | .tlp t => t.answerBytes
      | .fab f => f.answerBytes
    let far := match p.body with
      | .fab f => some f.dest
      | .tlp _ => none
    let (d1, k) := d.trOpen { part := p.part, port := p.ing, reqId := p.reqId, tag := p.tag, tc := p.tc, destSwitch := far, destPort := p.dst, bytes := bytes }
    match k with
    | some k =>
      let body := match p.body with
        | .fab f => Body.fab { f with reqId := d1.trReqId k }
        | b => b
      (d1, { p with transit := some k, body := body })
    | none => (d, p)
  else (d, p)

/-- Return slots taken by a fabric request as its header leaves its VOQ toward an H port (R310, R311). -/
def Dev.takeSlots (d : Dev) (p : Pkt) : Dev :=
  match p.body with
  | .fab f =>
    if d.isH p.dst && p.cls == 1 then
      let t := portTile p.dst
      let e := p.rid
      let bytes := f.answerBytes
      let n := if f.kind = 2 then pieceCount f.addr bytes else 1
      let slots := d.freeSlots t (tagLimit (ridTagSpace e)) n
      let first := fun (k : Nat) => if k = 0 then f.addr else (f.addr / 512 + k) * 512
      let stop := fun (k : Nat) => if k + 1 = n then f.addr + bytes else (f.addr / 512 + k + 1) * 512
      let pieces := (List.range n).map (fun k => (slots.getD k 0, if f.kind = 2 then stop k - first k else bytes, first k))
      { d with
        sw.bslot := slots.foldl (fun b s => b.upd (16384 * t + s) (fun x => { x with state := 1, rid := ridProxy e, time := d.now })) d.sw.bslot
        sw.breq := d.sw.breq ++ [{ tile := t, pkt := f, pieces := pieces, left := bytes, owed := (List.range n).foldl (fun o k => o.wr k (pieces.getD k (0, 0, 0)).2.1) [] }] }
    else d
  | .tlp _ => d

/-- Bytes of the header of a cell: VOQ, class, flags, sequence and timestamp; their places are the model's own
(notes/assumptions/72.md). -/
def Cell.header (c : Cell) : List Nat :=
  toLe 8 (pack [(0, c.voq % 1024), (10, c.pkt.cls), (12, b2n c.first), (13, b2n c.last), (16, c.seq), (32, c.stamp)])

/-- Bytes of a packet as its link delivered it: a TLP's header words in big-endian order, then data; a fabric packet. -/
def Body.bytes : Body → List Nat
  | .tlp t => t.ext ++ t.header.flatMap (fun w => (toLe 4 w).reverse) ++ t.data
  | .fab f => f.bytes

/-- The 64 B of a cell; the rest of the last one is unused and taken as zero. -/
def Cell.content (c : Cell) : List Nat := slice (c.pkt.body.bytes ++ List.replicate 64 0) (64 * (c.pkt.sent - 1)) 64

/-- The CRC-32C that a cell carries, over its 64 B and its header (R257); an arrival is good when the bytes that arrive give
the CRC that arrives. -/
def Cell.crc (c : Cell) : Nat := crc32c (c.content ++ c.header)

/-- The next cell of packet `p` leaves VOQ `key` (R246, R257, R271). -/
def Dev.sendCell (d : Dev) (key : Nat) (p : Pkt) : Dev :=
  let tile := key / 1024
  let (d1, q) := if p.sent = 0 then (let (e, r) := d.openFor p; (e.takeSlots r, r)) else (d, p)
  let r := { q with sent := q.sent + 1 }
  let seq := d1.sw.seq.rd key
  let cell : Cell := { tile := tile, etile := portTile p.dst, voq := key, seq := seq, first := decide (p.sent = 0), last := r.sent == r.cells, stamp := p.time / usUnits % 2 ^ 21, time := d1.now, pkt := r }
  let left := r.sent == r.cells
  let d2 := { d1 with
    sw.voq := d1.sw.voq.upd key (fun l => if left then delPkt l r.id else setPkt l r)
    sw.seq := d1.sw.seq.wr key ((seq + 1) % 65536)
    sw.unconf := d1.sw.unconf ++ [cell] }
  d2.countTile tile 0x05 0 p.vc 1

/-- Capacity left to an input tile and an egress tile after `ms`. -/
def capIn (n : Nat) (ms : List Matched) (i : Nat) : Nat := n - (ms.filter (fun m => m.inp == i)).length
def capOut (n : Nat) (ms : List Matched) (e : Nat) : Nat := n - (ms.filter (fun m => m.out == e)).length

/-- Unconfirmed cells of a pair of tiles: at most 64 (R257). -/
def Dev.unconfOf (d : Dev) (i e : Nat) : Nat := (d.sw.unconf.filter (fun c => c.tile == i && c.etile == e)).length

/-- A request of step 1: input tile `i` asks egress tile `e` for VC `v`. -/
def Dev.asks (d : Dev) (i e v : Nat) : Bool := decide (d.unconfOf i e < 64) && (d.eligiblePort i e v 0).isSome

/-- Step 2 at egress tile `e`: grants (input, VC), at most its capacity. -/
def Dev.grants (d : Dev) (cap e : Nat) (ms : List Matched) : List (Nat × Nat) × Dev :=
  let asks := (List.range d.tiles).flatMap (fun i => (List.range 8).filterMap (fun v =>
    if 0 < capIn cap ms i ∧ d.asks i e v = true then some (i, v) else none))
  (List.range (capOut cap ms e)).foldl (fun (g : List (Nat × Nat) × Dev) _ =>
    match (g.2.sw.drr.rd e).pick g.2.weight (fun v => asks.any (fun a => a.2 == v)) with
    | (r, none) => (g.1, { g.2 with sw.drr := g.2.sw.drr.wr e r })
    | (r, some v) =>
      let start := g.2.sw.rr.rd (1000 + 8 * e + v)
      match ((List.range 9).map (fun k => (start + k) % 9)).find? (fun i => asks.contains (i, v)) with
      | none => g
      | some i => (g.1 ++ [(i, v)], { g.2 with sw.drr := g.2.sw.drr.wr e r, sw.rr := g.2.sw.rr.wr (1000 + 8 * e + v) ((i + 1) % 9) }))
    ([], d)

/-- Step 3 at input tile `i` for one grant it accepts: choose by VC, then egress tile, then port. -/
def Dev.acceptOne (d : Dev) (cap i : Nat) (gs : List (Nat × Nat)) (ms : List Matched) : Dev × List (Nat × Nat) × List Matched :=
  let ok := fun (g : Nat × Nat) => decide (0 < capOut cap ms g.1) && decide (d.unconfOf i g.1 < 64) && (d.eligiblePort i g.1 g.2 0).isSome
  match (d.sw.drr.rd (16 + i)).pick d.weight (fun v => gs.any (fun g => g.2 == v && ok g)) with
  | (r, none) => ({ d with sw.drr := d.sw.drr.wr (16 + i) r }, [], ms)
  | (r, some v) =>
    let start := d.sw.rr.rd (2000 + 8 * i + v)
    match ((List.range 9).map (fun k => (start + k) % 9)).find? (fun e => gs.any (fun g => g == (e, v) && ok g)) with
    | none => (d, [], ms)
    | some e =>
      let turn := 3000 + 128 * i + 8 * e + v
      match d.eligiblePort i e v (d.sw.rr.rd turn) with
      | none => (d, [], ms)
      | some p =>
        match d.eligible (voqKey i p v) with
        | none => (d, [], ms)
        | some pk =>
          let key := voqKey i p v
          let ms1 := addPair cap ms i e key (d.sw.seq.rd key)
          let d1 := { d with sw.drr := d.sw.drr.wr (16 + i) r,
                             sw.rr := (d.sw.rr.wr (2000 + 8 * i + v) ((e + 1) % 9)).wr turn ((p + 1) % 8) }
          (d1.sendCell key pk, gs.erase (e, v), ms1)

/-- Accept grants while capacity and grants last. -/
def Dev.acceptAll (d : Dev) (n cap i : Nat) (gs : List (Nat × Nat)) (ms : List Matched) : Dev × List Matched :=
  match n with
  | 0 => (d, ms)
  | n + 1 =>
    if capIn cap ms i = 0 then (d, ms)
    else
      let (d1, gs1, ms1) := d.acceptOne cap i gs ms
      if gs1.length = gs.length ∨ ms1.length = ms.length then (d1, ms1) else d1.acceptAll n cap i gs1 ms1

/-- One iteration of request, grant and accept (R254). -/
def Dev.matchOnce (d : Dev) (cap : Nat) (ms : List Matched) : Dev × List Matched :=
  let (gs, d1) := (List.range d.tiles).foldl (fun (a : List (Nat × Nat × Nat) × Dev) e =>
    let (g, x) := a.2.grants cap e ms
    (a.1 ++ g.map (fun iv => (iv.1, e, iv.2)), x)) ([], d)
  (List.range d.tiles).foldl (fun (a : Dev × List Matched) i =>
    a.1.acceptAll cap cap i ((gs.filter (fun g => g.1 == i)).map (fun g => g.2)) a.2) (d1, ms)

/-- Cells that wait to be sent again take capacity first (R254, R257). -/
def Dev.resendCells (d : Dev) (cap : Nat) : Dev × List Matched :=
  (d.sw.unconf.filter (fun c => c.resend)).foldl (fun (a : Dev × List Matched) c =>
    if 0 < capIn cap a.2 c.tile ∧ 0 < capOut cap a.2 c.etile then
      (({ a.1 with
          sw.unconf := a.1.sw.unconf.map (fun (x : Cell) => if x.voq = c.voq ∧ x.seq = c.seq then { x with resend := false, time := a.1.now } else x)
          sw.retransmit := a.1.sw.retransmit.upd c.tile (fun n => satAdd 32 n 1) }).countTile c.tile 0x06 0 0 1, addPair cap a.2 c.tile c.etile c.voq c.seq)
    else a) (d, [])

/-- A request of partition `q` waits for a Transit entry: at the head of a sub-queue, or in a Traverse engine (R271). -/
def Dev.waitsAtBound (d : Dev) (q : Nat) : Bool :=
  !d.trAvail q && (d.sw.hubWait.rd q || d.sw.voq.any (fun v => (headsOf v.2).any (fun p => p.part == q && p.needTransit && p.transit.isNone)))

/-- The requests that wait at the bound over `n` DCLK cycles: BOUND_CYCLES, and TRANSIT_BOUND on the first (R273). -/
def Dev.boundTick (d : Dev) (n : Nat) : Dev :=
  (List.range 24).foldl (fun e q =>
    if e.waitsAtBound q then
      let e1 := { e with sw.boundCycles := e.sw.boundCycles.upd q (· + n), sw.atBound := e.sw.atBound.wr q true }
      let e2 := e1.countTable 0x52 q n
      if e.sw.atBound.rd q || e.sw.boundNoted.rd q then e2
      else (({ e2 with sw.boundNoted := e2.sw.boundNoted.wr q true }).log 0x300 1 { part := q, inst := q, detail := [e.trUsed q, e.trReserve q, e.trSharedFree] } |>.fire (srcPart q 0))
    else { e with sw.atBound := e.sw.atBound.wr q false }) d

/-- A head that waits for a return slot counts SLOT_WAIT_CYCLES over `n` cycles (R310). -/
def Dev.slotTick (d : Dev) (n : Nat) : Dev :=
  if d.sw.voq.any (fun v => (headsOf v.2).any (fun p => p.sent == 0 && !d.slotsReady p)) then { d with sw.slotWait := d.sw.slotWait + n } else d

/-- Cells of an input in a unit's hold buffer (R334). -/
def HeldIn.cells : HeldIn → Nat
  | .write _ _ _ data _ _ => (data.length + 16 + 63) / 64
  | .packet f => f.units

/-- The unit at which an input waits: its collective's, or with UNIT 3 that of its first element (R329). -/
def Dev.heldUnit (d : Dev) (e : Nat × HeldIn) : Nat :=
  let k := d.tally.coll.rd e.1
  let u := fld k.ctrl 20 2
  let first := match e.2 with
    | .write _ _ off _ _ _ => off / elemSize (fld k.ctrl 27 3)
    | .packet f => fld f.addr 20 20
  if u = 3 then first / 64 % 3 else u

/-- UNIT[u].HOLD, and some unit's hold buffer of 4,096 cells is full. -/
def Dev.holdCells (d : Dev) (u : Nat) : Nat := (d.tally.hold.filter (fun e => d.heldUnit e == u)).foldl (fun a e => a + e.2.cells) 0
def Dev.holdFull (d : Dev) : Bool := (List.range 3).any (fun u => decide (4096 ≤ d.holdCells u))

/-- The cells of one engine link in a cell time: two cells of VOQs 72 and 73 of a tile, by VC (R26, R254). A packet is
acted on when its last cell arrives (R267); a request that needs a Transit entry takes it as its header leaves (R271). -/
def Dev.engineLinkCell (d : Dev) (t : Nat) : Dev :=
  let full := d.holdFull
  let head := fun (k : Nat) =>
    ((d.sw.voq.rd k).find? (fun x => decide (0 < x.sent))).or
      ((headsOf (d.sw.voq.rd k)).find? (fun p => !(p.needTransit && p.transit.isNone && !d.trAvail p.part)))
  let keyOf := fun (v : Nat) =>
    if (head (voqKey t 72 v)).isSome && !full then some (voqKey t 72 v) else if (head (voqKey t 73 v)).isSome then some (voqKey t 73 v) else none
  match (d.sw.drr.rd (32 + t)).pick d.weight (fun v => (keyOf v).isSome) with
  | (r, none) => { d with sw.drr := d.sw.drr.wr (32 + t) r }
  | (r, some v) =>
    match keyOf v with
    | none => d
    | some key =>
      match head key with
      | none => d
      | some p =>
        let (d0, x) := if p.sent = 0 then d.openFor p else (d, p)
        let q := { x with sent := x.sent + 1 }
        let done := q.sent == q.cells
        let d1 := { d0 with
          sw.drr := d0.sw.drr.wr (32 + t) r
          sw.voq := d0.sw.voq.upd key (fun l => if done then delPkt l q.id else setPkt l q)
          sw.hubIn := if done then d0.sw.hubIn ++ [q] else d0.sw.hubIn }
        d1.freeCells q p.sent 1

/-- Deliver one cell of packet `p` into staging. The age of a packet from an engine runs from here (R264). -/
def Dev.stagePkt (d : Dev) (p : Pkt) : Dev :=
  let key := 8 * p.dst + p.vc
  let q := d.sw.staging.rd key
  let q1 := if q.any (fun s => s.pkt.id == p.id) then
      q.map (fun s => if s.pkt.id = p.id then { s with got := s.got + 1 } else s)
    else q ++ [{ pkt := if p.ing = 0xFF then { p with time := d.now } else p, got := 1 }]
  { d with sw.staging := d.sw.staging.wr key q1 }

/-- A packet that has become whole in the staging of a link that is down is re-injected (R296). -/
def Dev.reinject (d : Dev) (key id : Nat) : Dev :=
  let p := key / 8
  if d.isS p && !(d.link p).live then
    match (d.sw.staging.rd key).find? (fun s => s.pkt.id == id && s.got == s.pkt.cells) with
    | some s =>
      (match s.pkt.body with
       | .fab f => ({ d with sw.staging := d.sw.staging.upd key (fun q => q.filter (fun x => x.pkt.id != id)) }).routeFab 2 (portTile p) 0xFF 0 f false s.pkt.sequenced
       | .tlp _ => d)
    | none => d
  else d

/-- The packet whose next cell may leave engine-link queue `key`: one that has begun goes on first. -/
def Dev.engHead (d : Dev) (key : Nat) : Option Pkt :=
  let q := d.sw.eng.rd key
  let p := key % 1024 / 8
  if d.stagingFull p || (d.isS p && !(d.link p).live) then none else (q.find? (fun p => decide (0 < p.sent))).or (headsOf q).head?

/-- One cell from the hub over the engine link of tile `t` into a port's staging: VCs by deficit round-robin, then ports in
turn (R26, R253, R255). -/
def Dev.engineOutCell (d : Dev) (t : Nat) : Dev :=
  let portOf := fun (v : Nat) => ((List.range 8).map (fun i => 8 * t + (d.sw.rr.rd (4000 + 8 * t + v) + i) % 8)).find? (fun p => (d.engHead (voqKey t p v)).isSome)
  match (d.sw.drr.rd (48 + t)).pick d.weight (fun v => (portOf v).isSome) with
  | (r, none) => { d with sw.drr := d.sw.drr.wr (48 + t) r }
  | (r, some v) =>
    match portOf v with
    | none => d
    | some p =>
      let key := voqKey t p v
      match d.engHead key with
      | none => d
      | some x =>
        let y := { x with sent := x.sent + 1 }
        ({ d with
          sw.drr := d.sw.drr.wr (48 + t) r
          sw.rr := d.sw.rr.wr (4000 + 8 * t + v) ((p + 1) % 8)
          sw.eng := d.sw.eng.upd key (fun l => if y.sent = y.cells then delPkt l y.id else setPkt l y) }).stagePkt y |>.reinject (8 * p + v) y.id

/-- The two cells each way of a tile's engine link in one cell time (R26). -/
def Dev.engineLink (d : Dev) (t : Nat) : Dev := (((d.engineLinkCell t).engineLinkCell t).engineOutCell t).engineOutCell t

/-- Matching of one cell time (R254): retransmissions, three iterations, planes, then the engine links. -/
def Dev.cellTimeCore (d : Dev) : Dev :=
  let cap := d.activePlanes.length
  let (d1, ms) := d.resendCells cap
  let (d2, ms2) := iter 3 (fun (a : Dev × List Matched) => a.1.matchOnce cap a.2) (d1, ms)
  let left := (List.range d2.tiles).any (fun i => (List.range d2.tiles).any (fun e => (List.range 8).any (fun v => d2.asks i e v)))
  let d3 := if left then d2.countGrat 0x42 0 2 else d2
  let d4 := d3.assignPlanes ms2
  let d5 := (List.range d4.tiles).foldl (fun e t => e.engineLink t) d4
  d5.boundTick 0

/-! ### Arrival and confirmation (R257) -/

/-- Deliver one cell that has crossed the Graticule into staging. -/
def Dev.stageCell (d : Dev) (c : Cell) : Dev :=
  if d.sw.dead.contains c.pkt.id then d else (d.stagePkt c.pkt).reinject (8 * c.pkt.dst + c.pkt.vc) c.pkt.id

/-- The resequencer passes on the cells of a VOQ that are now in sequence, at most `n` (R257). -/
def Dev.resequence (d : Dev) (n key : Nat) : Dev :=
  match n with
  | 0 => d
  | n + 1 =>
    match d.sw.rsq.find? (fun c => c.voq == key && c.seq == d.sw.exp.rd key) with
    | none => d
    | some c =>
      ({ d with sw.rsq := d.sw.rsq.erase c, sw.exp := d.sw.exp.wr key ((c.seq + 1) % 65536) }.stageCell c).resequence n key

/-- Count an error against a plane; at the threshold the plane leaves the active set (R22, R258). -/
def Dev.planeError (d : Dev) (k : Nat) : Dev :=
  { d with sw.plane := d.sw.plane.upd k (fun p => { p with errors := p.errors + 1 }) }

/-- PLANE_REMOVED: the plane's errors have reached the threshold (R22, R258). -/
def Dev.removePlane (d : Dev) (k : Nat) : Dev :=
  if (d.planeSt k).state = 1 ∧ d.spareThreshold 2 ≤ (d.planeSt k).errors then
    let d1 := { d with sw.plane := d.sw.plane.upd k (fun p => { p with state := 2 }),
                       sw.unconf := d.sw.unconf.map (fun (c : Cell) => if c.plane = k then { c with resend := true } else c) }
    let d2 := d1.uncFault 10 k 9 0xF 0
    if (d2.policy 2).enable && !d2.anyIsolated && (List.range 9).any (fun j => (d2.planeSt j).state == 0) then
      (d2.startInternal { op := 0x07, arg0 := 0xF, total := 2 }).1
    else if (List.range 9).any (fun j => (d2.planeSt j).state == 0) then d2
    else d2.spareExhausted 2 k
  else d

/-- Cells that the resequencer of input tile `i` at egress tile `e` holds; it has 64 places (R257). -/
def Dev.rsqOf (d : Dev) (i e : Nat) : Nat := (d.sw.rsq.filter (fun c => c.tile == i && c.etile == e)).length

/-- CELL_ARRIVAL of cell `seq` of VOQ `key`, with a good or a bad CRC (R257). A cell may arrive twice, also after it has been
confirmed: it is one of the last 64 delivered then. One that finds no place in the resequencer is discarded unconfirmed
(notes/assumptions/72.md). -/
def Dev.cellArrive (d : Dev) (key seq : Nat) (good : Bool) : Dev :=
  match d.sw.unconf.find? (fun c => c.voq == key && c.seq == seq) with
  | none =>
    let back := (d.sw.exp.rd key + 65536 - seq) % 65536
    if good ∧ d.inRunOrTest ∧ ((1 ≤ back ∧ back ≤ 64) ∨ d.sw.rsq.any (fun x => x.voq == key && x.seq == seq) = true) then
      { d with sw.confirming := d.sw.confirming ++ [(key, seq)], sw.dupDiscard := d.sw.dupDiscard.upd (portTile (key % 1024 / 8)) (fun n => satAdd 32 n 1) }
    else d
  | some c =>
    if !good then
      let d1 := { d with sw.plane := d.sw.plane.upd c.plane (fun p => { p with crcErr := satAdd 32 p.crcErr 1 }) }
      ((d1.countGrat 0x41 c.plane 1).corFault 1 c.plane).planeError c.plane
    else
      let d1 := { d with sw.confirming := d.sw.confirming ++ [(key, seq)] }
      let old := (seq + 65536 - d.sw.exp.rd key) % 65536
      if old ≠ 0 ∧ old < 32768 ∧ 64 ≤ d.rsqOf c.tile c.etile ∧ d.sw.rsq.any (fun x => x.voq == key && x.seq == seq) = false then d
      else if 32768 ≤ old ∨ d.sw.rsq.any (fun x => x.voq == key && x.seq == seq) = true then
        { d1 with sw.dupDiscard := d1.sw.dupDiscard.upd c.etile (fun n => satAdd 32 n 1) }
      else ({ d1 with sw.rsq := d1.sw.rsq ++ [c] }).resequence 65 key

/-- CELL_CONFIRM: the confirmation of a cell returns and its slot is freed (R248, R257). -/
def Dev.cellConfirmed (d : Dev) (key seq : Nat) : Dev :=
  if d.sw.confirming.contains (key, seq) then
    let d1 := { d with sw.confirming := d.sw.confirming.erase (key, seq) }
    match d1.sw.unconf.find? (fun c => c.voq == key && c.seq == seq) with
    | none => d1
    | some c =>
      let d2 := { d1 with sw.unconf := d1.sw.unconf.filter (fun x => !(x.voq == key && x.seq == seq)) }
      let rest := (d2.sw.unconf.any (fun x => x.pkt.id == c.pkt.id)) || ((d2.sw.voq.rd key).any (fun p => p.id == c.pkt.id))
      ({ d2 with sw.dead := if rest then d2.sw.dead else d2.sw.dead.filter (fun i => i != c.pkt.id) }).freeCells c.pkt (c.pkt.sent - 1) 1
  else d

/-- CONFIRM_TIMEOUT: no confirmation within 32 DCLK cycles; the cell is to be sent again (R257). -/
def Dev.cellTimedOut (d : Dev) (key seq : Nat) : Dev :=
  match d.sw.unconf.find? (fun c => c.voq == key && c.seq == seq && !c.resend) with
  | none => d
  | some c =>
    let d1 := { d with sw.plane := d.sw.plane.upd c.plane (fun p => { p with timeouts := satAdd 32 p.timeouts 1 }) }
    { d1 with sw.unconf := d1.sw.unconf.map (fun x => if x.voq = key ∧ x.seq = seq then { x with resend := true } else x) }

end Sys2Proof.Machine
end

