-- ==== Sys2Proof/Machine/Cairn.lean ====
section
/-! DEFINITION. The Cairn writer, its rings, clearing, the Black Box and the reading of records (R425 to R439). -/

namespace Sys2Proof.Machine

/-- The 15 words of a record before its CRC (Table 14.1). -/
def CairnRec.words15 (r : CairnRec) : List Nat :=
  [r.seq % 2 ^ 32, r.seq / 2 ^ 32, r.tick % 2 ^ 32, r.tick / 2 ^ 32 % 2 ^ 24, r.offset,
   pack [(0, r.code), (16, r.severity), (24, r.writer)], pack [(0, r.partition), (8, r.cmdPort), (16, r.inst)], 0,
   r.detail.getD 0 0, r.detail.getD 1 0, r.detail.getD 2 0, r.detail.getD 3 0, r.detail.getD 4 0, r.detail.getD 5 0,
   r.detail.getD 6 0]

/-- The 16 words of a record, RECORD_CRC last; an empty slot reads zero (R425). -/
def CairnRec.words (r : CairnRec) : List Nat :=
  if r.seq = 0 then List.replicate 16 0
  else r.words15 ++ [crc32c (r.words15.flatMap (toLe 4))]

/-- The slot that the next record of severity `sev` takes (R428, R429). -/
def CairnSt.slotFor (c : CairnSt) (sev : Nat) : Nat :=
  if sev ≤ 1 then c.nLow % 32768
  else if sev ≤ 3 then 32768 + c.nMid % 24576
  else if c.nHigh < 4096 then 57344 + c.nHigh else 61440 + (c.nHigh - 4096) % 4096

/-- The ring of severity `sev` has taken one more record. -/
def CairnSt.advance (c : CairnSt) (sev : Nat) : CairnSt :=
  if sev ≤ 1 then { c with nLow := c.nLow + 1 }
  else if sev ≤ 3 then { c with nMid := c.nMid + 1 }
  else { c with nHigh := c.nHigh + 1 }

/-- Copy an Error or Fatal record into the Black Box, or count it as missed while frozen (R437, R438). -/
def CairnSt.bbCopy (c : CairnSt) (r : CairnRec) : CairnSt :=
  if r.severity = 3 ∨ r.severity = 4 then
    if c.bbFrozen then { c with bbMissed := satAdd 32 c.bbMissed 1 }
    else { c with bb := c.bb.wr (c.nBb % 4096) r, nBb := c.nBb + 1 }
  else c

/-- Store a record: it takes the next SEQ and the next slot of its ring (R425, R429). -/
def CairnSt.store (c : CairnSt) (r : CairnRec) : CairnSt :=
  let r1 := { r with seq := c.lastSeq + 1 }
  let c1 := { c with lastSeq := c.lastSeq + 1, slots := c.slots.wr (c.slotFor r.severity) r1 }
  (c1.advance r.severity).bbCopy r1

/-- A record of severity `sev` is the one that fills the kept part (R429). -/
def CairnSt.fillsKept (c : CairnSt) (sev : Nat) : Bool := decide (4 ≤ sev) && c.nHigh == 4095

/-- Store a record and fire KEPT_FULL when it fills the kept part. -/
def Dev.storeRec (d : Dev) (r : CairnRec) : Dev :=
  let d1 := ({ d with cairn := d.cairn.store r }).countMgmt 0x72 r.severity 1
  if d.cairn.fillsKept r.severity then d1.fire 0x3C1 else d1

/-- CAIRN_STORE: the writer stores its next record; FLOOD has its own entry (R431, R432). -/
def cairnStore (d : Dev) : Dev :=
  match d.cairn.flood, d.cairn.queue with
  | some r, _ => ({ d with cairn.flood := none }).storeRec r
  | none, r :: rest => ({ d with cairn.queue := rest }).storeRec r
  | none, [] => d

/-- The FLOOD record of a boundary or boot interval that saw drops (R432). Its source fires with it. -/
def Dev.flood (d : Dev) : Dev :=
  if d.cairn.droppedNow = [] then d
  else
    let n := fun s => d.cairn.droppedNow.rd s
    let sev := if n 3 + n 4 + n 5 = 0 then 2 else 5
    ({ d with
        cairn.droppedNow := []
        cairn.flood := some { tick := d.stampTick, offset := d.stampOffset, code := 0x3C0, severity := sev,
                              partition := 0x1F, detail := [n 0, n 1, n 2, n 3, n 4, n 5] } }).fire 0x3C0

/-! ### Clearing (R435, R436) -/

/-- Ring of a slot as a SCOPE bit: 0 LOW, 1 MID, 2 HIGH. -/
def ringOf (slot : Nat) : Nat := if slot < 32768 then 0 else if slot < 57344 then 1 else 2

/-- Remove what SCOPE names and restart those rings (R435). -/
def CairnSt.clear (c : CairnSt) (scope : Nat) : CairnSt :=
  let keep := c.slots.filter (fun e => !bitAt scope (ringOf e.1))
  let removed := (c.slots.length - keep.length) + (if bitAt scope 3 then c.bb.length else 0)
  { c with
    slots := keep
    nLow := if bitAt scope 0 then 0 else c.nLow
    nMid := if bitAt scope 1 then 0 else c.nMid
    nHigh := if bitAt scope 2 then 0 else c.nHigh
    bb := if bitAt scope 3 then [] else c.bb
    nBb := if bitAt scope 3 then 0 else c.nBb
    clearSeq := c.lastSeq, clearCount := removed, clearScope := scope }

/-- The code of a write of CAIRN_CLEAR: the first refusal that applies (R435). -/
def Dev.clearCode (d : Dev) (value : Nat) : Nat :=
  if fld value 16 16 ≠ 0x434C then 1
  else if fld value 0 4 = 0 then 4
  else if d.cairn.clearBusy then 3
  else if d.run.sealed && (bitAt value 2 || bitAt value 3) then 2
  else 0

/-- A Steward write of CAIRN_CLEAR (R435). -/
def Dev.writeCairnClear (d : Dev) (p : CmdPort) (addr value : Nat) : Dev :=
  if d.clearCode value = 0 then
    { d with cairn := { d.cairn.clear (fld value 0 4) with clearBusy := true, clearCode := 0, clearPort := p.code } }
  else ({ d with cairn.clearCode := d.clearCode value }).dropped p addr value 2

/-- CLEAR_DONE: the clear ends with a CAIRN_CLEARED record (R436). -/
def clearDone (d : Dev) : Dev :=
  if d.cairn.clearBusy then
    let c := d.cairn
    ({ d with cairn.clearBusy := false }).log 0x04B 5
      { port := c.clearPort
        detail := [c.clearScope, c.clearCount, c.clearSeq % 2 ^ 32, c.clearSeq / 2 ^ 32,
                   (c.dropped.rd 0 + c.dropped.rd 1 + c.dropped.rd 2) % 2 ^ 32] }
  else d

/-! ### Reading (R433, R434, R439) -/

/-- A Tenant reads only records of its own partition; any other word reads zero (R434). -/
def tenantMask (tenant : Option Nat) (ws : List Nat) (w : Nat) : Nat :=
  match tenant with
  | none => ws.getD w 0
  | some q => if fld (ws.getD 6 0) 0 8 = q then ws.getD w 0 else 0

/-- A read of word `w` of slot `i` of the page: word 0 latches the record for the port, words 1 to 15 of the same slot
return the latched copy (R433). -/
def Dev.readSlot (d : Dev) (p : CmdPort) (tenant : Option Nat) (i w : Nat) : Dev × Nat :=
  let slot := 16384 * (d.portSt p).cairnPage + i
  let cur := (d.cairn.slots.rd slot).words
  if w = 0 then (d.setPort p (fun s => { s with slotLatch := some (slot, cur) }), tenantMask tenant cur 0)
  else match (d.portSt p).slotLatch with
    | some (s, ws) => (d, tenantMask tenant (if s = slot then ws else cur) w)
    | none => (d, tenantMask tenant cur w)

/-- A read of BB_RECORD[w]: word 0 latches the record at the cursor, word 15 advances the cursor (R439). -/
def Dev.readBb (d : Dev) (p : CmdPort) (tenant : Option Nat) (w : Nat) : Dev × Nat :=
  let cur := (d.cairn.bb.rd (d.portSt p).bbCursor).words
  let d1 := if w = 0 then d.setPort p (fun s => { s with bbLatch := some cur }) else d
  let ws := match (d1.portSt p).bbLatch with
    | some l => l
    | none => cur
  let d2 := if w = 15 then d1.setPort p (fun s => { s with bbCursor := (s.bbCursor + 1) % 4096, bbLatch := none })
    else d1
  (d2, tenantMask tenant ws w)

/-- BB_STATUS: FROZEN, OLDEST, COUNT (Table 14.7). -/
def CairnSt.bbStatus (c : CairnSt) : Nat :=
  pack [(28, b2n c.bbFrozen), (16, if c.nBb < 4096 then 0 else c.nBb % 4096), (0, min c.nBb 4096)]

/-- A write of BB_CTRL.FREEZE (R438). Freezing fires BB_FROZEN. -/
def Dev.writeBbCtrl (d : Dev) (freeze : Bool) : Dev :=
  if freeze then
    if d.cairn.bbFrozen then d else ({ d with cairn.bbFrozen := true }).fire 0x3C3
  else if d.cairn.bbDevice then d
  else { d with cairn.bbFrozen := false }

/-- The isolation of a DEVICE domain freezes the Black Box until M0 (R438). -/
def Dev.bbFreezeDevice (d : Dev) : Dev :=
  ({ d with cairn.bbDevice := true }).writeBbCtrl true

/-- CAIRN_FILL and CAIRN_FILL_HIGH (Table 14.7). -/
def CairnSt.fill (c : CairnSt) : Nat := pack [(16, min c.nMid 24576), (0, min c.nLow 32768)]
def CairnSt.fillHigh (c : CairnSt) : Nat := pack [(16, min (c.nHigh - 4096) 4096), (0, min c.nHigh 4096)]

end Sys2Proof.Machine
end

