-- ==== Sys2Proof/Machine/Dpc.lean ====
section
/-! DEFINITION. What an H port does when an error or an event meets it: MSI of its bridges, hot-plug events, the fall of its
link, and the start of downstream port containment (R221, R224, R226 to R228, R231). -/

namespace Sys2Proof.Machine

/-! ### MSI of a bridge (Table 7.3, R231)

Bridges have one vector with a mask. A message that is masked, or whose Bus Master Enable is 0, stays pending, as R219 says
of MSI-X (DEDUCED, notes/assumptions/71.md). -/

/-- Index of downstream port `p` of partition `q`; the engine bridge follows the last (R208). -/
def Dev.downIndex (d : Dev) (q p : Nat) : Nat := popCount p (d.run.part.rd q).down
def Dev.engineIndex (d : Dev) (q : Nat) : Nat := popCount 72 (d.run.part.rd q).down

/-- Dword `w` of a function's configuration space as it is stored. -/
def Dev.cfgWord (d : Dev) (fn w : Nat) : Nat := d.pcie.cfg.rd (cfgKey fn w)
def Dev.setCfgWord (d : Dev) (fn w v : Nat) : Dev := { d with pcie.cfg := d.pcie.cfg.wr (cfgKey fn w) v }

/-- Routing ID of a bridge of a partition. -/
def Dev.bridgeRid (d : Dev) (fn : Nat) : Nat :=
  let q := fnPartition fn
  let at_ := fun (k : Nat) => 256 * fld (d.cfgWord (fnUp q) 6) 8 8 + k % 32 * 8 + k / 32
  match fnKind fn with
  | .down => at_ (d.downIndex q ((fn - 8192) % 72))
  | .engine => at_ (d.engineIndex q)
  | _ => d.upBridgeId q

/-- Nothing holds a bridge's message back. -/
def Dev.msiOpen (d : Dev) (fn : Nat) : Bool := !bitAt (d.cfgWord fn 22) 0 && d.bme fn && d.bme (fnUp (fnPartition fn))

/-- The message: a posted write of its data to its address, toward the host. -/
def Dev.sendMsi (d : Dev) (fn : Nat) : Dev :=
  d.sendTlp (d.run.part.rd (fnPartition fn)).upstream
    { kind := .memWrite, reqId := d.bridgeRid fn, addr := d.cfgWord fn 19 + 2 ^ 32 * d.cfgWord fn 20, data := toLe 4 (d.cfgWord fn 21 % 65536) }

/-- A bridge signals through its MSI, when MSI Enable is 1. -/
def Dev.bridgeMsi (d : Dev) (fn : Nat) : Dev :=
  if !bitAt (d.cfgWord fn 18) 16 then d else if d.msiOpen fn then d.sendMsi fn else d.setCfgWord fn 23 1

/-- A pending message leaves when nothing holds it back. -/
def Dev.msiRetry (d : Dev) (fn : Nat) : Dev :=
  if bitAt (d.cfgWord fn 23) 0 && bitAt (d.cfgWord fn 18) 16 && d.msiOpen fn then (d.setCfgWord fn 23 0).sendMsi fn else d

/-! ### Hot-plug events and the fall of a link (R231, R232) -/

/-- Set a Slot Status event bit in a downstream view: 19 Presence Detect Changed, 24 Data Link Layer State Changed, and
signal it when the host enabled that (Slot Control bits 3, 5 and 12). -/
def Dev.slotEvent (d : Dev) (fn bit : Nat) : Dev :=
  let w := d.cfgWord fn 30
  let en := bitAt w 5 && (if bit = 19 then bitAt w 3 else bitAt w 12)
  let d1 := d.setCfgWord fn 30 (setBit w bit)
  if en then d1.bridgeMsi fn else d1

/-- The data link layer of H port `p` is no longer active. A link in Disabled or Hot Reset stays there. -/
def Dev.linkFall (d : Dev) (p : Nat) : Dev :=
  let was := (d.pport p).dlActive
  let d1 := d.setPport p (fun s => { s with dlActive := false, width := 0, rate := 0, flit := false, retimers := 0, ltssm := if s.ltssm = 0x16 ∨ s.ltssm = 0x1A then s.ltssm else 0 })
  if was then
    let d2 := d1.fire (srcPort p 1)
    if d2.upstreamOf p = none then (d2.sharers p).foldl (fun e q => e.slotEvent (fnDown q p) 24) d2 else d2
  else d1

/-! ### Downstream port containment (R226 to R228) -/

/-- ERR_COR of a downstream bridge that DPC Control bit `bit` (of dword 161) enables, and Device Control too. -/
def Dev.dpcCor (d : Dev) (fn bit : Nat) : Dev :=
  if bitAt (d.cfgWord fn 161) bit && bitAt (d.cfgWord fn 26) 0 then d.emit (.hostMsg (fnPartition fn) 0x30 fn) else d

/-- A DPC trigger of port `p` (R227, R228): every view shows it, with the interrupt and the ERR_COR that it enabled; the
link goes to Disabled, the port stops. -/
def Dev.dpcTrigger (d : Dev) (p reason source : Nat) : Dev :=
  if (d.pport p).dpcTriggered then d
  else
    let d1 := d.setPport p (fun s => { s with dpcTriggered := true, dpcReason := reason, dpcSource := source % 65536, fenced := true, ltssm := 0x16, commanded := true })
    let d2 := (d1.linkFall p).emit (.linkCmd p 0)
    let d3 := (d.sharers p).foldl (fun e q =>
      let fn := fnDown q p
      let e1 := e.dpcCor fn 20
      if bitAt (e1.cfgWord fn 161) 19 then e1.bridgeMsi fn else e1) d2
    d3.fire (srcPort p 2)

/-- The DPC trigger enable that acts on port `p`: the Steward's on a shared port, the host's view otherwise: DPC Control
lies in bits 31:16 of dword 161 (0x284). -/
def Dev.dpcEnable (d : Dev) (p : Nat) : Nat :=
  if d.isShared p then (d.pport p).dpcTrigEn
  else match d.sharers p with
    | [q] => fld (d.cfgWord (fnDown q p) 161) 16 2
    | _ => 0

/-- DPC on an uncorrectable error of a downstream port, as the physical copy's mask and severity class it (R221): enable 1
triggers on fatal errors, 2 on non-fatal too, but not on advisory ones. -/
def Dev.dpcOn (d : Dev) (p bit : Nat) (adv : Bool := false) : Dev :=
  let a := (d.pport p).aer
  let fatal := bitAt a.uncSev bit
  if d.upstreamOf p = none ∧ bitAt a.uncMask bit = false ∧ ((d.dpcEnable p = 2 ∧ a.soft true adv bit = false) ∨ (d.dpcEnable p = 1 ∧ fatal = true)) then d.dpcTrigger p 0 0 else d

/-- A physical or data link layer error of port `p`: the physical copy and every view (R224). -/
def Dev.linkError (d : Dev) (p : Nat) (unc : Bool) (bit : Nat) : Dev :=
  let d1 := (d.viewsOf p).foldl (fun e fn => e.aerView fn unc bit) (d.aerPhys p unc bit)
  if unc then d1.dpcOn p bit else d1

/-- The Routing-ID entry of function `f` on shared port `p` (R314). -/
def Dev.shareRid (d : Dev) (p f : Nat) : Nat := d.fab.rid.rd (0xB800 + 256 * p + f)

/-- The requester of a TLP from shared port `p`, as its partition sees it (R236). -/
def Dev.viewReq (d : Dev) (p : Nat) (t : Tlp) : Tlp :=
  if d.isShared p then { t with reqId := d.shareRid p (t.reqId % 256) % 65536 } else t

/-- An error tied to a TLP of partition `q` at port `p`: the physical copy, and that partition's view alone (R224). `t` is the
TLP as the port has it, `tv` as the partition sees it. -/
def Dev.tlpErrorOf (d : Dev) (p q bit : Nat) (t tv : Tlp) (adv : Bool) : Dev :=
  ((d.aerPhys p true bit (d.hdrAt p t) adv).aerView (d.bridgeOf q p) true bit (d.hdrAt p tv) adv).dpcOn p bit adv

/-- The error of a TLP that port `p` received. -/
def Dev.tlpError (d : Dev) (p q bit : Nat) (t : Tlp) (adv : Bool := false) : Dev := d.tlpErrorOf p q bit t (d.viewReq p t) adv

end Sys2Proof.Machine
end

