-- ==== Sys2Proof/Machine/HubIn.lean ====
section
/-! DEFINITION. Completions that reach the engine hub: engine read slots and the runs they feed (R365, R410). -/

namespace Sys2Proof.Machine

/-- The status that a failed read of a kind ends with (Table 11.10). -/
def readFail (kind : Nat) : Nat := if kind = 1 then 0x21 else if kind = 2 then 0x03 else 0x04

/-- Data for a run's buffer. -/
def Run.take (r : Run) (off : Nat) (bs : List Nat) : Run :=
  { r with buf := (List.range bs.length).foldl (fun t i => t.wr (off + i) (bs.getD i 0 + 1)) r.buf }

/-- Byte `i` of a run's buffer; bytes are kept plus 1. -/
def Run.byte (r : Run) (i : Nat) : Nat := r.buf.rd i - 1

/-- A completion that matches no open slot (R365). -/
def Dev.tvLate (d : Dev) (k : Nat) : Dev :=
  ({ d with trav.lateCpl := satAdd 32 d.trav.lateCpl 1 }).log 0x362 1 { inst := k, detail := [k] }

/-- The hub takes completion data of read slot `k` of generation `gen`: bytes, status, poison (R365). It feeds the run that
issued the read; bytes for a run that is no longer there are dropped. -/
def Dev.engineData (d : Dev) (k gen : Nat) (payload : List Nat) (status : Nat) (poisoned : Bool) : Dev :=
  let s := d.trav.slot.rd k
  let data := payload.take s.bytes
  if !s.used || s.gen != gen then d.tvLate k
  else if k < 4096 ∧ (d.trav.fn.rd s.fn).gen ≠ s.fnGen then ({ d with trav.slot := d.trav.slot.wr k { gen := s.gen + 1 } }).tvLate k
  else
    let bad := if status ≠ 0 then readFail s.kind else if poisoned then (if s.kind = 0 then 0x06 else readFail s.kind) else 0
    let left := s.bytes - data.length
    let fin := left == 0 || status != 0
    if 4096 ≤ k then
      { d with trav.slot := d.trav.slot.wr k { s with got := s.got ++ data, bytes := if fin then 0 else left, kind := if bad = 0 then s.kind else 5 } }
    else
      let d1 := { d with trav.slot := d.trav.slot.wr k (if fin then { gen := s.gen + 1 } else { s with off := s.off + data.length, bytes := left }) }
      let put := fun (r : Run) => if r.serial = s.serial then (r.take s.off data).failed bad else r
      { d1 with trav.q := d1.trav.q.upd s.queue (fun q => { q with run := put q.run, ahead := q.ahead.map put }) }

end Sys2Proof.Machine
end

