-- ==== Sys2Proof/Machine/Fabric.lean ====
section
/-! DEFINITION. Fabric packets: translation, both Fabric Bridges, streams, delivery and failover (R290 to R314). -/

namespace Sys2Proof.Machine

/-! ### Translation (R302 to R306) -/

/-- The import window of partition `q`, or the export window of handle `h`, that holds an address. -/
def Dev.importWin (d : Dev) (q a : Nat) : Option Win :=
  (d.fab.win.find? (fun e => e.2.valid && !e.2.isExport && e.2.partition == q && e.2.holds a)).map Prod.snd
def Dev.exportWin (d : Dev) (h a : Nat) : Option Win :=
  (d.fab.win.find? (fun e => e.2.valid && e.2.isExport && e.2.handle == h && e.2.holds a)).map Prod.snd

/-- A translated address, the handle, and whether writes pass; none when the entry is invalid or of the wrong DIR. -/
structure Xlate where
  addr : Nat := 0
  handle : Nat := 0
  write : Bool := false
deriving DecidableEq, Repr, Inhabited

/-- A lookup in the Gazetteer counts (Table 14.6). -/
def Dev.countGaz (d : Dev) (w : Win) : Dev := if w.gazMode then d.countTable 0x53 0 1 else d

/-- Translate an address that lies in window `w` (R304). -/
def Dev.xlate (d : Dev) (w : Win) (a : Nat) : Option Xlate :=
  if w.gazMode then
    let e := d.fab.gaz.rd (fld w.gzFirst 0 22 + (a - w.base) / w.granule)
    if gazValid e && gazDir e == w.isExport then
      some { addr := gazPage e * 4096 / w.granule * w.granule + a % w.granule, handle := gazHandle e, write := w.write && gazWrite e }
    else none
  else some { addr := w.target + (a - w.base), handle := w.handle, write := w.write }

/-- XLATE_MISS with its record, once per handle per tick (R312). -/
def Dev.xlateMiss (d : Dev) (h part : Nat) : Dev :=
  ({ d with fab.xlateMiss := satAdd 32 d.fab.xlateMiss 1 }).once (16384 + h) (fun e =>
    e.log 0x3A2 2 { inst := h, part := part, detail := [h, part] })

/-! ### Removal by a fence (R404) -/

def Dev.fenceDiscard (d : Dev) : Dev := { d with cont.fenceDiscard := satAdd 32 d.cont.fenceDiscard 1 }

/-- The partition is isolated, by itself or by the device. -/
def Dev.partIsolated (d : Dev) (q : Nat) : Bool :=
  d.cont.domain.any (fun x => x.2.valid && ((x.2.kind == 4 && x.2.id == q) || x.2.kind == 0)) ||
    d.cont.extra.any (fun x => x == (4, q) || x.1 == 0)

/-- Port `p` is fenced. -/
def Dev.portFenced (d : Dev) (p : Nat) : Bool := (d.pport p).fenced || (d.link p).fenced || (d.link p).idleOnly

/-! ### Credit of discarded packets -/

/-- The credit of a fabric packet that ingress port `p` discards is owed back (R183). -/
def Dev.owe (d : Dev) (p vc units : Nat) : Dev :=
  if d.isS p then d.setLink p (fun l => { l with debts := l.debts ++ [(vc, units, d.now)] }) else d

/-! ### Completion at the source (R308, R412) -/

/-- The Transit entry that REQ_ID names is open and of its generation (R308, R412). -/
def Dev.trNamed (d : Dev) (f : FPkt) : Option TEntry :=
  let e := d.trEntry (f.reqId % 65536)
  if e.state = 1 ∧ e.gen = f.reqId / 65536 then some e else none

/-- Take a fabric completion for its entry, which is retired with the last one. Answers the entry and the completion as the
requester gets it; none when it is late (R308, R412). -/
def Dev.takeFabCpl (d : Dev) (f : FPkt) : Dev × Option (TEntry × Tlp) :=
  match d.trNamed f with
  | none => (d.lateCpl f.reqId, none)
  | some e =>
    let k := f.reqId % 65536
    let data := if f.kind = 5 then f.payload.take (min (f.byteCount) f.payload.length) else []
    let n := min data.length e.bytes
    let last := f.status != 0 || f.kind == 4 || decide (f.byteCount ≤ data.length) || decide (e.bytes ≤ n)
    let d1 := if last then d.trRetire k false else { d with sw.tr := d.sw.tr.wr k { e with bytes := e.bytes - n } }
    (d1, some (e, { kind := if f.kind = 5 then .cplData else .cpl, tc := e.tc, ep := f.poisoned, reqId := e.reqId, tag := e.tag, cplId := d1.upBridgeId e.part, status := f.status, byteCount := f.byteCount, lowerAddr := f.lowerAddr, data := data.take n }))

/-- FABRIC_COMPLETION: a fabric completion reaches its source. -/
def Dev.fabCompletion (d : Dev) (f : FPkt) : Dev :=
  match d.takeFabCpl f with
  | (d1, none) => d1
  | (d1, some (e, t)) => if e.engine then d1.engineData e.tag e.reqId (t.data.drop (f.lowerAddr % 4)) f.status f.poisoned else d1.sendTlp e.port t

/-- A fabric completion for this Haldion enters, at tile `tile`, the VOQ of its requester: a port, or the engine hub; the Bridge
of the port's tile converts it there (R26, R308, R309). `p0` names its ingress port, its VC and the age of its first cell. -/
def Dev.deliverCpl (d : Dev) (tile : Nat) (p0 : Pkt) (f : FPkt) : Dev :=
  match d.trNamed f with
  | none => (d.owe p0.ing p0.inVc f.units).lateCpl f.reqId
  | some e => d.pushVoq tile { p0 with dst := if e.engine then 73 else e.port, vc := d.vcOf f.tc, tc := f.tc, cls := 2, body := .fab f, part := e.part }

/-! ### Delivery at the destination (R309, R312) -/

/-- A refused fabric request: a non-posted one is answered with a status from tile `tile`, a posted one is discarded. -/
def Dev.refuseFab (d : Dev) (tile : Nat) (f : FPkt) (status : Nat) : Dev :=
  if f.order = 1 then
    (if f.src = d.run.switchId then d.deliverCpl tile {} (d.fabReply f status) else d.routeFab 1 tile 0xFF 0 (d.fabReply f status) false false)
  else d

/-- Access kind of a fabric request: 0 read, 1 write, 2 AtomicOp. -/
def FPkt.access (f : FPkt) : Nat := if f.kind = 1 then 1 else if f.kind = 2 then 0 else 2

/-- The fabric request checks nothing when it is a zero-length read (R379). -/
def FPkt.zeroLen (f : FPkt) : Bool := f.kind == 2 && f.firstBe == 0

/-- The export translation of a delivered request by the Fabric Bridge of tile `tile`, on its way out: the local address, or
none with its XLATE_MISS (R304, R306, R309, R312). -/
def Dev.exportXlate (d : Dev) (tile part : Nat) (f : FPkt) : Dev × Option Nat :=
  let d1 := d.countTile tile 0x0F 0 0 1
  match d1.exportWin f.handle f.addr with
  | none => (d1.xlateMiss f.handle part, none)
  | some w =>
    let d2 := d1.countGaz w
    match d2.xlate w f.addr with
    | none => (d2.xlateMiss f.handle part, none)
    | some x => if f.access ≠ 0 ∧ x.write = false then (d2.xlateMiss f.handle part, none) else (d2, some x.addr)

/-- A request that is not delivered: its credit returns; a non-posted one is answered. One from an H port of this Haldion that
has no Transit entry yet is answered there. -/
def Dev.refuseIn (d : Dev) (tile : Nat) (p0 : Pkt) (f : FPkt) (status : Nat) : Dev :=
  let d1 := if d.isH p0.ing then d.emit (.fc p0.ing f.order 1 ((f.payload.length + 15) / 16) []) else d.owe p0.ing p0.inVc f.units
  if p0.needTransit then d1.sendCpl p0.ing f.tc p0.reqId p0.tag (d1.upBridgeId p0.part) status f.answerBytes else d1.refuseFab tile f status

/-- Deliver a memory request: handle, fence, central check at the fabric address, VOQ of `tile` (R309). `p0` says what is known
of it at its ingress: its port, its VC, its age, and for a request of this Haldion the Transit entry that it needs or has. -/
def Dev.deliverMem (d : Dev) (tile : Nat) (p0 : Pkt) (f : FPkt) : Dev :=
  let e := d.fab.rid.rd f.handle
  let drop := fun (x : Dev) (st : Nat) => x.refuseIn tile p0 f st
  if 0xB800 ≤ f.handle ∨ ridKind e = 0 then drop (d.xlateMiss f.handle (ridPartition e)) 1
  else if d.partIsolated (ridPartition e) ∨ (ridKind e ≠ 3 ∧ d.portFenced (ridPort e) = true) then drop d.fenceDiscard 4
  else
    let (d1, ok, _) := if d.bnd.gateMode || f.zeroLen then (d, true, ({} : Verdict))
      else d.check 0xFF { kind := 1, sw := f.src, part := f.srcPart, host := false, addr := f.addr, tile := some tile } f.access
    if !ok then drop d1 4
    else
      let checked := !d1.bnd.gateMode && !f.zeroLen
      let dst := if ridKind e = 3 then 73 else ridPort e
      let d2 := if checked then { d1 with bnd := d1.bnd.enter } else d1
      d2.pushVoq tile { p0 with dst := dst, rid := e, vc := d2.vcOf f.tc, tc := f.tc, cls := f.order, part := f.srcPart, body := .fab f, epoch := if checked then some d1.bnd.epoch else none }

/-- Deliver a packet whose DEST_SWITCH is the own switch ID, at tile `tile`; `p0` as for a memory request (R309). -/
def Dev.deliverFab (d : Dev) (tile : Nat) (p0 : Pkt) (f : FPkt) : Dev :=
  let port := p0.ing
  let vc := p0.inVc
  if f.isReg then { (d.owe port vc f.units) with sw.regIn := d.sw.regIn ++ [f] }
  else if f.kind = 4 ∨ f.kind = 5 then d.deliverCpl tile p0 f
  else if f.pushable then d.owe port vc f.units
  else if f.isTally then
    let e := d.fab.rid.rd f.handle
    if f.handle < 0xB800 ∧ ridKind e = 3 then
      (if d.partIsolated (ridPartition e) then (d.owe port vc f.units).fenceDiscard
       else d.pushVoq tile { p0 with dst := 72, rid := e, vc := d.vcOf f.tc, tc := f.tc, cls := 0, part := f.srcPart, body := .fab f })
    else (d.owe port vc f.units).xlateMiss f.handle 0x1F
  else d.deliverMem tile p0 f

/-! ### Streams (R290 to R293) -/

def RxFlow.get (r : RxFlow) (c : Nat) : RxClass := if c = 0 then r.c0 else if c = 1 then r.c1 else r.c2
def RxFlow.put (r : RxFlow) (c : Nat) (x : RxClass) : RxFlow :=
  if c = 0 then { r with c0 := x } else if c = 1 then { r with c1 := x } else { r with c2 := x }

/-- Difference modulo 2^24. -/
def sub24 (a b : Nat) : Nat := (a + 2 ^ 24 - b % 2 ^ 24) % 2 ^ 24

/-- The class of a packet against its receive entry (R292). -/
inductive FlowClass where
  | dup | ahead | wait | order
deriving DecidableEq, Repr, Inhabited

def RxFlow.classify (r : RxFlow) (f : FPkt) : FlowClass :=
  let c := r.get f.order
  if !c.known then .order
  else
    let back := sub24 c.e f.seq
    if 1 ≤ back ∧ back ≤ 2 ^ 23 then .dup
    else if back ≠ 0 then .ahead
    else if f.order = 0 ∨ r.c0.known = false ∨ sub24 r.c0.e f.mark < 2 ^ 23 then .order
    else .wait

/-- The entry after a packet of a class has been delivered. -/
def RxFlow.step (r : RxFlow) (f : FPkt) : RxFlow := r.put f.order { e := (f.seq + 1) % 2 ^ 24, known := true }

def flowKey (sw tc : Nat) : Nat := 8 * sw + tc

/-- Held packets of a stream. -/
def Dev.heldOf (d : Dev) (sw tc : Nat) : List Held := d.sw.held.filter (fun h => h.pkt.src == sw && h.pkt.tc == tc)

/-- Put a packet on hold; its cells stay in the input buffer (R293). -/
def Dev.hold (d : Dev) (port vc : Nat) (f : FPkt) : Dev :=
  (({ d with sw.held := d.sw.held ++ [({ port := port, vc := vc, time := d.now, pkt := f } : Held)] }).setIng port (fun s => { s with used := s.used + f.units })).countTile (portTile port) 0x0E 0 0 1

/-- Take a packet off hold. -/
def Dev.unhold (d : Dev) (h : Held) : Dev :=
  ({ d with sw.held := d.sw.held.erase h }).setIng h.port (fun s => { s with used := s.used - h.pkt.units })

/-- Deliver every held packet of a stream that has become deliverable, and drop those that are duplicates now, at most
`n` (R292). A packet keeps its age (R264). -/
def Dev.release (d : Dev) (n sw tc : Nat) : Dev :=
  match n with
  | 0 => d
  | n + 1 =>
    let r := d.sw.rx.rd (flowKey sw tc)
    match (d.heldOf sw tc).find? (fun h => r.classify h.pkt == .order) with
    | some h =>
      let d1 := (d.unhold h).deliverFab (portTile h.port) { ing := h.port, inVc := h.vc, time := h.time } h.pkt
      ({ d1 with sw.rx := d1.sw.rx.wr (flowKey sw tc) (r.step h.pkt) }).release n sw tc
    | none =>
      match (d.heldOf sw tc).find? (fun h => r.classify h.pkt == .dup) with
      | some h => (((d.unhold h).owe h.port h.vc h.pkt.units)).release n sw tc
      | none => d

/-- Sequence a packet at its destination and deliver it (R292). -/
def Dev.sequenceIn (d : Dev) (port vc : Nat) (f : FPkt) : Dev :=
  let key := flowKey f.src f.tc
  let r0 := d.sw.rx.rd key
  let r : RxFlow := if r0.inc = f.inc then r0 else { inc := f.inc }
  let d0 := { d with sw.rx := d.sw.rx.wr key r }
  match r.classify f with
  | .dup => ({ d0 with fab.flowDup := satAdd 32 d0.fab.flowDup 1 }).owe port vc f.units
  | .ahead => d0.hold port vc f
  | .wait => d0.hold port vc f
  | .order =>
    let d1 := { d0 with sw.rx := d0.sw.rx.wr key (r.step f) }
    (d1.deliverFab (portTile port) { ing := port, inVc := vc } f).release (d1.heldOf f.src f.tc).length f.src f.tc

/-- FLOW_HOLD_EXPIRY of a class of a stream (R293). -/
def Dev.flowExpire (d : Dev) (sw tc c : Nat) : Dev :=
  let hs := (d.heldOf sw tc).filter (fun h => h.pkt.order == c)
  let key := flowKey sw tc
  let r := d.sw.rx.rd key
  let e := (r.get c).e
  match hs with
  | [] => d
  | h0 :: t =>
    let low := t.foldl (fun a h => if sub24 h.pkt.seq e < sub24 a.pkt.seq e then h else a) h0
    let skip := sub24 low.pkt.seq e
    let d1 := { d with sw.rx := d.sw.rx.wr key (r.put c { e := low.pkt.seq, known := true }) }
    let d2 := if skip = 0 then d1
      else ({ d1 with fab.flowGap := satAdd 32 d1.fab.flowGap 1 }).uncFault 9 low.port (portTile low.port) 2 low.port
        (pack [(0, sw), (12, tc), (16, c), (32, skip)]) 3
    d2.release (d2.heldOf sw tc).length sw tc

/-- FABRIC_PACKET_RECEIVE without the register bridge: an intact packet is routed on, or checked, sequenced and
delivered (R283, R284, R292, R309). M10 carries no customer traffic: what is no register access is discarded there (R85,
notes/assumptions/64.md). `wr` cells of a packet that passes through have arrived so far, 0 for all (R267). -/
def Dev.fabricReceive (d : Dev) (port : Nat) (f : FPkt) (wr : Nat := 0) : Dev :=
  let vc := d.fabVc f
  let d0 := (d.countTile (portTile port) 0x01 (portSlot port) vc (16 * f.chunks)).countTile (portTile port) 0x03 (portSlot port) vc 1
  if f.abort then d0.owe port vc f.units
  else if !f.known then
    (({ d0 with fab.badKind := satAdd 32 d0.fab.badKind 1 }).owe port vc f.units).log 0x3A6 2 { inst := port, detail := [f.kind, f.src] }
  else if d.portFenced port then (d0.fenceDiscard).owe port vc f.units
  else if d.mode.base = .m10 ∧ f.isReg = false then d0.owe port vc f.units
  else if f.dest ≠ d.run.switchId then
    let e := d0.routeFab 2 (portTile port) port vc f true false wr
    if e.sw.voq.any (fun v => v.2.any (fun x => x.id == d0.sw.nextPkt && x.ing == port)) then e else e.owe port vc f.units
  else if f.crc ≠ f.crcOf then
    (({ d0 with fab.pktCrcErr := satAdd 32 d0.fab.pktCrcErr 1 }).owe port vc f.units).uncFault 6 port (portTile port) 2 port f.src
  else if f.sequenced then d0.sequenceIn port vc f
  else d0.deliverFab (portTile port) { ing := port, inVc := vc } f

/-- FLOW_SEQ and POSTED_MARK at the egress S port, when the first chunk is placed (R290). -/
def Dev.sequenceOut (d : Dev) (p : Pkt) (f : FPkt) : Dev × FPkt :=
  if !f.sequenced || p.sequenced || f.src != d.run.switchId then (d, f)
  else
    let key := flowKey f.dest f.tc
    let t := d.sw.tx.rd key
    let s := if f.order = 0 then t.c0 else if f.order = 1 then t.c1 else t.c2
    let s1 := (s + 1) % 2 ^ 24
    let t1 := if f.order = 0 then { t with c0 := s1 } else if f.order = 1 then { t with c1 := s1 } else { t with c2 := s1 }
    ({ d with sw.tx := d.sw.tx.wr key t1 }, ({ f with seq := s, mark := t.c0, inc := d.fab.incarnation } : FPkt).seal)

/-- DATELINE on leaving port `p` (R300). -/
def Dev.datelineOut (d : Dev) (p : Nat) (f : FPkt) : FPkt :=
  if d.mode.base == .m7 && (p == 64 || p == 68) then
    let far := (d.link p).farSwitch
    let cross := if p = 68 then decide (far < d.run.switchId) else decide (d.run.switchId < far)
    if cross then { f with flags := setBit f.flags 5 } else f
  else { f with flags := clrBit f.flags 5 }

/-! ### The source Bridge (R307) -/

/-- The flow-control credit of a TLP that H port `port` has taken and discarded returns to its link (R252). -/
def Dev.tlpDone (d : Dev) (port : Nat) (t : Tlp) : Dev := d.emit (.fc port t.kind.cls 1 ((t.data.length + 15) / 16) [])

/-- Refuse a TLP of partition `q` as port `port` received it: completion with a status, which makes its error advisory, or
discarded; logged at the ingress bridge. -/
def Dev.refuseTlp (d : Dev) (port q status bit : Nat) (t : Tlp) : Dev :=
  let d1 := (d.tlpError port q bit t (t.kind.cls == 1)).tlpDone port t
  if t.kind.cls = 1 then d1.sendCpl port t.tc t.reqId t.tag (d.upBridgeId q) status t.answerBytes else d1

/-- The fabric packet of a TLP under a translation. -/
def Dev.fabOf (d : Dev) (q : Nat) (t : Tlp) (x : Xlate) : FPkt :=
  { kind := if t.kind = .memWrite then 1 else if t.kind = .memRead then 2 else 3
    flags := pack [(0, t.tc % 8), (3, t.kind.cls), (6, b2n t.ep)]
    hops := d.fab.hopLimit, dest := fld x.addr 45 12, src := d.run.switchId, handle := x.handle, srcPart := q,
    inc := d.fab.incarnation, addr := x.addr % 2 ^ 57
    reqF := pack [(0, t.firstBe), (4, t.lastBe), (8, t.lenDw % 1024), (18, t.attr % 8), (21, if t.kind = .atomic then t.atomic else 0)]
    ext := t.ext, payload := t.data }

/-- A checked request in the fabric range becomes a fabric packet (R304, R307, R408). A non-posted one opens its Transit entry
when it leaves its VOQ (R271). -/
def Dev.srcBridge (d : Dev) (port q : Nat) (w : Win) (t : Tlp) (epoch : Option Nat) (bridges : List Nat) : Dev :=
  let d0 := (d.countTile (portTile port) 0x0F 0 0 1).countGaz w
  match d0.xlate w t.addr with
  | none => (d0.xlateMiss w.handle q).refuseTlp port q 1 20 t
  | some x =>
    if t.kind ≠ .memRead ∧ x.write = false then (d0.xlateMiss x.handle q).refuseTlp port q 1 20 t
    else
      let f := (d0.fabOf q t x).seal
      let vc := d0.vcOf t.tc
      let p0 : Pkt := { ing := port, inVc := vc, needTransit := t.kind.cls == 1, reqId := t.reqId, tag := t.tag, part := q, bridges := bridges }
      if d0.cont.contained.getLsbD f.dest then
        (if t.kind.cls = 1 then (d0.tlpDone port t).sendCpl port t.tc t.reqId t.tag (d0.upBridgeId q) 4 t.answerBytes else d0.tlpDone port t)
      else if f.dest = d.run.switchId then d0.deliverMem (portTile port) p0 f
      else
        match d0.wayOf f.src f.dest f.tc with
        | .none => (d0.unrouted f false).refuseTlp port q 1 20 t
        | .port p | .wait p =>
          let d1 := if epoch.isSome then { d0 with bnd := d0.bnd.enter } else d0
          d1.pushVoq (portTile port) { p0 with dst := p, vc := vc, tc := t.tc, cls := t.kind.cls, body := .fab f, epoch := epoch }

/-! ### Completions at the destination Bridge (R310, R311) -/

/-- Send what the current piece has, in address order (R311). -/
def Dev.bridgeForward (d : Dev) (b : BReq) (data : List Nat) (ep : Bool) : Dev :=
  let f := b.pkt
  let addr := f.addr + (f.answerBytes - b.left)
  let c : FPkt := ({ kind := 5, flags := pack [(0, f.tc), (3, 2), (6, b2n ep)], hops := d.fab.hopLimit, dest := f.src, src := d.run.switchId, srcPart := 0x1F, inc := d.fab.incarnation, reqId := f.reqId, cplF := pack [(3, b.left % 8192), (16, addr % 128)], payload := data } : FPkt).seal
  if f.src = d.run.switchId then d.deliverCpl b.tile {} c else d.routeFab 1 b.tile 0xFF 0 c false false

/-- Advance a request: forward what its next pieces hold, at most `n` pieces. -/
def Dev.bridgeAdvance (d : Dev) (n : Nat) (b : BReq) : Dev × BReq :=
  match n with
  | 0 => (d, b)
  | n + 1 =>
    let data := b.got.rd b.next
    let d1 := if data.isEmpty then d else d.bridgeForward b data false
    let b1 := { b with got := b.got.wr b.next [], left := b.left - data.length }
    if b.next < b.pieces.length ∧ b.owed.rd b.next = 0 then d1.bridgeAdvance n { b1 with next := b1.next + 1 } else (d1, b1)

/-- A completion for return slot `s` of tile `t` (R310, R311). -/
def Dev.bridgeCpl (d : Dev) (t s : Nat) (c : Tlp) : Dev :=
  let slot := d.sw.bslot.rd (16384 * t + s)
  if slot.state = 2 then
    ({ d with fab.lateCpl := satAdd 32 d.fab.lateCpl 1 }).log 0x3A3 1 { inst := s, detail := [t, s] }
  else
    let free := fun (x : Dev) => { x with sw.bslot := x.sw.bslot.upd (16384 * t + s) BSlot.freed }
    match d.sw.breq.find? (fun b => b.tile == t && b.pieces.any (fun p => p.1 == s)) with
    | none => if decide (c.byteCount ≤ c.data.length) || c.status != 0 then free d else d
    | some b =>
      let others := d.sw.breq.erase b
      if c.status ≠ 0 then
        ({ (free d) with sw.breq := others }).refuseFab t b.pkt c.status
      else
        let i := b.pieces.findIdx (fun p => p.1 == s)
        let left := b.owed.rd i - c.data.length
        let b1 := { b with got := b.got.upd i (· ++ c.data), owed := b.owed.wr i left }
        let d1 := if left = 0 then free d else d
        let (d2, b2) := ({ d1 with sw.breq := others }).bridgeAdvance (b.pieces.length + 1) b1
        if b2.pieces.length ≤ b2.next then d2 else { d2 with sw.breq := d2.sw.breq ++ [b2] }

/-- BRIDGE_SLOT_TIMEOUT and BRIDGE_SLOT_REUSE (R310). -/
def Dev.slotTimeout (d : Dev) (t s : Nat) : Dev :=
  let k := 16384 * t + s
  if (d.sw.bslot.rd k).state = 1 then
    { d with sw.bslot := d.sw.bslot.upd k (fun x => { x with state := 2, time := d.now }),
             sw.breq := d.sw.breq.filter (fun b => !(b.tile == t && b.pieces.any (fun p => p.1 == s))) }
  else d
def Dev.slotReuse (d : Dev) (t s : Nat) : Dev :=
  let k := 16384 * t + s
  if (d.sw.bslot.rd k).state = 2 then { d with sw.bslot := d.sw.bslot.upd k BSlot.freed } else d

/-! ### Failover and moved heads (R289, R295, R296) -/

/-- In M7 a packet never leaves by the ring port on which it arrived (R301). -/
def Dev.turnsBack (d : Dev) (p : Pkt) (w : Nat) : Bool := d.mode.base == .m7 && w == p.ing && (w == 64 || w == 68)

/-- Move the whole fabric packets of a VOQ to their new ways, headers unchanged. -/
def Dev.moveVoq (d : Dev) (key : Nat) : Dev :=
  let q := d.sw.voq.rd key
  let (go, stay) := q.partition (fun p => p.sent == 0 && (match p.body with
    | .fab f => (match d.wayOf f.src f.dest f.tc with | .port w => w != p.dst && !d.turnsBack p w | _ => false)
    | .tlp _ => false))
  go.foldl (fun e p =>
    match p.body with
    | .fab f =>
      (match e.wayOf f.src f.dest f.tc with
       | .port w => { e with sw.voq := e.sw.voq.upd (voqKey (key / 1024) w p.vc) (· ++ [{ p with dst := w }]) }
       | _ => e)
    | .tlp _ => e) { d with sw.voq := d.sw.voq.wr key stay }

/-- Move the whole fabric packets that wait before an engine link for port `p` on VC `v`. -/
def Dev.moveEng (d : Dev) (p v : Nat) : Dev :=
  let key := voqKey (portTile p) p v
  let wayTo := fun (e : Dev) (x : Pkt) => (match x.body with
    | .fab f => (match e.wayOf f.src f.dest f.tc with | .port w => w | _ => x.dst)
    | .tlp _ => x.dst)
  let (go, stay) := (d.sw.eng.rd key).partition (fun x => x.sent == 0 && wayTo d x != x.dst)
  go.foldl (fun e x =>
    let w := wayTo e x
    { e with sw.eng := e.sw.eng.upd (voqKey (portTile w) w x.vc) (· ++ [{ x with dst := w }]) }) { d with sw.eng := d.sw.eng.wr key stay }

/-- Re-inject packets of a failed port: those of the replay buffer in sequence order, then those of its staging (R296). -/
def Dev.failover (d : Dev) (p : Nat) (replayed : List FPkt) : Dev :=
  let t := portTile p
  let d1 := replayed.foldl (fun e f => e.routeFab 2 t 0xFF 0 f false true) d
  let d2 := (List.range 8).foldl (fun e v =>
    let key := 8 * p + v
    let (whole, part) := (e.sw.staging.rd key).partition (fun s => s.got == s.pkt.cells)
    whole.foldl (fun e s =>
      match s.pkt.body with
      | .fab f => if f.abort then e.leaveEpoch s.pkt.epoch else e.routeFab 2 t 0xFF 0 f false s.pkt.sequenced
      | .tlp _ => e) { e with sw.staging := e.sw.staging.wr key part }) d1
  let d3 := (List.range d2.tiles).foldl (fun e i => (List.range 8).foldl (fun e v => e.moveVoq (voqKey i p v)) e) d2
  (List.range 8).foldl (fun e v => e.moveEng p v) d3

end Sys2Proof.Machine
end

