-- ==== Sys2Proof/Machine/Margin.lean ====
section
/-! DEFINITION. The lanes of a tile, and Lane Margining at the Receiver on the lanes of an H port (R159, R213, R214). -/

namespace Sys2Proof.Machine

def laneKey (t n : Nat) : Nat := 18 * t + n
def Dev.lane (d : Dev) (t n : Nat) : Lane := d.ln.lane.rd (laneKey t n)
def Dev.setLane (d : Dev) (t n : Nat) (f : Lane → Lane) : Dev := { d with ln.lane := d.ln.lane.upd (laneKey t n) f }

/-- FOM windows run again: the first one starts now (R140). -/
def Lane.thaw (l : Lane) : Lane := { l with frozen := false, sawBad := false }

/-! ### Lane Margining at the Receiver (R159)

The layout of command and status words, and the values that R159 does not state, are those of the PCI Express
specification (PRESUMED, notes/assumptions/70.md): bits 2:0 receiver, 5:3 type, 6 usage model, 15:8 payload. -/

/-- Receiver number of this end: 1 at a downstream port, 6 at an upstream port. -/
def Dev.marginReceiver (d : Dev) (p : Nat) : Nat := if (d.upstreamOf p).isSome then 6 else 1

/-- The payload that a report command (type 1) returns: capabilities, 127 voltage steps, 31 timing steps, the largest
timing offset of 31/64 UI in percent, one step a lane at a time on 16 lanes; other reports are free values. -/
def marginReport (payload free : Nat) : Nat :=
  if payload = 0x88 then pack [(0, 1), (1, 1), (2, 1), (3, free % 2), (4, 1)]
  else if payload = 0x89 then 127
  else if payload = 0x8A then 31
  else if payload = 0x8B then 48
  else if payload = 0x90 then 15
  else free % 256

/-- A step command's offset lies within the sampler's range: timing in bits 5:0, voltage in bits 6:0, whose further bits
give left or right, up or down. -/
def stepInRange (type payload : Nat) : Bool := type != 3 || decide (payload % 64 ≤ 31)

/-- What a margining command does to a lane of this end: a report, the settings (error count limit, normal settings, clear
error log), or a step, which starts a measurement and stops FOM windows; a step out of range is not taken. A register
measurement under way ends PREEMPTED. `free` stands for what no rule states. -/
def Lane.pcieCommand (l : Lane) (type payload free : Nat) : Lane :=
  let l0 := if l.marginBusy then { l.thaw with marginBusy := false, preempted := true } else l
  if type = 1 then { l0 with pcieMargin := marginReport payload free }
  else if type = 2 then
    (if 0xC0 ≤ payload then { l0 with pcieLimit := payload % 64, pcieMargin := payload }
     else if payload = 0x0F then { l0.thaw with pcieStep := false, pcieMargin := payload }
     else if payload = 0x55 then { l0 with pcieMargin := payload }
     else l0)
  else if stepInRange type payload then { l0 with pcieStep := true, frozen := true, pcieMargin := 0x80 }
  else { l0 with pcieMargin := 0xC0 }

/-- A margining command for lane `n` of H port `p`: types 1 to 4 that name this receiver, or 2 that names all. -/
def Dev.laneMargin (d : Dev) (t n p cmd : Nat) : Dev :=
  let type := fld cmd 3 3
  let rcv := fld cmd 0 3
  if 1 ≤ type ∧ type ≤ 4 ∧ bitAt cmd 6 = false ∧ (rcv = d.marginReceiver p ∨ (rcv = 0 ∧ type = 2)) then
    d.tickFree.setLane t n (fun l =>
      let l1 := l.pcieCommand type (fld cmd 8 8) (d.freeVal 8)
      { l1 with pcieMargin := pack [(0, rcv), (3, type), (8, l1.pcieMargin % 256)] })
  else d

/-- Lane `i` of H port `p`, by its place in the port. -/
def Dev.portLane (d : Dev) (p i : Nat) : Lane := d.lane (portTile p) (2 * portSlot p + i)

end Sys2Proof.Machine
end

