-- ==== Sys2Proof/Machine/PcieCfg.lean ====
section
/-! DEFINITION. The configuration spaces of the partitions' functions: identity, capabilities, reads and the stored
effect of writes (R208 to R216, R351 to R356, Tables 7.2 to 7.5 and 11.1 to 11.3). Register layouts inside a structure
are those of PCI Express Base Specification 6.0 (notes/assumptions/30.md). -/

namespace Sys2Proof.Machine

def FnKind.isBridge : FnKind → Bool
  | .up | .down | .engine => true
  | _ => false
def FnKind.isSvc : FnKind → Bool
  | .svcPf | .svcView | .svcVf => true
  | _ => false

/-! ### The function pool (R352, R353) -/

def Dev.vfQuota (d : Dev) (q : Nat) : Nat := (d.run.quota.rd q).vf
def Dev.msixQuota (d : Dev) (q : Nat) : Nat := (d.run.quota.rd q).msix
def Dev.totalVfs (d : Dev) (q : Nat) : Nat := min (d.vfQuota q) (d.msixQuota q)
def Dev.vectorsPerVf (d : Dev) (q : Nat) : Nat := if d.totalVfs q = 0 then 0 else min 2048 (d.msixQuota q / d.totalVfs q)
def Dev.vfBase (d : Dev) (q : Nat) : Nat := 1 + (List.range q).foldl (fun a r => a + d.vfQuota r) 0
def Dev.poolBase (d : Dev) (q : Nat) : Nat := d.run.pfMsix + (List.range q).foldl (fun a r => a + d.msixQuota r) 0

/-- Partition of global function `n`: the PF belongs to partition 0. -/
def Dev.fnPart (d : Dev) (n : Nat) : Nat :=
  if n = 0 then 0
  else ((List.range 24).find? (fun q => decide (d.vfBase q ≤ n) && decide (n < d.vfBase q + d.vfQuota q))).getD 0
/-- Function `n` exists: the PF, or a local VF within TotalVFs. -/
def Dev.fnExists (d : Dev) (n : Nat) : Bool :=
  n == 0 || (List.range 24).any (fun q => decide (d.vfBase q ≤ n) && decide (n < d.vfBase q + d.totalVfs q))
/-- Queues of function `n`, and its first pool entry. -/
def Dev.fnQueues (d : Dev) (n : Nat) : Nat := if n = 0 then d.run.pfMsix else d.vectorsPerVf (d.fnPart n)
def Dev.fnPool (d : Dev) (n : Nat) : Nat :=
  if n = 0 then 0 else d.poolBase (d.fnPart n) + (n - d.vfBase (d.fnPart n)) * d.vectorsPerVf (d.fnPart n)
/-- The function that owns a pool entry. -/
def Dev.poolFn (d : Dev) (k : Nat) : Nat :=
  if k < d.run.pfMsix then 0
  else match (List.range 24).find? (fun q => decide (d.poolBase q ≤ k) && decide (k < d.poolBase q + d.msixQuota q)) with
    | some q => if d.vectorsPerVf q = 0 then 0 else d.vfBase q + (k - d.poolBase q) / d.vectorsPerVf q
    | none => 0
/-- Function key of global function `n`. -/
def fnKeyOf (n : Nat) : Nat := if n = 0 then fnPf else fnVf n
/-- Partition of a function key. -/
def Dev.keyPart (d : Dev) (fn : Nat) : Nat :=
  match fnKind fn with
  | .svcPf => 0
  | .svcVf => d.fnPart (fn - 1024)
  | _ => fnPartition fn
/-- The parent whose SR-IOV capability holds partition `q`'s VFs. -/
def parentKey (q : Nat) : Nat := if q = 0 then fnPf else fnView q
/-- Partition `q` has an engine bridge (R208). -/
def Dev.hasEngine (d : Dev) (q : Nat) : Bool := (d.run.part.rd q).present && (q == 0 || d.vfQuota q != 0)

/-! ### Device and function numbers below the upstream bridge (R208) -/

/-- Bridges on the internal bus of partition `q`. -/
def Dev.bridgeCount (d : Dev) (q : Nat) : Nat := d.engineIndex q + b2n (d.hasEngine q)
/-- The bridge at an index of the internal bus. -/
def Dev.bridgeAt (d : Dev) (q i : Nat) : Option Nat :=
  if i = d.engineIndex q then (if d.hasEngine q then some (fnEngine q) else none)
  else ((List.range 72).find? (fun p => bitAt (d.run.part.rd q).down p && d.downIndex q p == i)).map (fnDown q)
/-- Device and function number of an index: device k mod 32, function k / 32. -/
def indexOfDevFn (devfn : Nat) : Nat := devfn / 8 % 32 + 32 * (devfn % 8)

/-! ### Identity and read-only values -/

def Dev.devId (d : Dev) (a b : Nat) : Nat := if d.is7144 then a else b

/-- Vendor and device ID (Tables 7.2 and 11.1). -/
def Dev.idWord (d : Dev) (fn : Nat) : Nat :=
  let dev := match fnKind fn with
    | .up => d.devId 0x7144 0x7080 | .down => d.devId 0x7145 0x7081 | .engine => d.devId 0x7145 0x7081
    | .mgmt => d.devId 0x714E 0x708E | .svcPf => d.devId 0x7146 0x7082 | .svcView => d.devId 0x7148 0x7084
    | .svcVf => d.devId 0x7147 0x7083
  0x1F3B + 65536 * dev

/-- Revision ID: SILICON_REV[15:8] x 16 + SILICON_REV[3:0] (R212). -/
def Dev.revId (d : Dev) : Nat := (fld d.part.siliconRev 8 8 * 16 + fld d.part.siliconRev 0 4) % 256

def classOf (fn : Nat) : Nat :=
  match fnKind fn with
  | .up | .down | .engine => 0x060400
  | .mgmt => 0x088000
  | _ => 0x120000

/-- Size of BAR0 of a service function with `n` queues: the power of two that holds (1 + n) pages (Table 11.3). -/
def bar0Size (n : Nat) : Nat := (List.range 12).foldl (fun s _ => if s < (1 + n) * 4096 then 2 * s else s) 4096

/-- Sizes of the BARs of a function, by pair: BAR0-1, BAR2-3, BAR4-5; 0 is not implemented. -/
def Dev.barSizes (d : Dev) (fn : Nat) : Nat × Nat × Nat :=
  match fnKind fn with
  | .mgmt => (2 ^ 29, 65536, 0)
  | .svcPf => (bar0Size d.run.pfMsix, 65536, 2 ^ 26)
  | .svcVf => (bar0Size (d.vectorsPerVf (d.fnPart (fn - 1024))), 65536, 2 ^ 26)
  | _ => (0, 0, 0)

/-- Type bits of BAR `i` of a size: 64-bit, prefetchable for the Tally aperture. -/
def barType (i size : Nat) : Nat := if size = 0 then 0 else if i = 2 then 0xC else 4

/-- Port of a bridge: its physical port, 0xFF for the engine bridge. -/
def Dev.bridgePort (d : Dev) (fn : Nat) : Nat :=
  match fnKind fn with
  | .down => (fn - 8192) % 72
  | .up | .mgmt => (d.run.part.rd (fnPartition fn)).upstream
  | _ => 0xFF

/-- The partition record at 0x2BC (R216). -/
def Dev.partRecord (d : Dev) (fn : Nat) : Nat :=
  let q := fnPartition fn
  pack [(0, q), (8, d.bridgePort fn), (16, b2n (fnKind fn == .down && d.isShared (d.bridgePort fn))), (17, b2n (q == 0)),
        (18, b2n (d.pcie.bmeDrain.rd fn != 0))]

/-- PCIE rate code as a link speed number. -/
def speedOf (rate : Nat) : Nat := rate + 1

/-- The port whose RATE_MAX and link a function reports: its physical port, P00 on the boot port; the engine bridge, which has
no link, reports RATE_MAX of its partition's upstream tile (notes/assumptions/71.md). -/
def Dev.linkPort (d : Dev) (fn : Nat) : Nat :=
  if d.mode.base = .m1 ∨ d.mode.base = .m2 then 0
  else match fnKind fn with
    | .down => (fn - 8192) % 72
    | _ => (d.run.part.rd (fnPartition fn)).upstream

/-- RATE_MAX and cut of that port; the boot port trains up to 64 GT/s on 16 lanes (R80). -/
def Dev.rateMaxOf (d : Dev) (fn : Nat) : Nat :=
  if d.mode.base = .m1 ∨ d.mode.base = .m2 then 5 else (d.run.tile.rd (portTile (d.linkPort fn))).rateMax
def Dev.cutOf (d : Dev) (fn : Nat) : Nat :=
  if d.mode.base = .m1 ∨ d.mode.base = .m2 ∨ fnKind fn = .engine then 16 else d.cutWidth (d.linkPort fn)

/-- The function is a bridge with a physical link. -/
def FnKind.hasLink : FnKind → Bool
  | .up | .down => true
  | _ => false

/-- Equalisation Complete and the success of phases 1 to 3, once the link runs at rate code `r` or above. -/
def PciePort.eqBits (s : PciePort) (r : Nat) : Nat := if s.dlActive = true ∧ r ≤ s.rate then 0xF else 0

/-- Structures of the physical layer and of a bridge's lanes (R213): status at the link's rate, and lane margining: Margining
Ready with the lane's last answer in the upper half of its dword. -/
def Dev.physRo (d : Dev) (p w : Nat) : Nat :=
  let pp := d.pport p
  if w = 111 then pp.eqBits 3 else if w = 123 then pp.eqBits 4 else if w = 135 then pp.eqBits 5
  else if w = 141 then 65536 * b2n (pp.dlActive && decide (3 ≤ pp.rate))
  else if 142 ≤ w ∧ w - 142 < d.cutWidth p then 65536 * (d.portLane p (w - 142)).pcieMargin
  else 0

/-- The extended capability header: ID, version, next offset. -/
def extCap (id next : Nat) : Nat := id + 65536 + next * 2 ^ 20

/-- Read-only bits of dword `w` of a function (Tables 7.3, 7.4 and 11.2). -/
def Dev.cfgRo (d : Dev) (fn w : Nat) : Nat :=
  let k := fnKind fn
  let br := k.isBridge
  let p := d.bridgePort fn
  let pp := d.pport (d.linkPort fn)
  let rate := d.rateMaxOf fn
  let boot := decide (d.mode.base = .m1 ∨ d.mode.base = .m2)
  let next := fun (up down mg : Nat) => if k = .up then up else if br then down else mg
  let idx := if k = .engine then d.engineIndex (fnPartition fn) else d.downIndex (fnPartition fn) p
  match w with
  | 0 => d.idWord fn
  | 1 => 0x100000
  | 2 => d.revId + 256 * classOf fn
  | 3 => if k = .up then 0x810000 else if br then 0x010000 + (if idx % 32 + 32 < d.bridgeCount (fnPartition fn) then 0x800000 else 0)
         else if k = .mgmt ∧ boot = false then 0x800000 else 0
  | 11 => if br then 0 else 0x1F3B + 65536 * (0x0100 + d.keyPart fn)
  | 13 => if k = .svcVf then 0x60 else 0x40
  | 16 => if k = .svcVf then 0 else 0x01 + 256 * (if br then 0x48 else 0x60) + 65536 * 3
  | 18 => if br then 0x05 + 256 * 0x60 + 65536 * 0x180 else 0
  | 24 => 0x10 + 256 * (if br ∨ k = .svcView then 0 else 0xA0) + 65536 * (2 + 16 * next 5 6 0 + (if k = .down then 256 else 0) + (if k.isSvc then 0 else 2 ^ 15))
  | 25 => (if br || k.isSvc then 2 else 0) + 32 + 2 ^ 15 + (if k.isSvc then 2 ^ 28 else 0)
  | 27 => if k.isSvc then 0
          else speedOf rate + 16 * d.cutOf fn + 2048 + 2 * 2 ^ 15 + (if k = .down ∨ k = .engine then 2 ^ 19 + 2 ^ 20 + 2 ^ 21 else 0) + p % 256 * 2 ^ 24
  | 28 => if k = .engine then (speedOf rate + 16 * 16 + 2 ^ 13) * 65536
          else if k.isSvc then 0
          else (speedOf pp.rate + 16 * pp.width + (if k = .down ∧ pp.dlActive = true then 2 ^ 13 else 0)) * 65536
  | 29 => if k = .down then 0x60 + 2 ^ 18 + p * 2 ^ 19 else 0
  | 30 => if k = .down ∧ d.pcie.viewPresent.rd fn = true then 2 ^ 22 else 0
  | 33 => (if br then (if k = .up then 0 else 32) + 64 + 2 ^ 21 else 0) + 2 ^ 16 + (if k = .mgmt then 0 else 2 ^ 17)
  | 35 => if k.isSvc then 0 else (2 ^ (rate + 1) - 1) * 2 + (if br then 2 ^ 23 + 2 ^ 24 else 0)
  | 36 => if k.hasLink then 65536 * pack [(1, pp.eqBits 2), (6, b2n (decide (1 ≤ pp.retimers))), (7, b2n (decide (2 ≤ pp.retimers))), (10, b2n pp.flit)] else 0
  | 40 => if k = .mgmt then 0x11 + 31 * 65536
          else if k = .svcPf ∨ k = .svcVf then 0x11 + (d.fnQueues (if k = .svcPf then 0 else fn - 1024) - 1) % 2048 * 65536 else 0
  | 41 => if br then 0 else 2
  | 42 => if br then 0 else 0x8000 + 2
  | 64 => if k = .svcVf then 0 else extCap 0x01 (if k.isSvc then 0x160 else if k = .down then 0x160 else next 0x170 0x170 0x2B0)
  | 88 => if k.isSvc then extCap 0x0E (if k = .svcVf then 0x270 else 0x168) else if k = .down then extCap 0x0D 0x170 else 0
  | 89 => if k = .down then 0x6F else 0
  | 90 => if k = .svcPf ∨ k = .svcView then extCap 0x10 0x270 else 0
  | 92 => if k.isSvc then 0 else if br then extCap 0x19 0x1A0 else 0
  | 93 => if k = .svcPf ∨ k = .svcView then 65537 * d.totalVfs (d.keyPart fn) else 0
  | 95 => if k = .svcPf ∨ k = .svcView then 65537 else 0
  | 96 => if k = .svcPf ∨ k = .svcView then 65536 * d.devId 0x7147 0x7083 else 0
  | 97 => if k = .svcPf ∨ k = .svcView then 1 else 0
  | 104 => if k.hasLink then extCap 0x25 0x1B0 else if k = .engine then extCap 0x25 0x2A0 else 0
  | 108 => if k.hasLink then extCap 0x26 0x1E0 else 0
  | 120 => if k.hasLink then extCap 0x2A 0x210 else 0
  | 132 => if k.hasLink then extCap 0x31 0x230 else 0
  | 140 => if k.hasLink then extCap 0x27 (if k = .down then 0x280 else 0x2A0) else 0
  | 156 => if k.isSvc then extCap 0x23 0 else 0
  | 157 => if k.isSvc then 0x1F3B + 65536 + 16 * 2 ^ 20 else 0
  | 158 => if k.isSvc then 2 else 0
  | 159 => if k = .svcView then 0x1FFF
           else if k.isSvc then pack [(0, if k = .svcPf then 0 else fn - 1024), (16, (d.trav.fn.rd (if k = .svcPf then 0 else fn - 1024)).gen)] else 0
  | 160 => if k = .down then extCap 0x1D 0x2A0 else 0
  | 161 => if k = .down then pack [(6, 1), (7, 1), (12, 1)] else 0
  | 168 => if br then extCap 0x1F 0x2B0 else 0
  | 169 => if br then 7 + 256 else 0
  | 172 => if k.isSvc then 0 else extCap 0x23 0
  | 173 => if k.isSvc then 0 else 0x1F3B + 65536 + 16 * 2 ^ 20
  | 174 => if k.isSvc then 0 else 1
  | 175 => if k.isSvc then 0 else d.partRecord fn
  | w => if k.hasLink then d.physRo p w else 0

/-- Bits of dword `w` that a configuration write stores. -/
def Dev.cfgRw (d : Dev) (fn w : Nat) : Nat :=
  let k := fnKind fn
  let br := k.isBridge
  let (s0, s1, s2) := d.barSizes fn
  let pf := k = .svcPf ∨ k = .svcView
  let bar := fun (s : Nat) (hi : Bool) => if s = 0 ∨ k = .svcVf then 0 else if hi then 0xFFFFFFFF else 2 ^ 32 - s % 2 ^ 32
  let vq := d.keyPart fn
  let vfb := fun (s : Nat) (hi : Bool) => if pf ∧ d.totalVfs vq ≠ 0 then (if hi then 0xFFFFFFFF else 2 ^ 32 - s) else 0
  match w with
  | 1 => if k = .svcVf then 4 else 0x0547
  | 3 => 0xFF
  | 4 => if br then 0 else bar s0 false
  | 5 => if br then 0 else bar s0 true
  | 6 => if br then 0xFFFFFF else bar s1 false
  | 7 => if br then 0xF0F0 else bar s1 true
  | 8 => if br then 0xFFF0FFF0 else bar s2 false
  | 9 => if br then 0xFFF0FFF0 else bar s2 true
  | 10 => if br then 0xFFFFFFFF else 0
  | 11 => if br then 0xFFFFFFFF else 0
  | 12 => if br then 0xFFFFFFFF else 0
  | 15 => if br then 0x5F00FF % 2 ^ 24 + 0xFF else 0xFF
  | 17 => if k = .svcVf then 0 else 3
  | 18 => if br then 0x10000 else 0
  | 19 => if br then 0xFFFFFFFC else 0
  | 20 => if br then 0xFFFFFFFF else 0
  | 21 => if br then 0xFFFF else 0
  | 22 => if br then 1 else 0
  | 36 => if k.hasLink then 0xF else 0
  | 26 => 0x7FFF
  | 28 => if br ∧ k ≠ .engine then 0x0FF3 else 3
  | 30 => if k = .down then 0x1FFF else 0
  | 34 => if br then 0xF5FF else 0x05FF
  | 40 => if br ∨ k = .svcView then 0 else 0xC0000000
  | 66 => aerUncBits k
  | 67 => aerUncBits k
  | 69 => aerCorBits k
  | 89 => if k = .down then 0x6F0000 else 0
  | 90 => if k = .down then 0xFFFFFFFF else 0
  | 92 => if pf then 0x19 else 0
  | 94 => if pf then 0xFFFF else 0
  | 98 => if pf then 1 else 0
  | 99 => vfb (bar0Size (d.vectorsPerVf vq)) false
  | 100 => vfb 0 true
  | 101 => vfb 65536 false
  | 102 => vfb 0 true
  | 103 => vfb (2 ^ 26) false
  | 104 => vfb 0 true
  | 161 => if k = .down then 0xBF0000 else 0
  | 170 => if br then 0xFF03 else 0
  | w => if k.hasLink ∧ 142 ≤ w ∧ w - 142 < d.cutWidth (d.bridgePort fn) then 0xFF7F else 0

/-- Reset values of stored fields that are not zero; what is stored is kept as the difference to them: Device Control
(512 B reads, relaxed ordering and no snoop enabled), Target Link Speed (the largest), System Page Size, and no command in
a lane's margining control. -/
def Dev.cfgInit (d : Dev) (fn w : Nat) : Nat :=
  if w = 26 then 0x2810 else if w = 36 then speedOf (d.rateMaxOf fn) else if w = 98 then 1 else if 142 ≤ w ∧ w < 158 ∧ (fnKind fn).hasLink = true then 0x9C38 else 0

/-- The stored bits of a dword. -/
def Dev.cfgStored (d : Dev) (fn w : Nat) : Nat := Nat.xor (d.pcie.cfg.rd (cfgKey fn w)) (Nat.land (d.cfgInit fn w) (d.cfgRw fn w))

/-- Type bits of the BAR dwords. -/
def Dev.cfgBarBits (d : Dev) (fn w : Nat) : Nat :=
  let k := fnKind fn
  let (s0, s1, s2) := d.barSizes fn
  if k.isBridge then (if w = 9 then 0x00010001 else 0)
  else if k = .svcVf then 0
  else if w = 4 then barType 0 s0 else if w = 6 then barType 1 s1 else if w = 8 then barType 2 s2
  else if (k = .svcPf ∨ k = .svcView) ∧ d.totalVfs (d.keyPart fn) ≠ 0 then
    (if w = 99 ∨ w = 101 then 4 else if w = 103 then 0xC else 0)
  else 0

/-- A configuration read of dword `w`. -/
def Dev.cfgRead (d : Dev) (fn w : Nat) : Nat :=
  let a := d.viewAer fn
  let k := fnKind fn
  let base := Nat.lor (Nat.lor (d.cfgRo fn w) (d.cfgStored fn w)) (d.cfgBarBits fn w)
  if k = .svcVf then base
  else match w with
    | 65 => a.uncSta
    | 66 => Nat.land a.uncMask (aerUncBits k)
    | 67 => Nat.land a.uncSev (aerUncBits k)
    | 68 => a.corSta
    | 69 => Nat.land a.corMask (aerCorBits k)
    | 70 => a.firstPtr + 512 + 1024
    | 162 => if k = .down then
        let pp := d.pport (d.bridgePort fn)
        pack [(0, b2n pp.dpcTriggered), (1, pp.dpcReason), (16, pp.dpcSource)] else base
    | _ => if 71 ≤ w ∧ w ≤ 84 then (match a.hdrs with
        | h :: _ => h.2.getD (w - 71) 0
        | [] => 0) else base

/-- Merge byte enables: bytes of `v` where the enable is 1. -/
def mergeBe (old v be : Nat) : Nat :=
  (List.range 4).foldl (fun a i => a + (if bitAt be i then fld v (8 * i) 8 else fld old (8 * i) 8) * 2 ^ (8 * i)) 0

/-- Store a configuration write in the writable bits of a dword; status bits clear by 1. -/
def Dev.cfgStore (d : Dev) (fn w v be : Nat) : Dev :=
  let a := d.viewAer fn
  let m := d.cfgRw fn w
  let new := mergeBe (d.cfgRead fn w) v be
  let ones := mergeBe 0 v be
  let aer := fun (b : Aer) => { d with pcie.aer := d.pcie.aer.wr fn b }
  if fnKind fn ≠ .svcVf ∧ w = 65 then aer { a with uncSta := rw1c a.uncSta ones, hdrs := a.hdrs.filter (fun h => !bitAt ones h.1) }
  else if fnKind fn ≠ .svcVf ∧ w = 68 then aer { a with corSta := rw1c a.corSta ones }
  else if fnKind fn ≠ .svcVf ∧ w = 66 then aer { a with uncMask := Nat.land new m }
  else if fnKind fn ≠ .svcVf ∧ w = 67 then aer { a with uncSev := Nat.land new m }
  else if fnKind fn ≠ .svcVf ∧ w = 69 then aer { a with corMask := Nat.land new m }
  else { d with pcie.cfg := d.pcie.cfg.wr (cfgKey fn w) (Nat.xor (Nat.land new m) (Nat.land (d.cfgInit fn w) m)) }

/-! ### Windows and buses of a bridge -/

/-- The base and limit of the memory and the prefetchable window of a bridge hold an address. -/
def Dev.inMemWin (d : Dev) (fn a : Nat) : Bool :=
  let m := d.cfgStored fn 8
  let p := d.cfgStored fn 9
  let mb := fld m 4 12 * 2 ^ 20
  let ml := fld m 20 12 * 2 ^ 20 + 2 ^ 20 - 1
  let pb := fld p 4 12 * 2 ^ 20 + d.cfgStored fn 10 * 2 ^ 32
  let pl := fld p 20 12 * 2 ^ 20 + 2 ^ 20 - 1 + d.cfgStored fn 11 * 2 ^ 32
  d.mse fn && ((decide (mb ≤ a) && decide (a ≤ ml)) || (decide (pb ≤ a) && decide (a ≤ pl)))

/-- The I/O window of a bridge. -/
def Dev.inIoWin (d : Dev) (fn a : Nat) : Bool :=
  let m := d.cfgStored fn 7
  let u := d.cfgStored fn 12
  bitAt (d.pcie.cfg.rd (cfgKey fn 1)) 0 && decide (fld m 4 4 * 4096 + fld u 0 16 * 65536 ≤ a) &&
    decide (a ≤ fld m 12 4 * 4096 + 4095 + fld u 16 16 * 65536)

/-- Secondary and subordinate bus. -/
def Dev.secBus (d : Dev) (fn : Nat) : Nat := fld (d.cfgStored fn 6) 8 8
def Dev.subBus (d : Dev) (fn : Nat) : Nat := fld (d.cfgStored fn 6) 16 8
def Dev.busBelow (d : Dev) (fn b : Nat) : Bool := decide (d.secBus fn ≤ b) && decide (b ≤ d.subBus fn) && d.secBus fn != 0

/-- The base of BAR pair `i` of a function; a VF's follows from its parent's VF BARs. -/
def Dev.barBase (d : Dev) (fn i : Nat) : Nat :=
  match fnKind fn with
  | .svcVf =>
    let q := d.fnPart (fn - 1024)
    let par := parentKey q
    let (s0, s1, s2) := d.barSizes fn
    let s := if i = 0 then s0 else if i = 1 then s1 else s2
    d.cfgStored par (99 + 2 * i) + d.cfgStored par (100 + 2 * i) * 2 ^ 32 + (fn - 1024 - d.vfBase q) * s
  | _ => d.cfgStored fn (4 + 2 * i) + d.cfgStored fn (5 + 2 * i) * 2 ^ 32

/-- Memory Space Enable of a function; a VF's is VF MSE of its parent. -/
def Dev.fnMse (d : Dev) (fn : Nat) : Bool :=
  match fnKind fn with
  | .svcVf => bitAt (d.cfgStored (parentKey (d.fnPart (fn - 1024))) 92) 3 && (d.trav.fn.rd (fn - 1024)).state == 1
  | .svcPf => d.mse fn && (d.trav.fn.rd 0).state == 1
  | _ => d.mse fn

/-- The BAR pair of a function that holds an address: its number and the offset. -/
def Dev.barHit (d : Dev) (fn a : Nat) : Option (Nat × Nat) :=
  let (s0, s1, s2) := d.barSizes fn
  let hit := fun (i s : Nat) => d.fnMse fn && s != 0 && decide (d.barBase fn i ≤ a) && decide (a < d.barBase fn i + s)
  if hit 0 s0 then some (0, a - d.barBase fn 0) else if hit 1 s1 then some (1, a - d.barBase fn 1)
  else if hit 2 s2 then some (2, a - d.barBase fn 2) else none

/-- The service functions of partition `q` that answer: the PF in partition 0, and its enabled VFs. -/
def Dev.svcFns (d : Dev) (q : Nat) : List Nat :=
  (d.trav.fn.filter (fun e => (e.1 != 0 || q == 0) && e.2.state == 1 && d.fnPart e.1 == q)).map Prod.fst

/-- The service function of partition `q` whose BAR holds an address. -/
def Dev.svcHit (d : Dev) (q a : Nat) : Option (Nat × Nat × Nat) :=
  (d.svcFns q).findSome? (fun n => (d.barHit (fnKeyOf n) a).map (fun h => (n, h.1, h.2)))

/-- Routing ID of service function `n` in its partition's view: function 0 or VF number on the engine bridge's secondary
bus, ARI numbered (R355). -/
def Dev.fnRid (d : Dev) (n : Nat) : Nat :=
  let q := d.fnPart n
  256 * d.secBus (fnEngine q) + (if n = 0 then 0 else n - d.vfBase q + 1)
/-- The service function of partition `q` with a Routing ID. -/
def Dev.ridFn (d : Dev) (q rid : Nat) : Option Nat :=
  let off := rid - 256 * d.secBus (fnEngine q)
  if d.hasEngine q = false ∨ rid < 256 * d.secBus (fnEngine q) ∨ d.secBus (fnEngine q) = 0 then none
  else if off = 0 then (if q = 0 then some 0 else none)
  else if off ≤ d.totalVfs q then some (d.vfBase q + off - 1) else none

end Sys2Proof.Machine
end

