-- ==== Sys2Proof/Machine/PcieRoute.lean ====
section
/-! DEFINITION. TLPs in a partition's virtual switch: their route, the checks at ingress, entry into a VOQ, completions,
and their way out of an H port (R203, R205, R209, R229, R234 to R236, R267, R304, R307 to R311). -/

namespace Sys2Proof.Machine

/-! ### Ports -/

/-- The boot port of M1 and M2, until run-mode entry takes it to electrical idle (R80, R84). -/
def Dev.isBoot (d : Dev) (p : Nat) : Bool :=
  p == 0 && (d.mode.base == .m1 || d.mode.base == .m2) && (d.mode.entry == .none || d.mode.entry == .accepted) && d.strap 0

/-- PERST_N of the anchor tile holds the management endpoint in reset in M10 (Table 3.1). -/
def Dev.endpointHeld (d : Dev) : Bool :=
  d.mode.base == .m10 && !bitAt d.mode.perst (portTile (d.run.part.rd 0).upstream)

/-- The port takes TLPs: an H port, or the boot port, whose link is DL_Active. -/
def Dev.takesTlps (d : Dev) (p : Nat) : Bool := (d.isH p || d.isBoot p) && (d.pport p).dlActive

/-- Max_Payload_Size in force on a function, at most what it supports: 512 B, and 128 B of a management endpoint (R205,
Table 7.4). -/
def Dev.mpsOf (d : Dev) (fn : Nat) : Nat := min (if fnKind fn = .mgmt then 128 else 512) (128 * 2 ^ fld (d.cfgStored fn 26) 5 3)

/-- A read of no bytes (R379). -/
def Tlp.zeroLen (t : Tlp) : Bool := t.kind == .memRead && t.lenDw == 1 && t.firstBe == 0

/-- Bytes that a request spans from its address. -/
def Tlp.span (t : Tlp) : Nat := if t.kind = .atomic ∨ t.kind = .memWrite then t.data.length else 4 * t.lenDw

/-- A memory request that crosses a page, or a payload above the port's limit, is Malformed (R205, R384). -/
def Tlp.malformed (t : Tlp) (mps : Nat) : Bool :=
  decide (mps < t.data.length) ||
    ((t.kind == .memRead || t.kind == .memWrite || t.kind == .atomic) && decide (4096 < t.addr % 4096 + t.span))

/-- Access kind of a check: 0 read, 1 write, 2 AtomicOp. -/
def TlpKind.access : TlpKind → Nat
  | .memRead => 0 | .atomic => 2 | _ => 1

/-- A TLP that enters the fabric: memory request or AtomicOp without lock or translation request (Table 9.5). A request whose
address is translated is a memory request in all but ACS (notes/assumptions/71.md). -/
def Tlp.fabricKind (t : Tlp) : Bool :=
  (t.kind == .memRead || t.kind == .memWrite || t.kind == .atomic) && !t.lock && !t.translReq

/-! ### The route of a request by address (R209, R304) -/

/-- Where a request goes. -/
inductive Dest where
  | fabric (w : Win)
  | mgmt (bar off : Nat)
  | svc (n bar off : Nat)
  | port (p : Nat)
  /-- Blocked by ACS. -/
  | acs
  | none
deriving DecidableEq, Repr, Inhabited

/-- ACS Control of a downstream bridge: 0 SV, 1 TB, 2 RR, 3 CR, 5 EC, 6 DT. -/
def Dev.acs (d : Dev) (fn i : Nat) : Bool := bitAt (d.cfgStored fn 89) (16 + i)

/-- The downstream port of partition `q`, other than `p`, whose window holds an address; an I/O window when `io`. -/
def Dev.downByAddr (d : Dev) (q p a : Nat) (io : Bool) : Option Nat :=
  (List.range d.ports).find? (fun x => x != p && bitAt (d.run.part.rd q).down x &&
    (if io then d.inIoWin (fnDown q x) a else d.inMemWin (fnDown q x) a))

/-- The upstream bridge's windows hold an address. -/
def Dev.inUp (d : Dev) (q a : Nat) (io : Bool) : Bool := if io then d.inIoWin (fnUp q) a else d.inMemWin (fnUp q) a

/-- The peer path from downstream port `p` to `x`: direct, redirected upstream, or blocked (ACS of `p`). Direct Translated P2P
lets a translated request go direct. -/
def Dev.peer (d : Dev) (q p x : Nat) (translated : Bool) : Dest :=
  let fn := fnDown q p
  let up := Dest.port (d.run.part.rd q).upstream
  if translated && d.acs fn 6 then .port x
  else if d.acs fn 5 then
    (if bitAt (d.cfgStored fn 90) (d.downIndex q x % 32) then (if d.acs fn 2 then up else .acs) else .port x)
  else if d.acs fn 2 then up else .port x

/-- Route a memory or I/O request of partition `q` that entered at its port `p`; `p` is 0xFF for the engine bridge. -/
def Dev.routeAddr (d : Dev) (q p a : Nat) (io fab : Bool) (translated : Bool := false) : Dest :=
  match (if fab then d.importWin q a else Option.none) with
  | some w => .fabric w
  | Option.none =>
    let up := (d.run.part.rd q).upstream
    let fromUp := p == up
    match (if fromUp && !io && d.mode.base != .m6 && !(q == 0 && d.endpointHeld) then d.barHit (fnMgmt q) a else Option.none) with
    | some (b, o) => .mgmt b o
    | Option.none =>
      if !d.inUp q a io then (if fromUp then .none else .port up)
      else match d.downByAddr q p a io with
        | some x => if fromUp || p == 0xFF then .port x else d.peer q p x translated
        | Option.none =>
          match (if d.hasEngine q && p != 0xFF && !io && d.inMemWin (fnEngine q) a then d.svcHit q a else Option.none) with
          | some (n, b, o) => .svc n b o
          | Option.none => .none

/-- The downstream port of partition `q` that leads to a bus. -/
def Dev.downByBus (d : Dev) (q b : Nat) : Option Nat :=
  (List.range d.ports).find? (fun x => bitAt (d.run.part.rd q).down x && d.busBelow (fnDown q x) b)

/-! ### Shared endpoint ports (R234 to R236) -/

/-- The partition of a requester function on port `p`: the port's own, or the assigned one on a shared port. -/
def Dev.tlpPartition (d : Dev) (p : Nat) (reqId : Nat) : Option Nat :=
  if d.isShared p then
    let a := (d.pport p).share.asg.rd (reqId % 256)
    if a.valid then some a.partition else none
  else if d.portPartition p = 0x1F then none else some (d.portPartition p)

/-- A memory request of partition `q` translated for shared port `p`; none outside the window (R234, R236). -/
def Dev.shareAddr (d : Dev) (p q : Nat) (t : Tlp) : Option Tlp :=
  let w := (d.pport p).share.win.rd q
  let a := t.addr + w.offsetHi * 2 ^ 32
  if 2 ^ 32 ≤ t.addr ∧ w.size ≠ 0 ∧ w.baseHi * 2 ^ 32 ≤ a ∧ a + t.span ≤ (w.baseHi + w.size) * 2 ^ 32 then
    some { t with addr := a }
  else none

/-! ### Ingress -/

/-- An unsupported request (R203): completed with UR or discarded, logged in the ingress bridge's view. -/
def Dev.urTlp (d : Dev) (p q : Nat) (t : Tlp) : Dev := d.refuseTlp p q 1 20 t

/-- The function whose Bus Master Enable stops a request from downstream port `p` of `q` to `dst` (R229). -/
def Dev.bmeStop (d : Dev) (q p : Nat) (dst : Dest) : Option Nat :=
  let up := (d.run.part.rd q).upstream
  if p = up then none
  else if d.bme (fnDown q p) = false then some (fnDown q p)
  else if dst = .port up ∧ d.bme (fnUp q) = false then some (fnUp q)
  else none

/-- The bridges through which a request is admitted, for BME_DRAIN (R230). -/
def Dev.admitted (d : Dev) (q p : Nat) (dst : Dest) : List Nat :=
  let up := (d.run.part.rd q).upstream
  if p = up then [] else fnDown q p :: (if dst = .port up then [fnUp q] else [])

/-- A fence covers H port `x`, and it is no DPC's (R404). -/
def Dev.walled (d : Dev) (x : Nat) : Bool := d.portFenced x && !(d.pport x).dpcTriggered

/-- The status that DPC Completion Control selects for requests to a triggered port (R227, R228). -/
def Dev.dpcStatus (d : Dev) (q x : Nat) : Nat :=
  if (if d.isShared x then (d.pport x).dpcCompUr else bitAt (d.cfgStored (fnDown q x) 161) 18) then 1 else 4

/-- An egress downstream port that stops a request: AtomicOp, poison or prefix blocking, a link that is down, or DPC.
Answers the status and the error bit, bit 0 for none (Table 7.5A, R227). -/
def Dev.egressStop (d : Dev) (q x : Nat) (t : Tlp) : Option (Nat × Nat) :=
  if d.upstreamOf x = some q then none
  else
    let fn := fnDown q x
    let pp := d.pport x
    if pp.dpcTriggered then some (d.dpcStatus q x, 0)
    else if !pp.dlActive then some (1, 20)
    else if t.kind = .atomic ∧ bitAt (d.cfgStored fn 34) 7 = true then some (1, 24)
    else if t.ep ∧ bitAt (d.cfgStored fn 161) 21 = true then some (1, 26)
    else if t.ext ≠ [] ∧ bitAt (d.cfgStored fn 34) 15 = true then some (1, 25)
    else none

/-- The status with which a fence answers: UR on a PORT domain whose COMPLETION_UR is 1 (R404). -/
def Dev.wallStatus (d : Dev) (x : Nat) : Nat :=
  if (d.pport x).dpcCompUr && (d.cont.domain.any (fun e => e.2.valid && e.2.kind == 3 && e.2.id == x) || d.cont.extra.contains (3, x)) then 1 else 4

/-- What port `p` took is not sent on: its credit returns, and a non-posted request of partition `q` is answered. -/
def Dev.turnAway (d : Dev) (p q status : Nat) (t : Tlp) : Dev :=
  let d1 := d.tlpDone p t
  if t.kind.cls = 1 then d1.sendCpl p t.tc t.reqId t.tag (d1.upBridgeId q) status t.answerBytes else d1

/-- Refuse a request at its egress port `x` of partition `q`, or at ingress port `p`, where it arrived as `t0`; the partition
sees it as `t`. -/
def Dev.egressRefuse (d : Dev) (p q x status bit : Nat) (t0 t : Tlp) : Dev :=
  let adv := t.kind.cls == 1
  let d1 := if bit = 0 then d else if bit = 20 then d.tlpError p q 20 t0 adv else d.tlpErrorOf x q bit t t adv
  d1.turnAway p q status t0

/-- A TLP enters the VOQ of its target (R249, R269): destination `dst`, 73 and 72 the engine hub. Port `p` received it as `t0`;
`t` goes on. None is queued toward a port that is fenced (R404). -/
def Dev.takeIn (d : Dev) (p q dst : Nat) (t0 t : Tlp) (transit : Bool := false) (epoch : Option Nat := none) (bridges : List Nat := []) : Dev :=
  let vc := d.vcOf t.tc
  if d.walled dst then d.fenceDiscard.turnAway p q (d.wallStatus dst) t0
  else if (d.pport dst).dpcTriggered then d.turnAway p q (d.dpcStatus q dst) t0
  else
    let d1 := if epoch.isSome then { d with bnd := d.bnd.enter } else d
    d1.pushVoq (portTile p) { ing := p, dst := dst, vc := vc, inVc := vc, tc := t.tc, cls := t.kind.cls, body := .tlp t, part := q, needTransit := transit && t.kind.cls == 1, reqId := t0.reqId, tag := t0.tag, epoch := epoch, bridges := bridges }

/-- The completion of a request of shared port `p` that opens no Transit entry finds its function by what is kept here (R236,
R237). -/
def Dev.upAsk (d : Dev) (p q x : Nat) (t0 t : Tlp) : Dev :=
  if d.isShared p && !d.isShared x && t.kind.cls == 1 then
    { d with pcie.upOpen := d.pcie.upOpen.filter (fun o => !(o.partition == q && o.reqId == t.reqId && o.tag == t.tag)) ++ [{ port := p, func := t0.reqId % 256, partition := q, reqId := t.reqId, tag := t.tag }] }
  else d

/-- A function of the Haldion refuses a request as unsupported: logged by the function, an AtomicOp for one (Table 7.1). -/
def Dev.fnUr (d : Dev) (p q fn : Nat) (t0 t : Tlp) : Dev :=
  (d.aerView fn true 20 (d.hdrAt p t) (t.kind.cls == 1)).turnAway p q 1 t0

/-- The Boundary check of a host port in central mode, at the address as received (Table 12.1, R379). Answers whether
the request goes on, and the epoch under which it is in flight. -/
def Dev.hostCheck (d : Dev) (p q : Nat) (t : Tlp) : Dev × Bool × Option Nat :=
  if d.bnd.gateMode || t.zeroLen || t.translReq then (d, true, none)
  else
    let (d1, ok, _) := d.check 0xFF { kind := 0, sw := d.run.switchId, part := q, space := q, addr := t.addr, tile := some (portTile p) } t.kind.access
    (d1, ok, if ok then some d1.bnd.epoch else none)

/-- ACS Source Validation and Translation Blocking at a downstream port that is not shared. -/
def Dev.acsBlocks (d : Dev) (q p : Nat) (t : Tlp) : Bool :=
  p != (d.run.part.rd q).upstream && !d.isShared p &&
    ((d.acs (fnDown q p) 0 && !d.busBelow (fnDown q p) (t.reqId / 256)) || (d.acs (fnDown q p) 1 && t.translReq))

/-- M10 carries no customer traffic: a request goes nowhere but to the management endpoint (R85, Tables 3.10 and 3.12). What
the spec does not say, that it is refused as one without a destination, is notes/assumptions/64.md. -/
def Dev.admits (d : Dev) (dst : Dest) : Dest :=
  if d.mode.base = .m10 then (match dst with | .mgmt b o => .mgmt b o | _ => .none) else dst

/-- A memory, AtomicOp or I/O request of partition `q` arrives on its port `p` (R203, R209, R229, R234, R236, R304). The
Haldion's own functions complete no AtomicOp (Table 7.1). -/
def Dev.takeRequest (d : Dev) (p q : Nat) (t0 : Tlp) : Dev :=
  let io := t0.kind == .ioRead || t0.kind == .ioWrite
  let t := d.viewReq p t0
  let adv := t.kind.cls == 1
  let dst := d.admits (d.routeAddr q p t.addr io t.fabricKind t.translated)
  match d.bmeStop q p dst with
  | some fn => (if fn = fnUp q then d.tlpErrorOf (d.run.part.rd q).upstream q 20 t t adv else d.tlpError p q 20 t0 adv).turnAway p q 1 t0
  | none =>
    if d.acsBlocks q p t || dst == .acs then (d.tlpError p q 21 t0 adv).turnAway p q 4 t0
    else match dst with
      | .none => d.urTlp p q t0
      | .acs => d.urTlp p q t0
      | .mgmt b o => if t.kind = .atomic then d.fnUr p q (fnMgmt q) t0 t else d.takeIn p q 73 t0 { t with target := fnMgmt q, reg := b, lowerAddr := o }
      | .fabric w =>
        let (d1, ok, ep) := d.hostCheck p q t
        if !ok then d1.refuseTlp p q 4 15 t0 else d1.srcBridge p q w t0 ep (d1.admitted q p dst)
      | .svc n b o =>
        let (d1, ok, ep) := d.hostCheck p q t
        if !ok then d1.refuseTlp p q 4 15 t0
        else if t.kind = .atomic then d1.fnUr p q (fnKeyOf n) t0 t
        else d1.takeIn p q (if b = 2 then 72 else 73) t0 { t with target := fnKeyOf n, reg := b, lowerAddr := o } false ep (d1.admitted q p dst)
      | .port x =>
        match d.egressStop q x t with
        | some (st, bit) => d.egressRefuse p q x st bit t0 t
        | none =>
          let (d1, ok, ep) := if io then (d, true, none) else d.hostCheck p q t
          if !ok then d1.refuseTlp p q 4 15 t0
          else if d.isShared x then
            (match d1.shareAddr x q t with
             | none => (d1.aerView (fnDown q x) true 20 (d1.hdrAt x t) adv).refuseTlp p q 1 20 t0
             | some t1 => d1.takeIn p q x t0 t1 true ep (d1.admitted q p dst))
          else (d1.upAsk p q x t0 t).takeIn p q x t0 t false ep (d1.admitted q p dst)

/-! ### BARs of shared functions (R235)

The Haldion recognises the upper dword of a 64-bit memory BAR by the type bits that the function reports, in its own BARs
(dwords 4 to 9) and in the VF BARs of its SR-IOV capability. What no read has shown yet is a free value, drawn once
(notes/assumptions/31.md). -/

/-- The key of a dword of function `f` on shared port `p`. -/
def barKey (p f w : Nat) : Nat := (p * 256 + f) * 1024 + w

/-- The dword at which a function has its SR-IOV capability, kept plus 1. -/
def Dev.sriovPlace (d : Dev) (p f : Nat) : Dev × Nat :=
  let k := p * 256 + f
  match d.pcie.sriovAt.rd k with
  | n + 1 => (d, n)
  | 0 => ({ d.tickFree with pcie.sriovAt := d.pcie.sriovAt.wr k (1 + d.freeVal 10) }, d.freeVal 10)

/-- Dword `w` can be the upper half of a BAR, the SR-IOV capability lying at dword `s`. -/
def barUpperPlace (w s : Nat) : Bool := (decide (5 ≤ w) && decide (w ≤ 9)) || (decide (64 ≤ s) && decide (s + 10 ≤ w) && decide (w ≤ s + 14))

/-- Dword `w` of a shared function is the upper half of a 64-bit memory BAR. -/
def Dev.isBarUpper (d : Dev) (p f w : Nat) : Dev × Bool :=
  let (d1, s) := if w < 64 then (d, 0) else d.sriovPlace p f
  let put := fun (e : Dev) (b : Bool) => ({ e with pcie.barUpper := e.pcie.barUpper.wr (barKey p f w) (if b then 2 else 1) }, b)
  if !barUpperPlace w s then (d1, false)
  else match d1.pcie.barUpper.rd (barKey p f w) with
    | 0 => if d1.pcie.barUpper.rd (barKey p f (w - 1)) = 2 then put d1 false else put d1.tickFree (d1.freeVal 1 == 1)
    | n => (d1, n == 2)

/-- A read of dword `w` of a shared function returned `v`: the type bits of a BAR, or the place of its SR-IOV capability, are
known from then on. -/
def Dev.learnBar (d : Dev) (p f w v : Nat) : Dev :=
  let s := d.pcie.sriovAt.rd (p * 256 + f) - 1
  if 64 ≤ w ∧ v % 65536 = 0x10 ∧ fld v 16 4 ≠ 0 then { d with pcie.sriovAt := d.pcie.sriovAt.wr (p * 256 + f) (1 + w) }
  else if barUpperPlace (w + 1) s = true ∧ d.pcie.barUpper.rd (barKey p f w) ≠ 2 then
    { d with pcie.barUpper := d.pcie.barUpper.wr (barKey p f (w + 1)) (if v % 8 = 4 then 2 else 1) }
  else d

/-! ### Completions (R236, R308, R310, R365) -/

/-- ID of the engine bridge of partition `q`, under which job reads are issued. -/
def Dev.engineId (d : Dev) (q : Nat) : Nat :=
  let k := d.engineIndex q
  256 * d.secBus (fnUp q) + k % 32 * 8 + k / 32

/-- Tag of engine read slot `k`: its number and two bits of its generation (R365). -/
def slotTag (k gen : Nat) : Nat := k % 4096 + 4096 * (gen % 4)

/-- A completion reaches an engine read slot by its tag (R365). -/
def Dev.engineTagged (d : Dev) (base tag : Nat) (t : Tlp) : Dev :=
  let k := base + tag % 4096
  let g := (d.trav.slot.rd k).gen
  d.engineData k (if g % 4 = tag / 4096 then g else g + 1) (t.data.drop (t.lowerAddr % 4)) t.status t.ep

/-- A completion that has come to the hub over the engine link: for the slot of a Transit entry, which its requester ID and tag
then name, or for the slot that its tag names. -/
def Dev.hubCpl (d : Dev) (q : Nat) (t : Tlp) : Dev :=
  if t.target = 1 then d.engineData t.tag t.reqId (t.data.drop (t.lowerAddr % 4)) t.status t.ep
  else d.engineTagged (if t.reqId = d.engineId q then 4096 else 0) t.tag t

/-- The open Transit entry that a completion from shared port `p` answers: its index and generation were its requester ID and
tag on the link (notes/assumptions/31.md). -/
def Dev.shareEntry (d : Dev) (p : Nat) (t : Tlp) : Option TEntry :=
  let e := d.trEntry t.reqId
  if e.state = 1 ∧ e.destSwitch = none ∧ e.destPort = p ∧ e.gen = t.tag then some e else none

/-- A completion from shared port `p`. The completer ID becomes that of the view; a BAR's upper dword is read less OFFSET_HI,
unless it was last written for sizing (R235, R236). -/
def Dev.shareCompletion (d : Dev) (p : Nat) (t : Tlp) : Dev :=
  match d.shareEntry p t with
  | none => (d.tlpDone p t).lateCpl (t.reqId + 65536 * t.tag)
  | some e =>
    let k := t.reqId
    let open_ := d.pcie.cfgOpen.find? (fun c => c.partition == e.part && c.port == p && c.reqId == e.reqId && c.tag == e.tag)
    let off := ((d.pport p).share.win.rd e.part).offsetHi
    let (d1, data) := match open_ with
      | some c =>
        let d0 := { d with pcie.cfgOpen := d.pcie.cfgOpen.erase c }
        if c.write || t.status != 0 then (d0, t.data)
        else
          let (d2, up) := d0.isBarUpper p c.func c.reg
          (d2.learnBar p c.func c.reg (ofLe t.data), if up && !d2.pcie.barSizing.rd (barKey p c.func c.reg) then toLe 4 ((ofLe t.data + 2 ^ 32 - off % 2 ^ 32) % 2 ^ 32) else t.data)
      | none => (d, t.data)
    let n := min data.length e.bytes
    let last := t.status != 0 || decide (t.byteCount ≤ data.length) || decide (e.bytes ≤ n) || open_.isSome
    let d3 := if last then d1.trRetire k false else { d1 with sw.tr := d1.sw.tr.wr k { e with bytes := e.bytes - n } }
    let cid := d3.shareRid p (t.cplId % 256) % 65536
    if e.engine then d3.takeIn p e.part 73 t { t with target := 1, reqId := e.reqId, tag := e.tag, data := data }
    else d3.takeIn p e.part e.port t { t with reqId := e.reqId, tag := e.tag, tc := e.tc, cplId := cid, data := data }

/-- An unexpected completion of partition `q` on port `p`. -/
def Dev.strayCpl (d : Dev) (p q : Nat) (t : Tlp) : Dev := (d.tlpError p q 16 t true).tlpDone p t

/-- A completion of partition `q` that follows bus numbers (R209), or the request of a function behind a shared port that it
answers, whose physical ID it gets back (R236, R237). -/
def Dev.routeCpl (d : Dev) (p q : Nat) (t : Tlp) : Dev :=
  let b := t.reqId / 256
  let up := (d.run.part.rd q).upstream
  match d.pcie.upOpen.find? (fun o => o.partition == q && o.reqId == t.reqId && o.tag == t.tag) with
  | some o =>
    let last := t.status != 0 || t.kind == .cpl || decide (t.byteCount ≤ t.data.length)
    let d1 := if last then { d with pcie.upOpen := d.pcie.upOpen.erase o } else d
    d1.takeIn p q o.port t { t with reqId := 256 * ((d.pport o.port).share.pbus.getD o.port) + o.func }
  | none =>
    if p = up then
      (match d.downByBus q b with
       | some x => d.takeIn p q x t t
       | none => d.strayCpl p q t)
    else match d.downByBus q b with
      | some x => if x = p then d.strayCpl p q t else if d.acs (fnDown q p) 3 && !bitAt t.attr 1 then d.takeIn p q up t t else d.takeIn p q x t t
      | none => d.takeIn p q up t t

/-- The partition that a completion on port `p` belongs to (R224). -/
def Dev.cplPartition (d : Dev) (p : Nat) (t : Tlp) : Option Nat :=
  if d.isShared p then (d.shareEntry p t).map TEntry.part else if d.portPartition p = 0x1F then none else some (d.portPartition p)

/-- A completion arrives on H port `p`: for a return slot of its tile's Bridge, for a request toward a shared port, for an
engine, over the engine link (R26), or for another port. -/
def Dev.takeCompletion (d : Dev) (p : Nat) (t : Tlp) : Dev :=
  let tile := portTile p
  let slot := d.sw.bslot.rd (16384 * tile + t.tag)
  if slot.state ≠ 0 ∧ slot.rid = t.reqId then (d.tlpDone p t).bridgeCpl tile t.tag t
  else if d.isShared p then d.shareCompletion p t
  else
    let q := d.portPartition p
    if (t.reqId = d.engineId q ∧ d.hasEngine q = true) ∨ (d.ridFn q t.reqId).isSome = true then d.takeIn p q 73 t { t with target := 0 }
    else d.routeCpl p q t

/-! ### The way out of an H port (R267, R310, R377) -/

/-- The gate check of a request that leaves by H port `x`, at the address as it leaves (Table 12.1). Requests of an engine
were checked at issue, and the Haldion's own packets are not checked. -/
def Dev.gateCheck (d : Dev) (x gate : Nat) (p : Pkt) : Dev × Bool :=
  if !d.bnd.gateMode || p.cls == 2 || p.ing == 0xFF then (d, true)
  else
    let tile := some (portTile x)
    let ask := fun (c : Chk) (a : Nat) => (let r := d.check gate c a; (r.1, r.2.1))
    match p.body with
    | .fab f =>
      let q := ridPartition p.rid
      if f.zeroLen || f.isTally || decide (0x10 ≤ f.kind) || f.kind == 4 || f.kind == 5 then (d, true)
      else ask { kind := 1, sw := f.src, part := f.srcPart, space := q, addr := f.addr, tile := tile } f.access
    | .tlp t =>
      if !(t.kind == .memRead || t.kind == .memWrite || t.kind == .atomic) || t.zeroLen || t.translReq then (d, true)
      else
        let space := if d.isShared x || gate == 72 then p.part else d.portPartition x
        ask { kind := 0, sw := d.run.switchId, part := p.part, space := space, addr := t.addr, tile := tile } t.kind.access

/-- TLPs of a fabric request delivered with Routing-ID entry `e`, as the destination Bridge issues them at local address `at_`
(R310, R311). -/
def Dev.bridgeTlps (d : Dev) (tile e at_ : Nat) (f : FPkt) : List Tlp :=
  let base : Tlp := { tc := f.tc, attr := fld f.reqF 18 3, ep := f.poisoned, reqId := ridProxy e, firstBe := f.firstBe, lastBe := f.lastBe, ext := f.ext, addr := at_, lenDw := f.lenDw }
  if f.kind = 1 then [{ base with kind := .memWrite, data := f.payload.take (4 * f.lenDw) }]
  else match d.sw.breq.find? (fun b => b.tile == tile && b.pkt == f) with
    | none => []
    | some b =>
      if f.kind = 3 then [{ base with kind := .atomic, tag := (b.pieces.getD 0 (0, 0, 0)).1, atomic := f.atomicOp, data := f.payload }]
      else (List.range b.pieces.length).map (fun i =>
        let (s, n, a) := b.pieces.getD i (0, 0, 0)
        let dw := (a % 4 + n + 3) / 4
        { base with kind := .memRead, tag := s, addr := at_ + (a - f.addr), lenDw := dw, firstBe := if i = 0 then f.firstBe else 0xF, lastBe := if i + 1 = b.pieces.length then f.lastBe else if dw ≤ 1 then 0 else 0xF })

/-- A fabric request that the destination Bridge of tile `tile` does not issue: its return slots are free again, and it is
answered with a status. -/
def Dev.bridgeRefuse (d : Dev) (tile : Nat) (f : FPkt) (status : Nat) : Dev :=
  let mine := fun (b : BReq) => b.tile == tile && b.pkt == f
  let slots := (d.sw.breq.filter mine).flatMap (fun b => b.pieces.map Prod.fst)
  ({ d with sw.breq := d.sw.breq.filter (fun b => !mine b), sw.bslot := slots.foldl (fun t s => t.upd (16384 * tile + s) BSlot.freed) d.sw.bslot }).refuseFab tile f status

/-- A packet denied at its target gate (R385). -/
def Dev.gateDeny (d : Dev) (x : Nat) (p : Pkt) : Dev :=
  match p.body with
  | .fab f => d.bridgeRefuse (portTile x) f 4
  | .tlp t =>
    match p.transit with
    | some k =>
      let e := d.trEntry k
      (if e.engine then (d.trRetire k false).failSlot e.tag 0x07
       else ((d.trRetire k false).tlpErrorOf e.port e.part 15 { t with reqId := e.reqId } t true).sendCpl e.port e.tc e.reqId e.tag (d.upBridgeId e.part) 4 e.bytes)
    | none =>
      if p.ing = 0xFF then d
      else
        let d1 := d.tlpErrorOf p.ing p.part 15 { t with reqId := p.reqId } t (p.cls == 1)
        if p.cls = 1 then d1.sendCpl p.ing p.tc p.reqId p.tag (d1.upBridgeId p.part) 4 t.answerBytes else d1

/-- A TLP as it leaves toward a shared port: its identity is its Transit entry (notes/assumptions/31.md). -/
def Dev.outTlp (d : Dev) (x : Nat) (p : Pkt) (t : Tlp) : Tlp :=
  match (if d.isShared x then p.transit else none) with
  | some k => { t with reqId := k, tag := (d.trEntry k).gen }
  | none => t

/-- A fabric packet leaves by H port `x`: a completion for its Transit entry, or a request, which the Bridge of the port's tile
translates; the gate sees the local address. Answers the TLPs (R304, R308 to R311). -/
def Dev.outFab (d : Dev) (x : Nat) (p : Pkt) (f : FPkt) : Dev × List Tlp :=
  if f.kind = 4 ∨ f.kind = 5 then (let (d1, r) := d.takeFabCpl f; (d1, (r.map Prod.snd).toList))
  else match d.exportXlate (portTile x) (ridPartition p.rid) f with
    | (d1, none) => (d1.bridgeRefuse (portTile x) f 1, [])
    | (d1, some a) =>
      let (d2, ok) := d1.gateCheck x x { p with body := .fab { f with addr := a } }
      if ok then (d2, d2.bridgeTlps (portTile x) p.rid a f) else (d2.gateDeny x p, [])

/-- The TLPs with which a staged packet leaves by H port `x`. -/
def Dev.outPkt (d : Dev) (x : Nat) (p : Pkt) : Dev × List Tlp :=
  match p.body with
  | .tlp t => (let (d1, ok) := d.gateCheck x x p; if ok then (d1, [d1.outTlp x p t]) else (d1.gateDeny x p, []))
  | .fab f => d.outFab x p f

/-- Flow-control credits that a packet takes of the partner: its class, headers, and data in units of 16 B. -/
def Dev.fcNeed (d : Dev) (p : Pkt) : Nat × Nat × Nat :=
  match p.body with
  | .tlp t => (p.cls, 1, (t.data.length + 15) / 16)
  | .fab f =>
    let n := match d.sw.breq.find? (fun b => b.tile == portTile p.dst && b.pkt == f) with
      | some b => b.pieces.length
      | none => 1
    (p.cls, if f.kind = 2 then n else 1, if f.kind = 2 then 0 else (f.payload.length + 15) / 16)

/-- The partner's free credits, six amounts as in Table 8.1, cover a packet (R253). -/
def Dev.fcCovers (d : Dev) (credits : List Nat) (p : Pkt) : Bool :=
  let (c, h, n) := d.fcNeed p
  decide (h ≤ credits.getD (2 * c) 0) && decide (n ≤ credits.getD (2 * c + 1) 0)

/-- TLP_TRANSMIT: H port `x`, whose partner has `credits` free, sends the next TLP all of whose cells are in staging, VCs by
deficit round-robin in cells (R253, R255, R267). -/
def Dev.tlpTransmit (d : Dev) (x : Nat) (credits : List Nat) : Dev :=
  let ready := fun (v : Nat) =>
    let q := d.sw.staging.rd (8 * x + v)
    (headsOf (q.map Staged.pkt)).find? (fun h => q.any (fun s => s.pkt.id == h.id && s.got == h.cells) && d.fcCovers credits h)
  let cost := fun (v : Nat) => ((ready v).map Pkt.cells).getD 1
  if !(d.isH x && (d.pport x).dlActive) || d.portFenced x then d
  else match (d.sw.drr.rd (64 + x)).pickOf d.weight cost (fun v => !(d.sw.staging.rd (8 * x + v)).isEmpty) (fun v => (ready v).isSome) with
    | (r, none) => { d with sw.drr := d.sw.drr.wr (64 + x) r }
    | (r, some v) =>
      match ready v with
      | none => d
      | some p =>
        let d0 := { d with sw.drr := d.sw.drr.wr (64 + x) r, sw.staging := d.sw.staging.upd (8 * x + v) (fun q => q.filter (fun s => s.pkt.id != p.id)) }
        let (d1, ts) := d0.outPkt x p
        let d2 := d1.leaveEpoch p.epoch
        if ts.isEmpty then d2
        else
          let bytes := ts.foldl (fun a t => a + t.size) 0
          let d3 := (d2.countTile (portTile x) 0x02 (portSlot x) v bytes).countTile (portTile x) 0x04 (portSlot x) v 1
          ts.foldl (fun e t => e.emit (.tlp x t)) d3

/-! ### Packets that are taken out (R264 to R266, R404) -/

/-- A non-posted request that was taken out of the switch core is answered with a status; other packets are gone. An engine's
read that has no Transit entry fails at its slot. -/
def Dev.answerRemoved (d : Dev) (x : Pkt) (status : Nat) : Dev :=
  if x.cls ≠ 1 then d
  else match x.transit with
    | some k =>
      let e := d.trEntry k
      if e.state ≠ 1 then d
      else if status = 4 ∨ e.engine = true ∨ d.requesterIsolated e = true then d.trAbort k
      else (d.trRetire k true).sendCpl e.port e.tc e.reqId e.tag (d.upBridgeId e.part) status e.bytes
    | none => match x.body with
      | .fab f => if f.src = d.run.switchId then (if x.ing = 0xFF then d else d.sendCpl x.ing x.tc x.reqId x.tag (d.upBridgeId x.part) status f.answerBytes)
          else d.refuseFab (if x.ing = 0xFF then 0 else portTile x.ing) f status
      | .tlp t =>
        if x.ing ≠ 0xFF then d.sendCpl x.ing x.tc x.reqId x.tag (d.upBridgeId x.part) status t.answerBytes
        else if t.kind = .memRead ∨ t.kind = .atomic then d.engineTagged (if t.reqId = d.engineId x.part then 4096 else 0) t.tag { status := status }
        else d

/-! ### Ageing (R264 to R266) -/

/-- Record an aged lossless packet (R265, R266): its reason, and its ages in DCLK cycles. -/
def Dev.agedFault (d : Dev) (p : Pkt) (reason : Nat) : Dev :=
  let age := (d.now - p.time) / usUnits
  let (kind, id) := d.ingressDomain p.ing
  d.uncFault 7 p.ing (if p.ing = 0xFF then 9 else portTile p.ing) kind id (pack [(0, p.dst), (8, p.vc), (12, p.tc), (16, reason), (32, age)]) 3

/-- The action of Table 8.2 on an aged packet that has been taken out. -/
def Dev.agedAction (d : Dev) (p : Pkt) (reason : Nat) : Dev :=
  let d0 := if p.ing = 0xFF then d else d.countTile (portTile p.ing) 0x0C (portSlot p.ing) 0 1
  if p.pushable then
    let n := satAdd 16 (d0.ing p.ing).agedLossy 1
    let d1 := d0.setIng p.ing (fun s => { s with agedLossy := n })
    if (d1.ing p.ing).agedNoted then d1
    else (d1.setIng p.ing (fun s => { s with agedNoted := true })).log (srcPort p.ing 6) 1 { inst := p.ing, detail := [n] }
  else
    let d1 := d0.setIng p.ing (fun s => { s with agedLossless := satAdd 16 s.agedLossless 1 })
    let d2 := if p.ing = 0xFF then d1.agedFault p reason else (d1.agedFault p reason).fire (srcPort p.ing 7)
    d2.answerRemoved p 4

/-- An aged packet leaves whole; one that an S egress port has begun ends there instead (R265, R268). -/
def Dev.agePacket (d : Dev) (p : Pkt) (reason : Nat) : Dev :=
  if d.begunOn p then d.endPacket p.id else (d.endPacket p.id).agedAction p reason

/-- A packet's age has passed the limit of its TC less 2 us. -/
def Dev.isAged (d : Dev) (p : Pkt) : Bool := decide ((d.ageingUs p.tc - 2) * usUnits < d.now - p.time)

/-- The egress link of a port is not UP: an S port is UP in state 3, PAUSED is not. -/
def Dev.linkNotUp (d : Dev) (p : Nat) : Bool := if d.isS p then (d.link p).state != 3 else decide (p < 72) && !(d.pport p).dlActive

/-- The stuck reason of a packet of a VOQ, and of one in staging (Table 8.3). -/
def Dev.voqReason (d : Dev) (q : List Pkt) (p : Pkt) : Nat :=
  if !(headsOf q).any (fun h => h.id == p.id) then 4
  else if 72 ≤ p.dst then (if d.stopReason p = some 3 then 3 else 5)
  else if d.stopReason p = some 3 then 3
  else if d.linkNotUp p.dst then 2 else 1
def Dev.stageReason (d : Dev) (q : List Staged) (p : Pkt) : Nat :=
  if !(headsOf (q.map Staged.pkt)).any (fun h => h.id == p.id) then 4 else if d.linkNotUp p.dst then 2 else 0

/-- At each examination the heads of VOQs toward S ports whose ways are not usable are looked up again (R289). -/
def Dev.lookAgain (d : Dev) (t : Nat) : Dev :=
  let stuck := fun (k : Nat) => k / 1024 == t && d.isS (k % 1024 / 8) && !d.portUsable (k % 1024 / 8)
  let d1 := (d.sw.voq.filter (fun e => stuck e.1)).foldl (fun e kq => e.moveVoq kq.1) d
  (d.sw.eng.filter (fun e => stuck e.1)).foldl (fun e kq => e.moveEng (kq.1 % 1024 / 8) (kq.1 % 8)) d1

/-- Packets held for their turn that have aged leave; their places count as gaps (R293). -/
def Dev.ageHeld (d : Dev) (t : Nat) : Dev :=
  let asPkt := fun (h : Held) =>
    let e := d.fab.rid.rd h.pkt.handle
    ({ ing := h.port, dst := if h.pkt.isTally then 72 else if ridKind e = 3 then 73 else ridPort e, vc := d.vcOf h.pkt.tc, inVc := h.vc, tc := h.pkt.tc, cls := h.pkt.order, time := h.time, cells := h.pkt.units, body := .fab h.pkt, part := h.pkt.srcPart } : Pkt)
  (d.sw.held.filter (fun h => portTile h.port == t && d.isAged (asPkt h))).foldl (fun e h =>
    ((e.unhold h).owe h.port h.vc h.pkt.units).agedAction (asPkt h) 4) d

/-- The packets of a queue that have aged, with what kept each. -/
def Dev.agedOf (d : Dev) (q : List Pkt) (why : Pkt → Nat) : List (Pkt × Nat) := (q.filter d.isAged).map (fun p => (p, why p))

/-- AGEING_SCAN of tile `t`: aged packets of its VOQs and staging areas leave. -/
def Dev.ageingScan (d : Dev) (t : Nat) : Dev :=
  let d0 := (d.lookAgain t).ageHeld t
  let inVoq := (d0.sw.voq.filter (fun e => e.1 / 1024 == t)).flatMap (fun e => d0.agedOf (e.2.filter (fun p => p.ing != 0xFF)) (d0.voqReason e.2))
  let d1 := inVoq.foldl (fun e x => e.agePacket x.1 x.2) d0
  let inStaging := (d1.sw.staging.filter (fun e => e.1 / 64 == t)).flatMap (fun e => d1.agedOf (e.2.map Staged.pkt) (d1.stageReason e.2))
  inStaging.foldl (fun e x => e.agePacket x.1 x.2) d1

end Sys2Proof.Machine
end

