-- ==== Sys2Proof/Machine/Fence.lean ====
section
/-! DEFINITION. Containment domains and the fence of a port: what is queued toward it is answered and discarded, and the Transit entries toward it
are retired (R227, R404, R410). -/

namespace Sys2Proof.Machine

/-! ### Domains (R403, R415) -/

/-- H port `p` belongs to the domain of partition `q`: its upstream port or a non-shared downstream port. -/
def Dev.inPartition (d : Dev) (q p : Nat) : Bool :=
  d.upstreamOf p == some q || (d.isH p && d.sharers p == [q])

/-- A domain covers port `p` (Table 13.3). -/
def Dev.covers (d : Dev) (kind id p : Nat) : Bool :=
  if kind = 0 then true else if kind = 1 then portTile p == id else if kind = 2 then d.isS p && p == id
  else if kind = 3 then d.isH p && p == id else d.inPartition id p

/-- Domain (k, i) encloses domain (k2, i2), or is the same. -/
def Dev.encloses (d : Dev) (k i k2 i2 : Nat) : Bool :=
  k == 0 || (k == k2 && i == i2) || (k == 1 && (k2 == 2 || k2 == 3) && portTile i2 == i) || (k == 4 && k2 == 3 && d.inPartition i i2)

/-- The isolated domains as kind and ID. -/
def Dev.isolated (d : Dev) : List (Nat × Nat) :=
  (d.cont.domain.filter (fun x => x.2.valid)).map (fun x => (x.2.kind, x.2.id)) ++ d.cont.extra

/-- Some isolated domain covers port `p`. -/
def Dev.coveredPort (d : Dev) (p : Nat) : Bool := d.isolated.any (fun x => d.covers x.1 x.2 p)

/-! ### The fence (R404) -/

/-- Packets toward port `p` in VOQs, before engine links, in flight and in staging, each once. -/
def Dev.queuedFor (d : Dev) (p : Nat) : List Pkt :=
  let all := d.sw.voq.flatMap (fun v => v.2.filter (fun x => x.dst == p)) ++ d.sw.eng.flatMap (fun v => v.2.filter (fun x => x.dst == p)) ++
    (d.sw.unconf.map (fun c => c.pkt)).filter (fun x => x.dst == p) ++
    d.sw.staging.flatMap (fun s => (s.2.map (fun x => x.pkt)).filter (fun x => x.dst == p))
  all.foldl (fun a x => if a.any (fun y => y.id == x.id) then a else a ++ [x]) []

/-- Fence port `p`: what it is receiving is cut short; every packet queued toward it is removed, counted and answered. One begun
on an S egress ends with ABORT; cells in flight go no further and their input copies are freed (R404). -/
def Dev.fencePort (d : Dev) (p status : Nat) : Dev :=
  let d1 := d.cutStreams p
  let xs := d1.queuedFor p
  xs.foldl (fun e x => (e.endPacket x.id).answerRemoved x status) { d1 with cont.fenceDiscard := satAdd 32 d1.cont.fenceDiscard xs.length }

/-- The status with which a PORT domain answers (R404). -/
def Dev.fenceStatus (d : Dev) (p : Nat) : Nat :=
  match d.egressStop ((d.sharers p).headD 0) p {} with
  | some (1, 0) => 1
  | _ => 4

/-- Transit entries toward a contained port are retired (R227, R410). -/
def Dev.retireToward (d : Dev) (p : Nat) : Dev :=
  (d.sw.tr.filter (fun e => e.2.state == 1 && e.2.destSwitch.isNone && e.2.destPort == p)).foldl (fun e x => e.trAbort x.1) d

/-- The fence of every port whose DPC has triggered since `old`: queued requests are answered, and Transit entries toward
it are retired (R227, R404). -/
def Dev.dpcFence (d old : Dev) : Dev :=
  (d.hPorts.filter (fun p => (d.pport p).dpcTriggered && !(old.pport p).dpcTriggered)).foldl (fun e p =>
    (e.fencePort p (e.fenceStatus p)).retireToward p) d

/-- Run `f` and fence the ports that its errors contain. -/
def Dev.withDpc (d : Dev) (f : Dev → Dev) : Dev := (f d).dpcFence d

end Sys2Proof.Machine
end

