-- ==== Sys2Proof/Machine/Hub.lean ====
section
/-! DEFINITION. Requests that the engine hub issues for a function: route, Boundary result, reads with their slots,
writes, and interrupt messages (R364 to R366, R371, R378, Table 12.1). -/

namespace Sys2Proof.Machine

/-- Function `n` is ENABLED: its host may use it, and requests are issued for it (R356, R373). -/
def Dev.fnOn (d : Dev) (n : Nat) : Bool := (d.trav.fn.rd n).state == 1

/-- Both Bus Master Enable bits of function `n` (R366). -/
def Dev.fnBme (d : Dev) (n : Nat) : Bool := d.bme (fnKeyOf n) && d.bme (fnEngine (d.fnPart n))

/-- Where a request of partition `q` from the hub goes: as one that enters through the engine bridge (R364). -/
def Dev.hubRoute (d : Dev) (q a : Nat) : Dest := d.routeAddr q 0xFF a false true

/-- The table that decides an engine access: central, the gate of the egress port, or gate 73 in the fabric range
(Table 12.1). -/
def Dev.hubGate (d : Dev) (q a : Nat) : Nat :=
  match d.hubRoute q a with
  | .port x => x
  | _ => 73

/-- The Boundary result of a cut of partition `q` at `a`: whether it is allowed, and its verdict (R364, R383). -/
def Dev.hubCheck (d : Dev) (q a access : Nat) : Dev × Bool × Verdict :=
  d.check (d.hubGate q a) { kind := 2, sw := d.run.switchId, part := q, space := q, addr := a } access

/-- What became of a request of the hub. -/
inductive Issue where
  /-- It left for egress port or, plus 128, far switch `path`. -/
  | sent (path : Nat)
  /-- No Transit entry is free: the request waits (R271, R364). -/
  | wait
  /-- Nothing routes it, or its target refuses it. -/
  | refused
deriving DecidableEq, Repr, Inhabited

/-- The tile whose engine link a request into the fabric range uses (R364). -/
def Dev.hubTile (d : Dev) (q : Nat) : Nat := portTile (d.run.part.rd q).upstream

/-- The bridge whose Bus Master Enable stops a request of partition `q`'s engines: the engine bridge, and toward the host the
upstream bridge (R229). -/
def Dev.hubStop (d : Dev) (q : Nat) (dst : Dest) : Option Nat :=
  if d.bme (fnEngine q) = false then some (fnEngine q)
  else if dst = .port (d.run.part.rd q).upstream ∧ d.bme (fnUp q) = false then some (fnUp q) else none

/-- A request of the hub that the virtual switch stops is an Unsupported Request of the bridge `fn`. -/
def Dev.hubUr (d : Dev) (q fn : Nat) (t : Tlp) : Dev :=
  let adv := t.kind.cls == 1
  if fn = fnUp q then d.tlpErrorOf (d.run.part.rd q).upstream q 20 t t adv else d.aerView fn true 20 t.header adv

/-- A request of the hub waits at the Transit bound (R271, R272). -/
def Dev.hubWaits (d : Dev) (q : Nat) (v : Bool) : Dev := { d with sw.hubWait := d.sw.hubWait.wr q v }

/-- Send a request of function `n` of partition `q`. A read or AtomicOp names read slot `slot`; toward the fabric or a
shared port it opens a Transit entry (R269, R364). `epoch` is the one whose result allowed it. A request to a port leaves
over the engine link of that port's tile; one into the fabric range enters the Bridge of the upstream port's tile (R26). -/
def Dev.hubIssue (d : Dev) (q rid slot : Nat) (t0 : Tlp) (epoch : Option Nat) : Dev × Issue :=
  let np := t0.kind.cls == 1
  let s := d.trav.slot.rd slot
  let t := { t0 with reqId := rid, tag := if np then slotTag slot s.gen else 0 }
  let enter := fun (e : Dev) => if epoch.isSome then { e with bnd := e.bnd.enter } else e
  let mark := fun (e : Dev) (k : Option Nat) => match k with
    | some k => { e with trav.slot := e.trav.slot.upd slot (fun x => { x with transit := some k }) }
    | none => e
  let entry := fun (sw : Option Nat) (port : Nat) => ({ part := q, engine := true, port := 0xFF, reqId := s.gen, tag := slot, tc := t.tc, destSwitch := sw, destPort := port, bytes := t.answerBytes } : TEntry)
  let vc := d.vcOf t.tc
  let dst := d.hubRoute q t.addr
  let br := if dst = .port (d.run.part.rd q).upstream then [fnEngine q, fnUp q] else [fnEngine q]
  let pkt : Pkt := { ing := 0xFF, vc := vc, inVc := vc, tc := t.tc, cls := t.kind.cls, body := .tlp t, part := q, reqId := rid, tag := t.tag, epoch := epoch, bridges := br }
  match d.hubStop q dst with
  | some fn => (d.hubUr q fn t, .refused)
  | none =>
  match dst with
  | .port x =>
    match d.egressStop q x t with
    | some (_, bit) => (if bit = 0 then d else if bit = 20 then d.hubUr q (fnEngine q) t else d.withDpc (fun e => e.tlpErrorOf x q bit t t np), .refused)
    | none =>
      if d.walled x then (d.fenceDiscard, .refused)
      else if d.isShared x then
        match d.shareAddr x q t with
        | none => (d.aerView (fnDown q x) true 20 t.header np, .refused)
        | some t1 =>
          if np && !d.trAvail q then (d.hubWaits q true, .wait)
          else
            let (d1, k) := if np then d.trOpen (entry none x) else (d, none)
            ((enter ((mark d1 k).hubWaits q false)).pushEng { pkt with dst := x, body := .tlp t1, transit := k }, .sent x)
      else ((enter d).pushEng { pkt with dst := x }, .sent x)
  | .fabric w =>
    let tile := d.hubTile q
    let d0 := (d.countTile tile 0x0F 0 0 1).countGaz w
    match d0.xlate w t.addr with
    | none => (d0.xlateMiss w.handle q, .refused)
    | some x =>
      if t.kind ≠ .memRead ∧ x.write = false then (d0.xlateMiss x.handle q, .refused)
      else
        let f := ({ d0.fabOf q t x with srcPart := 0x1F } : FPkt).seal
        if d0.cont.contained.getLsbD f.dest then (d0, .refused)
        else if np && !d0.trAvail q then (d0.hubWaits q true, .wait)
        else
          let (d1, k) := if np then d0.trOpen (entry (some f.dest) 0) else (d0, none)
          let d2 := (mark d1 k).hubWaits q false
          let g := match k with
            | some k => ({ f with reqId := d2.trReqId k } : FPkt).seal
            | none => f
          if g.dest = d.run.switchId then (d2.deliverFab tile { inVc := vc, transit := k, bridges := br } g, .sent (128 + g.dest))
          else match d2.wayOf g.src g.dest g.tc with
            | .none => (d2.unrouted g false, .refused)
            | .port y | .wait y => ((enter d2).pushVoq tile { pkt with dst := y, body := .fab g, transit := k }, .sent (128 + g.dest))
  | _ => (d.hubUr q (fnEngine q) t, .refused)

/-! ### Cuts (R364) -/

/-- Max_Payload_Size and Max_Read_Request_Size of function `n`; a VF uses its parent's. -/
def Dev.fnParent (d : Dev) (n : Nat) : Nat := if n = 0 then fnPf else parentKey (d.fnPart n)
def Dev.fnMps (d : Dev) (n : Nat) : Nat := d.mpsOf (d.fnParent n)
def Dev.fnMrrs (d : Dev) (n : Nat) : Nat := 128 * 2 ^ fld (d.cfgStored (d.fnParent n) 26) 12 3

/-- The requests of `n` bytes from address `a`: cut at every multiple of `unit` and at `limit` bytes, as address and
bytes. `fuel` bounds their number. -/
def cutsOf (fuel a n unit limit : Nat) : List (Nat × Nat) :=
  match fuel with
  | 0 => []
  | fuel + 1 =>
    if n = 0 then []
    else
      let k := min n (min limit (unit - a % unit))
      (a, k) :: cutsOf fuel (a + k) (n - k) unit limit

/-- A memory read or write of `n` bytes at `a` as a TLP: dword length and byte enables. -/
def spanDw (a n : Nat) : Nat := (a % 4 + n + 3) / 4
def firstBeOf (a n : Nat) : Nat := (List.range 4).foldl (fun m i => if a % 4 ≤ i ∧ i < a % 4 + n then m + 2 ^ i else m) 0
def lastBeOf (a n : Nat) : Nat :=
  if spanDw a n ≤ 1 then 0 else let e := (a + n) % 4; if e = 0 then 0xF else 2 ^ e - 1

/-- The write requests of a function for bytes at an address, in ascending order, without a check. Answers the paths. -/
def Dev.hubWrites (d : Dev) (q n tc a : Nat) (bs : List Nat) (epoch : Option Nat) : Dev × List Nat :=
  (cutsOf (bs.length + 1) a bs.length 512 (d.fnMps n)).foldl (fun (acc : Dev × List Nat) c =>
    let (e, ps) := acc
    let t : Tlp := { kind := .memWrite, tc := tc, addr := c.1 / 4 * 4, lenDw := spanDw c.1 c.2, firstBe := firstBeOf c.1 c.2, lastBe := lastBeOf c.1 c.2, data := slice (List.replicate (c.1 % 4) 0 ++ slice bs (c.1 - a) c.2) 0 (4 * spanDw c.1 c.2) }
    match e.hubIssue q (e.fnRid n) 0 t epoch with
    | (e1, .sent p) => (e1, if ps.contains p then ps else ps ++ [p])
    | (e1, _) => (e1, ps)) (d, [])

/-- A checked write of a function's delivery, page by page: a denied page is discarded, the others proceed (R340,
R385). Without Bus Master Enable, and for a function in reset, nothing is issued (R366, R373). -/
def Dev.fnWrite (d : Dev) (n tc a : Nat) (bs : List Nat) : Dev :=
  let q := d.fnPart n
  if !d.fnOn n || !d.fnBme n then d
  else (cutsOf (bs.length + 1) a bs.length 4096 4096).foldl (fun e c =>
    let (e1, ok, _) := e.hubCheck q c.1 1
    if ok then (e1.hubWrites q n tc c.1 (slice bs (c.1 - a) c.2) (some e1.bnd.epoch)).1 else e1) d

/-! ### Interrupt messages of functions (R371) -/

/-- Signal vector `vec` of function `n` with traffic class `tc`, that of the write which the message follows (R250, R340,
R371): its posted write leaves, or its pending bit sets. -/
def Dev.fnSignal (d : Dev) (n vec tc : Nat) : Dev :=
  let fn := fnKeyOf n
  if !d.fnOn n then d
  else if d.msixOpen fn vec && d.fnBme n then
    let a := d.msixWord fn vec 0 + 2 ^ 32 * d.msixWord fn vec 1
    (d.countHub 0x67 0 1).fnWrite n tc a (toLe 4 (d.msixWord fn vec 2))
  else { d with pcie.msixPend := d.pcie.msixPend.wr (msixKey fn vec) true }

/-- A pending message of function `n` is sent when its conditions hold. -/
def Dev.fnRetry (d : Dev) (n vec : Nat) : Dev :=
  let fn := fnKeyOf n
  if d.pcie.msixPend.rd (msixKey fn vec) && d.msixOpen fn vec && d.fnBme n then
    ({ d with pcie.msixPend := d.pcie.msixPend.wr (msixKey fn vec) false }).fnSignal n vec 0
  else d

/-- A fabric packet of the Haldion's own, or of an engine, leaves over the engine link of its way's tile (R26). -/
def Dev.sendFab (d : Dev) (f : FPkt) : Dev :=
  match d.wayOf f.src f.dest f.tc with
  | .port p | .wait p =>
    let vc := d.fabVc f
    (d.countTable 0x54 0 1).pushEng { dst := p, vc := vc, inVc := vc, tc := f.tc, cls := f.order, body := .fab f, part := f.srcPart }
  | .none => d.routeFab 1 0 0xFF 0 f false false

end Sys2Proof.Machine
end

