-- ==== Sys2Proof/Machine/Tally.lean ====
section
/-! DEFINITION. Tally collectives: contributions, partials, rounds, delivery, aborts and commits (R320 to R347). -/

namespace Sys2Proof.Machine

/-! ### Fields of COLL, CHILD and MEMBER (Tables 10.14 to 10.17) -/

def Coll.valid (c : Coll) : Bool := bitAt c.ctrl 31
def Coll.root (c : Coll) : Bool := bitAt c.ctrl 30
def Coll.format (c : Coll) : Nat := fld c.ctrl 27 3
def Coll.op (c : Coll) : Nat := fld c.ctrl 24 3
def Coll.mode (c : Coll) : Nat := fld c.ctrl 22 2
def Coll.unit (c : Coll) : Nat := fld c.ctrl 20 2
def Coll.tc (c : Coll) : Nat := fld c.ctrl 17 3
def Coll.partition (c : Coll) : Nat := fld c.ctrl 12 5
/-- SPAN_LSB plus 133, the places of bit 0 above the least BF16 subnormal. -/
def Coll.span (c : Coll) : Nat := (signed 9 (fld c.ctrl 0 9) + 133).toNat
def Coll.elems (c : Coll) : Nat := fld c.elements 0 20
def Coll.ledger (c : Coll) : Nat := fld c.ledgerBase 0 19
def Coll.ledgerUnits (c : Coll) : Nat := c.elems * entrySize c.format / 16
def Coll.memFirst (c : Coll) : Nat := fld c.members 0 14
def Coll.memCount (c : Coll) : Nat := fld c.members 16 15
def Coll.kidFirst (c : Coll) : Nat := fld c.children 0 12
def Coll.kidCount (c : Coll) : Nat := fld c.children 16 7
def Coll.parentSwitch (c : Coll) : Nat := fld c.parent 0 12
def Coll.parentColl (c : Coll) : Nat := fld c.parent 12 12
def Coll.parentHandle (c : Coll) : Nat := fld c.timing 0 16
def Coll.timeout (c : Coll) : Nat := fld c.timing 16 16

def Memb.valid (m : Memb) : Bool := bitAt m.bind 31
def Memb.coll (m : Memb) : Nat := fld m.bind 16 12
def Memb.fn (m : Memb) : Nat := fld m.bind 0 13
def Memb.slot (m : Memb) : Nat := fld m.notify 16 4
def Memb.vecEn (m : Memb) : Bool := bitAt m.notify 31
def Memb.vec (m : Memb) : Nat := fld m.notify 0 11

def childValid (v : Nat) : Bool := bitAt v 63
def childSwitch (v : Nat) : Nat := fld v 0 12
def childColl (v : Nat) : Nat := fld v 12 12
def childHandle (v : Nat) : Nat := fld v 24 16

def Dev.coll (d : Dev) (c : Nat) : Coll := d.tally.coll.rd c
def Dev.collSt (d : Dev) (c : Nat) : CollSt := d.tally.st.rd c
def Dev.setColl (d : Dev) (c : Nat) (f : CollSt → CollSt) : Dev := { d with tally.st := d.tally.st.upd c f }

/-- The members of a collective with their index in the range, and its children. -/
def Dev.membersOf (d : Dev) (k : Coll) : List (Nat × Memb) :=
  (List.range k.memCount).map (fun i => (i, d.tally.memb.rd (k.memFirst + i)))
def Dev.childrenOf (d : Dev) (k : Coll) : List (Nat × Nat) :=
  (List.range k.kidCount).map (fun i => (i, d.tally.child.rd (k.kidFirst + i)))

/-- The ledger of the collective is busy (R334); a new collective before its round 0 holds its writes too
(notes/assumptions/32.md). -/
def CollSt.busy (s : CollSt) : Bool := s.state == 3 || s.state == 4 || s.state == 5 || s.state == 6

def Dev.tallyDiscard (d : Dev) : Dev := { d with tally.discard := satAdd 32 d.tally.discard 1 }

/-- The unit that serves element `e` (R329). -/
def Coll.unitOf (k : Coll) (e : Nat) : Nat := if k.unit = 3 then e / 64 % 3 else k.unit

/-! ### Packets (R335, Tables 10.6 and 10.7) -/

/-- Send a Tally packet of round `r` to a switch's collective. -/
def Dev.tallySend (d : Dev) (k : Coll) (kind sw coll handle r first count : Nat) (payload : List Nat) : Dev :=
  d.sendFab ({ kind := kind, flags := k.tc, hops := d.fab.hopLimit, dest := sw, src := d.run.switchId, handle := handle, srcPart := 0x1F, inc := d.fab.incarnation, addr := pack [(0, coll), (12, r), (20, first), (40, k.format), (43, k.op)], reqF := count % 512, payload := payload } : FPkt).seal

def Dev.toParent (d : Dev) (k : Coll) (kind r first count : Nat) (payload : List Nat) : Dev :=
  d.tallySend k kind k.parentSwitch k.parentColl k.parentHandle r first count payload
def Dev.toChild (d : Dev) (k : Coll) (v kind r first count : Nat) (payload : List Nat) : Dev :=
  d.tallySend k kind (childSwitch v) (childColl v) (childHandle v) r first count payload

/-! ### Records and deliveries (R340, R341) -/

/-- Write each member's completion record of round `r` and send its message; a function `skip` names gets nothing
(R373). -/
def Dev.tallyRecords (d : Dev) (k : Coll) (r status flagsOr rf contributions tick : Nat) (skip : Nat → Bool) : Dev :=
  let body := [r, status, flagsOr, rf] ++ toLe 4 contributions ++ toLe 8 (tick % 2 ^ 56)
  (d.membersOf k).foldl (fun e m =>
    if skip m.2.fn then e
    else
      let e1 := e.fnWrite m.2.fn k.tc m.2.recordAddr body
      if m.2.vecEn then e1.fnSignal m.2.fn m.2.vec k.tc else e1) d

/-- Write result elements from `first` to every member. -/
def Dev.tallyDeliver (d : Dev) (k : Coll) (first : Nat) (data : List Nat) : Dev :=
  (d.membersOf k).foldl (fun e m => e.fnWrite m.2.fn k.tc (m.2.resultAddr + first * elemSize k.format) data) d

/-! ### Opening a round, and aborts (R343, R344) -/

/-- Clear the ledger and open the next round; held inputs stay held for the caller. -/
def CollSt.openNext (s : CollSt) : CollSt :=
  { state := 1, round := (s.round + 1) % 256, awaiting := s.awaiting, awaitRound := s.awaitRound, lastStatus := s.lastStatus, ticksWait := s.ticksWait, closeTick := s.closeTick, retire := s.retire }

/-- ABORT to the tree neighbours: `from_` 0 none left out, 1 the parent, 2 + i child i. -/
def Dev.abortSend (d : Dev) (c r reason origin from_ : Nat) : Dev :=
  let k := d.coll c
  let body := [reason, 0] ++ toLe 2 (origin % 4096) ++ List.replicate 12 0
  let d1 := if k.root || from_ == 1 then d else d.toParent k 0x0A r 0 0 body
  (d1.childrenOf k).foldl (fun e ch => if from_ = 2 + ch.1 then e else e.toChild k ch.2 0x0A r 0 0 body) d1

/-- What every abort of a round does at this Haldion: records, log and count (R344). -/
def Dev.abortNote (d : Dev) (c r reason origin : Nat) (skip : Nat → Bool) : Dev :=
  let k := d.coll c
  let d1 := d.tallyRecords k r reason 0 0 0 d.tick.number skip
  let d2 := { d1 with tally.aborts := satAdd 32 d1.tally.aborts 1 }
  ((d2.setColl c (fun s => { s with lastStatus := reason })).log 0x360 2 { part := k.partition, inst := c, detail := [c, r, reason, origin] }).countHub 0x62 0 1

/-- End the round in progress in an abort (R343, R344): the next round opens, or the retired collective is freed. -/
def Dev.tallyAbort (d : Dev) (c reason origin from_ : Nat) (skip : Nat → Bool) : Dev :=
  let r := (d.collSt c).round
  let d1 := (d.abortSend c r reason origin from_).abortNote c r reason origin skip
  d1.setColl c (fun s => if s.ending then {} else s.openNext)

/-- End the round whose result is awaited: the open round goes on (R343, R345). -/
def Dev.tallyAbortAwaited (d : Dev) (c reason origin from_ : Nat) (skip : Nat → Bool) : Dev :=
  let r := (d.collSt c).awaitRound
  let d1 := (d.abortSend c r reason origin from_).abortNote c r reason origin skip
  d1.setColl c (fun s => { s with awaiting := false, ticksWait := 0 })

def noSkip (_ : Nat) : Bool := false

/-- Abort from this Haldion, for its own reason. -/
def Dev.abortHere (d : Dev) (c reason : Nat) : Dev := d.tallyAbort c reason d.run.switchId 0 noSkip

/-! ### Adding to the ledger (R325, R327, R331, R337) -/

/-- Merge a value or an accumulator with flags into element `e`. -/
def CollSt.merge (s : CollSt) (fmt op e : Nat) (acc : Int) (v flags : Nat) : CollSt :=
  { s with led := s.led.upd e (fun l => if op = 0 then { l with acc := l.acc + acc, flags := Nat.lor l.flags flags } else { l with val := if l.has then combine fmt op l.val v else v, has := true, flags := Nat.lor l.flags flags }) }

def Dev.tallyMerge (d : Dev) (c : Nat) (k : Coll) (e : Nat) (acc : Int) (v flags : Nat) : Dev :=
  let u := k.unitOf e
  (({ d with tally.updates := d.tally.updates.upd u (fun n => (n + 1) % 2 ^ 64) }).countHub 0x60 u 1).setColl c (fun s => s.merge k.format k.op e acc v flags)

/-- Every member has counted ELEMENTS and every child is done: the round is complete (R333). -/
def Dev.checkComplete (d : Dev) (c : Nat) : Dev :=
  let k := d.coll c
  let s := d.collSt c
  if s.state = 1 ∧ (List.range k.memCount).all (fun i => s.count.rd i == k.elems) ∧ (List.range k.kidCount).all (fun i => s.childDone.rd i) then
    d.setColl c (fun s => { s with state := 2 })
  else d

/-- The member that binds a function and a slot: collective, index in its range. -/
def Dev.memberOf (d : Dev) (fn slot : Nat) : Option (Nat × Nat) :=
  d.tally.memb.findSome? (fun e =>
    let m := e.2
    let k := d.coll m.coll
    if m.valid ∧ m.fn = fn ∧ m.slot = slot ∧ (d.collSt m.coll).state ≠ 0 ∧ k.memFirst ≤ e.1 ∧ e.1 < k.memFirst + k.memCount then
      some (m.coll, e.1 - k.memFirst) else none)

/-- A write of member `i` of open collective `c` (R331, R332). `be`: every byte enable is set. -/
def Dev.addWrite (d : Dev) (c i off : Nat) (data : List Nat) (be poisoned : Bool) : Dev :=
  let k := d.coll c
  let es := elemSize k.format
  let n := data.length / es
  let first := off / es
  let s := d.collSt c
  if off % es ≠ 0 ∨ data = [] ∨ data.length % es ≠ 0 ∨ be = false ∨ k.elems < first + n then d.abortHere c 0x03
  else if poisoned then d.abortHere c 0x04
  else if k.elems < s.count.rd i + n then d.abortHere c 0x02
  else
    let d1 := (List.range n).foldl (fun e j =>
      let v := leAt data (es * j) es
      if k.op = 0 then (let (a, fl) := contribute k.format k.span v; e.tallyMerge c k (first + j) a 0 fl)
      else e.tallyMerge c k (first + j) 0 v (valueFlags k.format v)) d
    (d1.setColl c (fun s => { s with count := s.count.upd i (· + n) })).checkComplete c

/-- Fields of a Tally packet's ADDRESS. -/
def FPkt.coll (f : FPkt) : Nat := fld f.addr 0 12
def FPkt.round (f : FPkt) : Nat := fld f.addr 12 8
def FPkt.first (f : FPkt) : Nat := fld f.addr 20 20
def FPkt.fmtOp (f : FPkt) : Nat × Nat := (fld f.addr 40 3, fld f.addr 43 3)
def FPkt.elemCount (f : FPkt) : Nat := fld f.reqF 0 9

/-- The child that a packet comes from: by its switch, one that is not done first. -/
def Dev.childOf (d : Dev) (c sw : Nat) : Option Nat :=
  let hits := (d.childrenOf (d.coll c)).filter (fun ch => childSwitch ch.2 == sw)
  match hits.find? (fun ch => !(d.collSt c).childDone.rd ch.1) with
  | some ch => some ch.1
  | none => hits.head?.map Prod.fst

/-- The round a child's packet names is open, or complete and awaiting its close (R338). -/
def CollSt.takes (s : CollSt) (r : Nat) : Bool := (s.state == 1 || s.state == 2) && s.round == r

/-- PARTIAL from child `i` of an open collective (R337, R338). -/
def Dev.addPartial (d : Dev) (c i : Nat) (f : FPkt) : Dev :=
  let k := d.coll c
  let s := d.collSt c
  if !s.takes f.round then d.tallyDiscard
  else if f.poisoned then d.abortHere c 0x04
  else if f.fmtOp ≠ (k.format, k.op) ∨ f.first ≠ s.childNext.rd i ∨ k.elems < f.first + f.elemCount ∨ s.childDone.rd i = true then d.abortHere c 0x06
  else match unpackAll k.format k.op f.elemCount f.payload with
    | none => d.abortHere c 0x06
    | some us =>
      let d1 := (List.range us.length).foldl (fun e j => let u := us.getD j {}; e.tallyMerge c k (f.first + j) u.acc u.val u.flags) d
      d1.setColl c (fun s => { s with childNext := s.childNext.wr i (f.first + f.elemCount), childPkts := s.childPkts.upd i (· + 1) })

/-- Upward DONE from child `i` of an open collective (R338). -/
def Dev.addDone (d : Dev) (c i : Nat) (f : FPkt) : Dev :=
  let k := d.coll c
  let s := d.collSt c
  if !s.takes f.round then d.tallyDiscard
  else if f.poisoned then d.abortHere c 0x04
  else if f.fmtOp ≠ (k.format, k.op) ∨ s.childDone.rd i = true ∨ s.childPkts.rd i ≠ leAt f.payload 0 4 ∨ s.childNext.rd i ≠ k.elems then d.abortHere c 0x06
  else
    let n := s.contributions + leAt f.payload 4 4
    if 2 ^ 31 < k.memCount + n then d.abortHere c 0x05
    else (d.setColl c (fun s => { s with childDone := s.childDone.wr i true, contributions := n, flagsOr := Nat.lor s.flagsOr (leAt f.payload 8 1) })).checkComplete c

/-- Take one input that waited or arrives now (R334). -/
def Dev.tallyTake (d : Dev) (c : Nat) (h : HeldIn) : Dev :=
  if (d.collSt c).busy then { d with tally.hold := d.tally.hold ++ [(c, h)] }
  else match h with
    | .write fn slot off data be poisoned =>
      (match d.memberOf fn slot with
       | some (c1, i) => if c1 = c then d.addWrite c i off data be poisoned else d.tallyDiscard
       | none => d.tallyDiscard)
    | .packet f =>
      (match d.childOf c f.src with
       | some i => if f.kind = 0x08 then d.addPartial c i f else d.addDone c i f
       | none => d.tallyDiscard)

/-- Held inputs of a collective whose round has opened are added in order of arrival. -/
def Dev.drainHold (d : Dev) (c : Nat) : Dev :=
  if (d.collSt c).busy then d
  else
    let (mine, rest) := d.tally.hold.partition (fun e => e.1 == c)
    mine.foldl (fun e h => e.tallyTake c h.2) { d with tally.hold := rest }

/-! ### Arrivals -/

/-- TALLY_CONTRIBUTION: a member's write into its slot (R331). -/
def Dev.tallyWrite (d : Dev) (fn slot off : Nat) (data : List Nat) (be poisoned : Bool) : Dev :=
  match d.memberOf fn slot with
  | none => d.tallyDiscard
  | some (c, _) => d.tallyTake c (.write fn slot off data be poisoned)

/-- PARTIAL (R338). -/
def Dev.tallyPartial (d : Dev) (f : FPkt) : Dev :=
  if (d.collSt f.coll).state = 0 ∨ d.childOf f.coll f.src = none then d.tallyDiscard
  else d.tallyTake f.coll (.packet f)

/-- RESULT for round n at a non-root that awaits it (R340, R345). -/
def Dev.tallyResult (d : Dev) (f : FPkt) : Dev :=
  let c := f.coll
  let k := d.coll c
  let s := d.collSt c
  if s.state = 0 ∨ k.root ∨ s.awaiting = false ∨ f.round ≠ s.awaitRound ∨ f.src ≠ k.parentSwitch then d.tallyDiscard
  else if f.poisoned then d.tallyAbortAwaited c 0x04 d.run.switchId 0 noSkip
  else
    let data := f.payload.take (f.elemCount * elemSize k.format)
    let d1 := (d.childrenOf k).foldl (fun e ch => e.toChild k ch.2 0x09 f.round f.first f.elemCount data) d
    d1.tallyDeliver k f.first data

/-- DONE: from a child it ends its partials; from the parent it ends the round's results (R338, R340). -/
def Dev.tallyDone (d : Dev) (f : FPkt) : Dev :=
  let c := f.coll
  let k := d.coll c
  let s := d.collSt c
  let down := !k.root && f.src == k.parentSwitch
  if s.state = 0 then d.tallyDiscard
  else if down then
    if s.awaiting = false ∨ f.round ≠ s.awaitRound then d.tallyDiscard
    else if f.poisoned then d.tallyAbortAwaited c 0x04 d.run.switchId 0 noSkip
    else
      let d1 := (d.childrenOf k).foldl (fun e ch => e.toChild k ch.2 0x0B f.round 0 0 (f.payload.take 16)) d
      let d2 := d1.tallyRecords k f.round 0 (leAt f.payload 0 1) (leAt f.payload 1 1) (leAt f.payload 4 4) (leAt f.payload 8 7) noSkip
      (({ d2 with tally.rounds := (d2.tally.rounds + 1) % 2 ^ 64 }).countHub 0x61 0 1).setColl c (fun s => { s with awaiting := false, lastStatus := 0, ticksWait := 0 })
  else match d.childOf c f.src with
    | some _ => d.tallyTake c (.packet f)
    | none => d.tallyDiscard

/-- ABORT from a tree neighbour (R343). A poisoned one ends the round for this Haldion's own reason POISON (Table
10.11). -/
def Dev.tallyAbortIn (d : Dev) (f : FPkt) : Dev :=
  let c := f.coll
  let k := d.coll c
  let s := d.collSt c
  let reason := if f.poisoned then 4 else leAt f.payload 0 1
  let origin := if f.poisoned then d.run.switchId else leAt f.payload 2 2 % 4096
  let from_ := if !k.root && f.src == k.parentSwitch then some 1 else (d.childOf c f.src).map (· + 2)
  match from_ with
  | none => d.tallyDiscard
  | some y =>
    let x := if f.poisoned then 0 else y
    if (s.state = 1 ∨ s.state = 2 ∨ (s.state = 3 ∧ k.root = false)) ∧ f.round = s.round then
      ((d.tallyAbort c reason origin x noSkip).setColl c (fun t => if s.state = 3 then { t with awaiting := false } else t)).drainHold c
    else if s.awaiting ∧ s.state ≠ 3 ∧ f.round = s.awaitRound then d.tallyAbortAwaited c reason origin x noSkip
    else if s.state = 4 ∧ f.round = s.round then d
    else d.tallyDiscard

/-- A Tally packet reaches the hub (R335). -/
def Dev.tallyPacket (d : Dev) (f : FPkt) : Dev :=
  if f.kind = 0x08 then d.tallyPartial f else if f.kind = 0x09 then d.tallyResult f
  else if f.kind = 0x0A then d.tallyAbortIn f else d.tallyDone f

/-! ### Packing and delivering (R334, R337, R339, R340) -/

/-- Ledger entry `e` packed. -/
def Dev.packElem (d : Dev) (c : Nat) (k : Coll) (e : Nat) : List Nat :=
  let l := (d.collSt c).led.rd e
  if k.op = 0 then packSum l.acc l.flags else packValue k.format l.val l.flags

/-- Cut packed elements into payloads of at most 512 B: first element, count, bytes. -/
def packets (first : Nat) (cur : List Nat) (n : Nat) : List (List Nat) → List (Nat × Nat × List Nat)
  | [] => if n = 0 then [] else [(first, n, cur)]
  | b :: r =>
    if n ≠ 0 ∧ 512 < cur.length + b.length then (first, n, cur) :: packets (first + n) b 1 r
    else packets first (cur ++ b) (n + 1) r

/-- OR of the flags of every element. -/
def Dev.flagsOfAll (d : Dev) (c : Nat) : Nat := (d.collSt c).led.foldl (fun a e => Nat.lor a e.2.flags) 0

/-- ROUND_PACKED: a non-root has packed its partial; the packets leave, the ledger clears, the next round opens. -/
def Dev.roundPacked (d : Dev) (c : Nat) : Dev :=
  let k := d.coll c
  let s := d.collSt c
  if s.state ≠ 3 then d
  else
    let ps := packets 0 [] 0 ((List.range k.elems).map (d.packElem c k))
    let d1 := ps.foldl (fun e p => e.toParent k 0x08 s.round p.1 p.2.1 p.2.2) d
    let d2 := d1.toParent k 0x0B s.round 0 0 (toLe 4 ps.length ++ toLe 4 (k.memCount + s.contributions) ++ [d.flagsOfAll c] ++ List.replicate 7 0)
    if s.ending then ((d2.abortNote c s.round 0x0A d.run.switchId noSkip).setColl c (fun _ => {}))
    else (d2.setColl c CollSt.openNext).drainHold c

/-- The result of element `e` and its RESULT_FLAGS. -/
def Dev.resultElem (d : Dev) (c : Nat) (k : Coll) (e : Nat) : Nat × Nat :=
  let l := (d.collSt c).led.rd e
  if k.op = 0 then finishSum k.format k.mode k.span l.acc l.flags else (finishValue k.format k.op l.val l.flags, 0)

/-- ROUND_DELIVERED: the root has rounded and issued its deliveries; the next round opens. -/
def Dev.roundDelivered (d : Dev) (c : Nat) : Dev :=
  let k := d.coll c
  let s := d.collSt c
  if s.state ≠ 4 then d
  else
    let es := elemSize k.format
    let rs := (List.range k.elems).map (d.resultElem c k)
    let data := rs.flatMap (fun r => toLe es r.1)
    let rf := rs.foldl (fun a r => Nat.lor a r.2) 0
    let per := 512 / es
    let n := k.memCount + s.contributions
    let firsts := (List.range ((k.elems + per - 1) / per)).map (· * per)
    let fo := d.flagsOfAll c
    let done := [fo, rf, 0, 0] ++ toLe 4 n ++ toLe 8 (s.closeTick % 2 ^ 56)
    let d1 := (d.childrenOf k).foldl (fun e ch =>
      (firsts.foldl (fun e a => let m := min per (k.elems - a); e.toChild k ch.2 0x09 s.round a m (slice data (a * es) (m * es))) e).toChild k ch.2 0x0B s.round 0 0 done) d
    let d2 := (d1.tallyDeliver k 0 data).tallyRecords k s.round 0 fo rf n s.closeTick noSkip
    let d3 := (({ d2 with tally.rounds := (d2.tally.rounds + 1) % 2 ^ 64 }).countHub 0x61 0 1).setColl c (fun s => { s with lastStatus := 0 })
    if s.ending then d3.setColl c (fun _ => {}) else (d3.setColl c CollSt.openNext).drainHold c

/-! ### Timeouts (R345) -/

/-- ROUND_TIMEOUT: the round has been open for TIMEOUT ticks and is not complete. -/
def Dev.roundTimeout (d : Dev) (c : Nat) : Dev :=
  let s := d.collSt c
  if s.state = 1 ∧ (d.coll c).timeout ≤ s.ticksOpen then d.abortHere c 0x01 else d

/-- RESULT_TIMEOUT: no downward DONE within TIMEOUT ticks of the close. -/
def Dev.resultTimeout (d : Dev) (c : Nat) : Dev :=
  let s := d.collSt c
  if s.awaiting ∧ (d.coll c).timeout ≤ s.ticksWait then
    (if s.state = 3 then ((d.abortHere c 0x09).setColl c (fun t => { t with awaiting := false, ticksWait := 0 })).drainHold c
     else d.tallyAbortAwaited c 0x09 d.run.switchId 0 noSkip)
  else d

/-! ### Boundaries (R333, R347, row 2 of Table 4.5) -/

/-- Close of a complete round at boundary `number`, and the ticks of its waits. -/
def Dev.tallyClose (d : Dev) (number c : Nat) : Dev :=
  let k := d.coll c
  d.setColl c (fun s =>
    let s1 := { s with ticksOpen := if s.state = 1 ∨ s.state = 2 then min 65535 (s.ticksOpen + 1) else s.ticksOpen, ticksWait := if s.awaiting then s.ticksWait + 1 else s.ticksWait }
    if s1.state = 2 ∧ (k.root ∨ s1.awaiting = false) then
      { s1 with state := if k.root then 4 else 3, closeTick := number, awaiting := !k.root, awaitRound := s1.round, ticksWait := 0 }
    else s1)

/-- Retirement of a collective, after the close (R347). -/
def Dev.tallyRetire (d : Dev) (c : Nat) : Dev :=
  let s := d.collSt c
  if !s.retire then d
  else if s.state = 3 ∨ s.state = 4 then d.setColl c (fun s => { s with ending := true, retire := false })
  else
    let d1 := if s.awaiting then d.tallyAbortAwaited c 0x0A d.run.switchId 0 noSkip else d
    let d2 := if s.state = 1 ∨ s.state = 2 then d1.abortHere c 0x0A else d1
    let rest := d2.tally.hold.filter (fun e => e.1 != c)
    ({ d2 with tally.hold := rest }).setColl c (fun _ => {})

/-- Row 2 of Table 4.5 for Tally: windows close, retirements follow, cleared collectives open round 0. -/
def Dev.tallyBoundary (d : Dev) (number : Nat) : Dev :=
  let cs := d.tally.st.map Prod.fst
  let d1 := cs.foldl (fun e c => (e.tallyClose number c).tallyRetire c) d
  cs.foldl (fun e c =>
    let s := e.collSt c
    if s.state = 6 ∧ s.cleared then (e.setColl c (fun _ => { state := 1 })).drainHold c else e) d1

/-! ### Members that reset or are isolated (R344, R373) -/

/-- Abort the rounds of every collective with a member whose function `hit` names. -/
def Dev.tallyMembers (d : Dev) (hit : Nat → Bool) (reason : Nat) : Dev :=
  (d.tally.st.map Prod.fst).foldl (fun e c =>
    if (e.membersOf (e.coll c)).any (fun m => hit m.2.fn) then
      let s := e.collSt c
      let e1 := if s.awaiting ∧ s.state ≠ 3 then e.tallyAbortAwaited c reason e.run.switchId 0 hit else e
      if s.state = 1 ∨ s.state = 2 ∨ s.state = 3 then
        ((e1.tallyAbort c reason e1.run.switchId 0 hit).setColl c (fun t => if s.state = 3 then { t with awaiting := false } else t)).drainHold c
      else e1
    else e) d

/-- An uncorrectable ledger error in collective `c` (R328). -/
def Dev.tallyEcc (d : Dev) (c : Nat) : Dev :=
  let s := d.collSt c
  if s.state = 1 ∨ s.state = 2 ∨ s.state = 3 ∨ s.state = 4 then (d.abortHere c 0x07).drainHold c else d

/-! ### Commit (R347, Table 10.12) -/

/-- The last writer of the group of collective `c` (R240). -/
def Dev.collWriter (d : Dev) (c : Nat) (k : Coll) : Option Nat :=
  let ws := d.tally.collPort.rd c :: ((List.range k.memCount).map (fun i => d.tally.membPort.rd (k.memFirst + i)) ++ (List.range k.kidCount).map (fun i => d.tally.childPort.rd (k.kidFirst + i)))
  let m := ws.foldl max 0
  if m = 0 then none else some (m % 65536 - 1)

/-- Two ranges of a start and a length overlap. -/
def rangesMeet (a n b m : Nat) : Bool := decide (a < b + m) && decide (b < a + n)

/-- Collectives valid on this Haldion other than `c`. -/
def Dev.otherColls (d : Dev) (c : Nat) : List (Nat × Coll) :=
  d.tally.coll.filter (fun e => e.1 != c && (d.collSt e.1).state != 0)

/-- The code and DETAIL of a commit of collective `c` by port `p`. An unchanged group is accepted (R240); retirement may
clear VALID and change nothing else (R347). -/
def Dev.tallyCommitResult (d : Dev) (p : CmdPort) (c : Nat) : Nat × Nat :=
  let k := d.tally.collSh.rd c
  let mem := (List.range k.memCount).map (fun i => (k.memFirst + i, d.tally.membSh.rd (k.memFirst + i)))
  let kid := (List.range k.kidCount).map (fun i => (k.kidFirst + i, d.tally.childSh.rd (k.kidFirst + i)))
  let boundElse := fun (i : Nat) (m : Memb) => mem.any (fun e => e.1 != i && e.2.fn == m.fn && e.2.slot == m.slot) ||
    (match d.memberOf m.fn m.slot with
     | some (c1, _) => c1 != c
     | none => false)
  let badMem := mem.find? (fun e => !e.2.valid || e.2.coll != c || !(decide (e.2.fn ≤ 4096) && d.fnExists e.2.fn) || boundElse e.1 e.2)
  let badKid := kid.find? (fun e => !childValid e.2 || childSwitch e.2 == d.run.switchId)
  let old := d.coll c
  let s := d.collSt c
  let writer := d.collWriter c k
  let changed := mem.any (fun e => d.tally.memb.rd e.1 != e.2) || kid.any (fun e => d.tally.child.rd e.1 != e.2)
  if s.state ≠ 0 ∧ k = old ∧ changed = false then (0, c)
  else if writer.isSome && writer != some p.key then (0xF0, c)
  else if d.barLocked (0x03410000 + 0x20 * c) 0x20 then (0xF1, c)
  else if !k.valid then (if s.state ≠ 0 ∧ ({ k with ctrl := setBit k.ctrl 31 } ≠ old ∨ changed = true) then (8, c) else (0, c))
  else if !formatOp k.format k.op k.mode then (1, c)
  else if k.elems = 0 ∨ 8388608 / entrySize k.format < k.elems ∨ (k.format = 2 ∧ (signed 9 (fld k.ctrl 0 9) < -133 ∨ 40 < signed 9 (fld k.ctrl 0 9)))
      ∨ (k.format ≠ 2 ∧ fld k.ctrl 0 9 ≠ 0) then (2, c)
  else if 524288 < k.ledger + k.ledgerUnits then (3, c)
  else if (d.otherColls c).any (fun e => rangesMeet k.ledger k.ledgerUnits e.2.ledger e.2.ledgerUnits) then (4, c)
  else if k.memCount = 0 ∧ k.kidCount = 0 then (5, c)
  else if badMem.isSome then (5, (badMem.map Prod.fst).getD c)
  else if 64 < k.kidCount then (6, k.kidFirst + 64)
  else if badKid.isSome then (6, (badKid.map Prod.fst).getD c)
  else if k.kidCount ≠ 0 ∧ (d.otherColls c).any (fun e => rangesMeet k.kidFirst k.kidCount e.2.kidFirst e.2.kidCount) then (6, k.kidFirst)
  else if (k.root = false ∧ k.parentSwitch = d.run.switchId) ∨ (k.root = true ∧ (k.parent ≠ 0 ∨ k.parentHandle ≠ 0)) then (7, c)
  else if s.state ≠ 0 ∧ (k ≠ old ∨ changed = true) then (8, c)
  else if k.timeout = 0 then (9, c)
  else (0, c)

/-- TALLY_COMMIT with GO (R347). -/
def Dev.tallyCommit (d : Dev) (p : CmdPort) (c : Nat) : Dev :=
  let (code, det) := d.tallyCommitResult p c
  let k := d.tally.collSh.rd c
  let d1 := { d with tally.code := code, tally.detail := det }
  let s := d.collSt c
  if code ≠ 0 then d1
  else if !k.valid then (if s.state = 0 then { d1 with tally.coll := d1.tally.coll.wr c k } else d1.setColl c (fun s => { s with retire := true }))
  else if s.state ≠ 0 then d1
  else
    ({ d1 with
      tally.coll := d1.tally.coll.wr c k
      tally.memb := (List.range k.memCount).foldl (fun t i => t.wr (k.memFirst + i) (d.tally.membSh.rd (k.memFirst + i))) d1.tally.memb
      tally.child := (List.range k.kidCount).foldl (fun t i => t.wr (k.kidFirst + i) (d.tally.childSh.rd (k.kidFirst + i))) d1.tally.child }).setColl c (fun _ => { state := 6 })

/-- TALLY_COMMIT_STATUS.PENDING: a new collective's round 0 has not opened, or a retirement awaits its boundary. -/
def Dev.tallyPending (d : Dev) : Bool := d.tally.st.any (fun e => e.2.state == 6 || e.2.retire)

/-- LEDGER_CLEAR_DONE. -/
def Dev.ledgerCleared (d : Dev) (c : Nat) : Dev :=
  if (d.collSt c).state = 6 then d.setColl c (fun s => { s with cleared := true }) else d

end Sys2Proof.Machine
end

