-- ==== Sys2Proof/Machine/Trav.lean ====
section
/-! DEFINITION. Traverse queues and engines, function BARs, and the reset and creation of functions (R351 to R376). -/

namespace Sys2Proof.Machine

/-! ### Queues (R353, R358 to R360) -/

/-- Key of queue `k` of function `n`: its pool entry. -/
def Dev.qKey (d : Dev) (n k : Nat) : Nat := d.fnPool n + k
def Dev.queue (d : Dev) (key : Nat) : Queue := d.trav.q.rd key
def Dev.setQ (d : Dev) (key : Nat) (f : Queue → Queue) : Dev := { d with trav.q := d.trav.q.upd key f }

def Queue.sqLog (q : Queue) : Nat := fld q.sizes 0 4
def Queue.cqLog (q : Queue) : Nat := fld q.sizes 16 4
/-- Entries of the completion ring that wait for the host, and whether it is full. -/
def Queue.cqUsed (q : Queue) : Nat := (q.cqTail + 2 ^ q.cqLog - q.cqHead) % 2 ^ q.cqLog
def Queue.cqFull (q : Queue) : Bool := q.cqUsed == 2 ^ q.cqLog - 1

/-- Reset value of a queue context. -/
def Queue.blank : Queue := {}

/-- A queue leaves its engine and its place among the waiting queues. -/
def Dev.unbind (d : Dev) (key : Nat) : Dev :=
  { (d.setQ key (fun q => { q with engine := none })) with trav.waiting := d.trav.waiting.filter (· != key) }

/-- The queue wants an engine (R363). -/
def Dev.wantEngine (d : Dev) (key : Nat) : Dev :=
  if (d.queue key).engine.isSome || d.trav.waiting.contains key then d else { d with trav.waiting := d.trav.waiting ++ [key] }

/-- IDLE, ACTIVE or CQ_FULL, as the pointers say (R360). -/
def Dev.settle (d : Dev) (key : Nat) : Dev :=
  let q := d.queue key
  if q.state = 1 ∨ q.state = 2 ∨ q.state = 3 then
    if q.cqFull ∨ q.waiting ≠ [] then (d.setQ key (fun q => { q with state := 3 }))
    else if q.sqTail ≠ q.sqHead then (d.setQ key (fun q => { q with state := 2 })).wantEngine key
    else (d.setQ key (fun q => { q with state := 1 })).unbind key
  else d

/-- Commit code of a queue (Table 11.7). -/
def Queue.commitCode (q : Queue) : Nat :=
  let s := fld q.szSh 0 4
  let c := fld q.szSh 16 4
  if q.sqSh % 4096 ≠ 0 then 1 else if q.cqSh % 4096 ≠ 0 then 2 else if s < 4 ∨ 16 < s then 3 else if c < 4 ∨ 16 < c then 4
  else if c < s then 5 else 0

/-- QUEUE_ENABLE (R359). -/
def Dev.queueEnable (d : Dev) (n k : Nat) : Dev :=
  let key := d.qKey n k
  let q := d.queue key
  if !d.fnOn n || decide (d.fnQueues n ≤ k) || q.state != 0 then d
  else if q.commitCode ≠ 0 then d.setQ key (fun q => { q with code := q.commitCode })
  else d.setQ key (fun q => { q with sq := q.sqSh, cq := q.cqSh, sizes := q.szSh, state := 1, code := 0, sqHead := 0, sqTail := 0, cqHead := 0, cqTail := 0, phase := true, run := {}, ahead := [], waiting := [] })

/-- The queue is DISABLED now. -/
def Dev.queueOff (d : Dev) (key : Nat) : Dev :=
  (d.setQ key (fun q => { q with state := 0, run := {}, ahead := [], waiting := [] })).unbind key

/-- The prefetch reads of a queue whose bytes are not yet written, and those of the descriptors read ahead. -/
def Queue.aheadReads (q : Queue) : List (Nat × Nat) := q.ahead.flatMap (fun r => r.prefetched)
def Queue.prefetchReads (q : Queue) : List (Nat × Nat) := q.run.prefetched ++ q.aheadReads

/-- Discarded prefetch reads (R370): counted, charged to the marking rule, recorded once per rule and tick. -/
def Dev.prefetchDrop (d : Dev) (n : Nat) (ps : List (Nat × Nat)) : Dev :=
  ps.foldl (fun e p =>
    let e1 := ({ e with trav.prefDiscard := satAdd 32 e.trav.prefDiscard 1,
                        bnd.count := e.bnd.count.upd p.2 (fun v => pack [(16, fld v 16 16), (0, satAdd 16 (fld v 0 16) 1)]) }).countHub 0x65 0 1
    e1.once (65536 * 4 + p.2) (fun x => x.log 0x361 1 { part := x.fnPart n, inst := n, detail := [n, 0, fld p.1 0 32, fld p.1 32 32, p.2] })) d

/-- QUEUE_DISABLE (R360). -/
def Dev.queueDisable (d : Dev) (n k : Nat) : Dev :=
  let key := d.qKey n k
  let q := d.queue key
  if decide (d.fnQueues n ≤ k) || q.state == 0 || q.state == 5 then d
  else if q.cqFull || (q.run.phase == .idle && q.waiting.isEmpty) then (d.prefetchDrop n q.prefetchReads).queueOff key
  else ((d.prefetchDrop n q.aheadReads).setQ key (fun q => { q with state := 5, ahead := [] })).wantEngine key

/-- The queue enters ERROR with a code; its vector is signalled, and QUEUE_ERROR fires (R360, R371, Table 14.3). -/
def Dev.queueError (d : Dev) (n key code : Nat) : Dev :=
  let d1 := ((d.setQ key (fun q => { q with state := 4, code := code })).unbind key).fire 0x364
  d1.fnSignal n (key - d1.fnPool n) 0

/-- The queue stops on an error that has no completion entry (Table 11.10, queue only); what was prefetched is
discarded. -/
def Dev.queueStop (d : Dev) (n key code : Nat) : Dev :=
  ((d.prefetchDrop n (d.queue key).prefetchReads).setQ key (fun q => { q with run := { paths := q.run.paths }, ahead := [] })).queueError n key code

/-- QUEUE_RESUME (R360). -/
def Dev.queueResume (d : Dev) (n k : Nat) : Dev :=
  let key := d.qKey n k
  if d.fnQueues n ≤ k ∨ (d.queue key).state ≠ 4 then d
  else (d.setQ key (fun q => { q with state := 1, code := 0, run := { paths := q.run.paths }, ahead := [] })).settle key

/-- SQ_TAIL (R360). -/
def Dev.sqTail (d : Dev) (n k v : Nat) : Dev :=
  let key := d.qKey n k
  let q := d.queue key
  if decide (d.fnQueues n ≤ k) || q.state == 0 || q.state == 5 then d
  else if 2 ^ q.sqLog ≤ v then d.queueStop n key 0x20
  else (d.setQ key (fun q => { q with sqTail := v })).settle key

/-! ### Completion entries (R362) -/

/-- The traffic class of every request of a descriptor (Table 11.8). -/
def descTc (b : List Nat) : Nat := fld (leAt b 2 1) 0 3

/-- Write a finished completion entry at the completion tail, when the ring has room (R360, R362). It carries its
descriptor's traffic class, behind the data on the same path. -/
def Dev.putEntry (d : Dev) (n key : Nat) (e : List Nat) (signal : Bool) (tc : Nat) : Dev :=
  let q := d.queue key
  if q.cqFull then d.setQ key (fun q => { q with waiting := q.waiting ++ [(e, signal, tc)] })
  else
    let a := q.cq + 16 * q.cqTail
    let part := d.fnPart n
    let (d1, ok, _) := d.hubCheck part a 1
    if !ok then d1.queueError n key 0x22
    else
      let bs := e.take 11 ++ [b2n q.phase] ++ e.drop 12
      let (d2, _) := d1.hubWrites part n tc a bs (some d1.bnd.epoch)
      let t := (q.cqTail + 1) % 2 ^ q.cqLog
      let d3 := d2.setQ key (fun q => { q with cqTail := t, phase := if t = 0 then !q.phase else q.phase })
      if signal then d3.fnSignal n (key - d3.fnPool n) tc else d3

/-- Write the entries that waited for room. -/
def Dev.flushEntries (d : Dev) (fuel n key : Nat) : Dev :=
  match fuel with
  | 0 => d
  | fuel + 1 =>
    let q := d.queue key
    match q.waiting with
    | [] => d
    | w :: r => if q.cqFull then d else ((d.setQ key (fun q => { q with waiting := r })).putEntry n key w.1 w.2.1 w.2.2).flushEntries fuel n key

/-- CQ_HEAD (R360). -/
def Dev.cqHead (d : Dev) (n k v : Nat) : Dev :=
  let key := d.qKey n k
  let q := d.queue key
  if decide (d.fnQueues n ≤ k) || q.state == 0 then d
  else if 2 ^ q.cqLog ≤ v then d.log 0x04A 2 { part := d.fnPart n, inst := n, detail := [0x1000 * (k + 1) + 0x24, v] }
  else
    let d1 := (d.setQ key (fun q => { q with cqHead := v })).flushEntries q.waiting.length n key
    if (d1.queue key).state = 5 ∧ (d1.queue key).run.phase = .idle ∧ (d1.queue key).waiting = [] then d1.queueOff key else d1.settle key

/-- A descriptor ends with a status (R360, R362, R370). The first descriptor read ahead follows it. -/
def Dev.descEnd (d : Dev) (n key e status : Nat) : Dev :=
  let q := d.queue key
  let r := q.run
  let head := (q.sqHead + 1) % 2 ^ q.sqLog
  let d0 := if status = 0 then d else ({ d with trav.descErrors := satAdd 32 d.trav.descErrors 1 }).prefetchDrop n q.prefetchReads
  let follow := if status = 0 then q.ahead else []
  let d1 := (d0.setQ key (fun q => { q with sqHead := head, run := { (follow.headD {} : Run) with paths := r.paths }, ahead := follow.drop 1 })).countHub 0x64 e 1
  let entry := slice r.desc 0x24 4 ++ toLe 4 r.done ++ toLe 2 head ++ [status, 0] ++ toLe 2 (d.trav.fn.rd n).gen ++ [0, 0]
  let d2 := d1.putEntry n key entry (status != 0 || bitAt (leAt r.desc 1 1) 0) (descTc r.desc)
  let q2 := d2.queue key
  if q2.state = 4 then d2
  else if q2.state = 5 then (if q2.waiting.isEmpty then d2.queueOff key else d2)
  else if status ≠ 0 then ((d2.setQ key (fun q => { q with state := 4, code := status })).unbind key).fire 0x364
  else d2.settle key

/-! ### Descriptors (R361) -/

def descOp (b : List Nat) : Nat := leAt b 0 1
def descLen (b : List Nat) : Nat := leAt b 4 4
def descSrc (b : List Nat) : Nat := leAt b 8 8
def descDst (b : List Nat) : Nat := leAt b 16 8
def descList (b : List Nat) : Nat := leAt b 24 8
def descCount (b : List Nat) : Nat := leAt b 0x20 2
def descFence (b : List Nat) : Bool := bitAt (leAt b 1 1) 1
def descSerial (b : List Nat) : Bool := bitAt (leAt b 1 1) 2

/-- BAD_OP, BAD_DESCRIPTOR or 0 (Tables 11.8 and 11.9). -/
def descCode (b : List Nat) : Nat :=
  let op := descOp b
  let lists := op = 2 ∨ op = 3
  if 4 < op then 1
  else if fld (leAt b 1 1) 3 5 ≠ 0 ∨ fld (leAt b 2 1) 3 5 ≠ 0 ∨ leAt b 3 1 ≠ 0 ∨ leAt b 0x22 2 ≠ 0 ∨ leAt b 0x30 16 ≠ 0 then 2
  else if op = 0 ∧ (descLen b ≠ 0 ∨ descSrc b ≠ 0 ∨ descDst b ≠ 0) then 2
  else if op ≠ 0 ∧ (descLen b = 0 ∨ 2 ^ 30 < descLen b) then 2
  else if (op = 2 ∧ descSrc b ≠ 0) ∨ (op = 3 ∧ descDst b ≠ 0) ∨ (op = 4 ∧ descSrc b ≠ 0) then 2
  else if lists ∧ (descList b % 16 ≠ 0 ∨ descCount b = 0 ∨ 256 < descCount b) then 2
  else if ¬lists ∧ (descList b ≠ 0 ∨ descCount b ≠ 0) then 2
  else 0

/-- Ranges of `n` bytes from logical offset `off` of a list of (address, length). -/
def rangeOf (es : List (Nat × Nat)) (off n : Nat) : List (Nat × Nat) :=
  match es with
  | [] => []
  | (a, l) :: r =>
    if n = 0 then []
    else if l ≤ off then rangeOf r (off - l) n
    else
      let k := min n (l - off)
      (a + off, k) :: rangeOf r 0 (n - k)

/-- Sources and destinations of a descriptor as lists of ranges. -/
def Run.sources (r : Run) : List (Nat × Nat) := if descOp r.desc = 2 then r.list else [(descSrc r.desc, descLen r.desc)]
def Run.dests (r : Run) : List (Nat × Nat) := if descOp r.desc = 3 then r.list else [(descDst r.desc, descLen r.desc)]

/-- The next segment: destination address and bytes, at most to the end of its page and of its element (R363). -/
def Run.segment (r : Run) : Nat × Nat :=
  match rangeOf r.dests r.done 4096 with
  | (a, l) :: _ => (a, min l (4096 - a % 4096))
  | [] => (0, 0)

/-- Place buffer offsets on source ranges and cut them into reads: address, offset, bytes (R364). -/
def readsOf (mrrs : Nat) (off : Nat) : List (Nat × Nat) → List (Nat × Nat × Nat)
  | [] => []
  | (a, l) :: r => (cutsOf (l + 1) a l 512 mrrs).map (fun c => (c.1, off + (c.1 - a), c.2)) ++ readsOf mrrs (off + l) r

/-! ### Engine reads (R364, R365) -/

/-- Reads outstanding of an engine, and of one run of a queue. -/
def Dev.engineReads (d : Dev) (e : Nat) : Nat := (d.trav.slot.filter (fun s => s.1 / 512 == e && s.2.used)).length
def Dev.runReads (d : Dev) (key serial : Nat) : Nat := (d.trav.slot.filter (fun s => decide (s.1 < 4096) && s.2.used && s.2.queue == key && s.2.serial == serial)).length

/-- The lowest free read slot of an engine. -/
def Dev.freeRead (d : Dev) (e : Nat) : Option Nat :=
  ((List.range 512).map (512 * e + ·)).find? (fun k => !(d.trav.slot.rd k).used)

/-- What became of a read. -/
inductive ReadOut where
  | sent | wait | denied | refused
deriving DecidableEq, Repr, Inhabited

/-- Issue a read of `l` bytes at `a` for queue `key` of function `n`: `kind` as in `RdSlot`. A zero-length read is not
checked. -/
def Dev.engineRead (d : Dev) (e n key kind tc a off l : Nat) : Dev × ReadOut :=
  match d.freeRead e with
  | none => (d, .wait)
  | some k =>
    let q := d.fnPart n
    let (d1, ok, ep) := if l = 0 then (d, true, none) else (let r := d.hubCheck q a 0; (r.1, r.2.1, some r.1.bnd.epoch))
    if !ok then (d1, .denied)
    else
      let s : RdSlot := { used := true, gen := (d1.trav.slot.rd k).gen, fn := n, fnGen := (d1.trav.fn.rd n).gen, queue := key, serial := (d1.queue key).run.serial, kind := kind, off := off, bytes := l, time := d1.now }
      let d2 := { d1 with trav.slot := d1.trav.slot.wr k s }
      let t : Tlp := { kind := .memRead, tc := tc, addr := a / 4 * 4, lenDw := if l = 0 then 1 else spanDw a l, firstBe := firstBeOf a l, lastBe := lastBeOf a l }
      match d2.hubIssue q (d2.fnRid n) k t ep with
      | (d3, .sent _) => (d3, .sent)
      | (_, .wait) => (d1.hubWaits q true, .wait)
      | (d3, .refused) => ({ d3 with trav.slot := d3.trav.slot.wr k { gen := s.gen + 1 } }, .refused)

/-- Issue the reads a queue still has to issue, at most `fuel`. A denied or refused read ends the run with a status. -/
def Dev.issueReads (d : Dev) (fuel e n key kind : Nat) : Dev :=
  match fuel with
  | 0 => d
  | fuel + 1 =>
    let q := d.queue key
    match q.run.todo with
    | [] => d
    | (a, off, l) :: rest =>
      if descSerial q.run.desc && kind == 0 && d.runReads key q.run.serial != 0 then d
      else
        let bad := fun (x : Dev) (st : Nat) => x.setQ key (fun q => { q with run := q.run.failed st })
        match d.engineRead e n key kind (descTc q.run.desc) a off l with
        | (d1, .sent) => (d1.setQ key (fun q => { q with run := { q.run with todo := rest } })).issueReads fuel e n key kind
        | (d1, .wait) => d1
        | (d1, .denied) => bad d1 (if kind = 2 then 0x03 else 0x07)
        | (d1, .refused) => bad d1 (readFail kind)

/-! ### Segments (R363, R364, R367 to R370) -/

/-- Zero-length reads on paths: one for each (path, address), in the path's traffic class (R362, R367). -/
def Dev.fenceReads (d : Dev) (e n key : Nat) (ps : List (Nat × Nat)) : Dev :=
  ps.foldl (fun x p => (x.engineRead e n key 3 (p.1 % 8) p.2 0 0).1) d

/-- The path of an address of function `n`'s partition. -/
def Dev.pathOf (d : Dev) (q a : Nat) : Nat :=
  match d.hubRoute q a with
  | .port x => x
  | .fabric w => match d.xlate w a with
    | some x => 128 + fld x.addr 45 12
    | none => 128
  | _ => 0xFF

/-- All data of a descriptor is written: zero-length reads go on its paths other than that of its completion entry. -/
def Dev.closeData (d : Dev) (e n key : Nat) : Dev :=
  let q := d.queue key
  let cq := 8 * d.pathOf (d.fnPart n) (q.cq + 16 * q.cqTail) + descTc q.run.desc
  let (here, others) := q.run.paths.partition (fun p => p.1 == cq || p.1 % 8 != descTc q.run.desc)
  (d.setQ key (fun q => { q with run := { q.run with phase := .fence, paths := here } })).fenceReads e n key others

/-- Write a segment's bytes under the destination's check; answers the run's next phase (R364, R390). -/
def Dev.segmentWrite (d : Dev) (e n key : Nat) (a : Nat) (bs : List Nat) (checked : Bool) : Dev :=
  let part := d.fnPart n
  let q := d.queue key
  let (d1, ok) := if checked && q.run.epoch == d.bnd.epoch then (d, true) else (let r := d.hubCheck part a 1; (r.1, r.2.1))
  if !ok then d1.descEnd n key e 0x08
  else
    let (d2, ps) := d1.hubWrites part n (descTc q.run.desc) a bs (some d1.bnd.epoch)
    let d3 := ({ d2 with trav.bytes := d2.trav.bytes.upd e (fun v => (v + bs.length) % 2 ^ 64) }).countHub 0x63 e bs.length
    let d4 := d3.setQ key (fun q => { q with run := { q.run with done := q.run.done + bs.length, seg := 0, buf := [], prefetched := [], phase := .ready, paths := (ps.map (8 * · + descTc q.run.desc)).foldl (fun l p => if l.any (fun x => x.1 == p) then l else l ++ [(p, a)]) q.run.paths } })
    if (d4.queue key).run.done = descLen q.run.desc then d4.closeData e n key else d4

/-- The mark of the cut of a source address in function `n`'s partition. -/
def Dev.sourceMark (d : Dev) (n x : Nat) : Verdict :=
  d.verdict (d.checkTable (d.hubGate (d.fnPart n) x)) { kind := 2, sw := d.run.switchId, part := d.fnPart n, space := d.fnPart n, addr := x }

/-- Start the next segment of a descriptor whose ranges are known. -/
def Dev.segmentStart (d : Dev) (e n key : Nat) : Dev :=
  let q := d.queue key
  let r := q.run
  let part := d.fnPart n
  let (a, len) := r.segment
  if q.state = 5 then d.descEnd n key e 0x09
  else if descOp r.desc = 0 then d.closeData e n key
  else if descOp r.desc = 4 then
    d.segmentWrite e n key a ((List.range len).map (fun i => (slice r.desc 0x28 8).getD ((r.done + i) % 8) 0)) false
  else
    let reads := readsOf (d.fnMrrs n) 0 (rangeOf r.sources r.done len)
    let mark := d.sourceMark n
    let ahead := decide (len ≤ 1024 * d.trav.kibAhead) && reads.all (fun x => (mark x.1).prefetch)
    let (d1, ok) := if ahead then (d, true) else (let c := d.hubCheck part a 1; (c.1, c.2.1))
    if !ok then d1.descEnd n key e 0x08
    else
      let pre := if ahead then reads.map (fun x => (x.1, (mark x.1).rule.getD 0)) else []
      (d1.setQ key (fun q => { q with run := { q.run with phase := .reading, seg := len, todo := reads, buf := [], epoch := d1.bnd.epoch, prefetched := pre } })).issueReads 512 e n key 0

/-- A descriptor has arrived: check it, and read its list (R361). -/
def Dev.descStart (d : Dev) (e n key : Nat) : Dev :=
  let b := (d.queue key).run.desc
  if descOp b = 2 ∨ descOp b = 3 then
    (d.setQ key (fun q => { q with run := { q.run with phase := .list, buf := [], todo := readsOf (d.fnMrrs n) 0 [(descList b, 16 * descCount b)] } })).issueReads 512 e n key 2
  else d.setQ key (fun q => { q with run := { q.run with phase := .ready, buf := [] } })

/-- The elements of a list, checked against the descriptor: a reserved field that is not zero is BAD_DESCRIPTOR, a wrong
length LIST_ERROR (R361, Table 11.10). -/
def Run.elements (r : Run) : Nat × List (Nat × Nat) :=
  let es := (List.range (descCount r.desc)).map (fun i =>
    let b := (List.range 16).map (fun j => r.byte (16 * i + j))
    (leAt b 0 8, leAt b 8 4, leAt b 12 4))
  if es.any (fun x => x.2.2 != 0) then (2, [])
  else if es.any (fun x => x.2.1 == 0 || decide (2 ^ 30 < x.2.1)) ∨ es.foldl (fun a x => a + x.2.1) 0 ≠ descLen r.desc then (3, [])
  else (0, es.map (fun x => (x.1, x.2.1)))

/-- One step of queue `key` of function `n` on engine `e`: start or go on with its descriptor. -/
def Dev.queueStep (d : Dev) (e n key : Nat) : Dev :=
  let q := d.queue key
  let r := q.run
  match r.phase with
  | .idle =>
    if q.state = 5 then (if q.waiting.isEmpty then d.queueOff key else d)
    else
      let d0 := d.setQ key (fun q => { q with begun := q.begun + 1, run := { q.run with serial := q.begun + 1 } })
      (match d0.engineRead e n key 1 0 (q.sq + 64 * q.sqHead) 0 64 with
       | (d1, .sent) => d1.setQ key (fun q => { q with run := { q.run with phase := .fetch, buf := [], status := 0 } })
       | (d1, .wait) => d1
       | (d1, _) => d1.queueStop n key 0x21)
  | .fetch =>
    if r.status ≠ 0 then d.queueStop n key 0x21
    else
      let b := (List.range 64).map r.byte
      let d1 := d.setQ key (fun q => { q with run := { q.run with desc := b, done := 0, status := 0 } })
      if descCode b ≠ 0 then d1.descEnd n key e (descCode b)
      else if descFence b then
        (d1.setQ key (fun q => { q with run := { q.run with phase := .preFence, paths := [] } })).fenceReads e n key r.paths
      else d1.descStart e n key
  | .preFence => if r.status ≠ 0 then d.descEnd n key e r.status else d.descStart e n key
  | .list =>
    if r.status ≠ 0 then d.descEnd n key e 0x03
    else if r.todo ≠ [] then d.issueReads 512 e n key 2
    else match r.elements with
      | (0, es) => d.setQ key (fun q => { q with run := { q.run with phase := .ready, list := es, buf := [] } })
      | (code, _) => d.descEnd n key e code
  | .ready => d.segmentStart e n key
  | .reading =>
    if r.status ≠ 0 then d.descEnd n key e r.status
    else if r.todo ≠ [] then d.issueReads 512 e n key 0
    else
      let (a, _) := r.segment
      d.segmentWrite e n key a ((List.range r.seg).map r.byte) r.prefetched.isEmpty
  | .fence => if r.status ≠ 0 then d.descEnd n key e r.status else d.descEnd n key e 0x00

/-- What an engine can do for the descriptors after the one in progress (R368). -/
inductive AheadStep where
  | none
  | issue (r : Run)
  | fetch
deriving DecidableEq, Repr, Inhabited

/-- Descriptors between SQ_HEAD and the submission tail. -/
def Queue.submitted (q : Queue) : Nat := (q.sqTail + 2 ^ q.sqLog - q.sqHead) % 2 ^ q.sqLog

/-- The prefetch reads of a descriptor read ahead: the first segment of a COPY whose source cuts are all prefetchable, no
further than KIB_AHEAD beyond the oldest unfinished byte of the queue (R368). -/
def Dev.aheadBegin (d : Dev) (n : Nat) (q : Queue) (r : Run) : AheadStep :=
  let (_, len) := r.segment
  let reads := readsOf (d.fnMrrs n) 0 (rangeOf r.sources 0 len)
  let far := (descLen q.run.desc - q.run.done) + (q.ahead.dropLast.map (fun x => descLen x.desc)).sum + len
  if descCode r.desc = 0 ∧ descOp r.desc = 1 ∧ descFence r.desc = false ∧ descSerial r.desc = false ∧ far ≤ 1024 * d.trav.kibAhead
      ∧ reads.all (fun x => (d.sourceMark n x.1).prefetch) then
    .issue { r with phase := .reading, seg := len, todo := reads, buf := [], epoch := d.bnd.epoch, prefetched := reads.map (fun x => (x.1, (d.sourceMark n x.1).rule.getD 0)) }
  else .none

/-- The next step of reading ahead: at most DESC_AHEAD descriptors, none beyond the submission tail (R368). -/
def Dev.aheadPlan (d : Dev) (n key : Nat) : AheadStep :=
  let q := d.queue key
  let more := if q.ahead.length < d.trav.descAhead ∧ q.ahead.length + 1 < q.submitted then AheadStep.fetch else .none
  if q.state ≠ 2 ∨ q.run.phase = .idle ∨ q.run.phase = .fetch then .none
  else match q.ahead.getLast? with
    | none => more
    | some r =>
      if r.status ≠ 0 then .none
      else if r.phase = .reading then (if r.todo = [] then more else .issue r)
      else if d.runReads key r.serial ≠ 0 then .none
      else d.aheadBegin n q { r with desc := (List.range 64).map r.byte }

/-- Take it: the run read ahead issues its reads as the queue's own would. -/
def Dev.aheadStep (d : Dev) (e n key : Nat) : Dev :=
  let q := d.queue key
  match d.aheadPlan n key with
  | .none => d
  | .issue r =>
    ((d.setQ key (fun x => { x with run := r })).issueReads 512 e n key 0).setQ key (fun x => { x with run := q.run, ahead := q.ahead.dropLast ++ [x.run] })
  | .fetch =>
    let r : Run := { phase := .fetch, serial := q.begun + 1 }
    match (d.setQ key (fun x => { x with run := r, begun := q.begun + 1 })).engineRead e n key 1 0 (q.sq + 64 * ((q.sqHead + 1 + q.ahead.length) % 2 ^ q.sqLog)) 0 64 with
    | (d1, .sent) => d1.setQ key (fun x => { x with run := q.run, ahead := q.ahead ++ [r] })
    | (d1, .wait) => d1.setQ key (fun x => { x with run := q.run })
    | (d1, _) => d1.setQ key (fun x => { x with run := q.run, ahead := q.ahead ++ [r.failed 0x21] })

/-- The descriptor in progress can go on: none of its reads is outstanding, or it may issue more. -/
def Dev.headReady (d : Dev) (e key : Nat) : Bool :=
  let q := d.queue key
  let reads := d.runReads key q.run.serial
  let more := !q.run.todo.isEmpty && !(descSerial q.run.desc && reads != 0) && decide (d.engineReads e < 512)
  reads == 0 || more

/-- The queue can take a step: it is bound and enabled, its descriptor can go on or one can be read ahead, and Bus
Master Enable is 1 (R366). -/
def Dev.canStep (d : Dev) (e key : Nat) : Bool :=
  let q := d.queue key
  let n := d.poolFn key
  q.engine == some e && d.fnOn n && d.fnBme n && (q.state == 2 || q.state == 5)
    && (d.headReady e key || (decide (d.engineReads e < 512) && d.aheadPlan n key != .none))

/-- One step of the queue: of its descriptor where that can go on, else of those after it. -/
def Dev.queueWork (d : Dev) (e n key : Nat) : Dev := if d.headReady e key then d.queueStep e n key else d.aheadStep e n key

/-- The next of `xs` after `last`, in cyclic order. -/
def nextAfter (xs : List Nat) (last : Nat) : Option Nat :=
  match xs.filter (fun x => decide (last < x)) with
  | x :: r => some (r.foldl min x)
  | [] => match xs with
    | x :: r => some (r.foldl min x)
    | [] => none

/-- ENGINE_SEGMENT: engine `e` chooses a queue, by partition, function and weight, and takes its next step (R363). -/
def Dev.engineSegment (d : Dev) (e : Nat) : Dev :=
  let keys := (d.trav.q.filter (fun x => d.canStep e x.1)).map Prod.fst
  let parts := keys.map (fun k => d.fnPart (d.poolFn k))
  match nextAfter parts (d.trav.rrPart.rdD e 100) with
  | none => d
  | some q =>
    let fns := (keys.filter (fun k => d.fnPart (d.poolFn k) == q)).map d.poolFn
    match nextAfter fns (d.trav.rrFn.rdD (32 * e + q) 10000) with
    | none => d
    | some n =>
      let qs := keys.filter (fun k => d.poolFn k == n)
      let last := d.trav.rrQ.rdD n 100000
      let pick := if qs.contains last && decide (0 < (d.queue last).left) then some (last, (d.queue last).left - 1)
        else (nextAfter qs last).map (fun k => (k, (d.queue k).weight - 1))
      match pick with
      | none => d
      | some (key, left) =>
        (({ d with trav.rrPart := d.trav.rrPart.ins e q, trav.rrFn := d.trav.rrFn.ins (32 * e + q) n, trav.rrQ := d.trav.rrQ.ins n key }).setQ key (fun x => { x with left := left })).queueWork e n key

/-- QUEUE_BIND: the queue that has waited longest is bound to the engine with the fewest bound queues (R363). -/
def Dev.queueBind (d : Dev) : Dev :=
  match d.trav.waiting with
  | [] => d
  | key :: rest =>
    let load := fun (e : Nat) => (d.trav.q.filter (fun x => x.2.engine == some e)).length
    let best := (List.range 8).foldl (fun b e => if load e < load b then e else b) 0
    if 64 ≤ load best then d
    else ({ d with trav.waiting := rest }).setQ key (fun q => { q with engine := some best })

/-- ENGINE_READ_TIMEOUT of slot `k`: a read without a Transit entry (R365). -/
def Dev.readTimeout (d : Dev) (k : Nat) : Dev :=
  if (d.trav.slot.rd k).used ∧ (d.trav.slot.rd k).transit = none then d.failSlot k 0x05 else d

/-- Bus Master Enable of a function or of an engine bridge has cleared (R366). -/
def Dev.bmeOff (d : Dev) (hit : Nat → Bool) : Dev :=
  (d.trav.q.filter (fun x => hit (d.poolFn x.1) && x.2.run.phase != .idle && (x.2.state == 2 || x.2.state == 3 || x.2.state == 5))).foldl (fun e x =>
    e.queueStop (e.poolFn x.1) x.1 0x23) d

/-! ### Function reset (R356, R357, R372 to R374) -/

/-- A function's requests whose first byte has not left the Haldion are discarded, in VOQs, before the engine links, in
flight and in staging; a packet that an S egress has begun completes (R373 step 3). -/
def Dev.dropFnPackets (d : Dev) (n : Nat) : Dev :=
  let rid := d.fnRid n
  let q := d.fnPart n
  let mine := fun (p : Pkt) => p.ing == 0xFF && p.part == q && p.reqId == rid && !d.begunOn p
  let gone := d.sw.voq.flatMap (fun v => v.2.filter mine) ++ d.sw.eng.flatMap (fun v => v.2.filter mine) ++
    (d.sw.unconf.map (fun c => c.pkt)).filter mine ++ d.sw.staging.flatMap (fun s => (s.2.map Staged.pkt).filter mine)
  gone.foldl (fun e p => e.endPacket p.id) d

/-- The hardware part of the reset of functions `ns`; `removed`: they end FREE. `reason` goes to their Tally rounds
(R373). -/
def Dev.fnQuiesceOne (d : Dev) (n : Nat) (removed : Bool) : Dev :=
  let f := d.trav.fn.rd n
  let keys := (List.range (d.fnQueues n)).map (d.qKey n)
  let pre := keys.flatMap (fun k => (d.queue k).prefetchReads)
  let d1 := (d.dropFnPackets n).prefetchDrop n pre
  let d2 := { d1 with trav.fn := d1.trav.fn.wr n { f with state := 2, gen := nextGen 4095 f.gen, removed := removed || f.removed, wanted := f.wanted && !removed } }
  let mine := d2.sw.tr.filter (fun e => e.2.state == 1 && e.2.engine && decide (e.2.tag < 4096) && (d2.trav.slot.rd e.2.tag).fn == n && (d2.trav.slot.rd e.2.tag).used && (d2.trav.slot.rd e.2.tag).gen == e.2.reqId)
  let d3 := mine.foldl (fun e x => { e.trRetire x.1 false with trav.slot := e.trav.slot.upd x.2.tag (fun s => { gen := s.gen + 1 }) }) d2
  let d4 := keys.foldl (fun e k => e.queueOff k) d3
  { d4 with pcie.msixPend := d4.pcie.msixPend.filter (fun e => e.1 / 4096 != fnKeyOf n) }

/-- A function that may still be in service: ENABLED. -/
def Dev.fnQuiesce (d : Dev) (ns : List Nat) (removed : Bool) (reason : Nat) : Dev :=
  let live := ns.filter d.fnOn
  let again := ns.filter (fun n => (d.trav.fn.rd n).state == 2)
  let d0 := if removed then { d with trav.fn := again.foldl (fun t n => t.upd n (fun f => { f with removed := true, wanted := false })) d.trav.fn } else d
  if live.isEmpty then d0
  else
    let d1 := d0.tallyMembers (fun n => live.contains n) reason
    live.foldl (fun e n => e.fnQuiesceOne n removed) d1

/-- The internal job that returns functions to service: one for all the functions of a cause (R374). -/
def Dev.resetJob (d : Dev) (live : List Nat) : Dev :=
  if live.isEmpty then d
  else
    let total := live.foldl (fun a n => a + d.fnQueues n) 0
    let (d2, k) := d.startInternal { op := 0x04, total := total, arg0 := live.headD 0, staged := live.foldl (fun t n => t.ins n 1) [] }
    { d2 with trav.fn := live.foldl (fun t n => t.upd n (fun f => { f with job := k + 1 })) d2.trav.fn }

/-- The quiesce of functions, and their job. -/
def Dev.fnReset (d : Dev) (ns : List Nat) (removed : Bool) (reason : Nat) : Dev :=
  (d.fnQuiesce ns removed reason).resetJob (ns.filter d.fnOn)

/-- VFs of a partition. -/
def Dev.vfsOf (d : Dev) (q : Nat) : List Nat := (List.range (d.totalVfs q)).map (d.vfBase q + ·)

/-- The functions that a reset of partition `q`'s parent takes: its VFs, and in partition 0 the PF. -/
def Dev.parentFns (d : Dev) (q : Nat) : List Nat := (if q = 0 then [0] else []) ++ d.vfsOf q

/-- Their quiesce: the VFs are removed (R357, R373). -/
def Dev.parentQuiesce (d : Dev) (q reason : Nat) : Dev :=
  let d1 := d.fnQuiesce (d.vfsOf q) true reason
  if q = 0 then d1.fnQuiesce [0] false reason else d1

/-- Reset of a parent: the PF in partition 0, the view PF elsewhere, whose configuration goes back at once. -/
def Dev.svcReset (d : Dev) (q reason : Nat) : Dev :=
  let live := (d.parentFns q).filter d.fnOn
  let d1 := (d.parentQuiesce q reason).resetJob live
  if q = 0 then d1 else { d1 with pcie.cfg := d1.pcie.cfg.filter (fun x => x.1 / 1024 != fnView q) }

/-- The commit of a reset job: reset values, then ENABLED, or FREE for a removed function (R374). -/
def Dev.fnResetCommit (d : Dev) (ns : List Nat) : Dev :=
  ns.foldl (fun e n =>
    let fn := fnKeyOf n
    let f := e.trav.fn.rd n
    { e with
      trav.fn := e.trav.fn.wr n { f with state := if f.removed then 0 else 1, removed := false, job := 0 }
      trav.q := (List.range (e.fnQueues n)).foldl (fun t k => t.upd (e.qKey n k) (fun q => { Queue.blank with begun := q.begun })) e.trav.q
      pcie.cfg := e.pcie.cfg.filter (fun x => x.1 / 1024 != fn)
      pcie.msixTab := e.pcie.msixTab.filter (fun x => x.1 / 16384 != fn) }) d

/-- VF Enable takes effect on the tick: FREE slots that are wanted become ENABLED (R356). -/
def Dev.fnBoundary (d : Dev) : Dev :=
  { d with trav.fn := d.trav.fn.mapAll (fun _ f => if f.wanted && f.state == 0 then { f with state := 1, wanted := false } else f) }

/-- VF Enable written with NumVFs `k` (R355, R356): 1 asks for VFs 1 to k, 0 removes every VF. -/
def Dev.vfEnable (d : Dev) (q k : Nat) (en : Bool) : Dev :=
  let par := parentKey q
  let w := d.pcie.cfg.rd (cfgKey par 92)
  let put := fun (x : Dev) (v : Nat) => { x with pcie.cfg := x.pcie.cfg.wr (cfgKey par 92) v }
  if en then
    if bitAt w 0 then d
    else if d.totalVfs q < k then d.log 0x363 2 { part := q, inst := q, detail := [k, d.totalVfs q] }
    else
      let d1 := put d (setBit w 0)
      { d1 with trav.fn := (List.range k).foldl (fun t i => t.upd (d.vfBase q + i) (fun f => { f with wanted := true })) d1.trav.fn }
  else if !bitAt w 0 then d
  else
    let d1 := put d (clrBit w 0)
    ({ d1 with trav.fn := (d.vfsOf q).foldl (fun t n => t.upd n (fun f => { f with wanted := false })) d1.trav.fn }).fnReset (d.vfsOf q) true 0x0B

/-! ### Function BARs (R330, R358, Tables 11.4 to 11.6) -/

/-- Read a dword of BAR pair `bar` of function `n`. -/
def Dev.svcRead (d : Dev) (n bar off : Nat) : Nat :=
  let fn := fnKeyOf n
  if bar = 0 then
    if off < 0x1000 then
      (if off = 0 then pack [(16, (d.trav.fn.rd n).gen), (0, n)] else if off = 4 then d.fnQueues n % 4096
       else if off = 8 then pack ((List.range (min 32 (d.fnQueues n))).map (fun k => (k, b2n ((d.queue (d.qKey n k)).state == 4)))) else 0)
    else
      let k := off / 0x1000 - 1
      let q := d.queue (d.qKey n k)
      if d.fnQueues n ≤ k then 0
      else match off % 0x1000 with
        | 0x00 => fld q.sqSh 0 32 | 0x04 => fld q.sqSh 32 32 | 0x08 => fld q.cqSh 0 32 | 0x0C => fld q.cqSh 32 32
        | 0x10 => q.szSh
        | 0x14 => pack [(31, b2n (q.state != 0 && q.state != 5)), (8, q.weight)]
        | 0x18 => pack [(28, q.state), (16, q.code), (0, q.sqHead)]
        | _ => 0
  else if bar = 1 then
    (if off < 0x8000 then (if off / 16 < d.fnQueues n then d.msixWord fn (off / 16) (off / 4 % 4) else 0)
     else pack ((List.range 32).map (fun i => (i, b2n (d.pcie.msixPend.rd (msixKey fn ((off - 0x8000) / 4 * 32 + i)))))))
  else 0

/-- Write a dword of BAR pair 0 or 1 of function `n`. -/
def Dev.svcWrite (d : Dev) (n bar off v : Nat) : Dev :=
  let fn := fnKeyOf n
  if bar = 0 then
    if off < 0x1000 then d
    else
      let k := off / 0x1000 - 1
      let key := d.qKey n k
      if d.fnQueues n ≤ k then d
      else match off % 0x1000 with
        | 0x00 => d.setQ key (fun q => { q with sqSh := setHalf q.sqSh false v })
        | 0x04 => d.setQ key (fun q => { q with sqSh := setHalf q.sqSh true v })
        | 0x08 => d.setQ key (fun q => { q with cqSh := setHalf q.cqSh false v })
        | 0x0C => d.setQ key (fun q => { q with cqSh := setHalf q.cqSh true v })
        | 0x10 => d.setQ key (fun q => { q with szSh := Nat.land v 0x000F000F })
        | 0x14 =>
          let d1 := d.setQ key (fun q => { q with weight := if fld v 8 4 = 0 then 1 else fld v 8 4 })
          let d2 := if bitAt v 31 then d1.queueEnable n k else d1.queueDisable n k
          if bitAt v 30 then d2.queueResume n k else d2
        | 0x20 => d.sqTail n k (v % 65536)
        | 0x24 => d.cqHead n k (v % 65536)
        | _ => d
  else if bar = 1 ∧ off < 0x8000 ∧ off / 16 < d.fnQueues n then
    let w := off / 4 % 4
    { d with pcie.msixTab := d.pcie.msixTab.wrD (4 * msixKey fn (off / 16) + w) (if w = 3 then v % 2 else if w = 0 then v / 4 * 4 else v) (if w = 3 then 1 else 0) }
  else d

/-- An access of R8 to a function's registers: a dword, or the aligned 64 bits of a ring address or of the MSI-X table and
PBA, with every byte enable. -/
def svcRegular (bar off : Nat) (t : Tlp) : Bool :=
  t.fullBe && (t.lenDw == 1 || (t.lenDw == 2 && off % 8 == 0 && (bar == 1 || (decide (0x1000 ≤ off) && decide (off % 0x1000 < 0x10)))))

/-- A memory request reaches function `n` at BAR pair `bar` (R330, R331, R358): the aperture takes contributions, and reads
as zeros; any access to the registers that R8 does not accept has no effect and is recorded. -/
def Dev.svcAccess (d : Dev) (n bar off : Nat) (t : Tlp) : Dev × List Nat :=
  let bad := fun (e : Dev) => e.log 0x048 2 { part := d.fnPart n, inst := n }
  if t.kind = .memWrite then
    if bar = 2 then (d.tallyWrite n (off / 2 ^ 22) (off % 2 ^ 22) t.data t.fullBe t.ep, [])
    else if t.ep then (d, [])
    else if svcRegular bar off t then
      ((List.range (t.data.length / 4)).foldl (fun e i => e.svcWrite n bar (off + 4 * i) (leAt t.data (4 * i) 4)) d, [])
    else (bad d, [])
  else if bar = 2 then (d, List.replicate (4 * t.lenDw) 0)
  else if svcRegular bar off t then (d, (List.range t.lenDw).flatMap (fun i => toLe 4 (d.svcRead n bar (off + 4 * i))))
  else (bad d, List.replicate (4 * t.lenDw) 0)

end Sys2Proof.Machine
end

