-- ==== Sys2Proof/Machine/PcieOps.lean ====
section
/-! DEFINITION. The PCI Express commands: configuration requests, resets of partitions, links going down and up, hot-plug,
DPC, shared ports and their staged groups, physical configuration access, precision time and error messages (R208 to
R245, R373, R519). -/

namespace Sys2Proof.Machine

/-! ### Hot-plug events of a view (R231 to R233) -/

/-- Presence of a view changes (R231, R233). -/
def Dev.viewPresence (d : Dev) (fn : Nat) (v : Bool) : Dev :=
  if d.pcie.viewPresent.rd fn = v then d else ({ d with pcie.viewPresent := d.pcie.viewPresent.wr fn v }).slotEvent fn 19

/-! ### Links -/

/-- The Haldion takes H port `p`'s link to a commanded state: 0 Disabled, 1 Detect, 2 Hot Reset, 3 Recovery, 4 electrical
idle. A port that ADMIN_DOWN or DPC holds stays Disabled. -/
def Dev.commandLink (d : Dev) (p cmd : Nat) : Dev :=
  let s := d.pport p
  if (s.adminDown || s.dpcTriggered) && cmd != 0 then d
  else
    let d1 := if cmd = 3 then (if s.dlActive then d.setPport p (fun s => { s with ltssm := 0x0C }) else d)
      else (d.setPport p (fun s => { s with commanded := true, ltssm := if cmd = 0 then 0x16 else if cmd = 2 then 0x1A else 0 })).linkFall p
    d1.emit (.linkCmd p cmd)

/-! ### Fundamental reset of a partition (R210, R211) -/

/-- Function keys of the configuration spaces that partition `q` owns: bridges, endpoint and view. -/
def ownedKey (q fn : Nat) : Bool :=
  fn == fnUp q || fn == fnMgmt q || fn == fnEngine q || fn == fnView q || (q == 0 && fn == fnPf) || (fnKind fn == .down && fnPartition fn == q)

/-- Return the configuration spaces that `hit` names to reset values. -/
def Dev.clearCfg (d : Dev) (hit : Nat → Bool) : Dev :=
  { d with
    pcie.cfg := d.pcie.cfg.filter (fun x => !hit (x.1 / 1024))
    pcie.aer := d.pcie.aer.filter (fun x => !hit x.1)
    pcie.bmeDrain := d.pcie.bmeDrain.filter (fun x => !hit x.1)
    pcie.msixTab := d.pcie.msixTab.filter (fun x => !hit (x.1 / 16384))
    pcie.msixPend := d.pcie.msixPend.filter (fun x => !hit (x.1 / 4096)) }

/-- The functions of shared port `p` assigned to partition `q`. -/
def Dev.assigned (d : Dev) (p q : Nat) : List Nat :=
  ((d.pport p).share.asg.filter (fun e => e.2.valid && e.2.partition == q)).map Prod.fst

/-- A Function Level Reset of every function of a shared port that is assigned to a partition (R210, R214). -/
def Dev.flrAssigned (d : Dev) (p q : Nat) : Dev := (d.assigned p q).foldl (fun e f => e.emit (.flr p f)) d

/-- Downstream ports of partition `q`. -/
def Dev.downPorts (d : Dev) (q : Nat) : List Nat := (List.range d.ports).filter (fun p => bitAt (d.run.part.rd q).down p)

/-- Everything below the upstream bridge resets (R210 steps 3, 4 and 6). -/
def Dev.resetBelow (d : Dev) (q : Nat) : Dev :=
  ((d.downPorts q).foldl (fun e p => if e.isShared p then e.flrAssigned p q else e.commandLink p 2) d).svcReset q 0x0B

/-- A fundamental reset of partition `q` for cause bit `cause`: 0 PERST_N, 1 Hot Reset, 2 DL_Down (R210). -/
def Dev.partResetBegin (d : Dev) (q cause : Nat) : Dev :=
  let up := (d.run.part.rd q).upstream
  let first := d.pcie.partReset.rd q == 0
  let d1 := { d with pcie.partReset := d.pcie.partReset.upd q (fun v => setBit v cause) }
  if !first then d1
  else
    let d2 := (if (d1.pport up).dlActive then d1.commandLink up 1 else d1).resetBelow q
    let d3 := (d2.clearCfg (ownedKey q))
    let open_ := d3.sw.tr.filter (fun e => e.2.state == 1 && e.2.part == q)
    let d4 := open_.foldl (fun e x => e.trRetire x.1 false) d3
    let d5 := ((d4.downPorts q).filter (fun p => !d4.isShared p)).foldl (fun e p =>
      let held := e.coveredPort p
      e.setPport p (fun s => { s with dpcTriggered := false, dpcReason := 0, dpcSource := 0, fenced := held })) d4
    { d5 with
      pcie.capBus := d5.pcie.capBus.del q
      pcie.cfgOpen := d5.pcie.cfgOpen.filter (fun c => c.partition != q)
      pcie.upOpen := d5.pcie.upOpen.filter (fun o => o.partition != q)
      pcie.ptmUp := d5.pcie.ptmUp.del q
      pcie.ptmWait := d5.pcie.ptmWait.filter (fun w => w.partition != q)
      pcie.pmeAck := d5.pcie.pmeAck.del q }

/-- A cause of the reset ends; with the last one the links of the partition train (R210). -/
def Dev.partResetEnd (d : Dev) (q cause : Nat) : Dev :=
  if !bitAt (d.pcie.partReset.rd q) cause then d
  else
    let d1 := { d with pcie.partReset := d.pcie.partReset.upd q (fun v => clrBit v cause) }
    if d1.pcie.partReset.rd q = 0 then
      ((d1.downPorts q).filter (fun p => !d1.isShared p)).foldl (fun e p => e.commandLink p 1) (d1.commandLink (d1.run.part.rd q).upstream 1)
    else d1

/-- HOT_RESET on the upstream port of a partition. -/
def Dev.hotReset (d : Dev) (p : Nat) : Dev :=
  match d.upstreamOf p with
  | some q => if d.isH p && (d.pport p).dlActive then d.partResetBegin q 1 else d
  | none => d

/-- DL_DOWN (R210, R232): an upstream port resets its partition; a downstream port reports Surprise Down, and triggers DPC
when enabled, unless the link went down on command. -/
def Dev.dlDown (d : Dev) (p : Nat) : Dev :=
  if !(d.takesTlps p) then d
  else
    let d1 := (d.linkFall p).setPport p (fun s => { s with commanded := false })
    if d.isBoot p then { (d1.clearCfg (fun fn => fn == fnMgmt 0)) with pcie.capBus := d1.pcie.capBus.del 0 }
    else match d.upstreamOf p with
      | some q => d1.partResetBegin q 2
      | none =>
        let d3 := d1.dropStaging p
        if (d.pport p).commanded then d3 else d3.linkError p true 5

/-- Credits that an H port advertises at a type's per-lane amount, capped by its scale (R252, Table 8.1). -/
def fcAmount (lanes perLane cap : Nat) (scaled : Bool) : Nat :=
  let n := lanes * perLane
  if scaled then min n (cap * (if lanes ≤ 2 then 4 else 16)) else min n cap

/-- The six amounts: posted, non-posted and completion headers and data. -/
def fcAmounts (lanes : Nat) (scaled : Bool) : List Nat :=
  [fcAmount lanes 96 127 scaled, fcAmount lanes 2048 2047 scaled, fcAmount lanes 96 127 scaled, fcAmount lanes 96 2047 scaled,
   fcAmount lanes 192 127 scaled, fcAmount lanes 3072 2047 scaled]

/-! ### Presence (R231) -/

/-- The views that show the presence of port `p`'s partner: on a shared port those with a function assigned (R233). -/
def Dev.presenceViews (d : Dev) (p : Nat) : List Nat :=
  (d.sharers p).filter (fun q => !d.isShared p || !(d.assigned p q).isEmpty)

/-- A port's link may train: neither ADMIN_DOWN, HOLD_DOWN, a fence nor DPC keeps it down. -/
def PciePort.mayTrain (s : PciePort) : Bool := !s.adminDown && !s.holdDown && !s.fenced && !s.dpcTriggered

/-- Receiver detection finds a partner: the link goes on to Polling (R244), and a downstream port shows it (R231). -/
def Dev.receiverDetection (d : Dev) (p : Nat) : Dev :=
  let d0 := if d.isH p && !(d.pport p).dlActive && (d.pport p).mayTrain then d.setPport p (fun s => { s with ltssm := 0x02 }) else d
  if !d.isH p || (d.upstreamOf p).isSome || (d.pport p).present then d0
  else
    let d1 := (d0.setPport p (fun s => { s with present := true })).fire (srcPort p 5)
    (d1.presenceViews p).foldl (fun e q => e.viewPresence (fnDown q p) true) d1

/-- A link down with no partner detected for 20 ms (R231). -/
def Dev.presenceLost (d : Dev) (p : Nat) : Dev :=
  if !d.isH p || (d.upstreamOf p).isSome || (d.pport p).dlActive || !(d.pport p).present then d
  else
    let d1 := (d.setPport p (fun s => { s with present := false, ltssm := if s.mayTrain then 0 else s.ltssm })).fire (srcPort p 5)
    (d1.sharers p).foldl (fun e q => e.viewPresence (fnDown q p) false) d1

/-- The largest rate code at which H port `p` may run: RATE_MAX of its tile, and Target Link Speed of the view whose writes act
on the link; a value of 0 there bounds nothing (R202, R214). -/
def Dev.rateLimit (d : Dev) (p : Nat) : Nat :=
  let max := (d.run.tile.rd (portTile p)).rateMax
  let target := fun (fn : Nat) => d.cfgStored fn 36 % 16
  let bound := fun (t : Nat) => if t = 0 then max else min max (t - 1)
  match d.upstreamOf p with
  | some q => bound (target (fnUp q))
  | none => match d.sharers p with
    | [q] => bound (target (fnDown q p))
    | _ => max

/-- DL_ACTIVE: the link of an H port is up at a rate and width (R244, R252, R519). A link that was active is back in L0. -/
def Dev.dlActive (d : Dev) (p rate width retimers : Nat) (flit scaled : Bool) : Dev :=
  let pp := d.pport p
  let cut := if d.isBoot p then 16 else d.cutWidth p
  let limit := if d.isBoot p then 5 else d.rateLimit p
  let reset := match d.upstreamOf p with
    | some q => bitAt (d.pcie.partReset.rd q) 0
    | none => !d.isShared p && (d.sharers p).any (fun q => d.pcie.partReset.rd q != 0)
  if !((d.isH p && d.inRunOrTest) || d.isBoot p) || pp.adminDown || pp.fenced || pp.dpcTriggered || reset || decide (cut < width) || decide (limit < rate) || width == 0 then d
  else if pp.dlActive then (if pp.ltssm = 0x0B then d else d.setPport p (fun s => { s with ltssm := 0x0B, rate := rate, width := width }))
  else if pp.holdDown then d
  else
    let d1 := (d.receiverDetection p).setPport p (fun s => { s with dlActive := true, ltssm := 0x0B, rate := rate, width := width, retimers := retimers, flit := flit, commanded := false, present := true })
    let d2 := (d1.emit (.fc p 3 0 0 (fcAmounts cut scaled))).fire (srcPort p 0)
    match d2.upstreamOf p with
    | some q => (d2.partResetEnd q 1).partResetEnd q 2
    | none => (d2.sharers p).foldl (fun e q => (e.slotEvent (fnDown q p) 24).dpcCor (fnDown q p) 23) d2

/-! ### Downstream port containment (R226 to R228) -/

/-- The software trigger in the physical copy of port `p` (R226, R228): the reason is 3. -/
def Dev.dpcSw (d : Dev) (p : Nat) : Dev :=
  if d.isH p && (d.upstreamOf p).isNone then d.withDpc (fun d => d.dpcTrigger p 3 0) else d

/-- Clear Trigger Status: the link retrains from Disabled, unless an isolated domain fences it (R227, R228, R414). -/
def Dev.dpcClear (d : Dev) (p : Nat) : Dev :=
  if (d.pport p).dpcTriggered then
    let held := d.coveredPort p
    let d1 := d.setPport p (fun s => { s with dpcTriggered := false, dpcReason := 0, dpcSource := 0, fenced := held })
    if held || (d1.pport p).adminDown then d1 else d1.commandLink p 1
  else d

/-! ### ADMIN_DOWN and HOLD_DOWN (R243, R244) -/

/-- PCIE_CTRL.ADMIN_DOWN. -/
def Dev.pcieAdmin (d : Dev) (p : Nat) (v : Bool) : Dev :=
  if (d.pport p).adminDown = v then d
  else
    let d1 := d.setPport p (fun s => { s with adminDown := v })
    if v then d1.commandLink p 0 else if (d1.pport p).dpcTriggered then d1 else d1.commandLink p 1

/-- PCIE_CTRL.HOLD_DOWN: the link stays down after it falls, and trains again when the bit clears. -/
def Dev.pcieHold (d : Dev) (p : Nat) (v : Bool) : Dev :=
  let old := (d.pport p).holdDown
  let d1 := d.setPport p (fun s => { s with holdDown := v })
  if old && !v && !(d.pport p).dlActive && !(d.pport p).adminDown && !(d.pport p).dpcTriggered then d1.commandLink p 1 else d1

/-- AER_HDR_LOG word `i` of the physical copy; word 13 advances the queue (R243). -/
def Dev.aerHdr (d : Dev) (p i : Nat) : Dev × Nat :=
  let hs := (d.pport p).aer.hdrs
  let v := match hs with
    | h :: _ => h.2.getD i 0
    | [] => 0
  (if i = 13 then d.setPport p (fun s => { s with aer := { s.aer with hdrs := hs.drop 1 } }) else d, v)

/-! ### BME_DRAIN (R230) -/

/-- A request admitted through bridge `fn`, among the packets numbered below `limit`, is still inside the Haldion. -/
def Dev.inside (d : Dev) (fn limit : Nat) : Bool :=
  let is := fun (p : Pkt) => decide (p.id < limit) && p.bridges.contains fn
  d.sw.voq.any (fun v => v.2.any is) || d.sw.eng.any (fun v => v.2.any is) || d.sw.staging.any (fun v => v.2.any (fun s => is s.pkt)) ||
    d.sw.unconf.any (fun c => is c.pkt) || d.sw.hubIn.any is

/-- BME_DRAIN_CLEAR of every bridge whose last request admitted before the change has left. -/
def Dev.bmeDrainClear (d : Dev) : Dev :=
  { d with pcie.bmeDrain := d.pcie.bmeDrain.filter (fun e => d.inside e.1 (e.2 - 1)) }

/-- BME of a bridge goes to 0: the bit sets while a request admitted through it is inside. -/
def Dev.bmeDrainSet (d : Dev) (fn : Nat) : Dev :=
  if d.inside fn d.sw.nextPkt then { d with pcie.bmeDrain := d.pcie.bmeDrain.wr fn (d.sw.nextPkt + 1) } else d

/-! ### Shared port groups (R239, R240, R245, Table 7.10) -/

/-- Partitions with a valid entry in a set of assignments. -/
def asgCode (sharers : List Nat) (t : Tab ShareAsg) : Nat × Nat :=
  let vs := t.filter (fun e => e.2.valid)
  match vs.find? (fun e => !sharers.contains e.2.partition) with
  | some e => (2, e.1)
  | none =>
    match vs.find? (fun e => vs.any (fun f => f.1 < e.1 && f.2.partition == e.2.partition && f.2.vfn == e.2.vfn)) with
    | some e => (5, e.1)
    | none => match vs.find? (fun e => !vs.any (fun f => f.2.partition == e.2.partition && f.2.vfn == 0)) with
      | some e => (6, e.1)
      | none => (0, 0)

/-- The windows of a port: code and first failing partition. -/
def winCode (sharers : List Nat) (t : Tab ShareWin) : Nat × Nat :=
  let ws := t.filter (fun e => e.2.size != 0)
  match ws.find? (fun e => !sharers.contains e.1) with
  | some e => (2, e.1)
  | none =>
    match ws.find? (fun e => decide (2 ^ 32 < e.2.baseHi + e.2.size) || e.2.baseHi == 0) with
    | some e => (3, e.1)
    | none => match ws.find? (fun e => ws.any (fun f => f.1 < e.1 && decide (f.2.baseHi < e.2.baseHi + e.2.size) && decide (e.2.baseHi < f.2.baseHi + f.2.size))) with
      | some e => (4, e.1)
      | none => (0, 0)

/-- Address of a register of H port `p` (R243). -/
def pcieAddr (p off : Nat) : Nat := 0x100000 + 0x100000 * portTile p + 0xC000 + 0x800 * portSlot p + off

/-- SHARE_ASSIGN_COMMIT (R245). -/
def Dev.asgCommit (d : Dev) (cp : CmdPort) (p : Nat) : Dev :=
  let s := (d.pport p).share
  let (code, det) := if s.asgSh = s.asgPend.getD s.asg then (0, 0) else if s.asgPort.isSome && s.asgPort != some cp.key then (0xF0, 0) else if d.barLocked (pcieAddr p 0x400) 0x400 then (0xF1, 0)
    else if !d.isShared p then (1, 0) else asgCode (d.sharers p) s.asgSh
  let put := fun (x : Dev) (f : ShareSt → ShareSt) => x.setPport p (fun y => { y with share := f y.share })
  if code = 0 then
    (put d (fun s => { s with asgCode := 0, asgPend := some s.asgSh })).queueCommit (.shareAsg p)
  else put d (fun s => { s with asgCode := code, detail := det })

/-- SHARE_WINDOWS_COMMIT (R245). -/
def Dev.winCommit (d : Dev) (cp : CmdPort) (p : Nat) : Dev :=
  let s := (d.pport p).share
  let (code, det) := if s.winSh = s.winPend.getD s.win then (0, 0) else if s.winPort.isSome && s.winPort != some cp.key then (0xF0, 0) else if d.barLocked (pcieAddr p 0x200) 0x180 then (0xF1, 0)
    else if !d.isShared p then (1, 0) else winCode (d.sharers p) s.winSh
  let put := fun (x : Dev) (f : ShareSt → ShareSt) => x.setPport p (fun y => { y with share := f y.share })
  if code = 0 then
    (put d (fun s => { s with winCode := 0, winPend := some s.winSh })).queueCommit (.shareWin p)
  else put d (fun s => { s with winCode := code, detail := det })

/-- Accepted windows take effect. -/
def Dev.winEffect (d : Dev) (p : Nat) : Dev :=
  d.setPport p (fun y => { y with share := { y.share with win := y.share.winPend.getD y.share.win, winPend := none } })

/-- Accepted assignments take effect, and every sharing view sees them as hot-plug events (R233). -/
def Dev.asgEffect (d : Dev) (p : Nat) : Dev :=
  let old := (d.pport p).share.asg
  let new := (d.pport p).share.asgPend.getD old
  let mapOf := fun (t : Tab ShareAsg) (q : Nat) => (t.filter (fun (e : Nat × ShareAsg) => e.2.valid && e.2.partition == q)).map (fun (e : Nat × ShareAsg) => (e.1, e.2.vfn))
  let d1 := d.setPport p (fun y => { y with share := { y.share with asg := new, asgPend := none } })
  (d.sharers p).foldl (fun e q =>
    let fn := fnDown q p
    if mapOf old q = mapOf new q then e
    else if (mapOf old q).isEmpty then e.viewPresence fn true
    else if (mapOf new q).isEmpty then e.viewPresence fn false
    else e.slotEvent fn 24) d1

/-- The Routing-ID entries of shared port `p` in a table of them. -/
def Dev.ridOfPort (d : Dev) (t : Tab Nat) (p : Nat) : Tab Nat :=
  let base := 0xB800 + 256 * p
  let clean : Tab Nat := t.filter (fun (e : Nat × Nat) => decide (e.1 < base) || decide (base + 256 ≤ e.1))
  (d.pport p).share.asg.foldl (fun (u : Tab Nat) (e : Nat × ShareAsg) =>
    if e.2.valid then u.ins (base + e.1) (pack [(31, 1), (16, e.2.partition), (8, d.secBus (fnDown e.2.partition p)), (0, e.2.vfn)])
    else u) clean

/-- The Routing-ID entries of shared ports follow assignments and bus numbers, at a boundary (R314). -/
def Dev.ridRefresh (d : Dev) : Dev :=
  let ports := (List.range d.ports).filter d.isShared
  let rid := ports.foldl d.ridOfPort d.fab.rid
  { d with fab.rid := rid }

/-! ### PCFG (R238) -/

/-- PCFG_ACCESS: GO written to PCFG_ADDR. -/
def Dev.pcfgGo (d : Dev) (cp : CmdPort) (p v : Nat) : Dev :=
  if !d.isShared p then d.dropped cp (pcieAddr p 0x1F0) v 2
  else
    let s := d.pport p
    let w := bitAt v 30
    let bus := s.share.pbus.getD p
    let t : Tlp := { kind := if w then .cfgWrite else .cfgRead, reqId := 0xFFFF, tag := 0x3FFF, target := 256 * bus + fld v 16 8, reg := fld v 2 10, data := if w then toLe 4 s.pcfg.data else [] }
    let key := barKey p (fld v 16 8) (fld v 2 10)
    let d1 := if w then { d with pcie.barSizing := d.pcie.barSizing.wr key (s.pcfg.data == 0xFFFFFFFF) } else d
    (d1.setPport p (fun y => { y with pcfg := { busy := true, write := w, func := fld v 16 8, reg := fld v 2 10, data := y.pcfg.data } })).sendTlp p t

/-- PCFG_COMPLETE: the completion's status and, for a read, its data, from which the Haldion knows the function's BARs (R235). -/
def Dev.pcfgDone (d : Dev) (p status data : Nat) : Dev :=
  let s := (d.pport p).pcfg
  if s.busy then
    let d1 := if !s.write && status == 0 then d.learnBar p s.func s.reg (data % 2 ^ 32) else d
    d1.setPport p (fun y => { y with pcfg := { s with busy := false, done := true, timeout := false, status := status % 8, data := if !s.write && status == 0 then data % 2 ^ 32 else s.data } })
  else d

/-- PCFG_TIMEOUT. -/
def Dev.pcfgExpire (d : Dev) (p : Nat) : Dev :=
  let s := (d.pport p).pcfg
  if s.busy then d.setPport p (fun y => { y with pcfg := { s with busy := false, done := true, timeout := true } }) else d

/-! ### Configuration requests (R209, R214, R235, R355, R373) -/

/-- A margining command written in dword `w` of the view of port `p` (R214): on a shared port it ends with the error response; a
port's own view acts on the lane. -/
def Dev.cfgMargin (d : Dev) (p w cmd : Nat) : Dev :=
  let n := 2 * portSlot p + (w - 142)
  if d.isShared p then d.setLane (portTile p) n (fun (l : Lane) => { l with pcieMargin := pack [(0, cmd % 64), (8, 0xC0)] })
  else d.laneMargin (portTile p) n p cmd

/-- Messages that a configuration write of dword `w` lets out: MSI Enable, the mask, and Bus Master Enable, which for an upstream
bridge holds back those of every bridge of its partition. -/
def Dev.msiAfter (d : Dev) (fn w : Nat) : Dev :=
  if !(fnKind fn).isBridge || !(w == 1 || w == 18 || w == 22) then d
  else if fnKind fn = .up ∧ w = 1 then
    let q := fnPartition fn
    ((d.downPorts q).map (fnDown q) ++ [fnUp q, fnEngine q]).foldl Dev.msiRetry d
  else d.msiRetry fn

/-- PM state D3hot takes the link to L1, and D0 back (Table 7.1). -/
def Dev.pmState (d : Dev) (p : Nat) (d3 : Bool) : Dev :=
  if (d.pport p).dlActive then d.setPport p (fun s => { s with ltssm := if d3 then 0x15 else 0x0B }) else d

/-- Side effects of a configuration write that changed a function's dword from `old` to `new`; `ones` are the bits
written 1. -/
def Dev.cfgEffect (d : Dev) (fn w old new ones : Nat) : Dev :=
  let k := fnKind fn
  let q := d.keyPart fn
  let p := d.bridgePort fn
  let owns := k == .up || (k == .down && !d.isShared p)
  let fell := fun (b : Nat) => bitAt old b && !bitAt new b
  let rose := fun (b : Nat) => !bitAt old b && bitAt new b
  if w = 1 ∧ fell 2 = true then
    if k.isBridge ∧ k ≠ .engine then d.bmeDrainSet fn
    else if k = .engine then (d.bmeDrainSet fn).bmeOff (fun n => d.fnPart n == q)
    else if k.isSvc then d.bmeOff (fun n => fnKeyOf n == fn)
    else d
  else if w = 26 ∧ bitAt ones 15 = true ∧ k.isSvc then
    (if k = .svcVf then d.fnReset [fn - 1024] false 0x0B else d.svcReset q 0x0B)
  else if w = 92 ∧ (k = .svcPf ∨ k = .svcView) then d.vfEnable q (fld (d.cfgStored fn 94) 0 16) (bitAt ones 0)
  else if w = 15 ∧ rose 22 = true then
    if k = .up then (d.resetBelow q).clearCfg (fun x => x != fnUp q && x != fnMgmt q && ownedKey q x)
    else if k = .engine then d.svcReset q 0x0B
    else if k = .down then (if d.isShared p then d.flrAssigned p q else d.commandLink p 2)
    else d
  else if w = 15 ∧ fell 22 = true ∧ k = .down ∧ owns then d.commandLink p 1
  else if w = 28 ∧ owns then
    let d1 := if rose 4 then d.commandLink p 0 else if fell 4 then d.commandLink p 1 else d
    if bitAt ones 5 then d1.commandLink p 3 else d1
  else if w = 161 ∧ k = .down ∧ bitAt ones 22 = true ∧ owns ∧ fld new 16 2 ≠ 0 then d.dpcSw p
  else if w = 162 ∧ k = .down ∧ bitAt ones 0 = true ∧ owns then d.dpcClear p
  else if w = 17 ∧ k = .up ∧ old % 4 ≠ new % 4 then d.pmState p (new % 4 == 3)
  else if k.hasLink ∧ 142 ≤ w ∧ w - 142 < d.cutWidth p then d.cfgMargin p w (ones % 65536)
  else d

/-- A configuration write of dword `w` of a function's own space. -/
def Dev.cfgWrite (d : Dev) (fn w v be : Nat) : Dev :=
  let old := d.cfgRead fn w
  let ones := mergeBe 0 v be
  let keep := d.pcie.cfg.rd (cfgKey fn w)
  let d1 :=
    if w = 30 ∧ fnKind fn = .down then
      let st := Nat.land keep 0xFFFF0000
      let d1 := d.cfgStore fn w v be
      { d1 with pcie.cfg := d1.pcie.cfg.upd (cfgKey fn w) (fun x => Nat.lor (Nat.land x 0xFFFF) (rw1c st (Nat.land ones 0xFFFF0000))) }
    else if w = 92 ∧ (fnKind fn = .svcPf ∨ fnKind fn = .svcView) then
      let d1 := d.cfgStore fn w v be
      { d1 with pcie.cfg := d1.pcie.cfg.upd (cfgKey fn w) (fun x => if bitAt keep 0 then setBit x 0 else clrBit x 0) }
    else if w = 162 ∨ (w = 23 ∧ (fnKind fn).isBridge = true) then d
    else d.cfgStore fn w v be
  (d1.cfgEffect fn w old (d1.cfgRead fn w) ones).msiAfter fn w

/-- What a configuration target is. -/
inductive CfgTarget where
  | fn (key : Nat)
  /-- It exists and is not ready: Request Retry Status. -/
  | retry
  /-- Forwarded out of downstream port `p`; physical function when the port is shared. -/
  | port (p : Nat) (f : Option Nat)
  /-- It lies behind a port that DPC or a fence has stopped, which answers with a status. -/
  | stopped (status : Nat)
  | none
deriving DecidableEq, Repr, Inhabited

/-- A service function of partition `q` by its number below the engine bridge (R356, R374). -/
def Dev.svcTarget (d : Dev) (q rid : Nat) : CfgTarget :=
  if rid = 256 * d.secBus (fnEngine q) ∧ q ≠ 0 then .fn (fnView q)
  else match d.ridFn q rid with
    | some n =>
      let f := d.trav.fn.rd n
      if f.state = 1 then .fn (fnKeyOf n) else if f.state = 2 ∨ f.wanted then .retry else .none
    | Option.none => .none

/-- The target of a configuration request of partition `q` at `target` (bus, device, function) (R208, R235). -/
def Dev.cfgTarget (d : Dev) (q target : Nat) : CfgTarget :=
  let b := target / 256
  let devfn := target % 256
  if !d.busBelow (fnUp q) b then
    (if devfn = 0 then .fn (fnUp q) else if devfn = 1 ∧ d.mode.base ≠ .m6 ∧ (q = 0 ∧ d.endpointHeld = true → False) then .fn (fnMgmt q) else .none)
  else if b = d.secBus (fnUp q) then
    (match d.bridgeAt q (indexOfDevFn devfn) with
     | some k => .fn k
     | Option.none => .none)
  else if d.hasEngine q && d.busBelow (fnEngine q) b then d.svcTarget q target
  else match d.downByBus q b with
    | Option.none => .none
    | some p =>
      if (d.pport p).dpcTriggered then .stopped (d.dpcStatus q p)
      else if d.walled p then .stopped (d.wallStatus p)
      else if !(d.pport p).dlActive then .none
      else if d.isShared p then
        (if b = d.secBus (fnDown q p) then
          (match (d.pport p).share.asg.find? (fun e => e.2.valid && e.2.partition == q && e.2.vfn == devfn) with
           | some e => .port p (some e.1)
           | Option.none => .none)
         else .none)
      else .port p Option.none

/-- A write to a BAR's upper dword of a shared function carries OFFSET_HI (R235). -/
def Dev.shareBarWrite (d : Dev) (p q f : Nat) (t : Tlp) : Dev × Tlp :=
  let key := barKey p f t.reg
  if t.kind ≠ .cfgWrite then (d, t)
  else
    let (d1, upper) := d.isBarUpper p f t.reg
    let v := leAt t.data 0 4
    let d2 := { d1 with pcie.barSizing := d1.pcie.barSizing.wr key (v == 0xFFFFFFFF) }
    if upper && v != 0xFFFFFFFF then (d2, { t with data := toLe 4 ((v + ((d.pport p).share.win.rd q).offsetHi) % 2 ^ 32) }) else (d2, t)

/-- CONFIG_REQUEST: a configuration request of partition `q`'s host reaches its virtual switch. -/
def Dev.configRequest (d : Dev) (q : Nat) (t : Tlp) : Dev :=
  let boot := d.mode.base == .m1 || d.mode.base == .m2
  let p := if boot then 0 else (d.run.part.rd q).upstream
  let wr := t.kind == .cfgWrite
  let reply := fun (x : Dev) (st : Nat) (data : List Nat) =>
    (x.tlpDone p t).sendTlp p { kind := if data.isEmpty then .cpl else .cplData, tc := t.tc, reqId := t.reqId, tag := t.tag, cplId := t.target, status := st, byteCount := 4, data := data }
  if !d.takesTlps p || (boot && q != 0) then d
  else
    let tgt := if boot then (if t.target % 256 = 0 then CfgTarget.fn (fnMgmt 0) else .none) else d.cfgTarget q t.target
    match tgt with
    | .none => reply (if boot then d.aerView (fnMgmt 0) true 20 t.header true else d.tlpError p q 20 t true) 1 []
    | .stopped st => reply d st []
    | .retry => reply d 2 []
    | .fn fn =>
      let d0 := if wr && (boot || !d.busBelow (fnUp q) (t.target / 256)) then { d with pcie.capBus := d.pcie.capBus.wr q (t.target / 256) } else d
      if wr then reply (d0.cfgWrite fn t.reg (leAt t.data 0 4) t.firstBe) 0 []
      else reply d0 0 (toLe 4 (d0.cfgRead fn t.reg))
    | .port x none => if d.mode.base = .m10 then reply (d.tlpError p q 20 t true) 1 [] else d.takeIn p q x t t
    | .port x (some f) =>
      let (d1, t1) := d.shareBarWrite x q f t
      let bus := (d1.pport x).share.pbus.getD x
      let d2 := { d1 with pcie.cfgOpen := d1.pcie.cfgOpen ++ [({ partition := q, port := x, func := f, reg := t.reg, write := wr, reqId := t.reqId, tag := t.tag } : CfgOpen)] }
      d2.takeIn p q x t { t1 with target := 256 * bus + f } true

/-! ### Messages (R217, R225) -/

/-- PTM time in ns: TICK_NUMBER x period plus the time since the last boundary (R217). -/
def Dev.ptmTime (d : Dev) : Nat := (d.tick.number * d.period + (d.now - d.tick.last)) / 16 % 2 ^ 64

/-- Root Select of a partition's upstream bridge: bit 1 of PTM Control, dword 170. A function of no partition is served
from the Haldion's own time (notes/assumptions/58.md). Answers the partition whose upstream time serves the request. -/
def Dev.ptmRoot (d : Dev) (p : Nat) (t : Tlp) : Option Nat :=
  match d.tlpPartition p t.reqId with
  | some q => if bitAt (d.cfgStored (fnUp q) 170) 1 then none else some q
  | none => none

/-- PTM responses are given in these states alone (R217). -/
def Dev.ptmOk (d : Dev) : Bool := d.tick.state == .locked || d.tick.state == .source || d.tick.state == .holdover

/-- The response to a PTM request, with its time in ns. -/
def ptmResponse (reqId tag time : Nat) : Tlp := { kind := .msg, code := 0x53, route := 4, data := toLe 8 time, reqId := reqId, tag := tag }

/-- Upstream time now: what the upstream port served last, and the time that it has stayed here since (R217). -/
def Dev.ptmServed (d : Dev) (u : PtmUp) : Nat := (u.ns + (d.now - u.at_) / 16) % 2 ^ 64

/-- PTM_REQUEST: answered while the tick is LOCKED, SOURCE or HOLDOVER (R217). With Root Select 0 the Haldion serves the time of
its upstream port; while it has none it asks for it there, and the request waits. -/
def Dev.ptmRequest (d : Dev) (p : Nat) (t : Tlp) : Dev :=
  if d.isH p && (d.pport p).dlActive && d.ptmOk then
    let d0 := d.tlpDone p t
    match d.ptmRoot p t with
    | none => d0.sendTlp p (ptmResponse t.reqId t.tag d.ptmTime)
    | some q =>
      let u := d.pcie.ptmUp.rd q
      if u.known then d0.sendTlp p (ptmResponse t.reqId t.tag (d.ptmServed u))
      else
        let ask : PtmAsk := { partition := q, port := p, reqId := t.reqId, tag := t.tag }
        ({ d0 with pcie.ptmWait := d0.pcie.ptmWait ++ [ask] }).sendTlp (d.run.part.rd q).upstream { kind := .msg, code := 0x52, route := 4, reqId := d.upBridgeId q }
  else if d.takesTlps p then d.tlpDone p t else d

/-- A PTM response arrives on the upstream port of partition `q`: the requests that waited for its time are answered. -/
def Dev.ptmAnswer (d : Dev) (p q : Nat) (t : Tlp) : Dev :=
  let ns := leAt t.data 0 8
  let mine := d.pcie.ptmWait.filter (fun w => w.partition == q)
  let d1 := { (d.tlpDone p t) with pcie.ptmUp := d.pcie.ptmUp.wr q { known := true, ns := ns, at_ := d.now }, pcie.ptmWait := d.pcie.ptmWait.filter (fun w => w.partition != q) }
  if d.ptmOk then mine.foldl (fun e w => e.sendTlp w.port (ptmResponse w.reqId w.tag ns)) d1 else d1

/-- The reporting of a message upstream under a downstream view: SERR# Enable of Bridge Control, or of the
Command register for a forwarded error. -/
def Dev.errForward (d : Dev) (fn : Nat) : Bool := bitAt (d.cfgStored fn 15) 17

/-- ERROR_MESSAGE from the endpoint of a downstream port (R225): upstream under the view's controls; on a shared port to
the partition of its requester ID, else to every sharing partition. -/
def Dev.errorMessage (d : Dev) (p : Nat) (t : Tlp) : Dev :=
  if !d.isH p || !(d.pport p).dlActive || (d.upstreamOf p).isSome then d
  else
    let d0 := d.tlpDone p t
    let give := fun (x : Dev) (q rid : Nat) => if x.errForward (fnDown q p) then x.emit (.hostMsg q t.code rid) else x
    let d1 := if d.isShared p then
        let a := (d.pport p).share.asg.rd (t.reqId % 256)
        if a.valid then give d0 a.partition (d.shareRid p (t.reqId % 256) % 65536) else (d.sharers p).foldl (fun e q => give e q t.reqId) d0
      else (d.sharers p).foldl (fun e q => give e q t.reqId) d0
    let on := d.dpcEnable p
    if (t.code = 0x33 ∧ (on = 1 ∨ on = 2)) ∨ (t.code = 0x31 ∧ on = 2) then d1.dpcTrigger p (if t.code = 0x33 then 2 else 1) t.reqId else d1

/-- A message gathered from the downstream ports of partition `q`, PME_TO_Ack: one goes upstream when every downstream link has
sent its own since the last PME_Turn_Off (R209). -/
def Dev.gather (d : Dev) (p q : Nat) (t : Tlp) : Dev :=
  let got := setBit (d.pcie.pmeAck.rd q) p
  let all := ((d.downPorts q).filter (fun x => (d.pport x).dlActive)).all (fun x => bitAt got x)
  let d1 := { (d.tlpDone p t) with pcie.pmeAck := d.pcie.pmeAck.wr q (if all then 0 else got) }
  if all then d1.sendTlp (d.run.part.rd q).upstream { t with reqId := d.upBridgeId q } else d1

/-- A message arrives on H port `p` of partition `q` and is routed as the specification says (R209): to the root complex, by ID,
broadcast, gathered, or ended at its receiver. -/
def Dev.takeMessage (d : Dev) (p q : Nat) (t : Tlp) : Dev :=
  let up := (d.run.part.rd q).upstream
  if t.code = 0x52 then d.ptmRequest p t
  else if p = up ∧ t.code = 0x53 then d.ptmAnswer p q t
  else if p ≠ up ∧ (t.code = 0x30 ∨ t.code = 0x31 ∨ t.code = 0x33) then d.errorMessage p t
  else if t.route = 2 then
    (match d.downByBus q (t.target / 256) with
     | some x => if x = p then d.urTlp p q t else d.takeIn p q x t (d.viewReq p t)
     | none => if p = up then d.urTlp p q t else d.takeIn p q up t (d.viewReq p t))
  else if t.route = 0 then (if p = up then d.urTlp p q t else d.takeIn p q up t (d.viewReq p t))
  else if t.route = 3 ∧ p = up then
    (d.downPorts q).foldl (fun e x => e.takeIn p q x t (d.viewReq p t)) (if t.code = 0x19 then { d with pcie.pmeAck := d.pcie.pmeAck.del q } else d)
  else if t.route = 5 ∧ p ≠ up then d.gather p q t
  else d.tlpDone p t

/-! ### TLP_RECEIVE -/

/-- A TLP arrives on the boot port, which shows the management endpoint of partition 0 alone (R80, R220). -/
def Dev.bootTlp (d : Dev) (t : Tlp) : Dev :=
  let fn := fnMgmt 0
  let err := fun (e : Dev) (bit : Nat) (adv : Bool) => e.aerView fn true bit (d.hdrAt 0 t) adv
  let d0 := if t.ep then err d 12 true else d
  if t.malformed (d.mpsOf fn) then (err d0 18 false).tlpDone 0 t
  else if t.kind = .cfgRead ∨ t.kind = .cfgWrite then d0.configRequest 0 t
  else match (if t.fabricKind && t.kind != .atomic then d0.barHit fn t.addr else none) with
    | some (b, o) => { d0 with sw.hubIn := d0.sw.hubIn ++ [({ ing := 0, dst := 73, cls := t.kind.cls, body := .tlp { t with target := fn, reg := b, lowerAddr := o }, part := 0, reqId := t.reqId, tag := t.tag, tc := t.tc } : Pkt)] }
    | none =>
      if t.kind = .cpl ∨ t.kind = .cplData then (err d0 16 true).tlpDone 0 t
      else if t.kind = .msg then d0.tlpDone 0 t
      else (err d0 20 (t.kind.cls == 1)).turnAway 0 0 1 t

/-- A completion arrives on H port `p`: its errors belong to the partition whose request it answers (R224). -/
def Dev.cplTlp (d : Dev) (p : Nat) (t : Tlp) : Dev :=
  let err := fun (e : Dev) (bit : Nat) (adv : Bool) => match d.cplPartition p t with
    | some q => e.tlpErrorOf p q bit t t adv
    | none => e.aerPhys p true bit (d.hdrAt p t) adv
  let mps := match d.cplPartition p t with
    | some q => d.mpsOf (d.bridgeOf q p)
    | none => 512
  if t.malformed mps then (err d 18 false).tlpDone p t
  else
    let d0 := if t.ep then err d 12 true else d
    if (d.pport p).pcfg.busy && t.reqId == 0xFFFF && t.tag == 0x3FFF then (d0.tlpDone p t).pcfgDone p t.status (leAt t.data 0 4)
    else if d.mode.base = .m10 then d0.tlpDone p t else d0.takeCompletion p t

/-- A TLP arrives on H port `p` (R203, R205, R209, R404). Configuration requests come from the upstream port only. -/
def Dev.tlpReceive (d : Dev) (p : Nat) (t : Tlp) : Dev :=
  if !d.takesTlps p then d
  else if d.portFenced p then (d.fenceDiscard).tlpDone p t
  else
    let d0 := (d.countTile (portTile p) 0x01 (portSlot p) (d.vcOf t.tc) t.size).countTile (portTile p) 0x03 (portSlot p) (d.vcOf t.tc) 1
    if d.isBoot p then d0.bootTlp t
    else if t.kind = .cpl ∨ t.kind = .cplData then d0.cplTlp p t
    else if t.kind = .msg ∧ d.isShared p = true ∧ (t.code = 0x30 ∨ t.code = 0x31 ∨ t.code = 0x33) then d0.errorMessage p t
    else match d.tlpPartition p t.reqId with
      | none => (d0.aerPhys p true 21 (d.hdrAt p t)).tlpDone p t
      | some q =>
        if t.malformed (d.mpsOf (d.bridgeOf q p)) then (d0.tlpError p q 18 t).tlpDone p t
        else
          let d1 := if t.ep then d0.tlpError p q 12 t true else d0
          if t.kind = .cfgRead ∨ t.kind = .cfgWrite then (if p = (d.run.part.rd q).upstream then d1.configRequest q t else d1.urTlp p q t)
          else if t.kind = .msg then (if d.mode.base = .m10 then d1.tlpDone p t else d1.takeMessage p q t)
          else d1.takeRequest p q t

end Sys2Proof.Machine
end

