-- ==== Sys2Proof/Machine/LinkOps.lean ====
section
/-! DEFINITION. Operations that lanes and Sherix links share: which lanes make up a port, the start of training, the
margin queue, replays, pauses, cut-overs, degradation and links going down (R141 to R156, R177, R189 to R199). -/

namespace Sys2Proof.Machine

/-! ### Lanes of a port -/

/-- Link width code of a lane count: 1 x2, 2 x4, 3 x8, 4 x16 (Table 6.12). -/
def widthCode (w : Nat) : Nat := if 16 ≤ w then 4 else if 8 ≤ w then 3 else if 4 ≤ w then 2 else if 2 ≤ w then 1 else 0

/-- The port whose cut holds lane `n` (0 to 15) of tile `t` (R55). -/
def Dev.cutPort (d : Dev) (t n : Nat) : Option Nat :=
  ((List.range 8).map (fun s => 8 * t + s)).find? (fun p =>
    d.cutWidth p != 0 && decide (2 * portSlot p ≤ n) && decide (n < 2 * portSlot p + d.cutWidth p))

/-- The S port that spare lane `n` of tile `t` serves: the port that begins on the first lane of its half, whatever its
width, and a x16 port with both spares (R146). -/
def Dev.sparePort (d : Dev) (t n : Nat) : Option Nat :=
  let west := 8 * t
  let east := 8 * t + 4
  if n = 16 then (if d.isS west then some west else none)
  else if d.isS west && d.cutWidth west == 16 then some west
  else if d.isS east then some east
  else none

/-- The port that a lane belongs to or serves. -/
def Dev.lanePort (d : Dev) (t n : Nat) : Option Nat := if n < 16 then d.cutPort t n else d.sparePort t n

/-- The spare lane of the half that lane `n` lies in. -/
def spareLane (n : Nat) : Nat := if n < 8 then 16 else 17

/-- A spare lane is usable at this end: its Legend bit, its SPARES bit and its port (R147). -/
def Dev.spareHere (d : Dev) (t n : Nat) : Bool :=
  d.laneUsable t n && bitAt (d.run.tile.rd t).spares (n - 16) && (d.sparePort t n).isSome

/-- Physical lanes of port `p`, without spares. -/
def Dev.portLanes (d : Dev) (p : Nat) : List Nat := (List.range (d.cutWidth p)).map (fun k => 2 * portSlot p + k)

/-- The lane that carries the place of lane `n`: the spare that serves it, or itself. -/
def Dev.carrier (d : Dev) (t n : Nat) : Nat :=
  if (d.lane t 16).serves = n then 16 else if (d.lane t 17).serves = n then 17 else n

/-- READY or SERVING. -/
def Lane.inService (l : Lane) : Bool := l.state == 7 || l.state == 9

/-- The lane from which the data of lane `n` is taken: the spare once a mirror swap has selected it (R153). -/
def Dev.dataLane (d : Dev) (t n : Nat) : Nat :=
  match (d.lane t n).port with
  | some p =>
    let l := d.link p
    match l.mirror with
    | some m => if l.selOwn && l.mirrorLane == n then m.2.1 else n
    | none => n
  | none => n

/-- The data of lane `n` comes from a lane with block lock. -/
def Dev.hasLock (d : Dev) (t n : Nat) : Bool := (d.lane t (d.dataLane t n)).lock

/-- The place of lane `n` is fit for service. -/
def Dev.placeGood (d : Dev) (t n : Nat) : Bool :=
  let c := d.carrier t n
  (d.lane t c).inService && d.hasLock t c

/-- The lanes that carry a port's logical lanes now. -/
def Dev.activeLanes (d : Dev) (p : Nat) : List Nat :=
  ((d.portLanes p).map (d.carrier (portTile p))).filter (fun n =>
    (d.lane (portTile p) n).inService && (d.lane (portTile p) n).logical != 0x1F)

/-- The lane of a port that carries logical lane `x`. -/
def Dev.laneOf (d : Dev) (p x : Nat) : Option Nat := (d.activeLanes p).find? (fun n => (d.lane (portTile p) n).logical == x)

/-- The lane of a port that the far end names `x`: the one that carries `x` inward (R134). -/
def Dev.laneNamed (d : Dev) (p x : Nat) : Option Nat := (d.activeLanes p).find? (fun n => (d.lane (portTile p) n).rxLogical == x)

/-- The widest aligned block of fit places of a port, x2 or wider and at most code `cap`: its first place and its width
code; the lowest on a tie (R194). -/
def Dev.usableBlock (d : Dev) (p cap : Nat) : Option (Nat × Nat) :=
  let w := d.cutWidth p
  let base := 2 * portSlot p
  let good := fun (s c : Nat) => (List.range (2 ^ c)).all (fun k => d.placeGood (portTile p) (base + s + k))
  ([4, 3, 2, 1].filter (fun c => decide (c ≤ cap) && decide (2 ^ c ≤ w))).findSome? (fun c =>
    ((List.range (w / 2 ^ c)).find? (fun b => good (b * 2 ^ c) c)).map (fun b => (b * 2 ^ c, c)))

/-- Put a port's lanes at a block: both directions' logical lanes count from 0 within it, inward ones by what the lanes
carry; lanes outside go OFF (R134, R194). -/
def Dev.applyBlock (d : Dev) (p start code : Nat) : Dev :=
  let t := portTile p
  let block := (List.range (2 ^ code)).map (fun k => d.carrier t (2 * portSlot p + start + k))
  let low := block.foldl (fun a n => min a (d.lane t n).rxLogical) 0x1F
  (List.range (d.cutWidth p)).foldl (fun e k =>
    let n := e.carrier t (2 * portSlot p + k)
    if start ≤ k ∧ k < start + 2 ^ code then e.setLane t n (fun l => { l with logical := k - start, rxLogical := l.rxLogical - low })
    else if (e.lane t n).state = 7 then e.setLane t n (fun l => { l with state := 0, logical := 0x1F, rxLogical := 0x1F, lock := false, cdr := false })
    else e.setLane t n (fun l => { l with logical := 0x1F, rxLogical := 0x1F })) d

/-! ### What a lane sends (R128 to R131, R157) -/

/-- The lane runs at an NRZ rate: Sherix code 0, or PCI Express below 64 GT/s (Table 5.1). -/
def Dev.isNrz (d : Dev) (t n : Nat) : Bool :=
  match d.lanePort t n with
  | some p => if d.isS p then (if (d.link p).state ≤ 1 ∨ (d.link p).state = 5 then (d.run.tile.rd t).rateMax == 0 else (d.link p).rate == 0)
    else decide ((d.pport p).rate < 5)
  | none => (d.run.tile.rd t).rateMax == 0

/-- The state of a lane's scrambler: nonzero before its first block. -/
def Dev.scramState (d : Dev) (t n : Nat) : Nat :=
  (d.lane t n).scram.getD (1 + Config.laneSeed (laneKey t n) % (2 ^ 58 - 1))

/-- The transmit pair carries the lane's own blocks: not in a loop that idles it or sends back what comes in, and not
under a pattern generator. -/
def Lane.sendsOwn (l : Lane) : Bool := l.loop != 1 && l.loop != 3 && l.prbsGen == 0

/-- Scrambled blocks go out on a lane. -/
def Dev.putWords (d : Dev) (t n : Nat) (ws : List Nat) : Dev :=
  if (d.lane t n).sendsOwn then d.emit (.lane (laneKey t n) (!d.isNrz t n) (ws.map (onLine (!d.isNrz t n)))) else d

/-- A lane sends blocks: their payloads go through its scrambler (R130). -/
def Dev.sendLane (d : Dev) (t n : Nat) (bs : List Nat) : Dev :=
  let r := scramBlocks (d.scramState t n) bs
  (d.setLane t n (fun l => { l with scram := some r.1 })).putWords t n r.2

/-- Spare lane `s` sends a copy of what lane `n` sends, with its scrambler in step (R153). -/
def Dev.copyLane (d : Dev) (t n s : Nat) (bs : List Nat) : Dev :=
  let r := scramBlocks (d.scramState t n) bs
  (d.setLane t s (fun l => { l with scram := some r.1 })).putWords t s r.2

/-- The TRAIN block of a lane (Table 5.2): SPARE_OK gives the spares usable at this end. -/
def Dev.trainOut (d : Dev) (t n : Nat) : TrainBlk :=
  let l := d.lane t n
  let rate := match l.port with
    | some p => (d.link p).askRate.getD (d.run.tile.rd t).rateMax
    | none => (d.run.tile.rd t).rateMax
  { logical := l.logical, rate := rate, state := l.state, preReq := l.preReq, postReq := l.postReq, fom := l.fom, ack := l.coefAck, spareOk := b2n (d.spareHere t 16) + 2 * b2n (d.spareHere t 17) }

/-- A Sherix lane in BLOCK_HUNT, CTLE or FFE sends its TRAIN block (R141). -/
def Dev.sendTrain (d : Dev) (t n : Nat) : Dev :=
  if d.role t = 2 ∧ 3 ≤ (d.lane t n).state ∧ (d.lane t n).state ≤ 5 then d.sendLane t n [trainBlock (d.trainOut t n)] else d

/-- An ALIGN burst goes out on lanes of a port: 32 blocks on each with one ALIGN_SEQ (R133). -/
def Dev.alignOut (d : Dev) (p width : Nat) (lanes : List Nat) : Dev :=
  let t := portTile p
  let seq := (d.link p).alignSeq
  lanes.foldl (fun e n => e.sendLane t n (List.replicate 32 (alignBlock (e.lane t n).logical width seq)))
    (d.setLink p (fun l => { l with alignSeq := (l.alignSeq + 1) % 2 ^ 32 }))

/-- Send ALIGN bursts on the active lanes of a port, with its width. -/
def Dev.sendAlign (d : Dev) (p : Nat) : Dev := d.alignOut p (d.link p).width (d.activeLanes p)

/-- The lanes of a training port that are in DESKEW send a burst at the width that the port trains to. -/
def Dev.alignDeskew (d : Dev) (p : Nat) : Dev :=
  d.alignOut p ((d.link p).askWidth.getD (widthCode (d.cutWidth p)))
    (((d.portLanes p).map (d.carrier (portTile p))).filter (fun n => (d.lane (portTile p) n).state == 6))

/-- Send a SWAP block on every active lane of a port and on the spare (R150). -/
def Dev.sendSwap (d : Dev) (p : Nat) (ack : Bool) (x s : Nat) (refused : Bool) : Dev :=
  let b := swapBlock ack { logical := x, spare := s - 16, refused := refused, switchId := d.run.switchId }
  ((d.activeLanes p) ++ (if (d.activeLanes p).contains s then [] else [s])).foldl (fun e n => e.sendLane (portTile p) n [b]) d

/-! ### Training (R141, R161, R199) -/

/-- The lane begins a training: the accepted pair takes effect, and the search starts afresh. -/
def Lane.begin_ (l : Lane) (port : Option Nat) (logical : Nat) : Lane :=
  let (tx, rx) := l.eqPend.getD (l.txAcc, l.rxAcc)
  { l with state := 1, port := port, logical := logical, rxLogical := 0x1F, far := {}, polInv := false, confirm := false, lock := false, cdr := false,
           reversed := false, txAcc := tx, rxAcc := rx, eqPend := none, pre := fld tx 0 4, main := fld tx 8 6,
           post := fld tx 16 5, ctle := if bitAt rx 31 then fld rx 0 4 else 0, ctleBest := none, ffe := {}, preReq := 0,
           postReq := 0, coefAck := 0, sawBad := false }

/-- A lane begins a training and sends IDLE (Table 5.4). -/
def Dev.beginLane (d : Dev) (t n p logical : Nat) : Dev :=
  (d.setLane t n (fun x => x.begin_ (some p) logical)).sendLane t n [idleBlock]

/-- Port `p` trains from DETECT with every usable spare that serves it (R141, R147, R199). Lanes under test stay there;
what the far end reported of its spares is forgotten. -/
def Dev.startTraining (d : Dev) (p : Nat) : Dev :=
  let t := portTile p
  let spares := [16, 17].filter (fun n => d.sparePort t n == some p)
  let d0 := { d with ln.tile := d.ln.tile.upd t (fun (s : TileSt) => { s with farSpare := spares.foldl (fun v n => clrBit v (n - 16)) s.farSpare }) }
  let d1 := d0.setLink p (fun l => { l with state := 1, width := 0, trainFailed := false })
  let d2 := (d1.portLanes p).foldl (fun e n =>
    let l := e.lane t n
    if l.retired || l.state == 11 then e else e.beginLane t n p (n - 2 * portSlot p)) d1
  (spares.filter (fun n => d2.spareHere t n)).foldl (fun e n =>
    let l := e.lane t n
    if l.state = 11 then e
    else if l.serves = 0x1F then e.beginLane t n p 0x1F
    else e.beginLane t n p (l.serves - 2 * portSlot p)) d2

/-- The lanes of a held port go idle. -/
def Dev.lanesOff (d : Dev) (p : Nat) : Dev :=
  let t := portTile p
  ((d.portLanes p) ++ [16, 17].filter (fun n => d.sparePort t n == some p)).foldl (fun e n =>
    e.setLane t n (fun l => if l.retired || l.state == 11 then l else { l with state := 0, lock := false, cdr := false })) d

/-! ### The margin queue (R189, Table 6.9) -/

def Margin.rank (m : Margin) : Nat :=
  if m.type = 0x08 then (if m.copy = 0 then 1 else 3) else if m.type = 0x01 then 2
  else if m.type = 0x02 ∨ m.type = 0x03 then 4
  else if (0x10 ≤ m.type ∧ m.type ≤ 0x13) ∨ m.type = 0x22 ∨ m.type = 0x23 then 5
  else if m.type = 0x18 then 6 else 7

/-- The youngest queued message of the highest rank number for which `ok` holds. -/
def victim (q : List MQueued) (ok : MQueued → Bool) : Option MQueued :=
  (q.filter ok).foldl (fun a m =>
    match a with
    | some b => if b.msg.rank ≤ m.msg.rank then some m else a
    | none => some m) none

/-- The youngest message for which `ok` holds. -/
def youngest (q : List MQueued) (ok : MQueued → Bool) : Option MQueued := (q.filter ok).getLast?

/-- Queue a margin message (R189). A first copy of a CONTAIN that finds 32 first copies waits in its stop; it keeps its
place behind them here. -/
def Link.pushMargin (l : Link) (m : Margin) : Link :=
  let e : MQueued := { msg := m, age := l.mAge }
  let put := fun (q : List MQueued) (drop : Nat) => { l with mq := q ++ [e], mAge := l.mAge + 1, marginDrop := satAdd 16 l.marginDrop drop }
  let lost := { l with marginDrop := satAdd 16 l.marginDrop 1 }
  if m.type ≠ 0x08 then
    let others := l.mq.filter (fun x => x.msg.type != 0x08)
    if others.length < 24 ∧ l.mq.length < 32 then put l.mq 0
    else match victim l.mq (fun x => x.msg.type != 0x08) with
      | none => lost
      | some v => if v.msg.rank ≤ m.rank then lost else put (l.mq.erase v) 1
  else if l.mq.length < 32 then put l.mq 0
  else if m.copy = 0 then
    (match youngest l.mq (fun x => x.msg.rank != 1) with
     | some v => put (l.mq.erase v) 1
     | none => put l.mq 0)
  else match youngest l.mq (fun x => decide (m.rank < x.msg.rank)) with
    | some v => put (l.mq.erase v) 1
    | none => lost

/-- Queue a message on port `p`. -/
def Dev.sendMargin (d : Dev) (p : Nat) (m : Margin) : Dev := d.setLink p (fun l => l.pushMargin m)

/-- Queue a message that awaits an answer (R190). -/
def Dev.sendExchange (d : Dev) (p : Nat) (m : Margin) : Dev :=
  (d.sendMargin p m).setLink p (fun l => { l with ex := l.ex ++ [({ msg := m } : Exchange)] })

/-- The next message of an exchange has arrived: what `hit` names awaits nothing more. -/
def Link.answered (l : Link) (hit : Margin → Bool) : Link := { l with ex := l.ex.filter (fun x => !hit x.msg) }

/-- The four copies of a CONTAIN or an AUDIT. -/
def Dev.sendCopies (d : Dev) (p : Nat) (m : Margin) : Dev :=
  (List.range 4).foldl (fun e c => e.sendMargin p { m with copy := c }) d

/-! ### Replays (R177, R193) -/

/-- Start a replay from `r`: 0 a NAK, 1 the timer, 2 the end of a pause. -/
def Dev.startReplay (d : Dev) (p r why : Nat) : Dev :=
  let l := d.link p
  if l.a = l.n then d
  else
    (d.setLink p (fun l => { l with replay := some r, replayStart := some r, replaysNak := if why = 0 then satAdd 16 l.replaysNak 1 else l.replaysNak, replaysTimer := if why = 1 then satAdd 16 l.replaysTimer 1 else l.replaysTimer })).corFault 3 p r

/-! ### Jobs on a port -/

/-- The port that a lane or link job acts on. -/
def Dev.jobPort (d : Dev) (j : Job) : Option Nat :=
  if j.op = 0x05 then d.lanePort (j.arg0 % 256 / 18) (j.arg0 % 256 % 18)
  else if j.op = 0x0A ∨ j.op = 0x0B then some (j.arg0 % 128)
  else none

/-- Active jobs of operation `op` on port `p`; jobs that only record a swap (phase 9) are not among them. -/
def Dev.portJobs (d : Dev) (p op : Nat) : List (Nat × Job) :=
  d.activeJobs.filter (fun e => e.2.op == op && d.jobPort e.2 == some p && e.2.phase != 9)

/-- End the active jobs of an operation on a port. -/
def Dev.endPortJobs (d : Dev) (p op : Nat) (st : JobState) (result detail : Nat) : Dev :=
  (d.portJobs p op).foldl (fun e j => e.endJob j.1 st result detail) d

/-- A lane, PLL or link job holds the port or its tile (R155, R195, R196). -/
def Dev.portConflict (d : Dev) (p : Nat) : Bool :=
  d.activeJobs.any (fun e => e.2.phase != 9 && ((d.jobPort e.2 == some p) || (e.2.op == 0x06 && e.2.arg0 % 16 == portTile p)))

/-- Global number of lane `n` of tile `t` (R5). -/
def laneNumber (t n : Nat) : Nat := 18 * t + n

/-! ### Mirror swaps (R153, R154) -/

/-- The spare of a mirror swap returns to STANDBY and the swap ends. -/
def Link.endMirror (l : Link) : Link :=
  { l with mirror := none, mirrorOwn := false, mirrorPeer := false, selOwn := false, selPeer := false,
           ex := l.ex.filter (fun x => !(decide (0x10 ≤ x.msg.type) && decide (x.msg.type ≤ 0x13))) }

/-- End the mirror swap of a port with its job. -/
def Dev.failMirror (d : Dev) (p result detail : Nat) : Dev :=
  if (d.link p).mirror.isSome then
    (d.setLink p Link.endMirror).endPortJobs p 0x05 .failed result detail
  else d

/-! ### Links going down (R197 to R199) -/

/-- The record of a link-down: one record of device fault LINK_DOWN at severity Error; an audit mismatch has its own
Fatal record, and a contained link is no device fault (R186, R197, R427). -/
def Dev.linkDownRecord (d : Dev) (p cause : Nat) : Dev :=
  if cause = 2 then d.fire (srcPort p 1)
  else if cause = 10 then d.log (srcPort p 1) 3 { inst := p, detail := [p, cause] }
  else (d.fire (srcPort p 1)).uncFault 15 p (portTile p) 0xF 0 cause 3

/-- The state of a link that is down; settings, counters and the return hold's history stay (R198, step 4). -/
def Link.cleared (l : Link) (cause : Nat) : Link :=
  { l with state := 0, width := 0, rate := 0, degraded := false, lastCause := cause, hold := none, n := 0, a := 0, e := 0,
           lastAck := 0xFFF, nakOut := false, expiries := 0, buf := [], replay := none, replayStart := none, grantRx := [],
           avail := [], grantTx := [], held := [], debts := [], charged := [], returned := [], chargedTot := [], returnedTot := [], auditIn := none,
           auditSeen := true, rcvd := 0, peerRcvd := 0, initTurn := 0, mq := [], ex := [], recent := [], pause := .none,
           swaps := [], swapQueue := [], swapInit := false, fromInit := false, mirror := none, mirrorOwn := false, mirrorPeer := false,
           selOwn := false, selPeer := false, widthAns := 0, rx := [], tx := [], txPkt := [], inReplay := [],
           askWidth := if l.askHold then l.askWidth else none, askRate := if l.askHold then l.askRate else none, askHold := false }

/-- The port stays in HELD (R199). -/
def Link.heldDown (l : Link) (cause : Nat) : Bool := l.holdDown || l.adminDown || l.bypassed || l.fenced || cause == 10

/-- Port `p` trains as an internal LINK_RETRAIN whose commit step is done (R200). -/
def Dev.retrain (d : Dev) (p : Nat) : Dev :=
  ((d.startTraining p).startInternal { op := 0x0A, arg0 := p, total := 2, progress := 1, phase := 1, state := .running }).1

/-- After a link-down the port retrains as an internal LINK_RETRAIN, or stays HELD (R199, R200). -/
def Dev.afterDown (d : Dev) (p cause : Nat) : Dev :=
  if (d.link p).heldDown cause then (d.setLink p (fun l => { l with state := 5 })).lanesOff p
  else if cause = 8 then d.startTraining p
  else d.retrain p

/-- A loss of signal on the parent input: the 8 exchanges are made again (R106). -/
def Dev.signalLost (d : Dev) (i : Nat) : Dev :=
  if d.tick.parent = some i then { d with tick.exchanges := 0 } else d

/-- A Sherix link in INIT, UP or PAUSED goes down (R197, R198). -/
def Dev.linkDown (d : Dev) (p cause : Nat) : Dev :=
  let l := d.link p
  if 2 ≤ l.state ∧ l.state ≤ 4 then
    let whole := l.inReplay.map (fun x => FPkt.ofBytes x.2)
    let d1 := d.linkDownRecord p cause
    let d1c := d1.cutStreams p
    let d2 := { d1c with sw.writing := d1c.sw.writing.filter (fun e => e.1 / 8 != p) }
    let d3 := (d2.setLink p (fun l => l.cleared cause)).signalLost (16 + p)
    let d4 := if cause = 8 then d3 else (d3.endPortJobs p 0x05 .failed 6 0xFFFFFF).endPortJobs p 0x0B .failed 6 0xFFFFFF
    (d4.failover p whole).afterDown p cause
  else d

/-! ### Pauses, cut-overs and degradation (R149 to R152, R193, R194) -/

/-- Start a degradation to the widest usable block of at most code `cap` (R194, step 1). -/
def Dev.degrade (d : Dev) (p cap : Nat) : Dev :=
  match d.usableBlock p cap with
  | none => d.linkDown p 3
  | some (s, c) =>
    let d1 := (d.applyBlock p s c).setLink p (fun l => { l with state := 4, pause := .degrade, width := c, degraded := decide (c < widthCode (d.cutWidth p)) })
    (d1.sendAlign p).log (srcPort p 2) 2 { inst := p, detail := [p, c] }

/-- A port in INIT or UP pauses; a pause that begins in INIT ends there. -/
def Link.paused (l : Link) (k : PauseKind) : Link := { l with state := 4, pause := k, fromInit := l.state == 2 }

/-- Start a hard cut-over of logical lane `x` to spare lane `s` (R150, step 1); one under way comes first (R151). -/
def Dev.startCutover (d : Dev) (p x s : Nat) (auto : Bool) : Dev :=
  let l := d.link p
  if l.state = 2 ∨ l.state = 3 then
    (d.setLink p (fun l => { l.paused .swapWait with swaps := [(x, s)], swapInit := auto })).sendSwap p false x s false
  else if l.state = 4 then d.setLink p (fun l => { l with swapQueue := l.swapQueue ++ [(x, s)] })
  else d

/-- The spare of lane `n`'s half stands by and serves the port. -/
def Dev.spareReady (d : Dev) (p n : Nat) : Bool :=
  decide (n < 16) && d.sparePort (portTile p) (spareLane n) == some p && (d.lane (portTile p) (spareLane n)).state == 8

/-- An active lane of an UP port is without lock and no cut-over starts (R194, R416). -/
def Dev.laneGone (d : Dev) (p n : Nat) : Dev :=
  let d0 := if n < 16 ∧ (d.sparePort (portTile p) (spareLane n) = some p) then d.spareExhausted 0 (laneNumber (portTile p) n) else d
  if (d.link p).state = 3 then
    let d1 := d0.endPortJobs p 0x0B .failed 6 (laneNumber (portTile p) n)
    if (d1.link p).autoDegrade then d1.degrade p (d1.link p).width else d1.linkDown p 3
  else d0

/-- Move a logical lane to a spare: the replaced lane is RETIRED, the spare SERVING (R150). -/
def Dev.moveLane (d : Dev) (p x s : Nat) : Dev :=
  let t := portTile p
  match d.laneOf p x with
  | none => d
  | some n =>
    let rx := (d.lane t n).rxLogical
    (d.setLane t n (fun l => { l with state := 10, retired := true, logical := 0x1F, rxLogical := 0x1F, lock := false, cdr := false })).setLane t s (fun l =>
      { l with state := 9, serves := n, logical := x, rxLogical := rx })

/-- A spare lane entered service in place of lane `n`: LANE_SWAP, which is device fault SPARE_USED (R150, R427). -/
def Dev.swapRecord (d : Dev) (t n s : Nat) : Dev :=
  (d.fire (srcTile t 0)).corFault 5 (laneNumber t s) (laneNumber t n) 2

/-- A pause ends: the port is UP, or in INIT where it began there, replays from A, and then takes up what waited for it
(R151, R193). -/
def Dev.resume (d : Dev) (p : Nat) : Dev :=
  let d1 := (d.setLink p (fun l => { l with state := if l.fromInit then 2 else 3, pause := .none, swaps := [], swapInit := false, fromInit := false })).startReplay p (d.link p).a 2
  let t := portTile p
  match (d1.link p).swapQueue with
  | (x, s) :: r =>
    let d2 := d1.setLink p (fun l => { l with swapQueue := r })
    if (d2.lane t s).state = 8 then d2.startCutover p x s true
    else match d2.laneOf p x with
      | some n => d2.laneGone p n
      | none => d2
  | [] => match (d1.activeLanes p).find? (fun n => !d1.hasLock t n) with
    | some n => d1.laneGone p n
    | none => d1

/-- A cut-over has ended: its records, and the jobs that asked for it or that record it (R150, R155). -/
def Dev.cutoverDone (d : Dev) (p : Nat) : Dev :=
  let t := portTile p
  let l := d.link p
  let d1 := l.swaps.foldl (fun e x =>
    let n := (e.lane t x.2).serves
    let e1 := e.swapRecord t n x.2
    match (e1.portJobs p 0x05).find? (fun j => j.2.arg0 % 256 == laneNumber t n) with
    | some j => { e1 with jobs.slot := e1.jobs.slot.upd j.1 (fun y => { y with progress := 4 }) }.endJob j.1 .done 0 0
    | none => if l.swapInit then (e1.startInternal { op := 0x05, arg0 := laneNumber t n, arg1 := 1, total := 4, phase := 9 }).1 else e1) d
  let used := match l.mirror with
    | some m => l.swaps.any (fun x => x.2 == m.2.1 || (d.lane t x.2).serves == l.mirrorLane)
    | none => false
  (if used then d1.failMirror p 5 0 else d1).resume p

/-! ### Bring-up (R170, R181, R192) -/

/-- The port has become READY at a width and rate: the link enters INIT with its link-up values. -/
def Dev.linkInit (d : Dev) (p code : Nat) : Dev :=
  let rate := (d.link p).askRate.getD (d.run.tile.rd (portTile p)).rateMax
  let grants := (List.range 8).foldl (fun (t : Tab Nat) v => t.wr v (d.grantOf p v)) []
  d.setLink p (fun l => { (l.cleared l.lastCause) with state := 2, width := code, rate := rate, grantTx := grants, degraded := decide (code < widthCode (d.cutWidth p)), askWidth := l.askWidth, askRate := l.askRate, trainFailed := false })

/-- The training of a port has ended with no usable width (R199, R200). -/
def Dev.trainingFailed (d : Dev) (p : Nat) : Dev :=
  let t := portTile p
  let low := ((d.portLanes p).find? (fun n => (d.lane t n).state == 12)).getD (2 * portSlot p)
  ((d.setLink p (fun l => { l with trainFailed := true })).log (srcPort p 5) 2 { inst := p, detail := [p] }).endPortJobs p 0x0A .failed 6 (laneNumber t low)

/-- When every lane of a training port has ended, and no width is usable, the training has failed (R199, R200). -/
def Dev.trainingCheck (d : Dev) (p : Nat) : Dev :=
  let t := portTile p
  let busy := (d.portLanes p).any (fun n => let s := (d.lane t (d.carrier t n)).state; decide (1 ≤ s) && decide (s ≤ 6))
  if (d.link p).state = 1 ∧ busy = false ∧ (d.link p).trainFailed = false then d.trainingFailed p else d

end Sys2Proof.Machine
end

