-- ==== Sys2Proof/Machine/Lanes.lean ====
section
/-! DEFINITION. The commands of the lanes: training, equalisation, spares, cut-overs, PLL loss, test loops, PRBS and
margining (R127 to R161). A lane is named by its tile and its number in the tile. -/

namespace Sys2Proof.Machine

/-! ### Training states (Table 5.4) -/

/-- SIGNAL_DETECT: a lane in DETECT sees signal and moves to CDR. -/
def signalDetect (t : Fin 9) (n : Fin 18) (d : Dev) : Dev :=
  if (d.lane t n).state = 1 then d.setLane t n (fun l => { l with state := 2 }) else d

/-- CDR_LOCK: clock recovery locks; a lane in CDR moves to BLOCK_HUNT and sends TRAIN blocks, a lane under test keeps its
state. -/
def cdrLock (t : Fin 9) (n : Fin 18) (d : Dev) : Dev :=
  let s := (d.lane t n).state
  if s = 2 then (d.setLane t n (fun l => { l with state := 3, cdr := true })).sendTrain t n
  else if s = 11 then d.setLane t n (fun l => { l with cdr := true })
  else d

/-- The lane leaves BLOCK_HUNT: a FIXED receiver setting skips the CTLE state (note to R145). -/
def Lane.hunted (l : Lane) : Lane :=
  { l with lock := true, confirm := false, state := if bitAt l.rxAcc 31 then 5 else 4 }

/-- A run is 64 blocks with valid headers; its headers are all of one kind. -/
def runValid (run : List Nat) : Bool := run.length == 64 && run.all headerValid
def runKind (h : Nat) (run : List Nat) : Bool := run.all (fun b => blockHeader b == h)

/-- A run as the lane reads it: an inverted input is turned over (R132). -/
def Lane.input (l : Lane) (run : List Nat) : List Nat := if l.polInv then run.map (fun b => 2 ^ 66 - 1 - b % 2 ^ 66) else run

/-- Every block of a descrambled run is IDLE or TRAIN. -/
def idleOrTrain (run : List Nat) : Bool :=
  run.all (fun b => payloadType (blockPayload b) == 0x1E || payloadType (blockPayload b) == 0x55)

/-- What 64 blocks with valid headers do to a lane that hunts: a run of control headers gives normal polarity and lock; a
run of data headers inverts the input, which a second run must confirm; a mixed run is discarded (R132). `plain` is the
run descrambled. -/
def Lane.lockRun (l : Lane) (run plain : List Nat) : Lane :=
  if l.confirm then (if runKind ctrlHeader run && idleOrTrain plain then l.hunted else { l with confirm := false, polInv := false })
  else if runKind ctrlHeader run then l.hunted
  else if runKind dataHeader run then { l with polInv := true, confirm := true, descram := 2 ^ 58 - 1 - l.descram }
  else l

/-- The blocks that reach a lane's receiver: in loops NEAR_SERIAL and NEAR_PARALLEL its own IDLE blocks (R157). -/
def Dev.looped (d : Dev) (t n : Nat) (run : List Nat) : List Nat :=
  if (d.lane t n).loop = 1 ∨ (d.lane t n).loop = 2 then (scramBlocks (d.scramState t n) (List.replicate 64 idleBlock)).2 else run

/-- A run as the lane's receiver has it. -/
def Dev.heard (d : Dev) (t n : Nat) (run : List Nat) : List Nat := (d.lane t n).input (d.looped t n run)

/-- In loop FAR what comes in goes out again. -/
def Dev.sendBack (d : Dev) (t n : Nat) (words : List Nat) : Dev :=
  if (d.lane t n).loop = 3 then d.emit (.looped (laneKey t n) words) else d

/-- `what` arrives on lane `n` of tile `t`. A lane in a near loop hears its own transmitter, wherever its balls connect. -/
def Dev.laneIn (d : Dev) (t n : Nat) (what : List Nat) (f : Dev → Dev) : Dev :=
  if (d.lane t n).loop = 1 ∨ (d.lane t n).loop = 2 then f d else d.lanesIn t [n] what f

/-- BLOCK_LOCK: 64 blocks with valid headers in a row come in, as bits after Gray decoding. A lane past BLOCK_HUNT locks
again under its polarity. -/
def blockLock (t : Fin 9) (n : Fin 18) (run : List Nat) (d : Dev) : Dev :=
  let l := d.lane t n
  let bs := d.heard t n run
  let plain := descramBlocks l.descram bs
  if !runValid bs then d
  else if l.state = 3 then
    (d.setLane t n (fun l => ({ l with descram := plain.1 } : Lane).lockRun bs plain.2)).sendTrain t n
  else if (4 ≤ l.state ∧ l.state ≤ 9) ∨ l.state = 11 then
    (d.setLane t n (fun l => { l with lock := true, descram := plain.1 })).sendBack t n run
  else d

/-- A lane ends training FAILED; a spare in STANDBY takes its place without a cut-over (R145). -/
def Dev.failLane (d : Dev) (t n : Nat) : Dev :=
  let l := d.lane t n
  let d1 := d.setLane t n (fun l => { l with state := 12, lock := false, cdr := false })
  match l.port with
  | none => d1
  | some p =>
    let s := spareLane n
    if n < 16 ∧ (d1.link p).state = 1 ∧ d1.spareReady p n = true then
      ((d1.setLane t n (fun x => { x with state := 10, retired := true, logical := 0x1F })).setLane t s (fun x => { x with state := 9, serves := n, logical := l.logical })).corFault 5 (laneNumber t s) (laneNumber t n)
    else d1.trainingCheck p

/-- TRAINING_TIMEOUT: CDR, BLOCK_HUNT or DESKEW exceeds its limit. -/
def trainingTimeout (t : Fin 9) (n : Fin 18) (d : Dev) : Dev :=
  let s := (d.lane t n).state
  if s = 2 ∨ s = 3 ∨ s = 6 then d.failLane t n else d

/-! ### Loss of block lock (R132, R148, R149, R154, R194) -/

/-- A standby spare fails: SPARE_FAILED, and a mirror swap onto it ends (R148, R154). -/
def Dev.spareFails (d : Dev) (t n : Nat) : Dev :=
  let d1 := (d.setLane t n (fun l => { l with state := 12, lock := false })).log (srcTile t 1) 2 { inst := laneNumber t n, detail := [laneNumber t n] }
  match d1.sparePort t n with
  | some p =>
    let l := d1.link p
    (match l.mirror with
     | some m =>
       if m.2.1 ≠ n then d1
       else
         let d2 := d1.failMirror p 6 (laneNumber t n)
         if (d2.lane t l.mirrorLane).lock then d2 else d2.laneGone p l.mirrorLane
     | none => d1)
  | none => d1

/-- Invalid headers in lock: each counts in HDR_ERR, and the FOM window holds one (R132, R139). -/
def Lane.badHeaders (l : Lane) (bad : Nat) : Lane :=
  { l with hdrErr := satAdd 32 l.hdrErr bad, sawBad := l.sawBad || decide (0 < bad) }

/-- BLOCK_LOCK_LOSS: 16 of 64 headers were invalid, and `bad` in all since headers were last counted. A lane whose data a
mirror swap already takes from the spare leaves nothing to cut over (R153). -/
def blockLockLoss (t : Fin 9) (n : Fin 18) (bad : Nat) (d : Dev) : Dev :=
  let l := d.lane t n
  if !l.lock then d
  else
    let d1 := d.setLane t n (fun l => { (l.badHeaders bad) with lock := false })
    if l.state = 8 then d1.spareFails t n
    else if l.inService = false ∨ l.logical = 0x1F then d1
    else match l.port with
      | none => d1
      | some p =>
        let lk := d1.link p
        let mine := lk.mirror.isSome && lk.mirrorLane == n.val
        let mirrored := mine && !lk.selOwn
        if lk.state < 2 ∨ 4 < lk.state ∨ (mine && lk.selOwn) = true then d1
        else if d1.spareReady p n && (mirrored || ((d1.policy 0).enable && !d1.portFenced p)) then
          d1.startCutover p l.logical (spareLane n) (!mirrored)
        else d1.laneGone p n

/-! ### The figure of merit and adaptation (R138 to R142) -/

/-- FOM of a window: the least eye height against the nominal level spacing. -/
def fomOf (eye spacing : Nat) : Nat := min 255 (256 * eye / spacing)

/-- The lane's receiver asks the far transmitter for the change of a search position: (post, +1), (post, -1), (pre, +1),
(pre, -1); `back` asks for its reverse. -/
def Lane.ask (l : Lane) (back : Bool) : Lane :=
  let up := (l.ffe.pos % 2 == 0) != back
  let v := if up then 1 else 2
  if l.ffe.pos < 2 then { l with postReq := v, preReq := 0 } else { l with preReq := v, postReq := 0 }

/-- The search at its present position: a trial, the next round, or its end (R142). -/
def Lane.tryNext (l : Lane) : Lane :=
  if 48 ≤ l.ffe.trials then { l with preReq := 0, postReq := 0, ffe := { l.ffe with phase := .done } }
  else if l.ffe.pos < 4 then ({ l with ffe := { l.ffe with phase := .ackWait } } : Lane).ask false
  else if l.ffe.changed then ({ l with ffe := { l.ffe with phase := .ackWait, pos := 0, changed := false } } : Lane).ask false
  else { l with preReq := 0, postReq := 0, ffe := { l.ffe with phase := .done } }

/-- On to the next position. -/
def Lane.advance (l : Lane) : Lane := ({ l with ffe := { l.ffe with pos := l.ffe.pos + 1 } } : Lane).tryNext

/-- What the end of a FOM window does to a lane in CTLE or FFE. -/
def Lane.adapt (l : Lane) (fom : Nat) : Lane :=
  if l.state = 4 then
    let best := match l.ctleBest with
      | some b => if b.1 < fom then (fom, l.ctle) else b
      | none => (fom, l.ctle)
    if l.ctle = 15 then { l with ctle := best.2, ctleBest := some best, state := 5, ffe := {} }
    else { l with ctle := l.ctle + 1, ctleBest := some best }
  else if l.state = 5 then
    match l.ffe.phase with
    | .start => ({ l with ffe := { l.ffe with best := fom } } : Lane).tryNext
    | .window =>
      if fom < l.ffe.best + 2 then ({ l with ffe := { l.ffe with phase := .backWait } } : Lane).ask true
      else ({ l with ffe := { l.ffe with best := fom, changed := true } } : Lane).advance
    | _ => l
  else l

/-- The search has ended: below 64 the lane is FAILED, a spare rests in STANDBY when the far end reports it usable, and
every other lane goes to DESKEW, where the port's lanes send ALIGN bursts (R133, R139, R147, Table 5.4). A search that goes
on sends its TRAIN block. -/
def Dev.endFfe (d : Dev) (t n : Nat) : Dev :=
  let l := d.lane t n
  if l.state = 5 ∧ l.ffe.phase = .done then
    if l.ffe.best < 64 then d.failLane t n
    else if 16 ≤ n ∧ l.serves = 0x1F then
      (if bitAt (d.ln.tile.rd t).farSpare (n - 16) then (d.setLane t n (fun x => { x with state := 8 })).sendLane t n [idleBlock]
       else d.setLane t n (fun x => { x with state := 0, lock := false, cdr := false }))
    else
      let d1 := d.setLane t n (fun x => { x with state := 6 })
      match l.port with
      | some p => d1.alignDeskew p
      | none => d1
  else d.sendTrain t n

/-- HEALTH has incremented: LANE_HEALTH, and at the threshold of kind 0 a mirror swap of an active lane (R139, R416). -/
def Dev.laneHealth (d : Dev) (t n : Nat) : Dev :=
  let d1 := (d.fire (srcTile t 4)).corFault 2 (laneNumber t n)
  let (d2, hit) := d1.spareCount 0 (laneNumber t n)
  match (d2.lane t n).port with
  | some p =>
    if hit && (d2.policy 0).enable && (d2.lane t n).state == 7 && (d2.link p).state == 3 && !d2.portFenced p && !d2.portConflict p then
      (if d2.spareReady p n then (d2.startInternal { op := 0x05, arg0 := laneNumber t n, total := 4 }).1
       else d2.spareExhausted 0 (laneNumber t n))
    else d2
  | none => d2

/-- The lane carries an active link of an H port (R144). -/
def Dev.hLane (d : Dev) (t n : Nat) : Bool :=
  decide (n < 16) && match d.cutPort t n with
    | some p => d.isH p && (d.pport p).dlActive && decide (n - 2 * portSlot p < (d.pport p).width)
    | none => false

/-- The next step of the search on an H lane: the preset after the one just measured or refused; after the last, the
preset with the highest FOM, the lower on a tie, which the partner is asked to keep (R144). -/
def HEq.next (h : HEq) (best : Option (Nat × Nat)) : HEq :=
  if h.cur + 1 < pciePreset.length then { h with cur := h.cur + 1, best := best }
  else { h with on := false, cur := (best.map Prod.snd).getD h.cur, best := best, kept := best.map Prod.snd }

/-- The window of a preset has ended. -/
def HEq.measured (h : HEq) (fom : Nat) : HEq :=
  h.next (match h.best with
    | some b => if b.1 < fom then some (fom, h.cur) else some b
    | none => some (fom, h.cur))

/-- The phase in which this end evaluates the partner's transmitter: 2 on an upstream port, 3 on a downstream port. -/
def Dev.evalPhase (d : Dev) (p : Nat) : Nat := if (d.upstreamOf p).isSome then 2 else 3

/-- Ask the partner's transmitter for a preset (R144). -/
def Dev.askPreset (d : Dev) (t n : Nat) : Dev :=
  d.emit (.eqTs (laneKey t n) { phase := d.evalPhase ((d.cutPort t n).getD 0), usePreset := true, preset := (d.lane t n).hEq.cur, fs := 48, lf := 12 })

/-- What the PRBS checker has compared while it is locked (R158). -/
def Lane.checked (l : Lane) (bits errs : Nat) : Lane :=
  if l.chkLock then { l with prbsBits := (l.prbsBits + bits) % 2 ^ 64, prbsErr := satAdd 32 l.prbsErr errs } else l

/-- FOM_WINDOW_END: the least eye height and the nominal level spacing of the window; the invalid headers in lock, and the
bits and errors of the PRBS checker, since they were last counted. Headers and bits count whatever becomes of the window;
a window during a margining measurement gives no FOM and no HEALTH (R140). -/
def fomWindowEnd (t : Fin 9) (n : Fin 18) (eye spacing bad bits errs : Nat) (d : Dev) : Dev :=
  if d.mode.base = .m0 then d
  else
    let d0 := d.setLane t n (fun l => (l.badHeaders bad).checked bits errs)
    let l := d0.lane t n
    let h := d.hLane t n || l.hEq.on
    if (h = false ∧ (l.state < 4 ∨ 9 < l.state) ∧ l.state ≠ 11) ∨ l.frozen = true then d0
    else
      let fom := fomOf eye spacing
      let sick := decide (fom < l.floor) || l.sawBad
      let d1 := d0.setLane t n (fun l => ({ l with fom := fom, sawBad := false, health := if sick then satAdd 16 l.health 1 else l.health } : Lane).adapt fom)
      let d2 := if sick then d1.laneHealth t n else d1
      if l.hEq.on then (d2.setLane t n (fun l => { l with hEq := l.hEq.measured fom })).askPreset t n
      else if l.state = 8 ∧ fom < 64 then d2.spareFails t n
      else d2.endFfe t n

/-! ### TRAIN blocks (R135, R142, R147) -/

/-- The answer of this transmitter to a request: applied, or at a limit of R135; a FIXED set is always at its limit. -/
def Lane.serveRequest (l : Lane) (pre post : Nat) : Lane :=
  let step := fun (v r : Nat) => if r = 1 then v + 1 else if r = 2 then v - 1 else v
  let under := (pre == 2 && l.pre == 0) || (post == 2 && l.post == 0)
  let a := step l.pre pre
  let b := step l.post post
  if (pre = 0 ∨ 3 ≤ pre) ∧ (post = 0 ∨ 3 ≤ post) then l
  else if bitAt l.txAcc 31 || under || decide (8 < a) || decide (16 < b) || decide (48 < 12 + 2 * a + 2 * b) then { l with coefAck := 1 }
  else { l with pre := a, post := b, main := 48 - a - b, coefAck := 0 }

/-- The answer of the far transmitter to this receiver's request. -/
def Lane.takeAck (l : Lane) (ack : Nat) : Lane :=
  if l.state ≠ 5 then l
  else match l.ffe.phase with
    | .ackWait =>
      let l1 := { l with ffe := { l.ffe with trials := l.ffe.trials + 1 } }
      if ack = 0 then { l1 with preReq := 0, postReq := 0, ffe := { l1.ffe with phase := .window } } else l1.advance
    | .backWait => l.advance
    | _ => l

/-- The far end's SPARE_OK for the spare lane `s` of port `p`: on a x16 port the bit of that half; else the bit of the far
half that holds the far port, known from the last INIT, or either bit before the first (R147, notes/assumptions/69.md). -/
def Dev.farReports (d : Dev) (p s ok : Nat) : Bool :=
  let l := d.link p
  if d.cutWidth p = 16 then bitAt ok (s - 16)
  else if l.wasUp then bitAt ok (if portSlot l.farPort < 4 then 0 else 1)
  else ok % 4 != 0

/-- A TRAIN block's SPARE_OK replaces what was known; a spare in STANDBY that the far end no longer reports goes idle. -/
def Dev.takeSpareOk (d : Dev) (p ok : Nat) : Dev :=
  let t := portTile p
  ([16, 17].filter (fun s => d.sparePort t s == some p)).foldl (fun e s =>
    let good := e.farReports p s ok
    let e1 := { e with ln.tile := e.ln.tile.upd t (fun (x : TileSt) => { x with farSpare := if good then setBit x.farSpare (s - 16) else clrBit x.farSpare (s - 16) }) }
    if !good && (e.lane t s).state == 8 then e1.setLane t s (fun x => { x with state := 0, lock := false, cdr := false }) else e1) d

/-- A training set with equalisation fields arrives on a lane of H port `p`. In the phase that this end evaluates, the
search over the presets starts, or goes on past a rejected one; else a request is applied, or rejected with the set
unchanged, and the answer gives FS = 48 and LF = 12 (R136, R144). The link is in that phase of Recovery.Equalization (R244). -/
def Dev.takeEq (d0 : Dev) (t n p : Nat) (e : EqTs) : Dev :=
  let d := if (d0.pport p).mayTrain then d0.setPport p (fun s => { s with ltssm := 0x10 + e.phase % 4 }) else d0
  let l := d.lane t n
  if e.phase = d.evalPhase p then
    if !l.hEq.on then (if l.hEq.kept.isSome then d else (d.setLane t n (fun l => { l with hEq := { on := true } })).askPreset t n)
    else if e.reject then (d.setLane t n (fun l => { l with hEq := l.hEq.next l.hEq.best })).askPreset t n
    else d
  else if e.phase = 1 then d.emit (.eqTs (laneKey t n) { phase := 1, pre := l.pre, main := l.main, post := l.post, fs := 48, lf := 12 })
  else
    let d1 := d.setLane t n (fun l =>
      let l1 := if e.phase = 0 then { l with hEq := {} } else l
      match e.coefs with
      | some (a, b) => { l1 with pre := a, post := b, main := 48 - a - b }
      | none => l1)
    let x := d1.lane t n
    d1.emit (.eqTs (laneKey t n) { phase := e.phase, usePreset := e.usePreset, preset := e.preset, pre := x.pre, main := x.main, post := x.post, reject := e.coefs.isNone, fs := 48, lf := 12 })

/-- TRAIN: a TRAIN block arrives on a Sherix lane from BLOCK_HUNT to DESKEW; each command is one delivered request and
answer. On a lane of an H port, the partner's training set. -/
def train (t : Fin 9) (n : Fin 18) (b : TrainBlk) (d : Dev) : Dev :=
  let l := d.lane t n
  match b.eq with
  | some e => (match d.cutPort t n with
    | some p => if d.isH p && decide (n.val < 16) then d.takeEq t n p e else d
    | none => d)
  | none =>
    if l.state < 3 ∨ 6 < l.state then d
    else
      let d1 := d.setLane t n (fun l => { ((l.serveRequest b.preReq b.postReq).takeAck b.ack) with far := b, rxLogical := b.logical })
      let d2 := match l.port with
        | some p => d1.takeSpareOk p b.spareOk
        | none => d1
      d2.endFfe t n

/-! ### ALIGN bursts (R133, R134, R150, R194) -/

/-- The lanes of a burst that carry its ALIGN_SEQ, each with its LOGICAL_LANE: the others leave in another cycle (R133). -/
def AlignBurst.inStep (a : AlignBurst) : List (Nat × Nat) :=
  (a.lanes.filter (fun x => x.2.2 == a.seq)).map (fun x => (x.1, x.2.1))

/-- How the lanes of a burst are placed: straight, reversed, or by another permutation. -/
def Dev.placement (d : Dev) (p : Nat) (ls : List (Nat × Nat)) : Option Bool :=
  let t := portTile p
  let w := d.cutWidth p
  if ls.all (fun x => (d.lane t x.1).logical == x.2) then some false
  else if ls.all (fun x => decide (x.2 < w) && (d.lane t x.1).logical == w - 1 - x.2) then some true
  else none

/-- The burst that ends a training: lanes in DESKEW within the window become READY, placed by the LOGICAL_LANE that they
carry, others fail; this end's own burst goes out once more; the port comes up at its usable width (R133, R134, R199). -/
def Dev.alignTraining (d : Dev) (p : Nat) (ls : List (Nat × Nat)) : Dev :=
  let t := portTile p
  let mine := (d.portLanes p).map (d.carrier t)
  let desk := mine.filter (fun n => (d.lane t n).state == 6)
  if mine.any (fun n => decide (2 ≤ (d.lane t n).state) && decide ((d.lane t n).state ≤ 5)) then d
  else
    let seen := ls.filter (fun x => desk.contains x.1)
    let fails := match d.placement p seen with
      | none => desk
      | some _ => desk.filter (fun n => !seen.any (fun x => x.1 == n))
    let rev := d.placement p seen == some true
    let d0 := seen.foldl (fun e x => e.setLane t x.1 (fun l => { l with rxLogical := x.2 })) (d.alignDeskew p)
    let d1 := (desk.filter (fun n => !fails.contains n)).foldl (fun e n =>
      e.setLane t n (fun l => { l with state := if n < 16 then 7 else 9, reversed := rev })) d0
    let d2 := fails.foldl (fun e n => e.failLane t n) d1
    let cap := ((d2.link p).askWidth).getD (widthCode (d2.cutWidth p))
    match d2.usableBlock p cap with
    | some (s, c) => (d2.applyBlock p s c).linkInit p c
    | none => d2.trainingCheck p

/-- The burst that ends a pause: every active lane is within the window, or its lane has failed. -/
def Dev.alignPause (d : Dev) (p : Nat) (ls : List (Nat × Nat)) : Dev :=
  let t := portTile p
  let lost := (d.activeLanes p).filter (fun n => !ls.any (fun x => x.1 == n))
  let d0 := ls.foldl (fun e x => e.setLane t x.1 (fun l => { l with rxLogical := x.2 })) d
  let d1 := lost.foldl (fun e n => e.setLane t n (fun l => { l with lock := false })) d0
  if (d1.link p).pause = .swapAlign then d1.cutoverDone p else d1.resume p

/-- ALIGN_BURST: a burst arrives on S port `p`. -/
def alignBurst (p : Fin 72) (a : AlignBurst) (d : Dev) : Dev :=
  let l := d.link p
  let t := portTile p
  let ls := a.inStep
  if !d.isS p then d
  else if l.state = 1 then d.alignTraining p ls
  else if l.state = 4 then
    (match l.pause with
     | .swapWait => d
     | .swapAlign => d.alignPause p ls
     | .pll => d.alignPause p ls
     | _ =>
       if a.width = l.width ∧ ls.all (fun x => (d.activeLanes p).contains x.1) = true then d.alignPause p ls
       else d.linkDown p 3)
  else if l.state = 3 then
    if (ls.any (fun x => !d.hasLock t x.1)) || a.width == 0 || ls.length != 2 ^ a.width then d.linkDown p 3
    else
      let shrink := decide (a.width < l.width)
      let e0 := if shrink then (d.tickFree).endPortJobs p 0x0B .failed 6 (d.freeVal 24) else d
      let d1 := ls.foldl (fun e x => e.setLane t x.1 (fun y => { y with logical := if shrink then x.2 else y.logical, rxLogical := x.2 }))
        ((d.activeLanes p).foldl (fun e n => if ls.any (fun x => x.1 == n) then e
          else e.setLane t n (fun y => { y with state := if y.state = 7 then 0 else y.state, logical := 0x1F, rxLogical := 0x1F, lock := false })) e0)
      let d2 := (d1.setLink p (fun l => { (l.paused .degrade) with width := a.width, degraded := decide (a.width < widthCode (d.cutWidth p)) })).sendAlign p
      (if shrink then d2.log (srcPort p 2) 2 { inst := p, detail := [p, a.width] } else d2).resume p
  else d

/-! ### SWAP blocks (R150, R151) -/

/-- The spare lane of a port that a SWAP block names: on a x16 port the half named, else the port's one spare. -/
def Dev.swapSpare (d : Dev) (p spare : Nat) : Nat :=
  if d.cutWidth p = 16 then 16 + spare % 2 else if portSlot p = 0 then 16 else 17

/-- The cut-over that this end asked for is refused: its lane's job ends NO_SPARE, and a mirror swap of that lane ends
(R151, R155). -/
def Dev.swapLost (d : Dev) (p x : Nat) : Dev :=
  match d.laneOf p x with
  | none => d
  | some n =>
    let d1 := ((d.portJobs p 0x05).filter (fun j => j.2.arg0 % 256 == laneNumber (portTile p) n)).foldl (fun e j => e.endJob j.1 .failed 5 0) d
    if (d.link p).mirror.isSome && (d.link p).mirrorLane == n then d1.setLink p Link.endMirror else d1

/-- The SWAP acknowledgement to a request; it names what the request named. -/
def Dev.swapAnswer (d : Dev) (p : Nat) (b : SwapBlk) (no : Bool) : Dev := d.sendSwap p true b.logical (16 + b.spare % 2) no

/-- Move the lanes of a cut-over, acknowledge it, and go on to ALIGN bursts (R150, steps 2 to 4). -/
def Dev.swapGo (d : Dev) (p : Nat) (b : SwapBlk) (xs : List (Nat × Nat)) : Dev :=
  let d1 := (xs.foldl (fun e x => e.moveLane p x.1 x.2) d).swapAnswer p b false
  (d1.setLink p (fun l => { (if l.state = 4 then { l with pause := .swapAlign } else l.paused .swapAlign) with swaps := xs })).sendAlign p

/-- SWAP_REQUEST: a request arrives on S port `p`. One that names the lane already moved is acknowledged again. -/
def swapRequest (p : Fin 72) (b : SwapBlk) (d : Dev) : Dev :=
  let l := d.link p
  let t := portTile p
  let s := d.swapSpare p b.spare
  let ready := (d.lane t s).state == 8 && d.sparePort t s == some p.val
  if !(d.isS p) || decide (l.state < 2) || decide (4 < l.state) then d
  else if l.pause = .swapAlign ∧ l.swaps.any (fun x => x.2 == s) = true ∧ (d.lane t s).rxLogical = b.logical then d.swapAnswer p b false
  else match (d.laneNamed p b.logical).map (fun n => (d.lane t n).logical) with
    | none => d.swapAnswer p b true
    | some y =>
      if l.pause = .swapWait then
        (match l.swaps with
         | (x, u) :: _ =>
           if x = y then d.swapGo p b [(x, u)]
           else if u ≠ s then (if ready then d.swapGo p b [(x, u), (y, s)] else d.swapAnswer p b true)
           else if b.switchId < d.run.switchId then ((d.setLink p (fun l => { l with swapInit := false })).swapLost p x).swapGo p b [(y, s)]
           else d.swapAnswer p b true
         | [] => d)
      else if l.state ≠ 4 ∧ ready = true then d.swapGo p b [(y, s)]
      else d.swapAnswer p b true

/-- SWAP_ACKNOWLEDGE: the far end has moved the lane, or refused (R150, R151). -/
def swapAcknowledge (p : Fin 72) (b : SwapBlk) (d : Dev) : Dev :=
  let l := d.link p
  if l.state = 4 ∧ l.pause = .swapWait ∧ l.swaps.any (fun x => x.1 == b.logical) = true then
    if b.refused then (d.swapLost p b.logical).resume p
    else ((l.swaps.foldl (fun e x => e.moveLane p x.1 x.2) d).setLink p (fun l => { l with pause := .swapAlign })).sendAlign p
  else d

/-! ### Mirror match (R153, R196) -/

/-- Both ends have found the match: this end selects, and says so; the job is in its commit step, and its third step is
done when both ends have selected. -/
def Dev.mirrorSelect (d : Dev) (p : Nat) : Dev :=
  let l := d.link p
  match l.mirror with
  | some m =>
    if l.mirrorOwn && l.mirrorPeer && !l.selOwn then
      let msg : Margin := { type := 0x13, body := pack [(0, m.1), (5, m.2.1 - 16), (16, m.2.2)] }
      let d0 := d.setLink p (fun l => { l with selOwn := true })
      let d1 := if l.selPeer then d0.sendMargin p msg else d0.sendExchange p msg
      (d1.portJobs p 0x05).foldl (fun e j => { e with jobs.slot := e.jobs.slot.upd j.1 (fun y => { y with state := .committing, progress := if l.selPeer then 3 else 2 }) }) d1
    else d
  | none => d

/-- MIRROR_MATCH: the receiver of port `p` has found 1,024 matching blocks at an offset, and sends SWAP_MATCHED. -/
def mirrorMatch (p : Fin 72) (offset : Nat) (d : Dev) : Dev :=
  let l := d.link p
  match l.mirror with
  | some m =>
    if l.live && !l.mirrorOwn then
      ((d.setLink p (fun l => { l with mirrorOwn := true })).sendExchange p { type := 0x12, body := pack [(0, m.1), (5, m.2.1 - 16), (16, m.2.2), (32, offset % 65536)] }).mirrorSelect p
    else d
  | none => d

/-! ### Lane PLLs (R156) -/

/-- Every port of a tile goes down for want of a PLL. -/
def Dev.pllGone (d : Dev) (t : Nat) : Dev :=
  let d1 := (d.fire (srcTile t 3)).uncFault 11 t t 1 t 0 3
  (List.range 8).foldl (fun e s =>
    let p := 8 * t + s
    if e.isS p then e.linkDown p 6 else if e.isH p && (e.pport p).dlActive then e.dlDown p else e) d1

/-- The tile moves every lane to PLL 1: S ports that send flits pause and align, H ports pass through Recovery. -/
def Dev.pllMove (d : Dev) (t : Nat) : Dev :=
  let d1 := { d with ln.tile := d.ln.tile.upd t (fun (s : TileSt) => { s with onPll1 := true }) }
  let d2 := (List.range 8).foldl (fun e s =>
    let p := 8 * t + s
    if e.isS p && ((e.link p).state == 2 || (e.link p).state == 3) then (e.setLink p (Link.paused · .pll)).sendAlign p
    else if e.isH p && (e.pport p).dlActive then e.commandLink p 3 else e) d1
  (d2.fire (srcTile t 2)).corFault 5 t t 2

/-- A domain that holds the tile is isolated. -/
def Dev.tileIsolated (d : Dev) (t : Nat) : Bool :=
  d.cont.domain.any (fun x => x.2.valid && ((x.2.kind == 1 && x.2.id == t) || x.2.kind == 0)) ||
    d.cont.extra.any (fun x => x == (1, t) || x.1 == 0)

/-- PLL_LOCK_LOSS: lane PLL 0 or 1 of a tile loses lock. -/
def pllLockLoss (t : Fin 9) (pll : Fin 2) (d : Dev) : Dev :=
  let s := d.ln.tile.rd t
  let had := if pll.val = 0 then s.pll0 else s.pll1
  if !had then d
  else
    let d1 := { d with ln.tile := d.ln.tile.upd t (fun (s : TileSt) => if pll.val = 0 then { s with pll0 := false } else { s with pll1 := false }) }
    if s.onPll1 = (pll.val == 1) then
      if pll.val = 0 ∧ s.pll1 = true ∧ (d1.policy 1).enable = true ∧ (d1.tileIsolated t) = false then
        ((d1.pllMove t).startInternal { op := 0x06, arg0 := t, total := 1, phase := 9 }).1
      else (if pll.val = 0 ∧ s.pll1 = false then d1.spareExhausted 1 t else d1).pllGone t
    else d1

/-! ### Staged equalisation (R161, Tables 5.10 and 5.11) -/

/-- Address of a lane register. -/
def laneAddr (t n off : Nat) : Nat := 0x100000 + 0x100000 * t + 0x400 * n + off

/-- The check of a staged TX_FFE_SET against R135. -/
def eqCode (tx : Nat) : Nat :=
  let pre := fld tx 0 4
  let main := fld tx 8 6
  let post := fld tx 16 5
  if 8 < pre then 1 else if 16 < post then 2 else if pre + main + post ≠ 48 then 3
  else if main < 12 + pre + post then 4 else 0

/-- EQ_COMMIT by port `c`; with no field changed since the last accepted commit it is accepted (R240). -/
def eqCommit (c : CmdPort) (t : Fin 9) (n : Fin 18) (d : Dev) : Dev :=
  let l := d.lane t n
  let code := if l.eqPend.getD (l.txAcc, l.rxAcc) = (l.txSh, l.rxSh) then 0
    else if l.eqPort.isSome && l.eqPort != some c.key then 0xF0
    else if d.barLocked (laneAddr t n 0x18) 12 then 0xF1
    else if d.role t = 1 ∧ d.mode.base ≠ .m10 then 5 else eqCode l.txSh
  if code ≠ 0 then d.setLane t n (fun l => { l with eqStatus := code })
  else
    let d1 := d.setLane t n (fun l => { l with eqStatus := 0, eqPend := some (l.txSh, l.rxSh) })
    if d.mode.base = .m10 then d1.queueCommit (.eq (laneKey t n)) else d1

/-- An accepted pair takes effect on the tick in M10. -/
def Dev.eqEffect (d : Dev) (k : Nat) : Dev :=
  { d with ln.lane := d.ln.lane.upd k (fun (l : Lane) => match l.eqPend with | some (tx, rx) => { l with txAcc := tx, rxAcc := rx, eqPend := none, pre := fld tx 0 4, main := fld tx 8 6, post := fld tx 16 5, ctle := fld rx 0 4 } | none => l) }

/-! ### Test loops, PRBS and margining (R157 to R159) -/

/-- The `n` first bits of a lane's pattern generator (R158). -/
def Dev.patternBits (d : Dev) (t n k : Nat) : Nat :=
  let code := (d.lane t n).prbsGen
  prbsRun code k (1 + Config.laneSeed (laneKey t n) % (2 ^ prbsOrder code - 1))

/-- The generator's pattern replaces the coded stream; a loop that idles the pair, or that sends back, keeps it off. -/
def Dev.sendPattern (d : Dev) (t n : Nat) : Dev :=
  let l := d.lane t n
  let pam4 := !d.isNrz t n
  if l.prbsGen = 0 ∨ l.loop = 1 ∨ l.loop = 3 then d
  else d.emit (.pattern (laneKey t n) pam4 (if pam4 then grayLevels 64 (d.patternBits t n 128) else d.patternBits t n 128))

/-- A loop or a generator on a lane of a trained port takes the port down, and the lane enters TEST; with neither left it
goes OFF. -/
def Dev.enterTest (d : Dev) (t n : Nat) : Dev :=
  let l := d.lane t n
  if l.loop = 0 ∧ l.prbsGen = 0 then (if l.state = 11 then d.setLane t n (fun x => { x with state := 0 }) else d)
  else
    let d1 := (d.setLane t n (fun x => { x with state := 11, lock := false })).sendPattern t n
    match d1.lanePort t n with
    | some p => if d1.isS p then d1.linkDown p 3 else if d1.isH p && (d1.pport p).dlActive then d1.dlDown p else d1
    | none => d1

/-- LOOP: a write of LANE[n].LOOP by port `c`. -/
def loop (c : CmdPort) (t : Fin 9) (n : Fin 18) (v : Nat) (d : Dev) : Dev :=
  if d.mode.base ≠ .m10 then (if v % 4 = 0 then d else d.dropped c (laneAddr t n 0x40) v 2)
  else (d.setLane t n (fun l => { l with loop := v % 4 })).enterTest t n

/-- PRBS_CTRL: a write of LANE[n].PRBS_CTRL by port `c`. -/
def prbsCtrl (c : CmdPort) (t : Fin 9) (n : Fin 18) (v : Nat) (d : Dev) : Dev :=
  let gen := fld v 0 2
  let chk := fld v 4 2
  if d.mode.base ≠ .m10 ∧ (gen ≠ 0 ∨ chk ≠ 0) then d.dropped c (laneAddr t n 0x30) v 2
  else if (gen = 2 ∨ chk = 2) ∧ d.isNrz t n = true then d.dropped c (laneAddr t n 0x30) v 2
  else (d.setLane t n (fun l => { l with prbsGen := gen, prbsChk := chk, chkLock := false, prbsErr := 0, prbsBits := 0 })).enterTest t n

/-- The bits that reach a lane's checker: the generator's own in loop NEAR_SERIAL (R157). -/
def Dev.checkerIn (d : Dev) (t n bits : Nat) : Nat :=
  let l := d.lane t n
  if l.loop = 1 ∧ l.prbsGen ≠ 0 then d.patternBits t n (128 + prbsOrder l.prbsChk) else bits

/-- PRBS_LOCK: bits come in, Gray-decoded, the first first. Those that seed the checker and 128 error-free ones, which are
compared bits, lock it (R158). -/
def prbsLock (t : Fin 9) (n : Fin 18) (bits : Nat) (d : Dev) : Dev :=
  let l := d.lane t n
  if l.prbsChk ≠ 0 ∧ l.chkLock = false ∧ prbsHolds l.prbsChk (d.checkerIn t n bits) = true then
    (d.setLane t n (fun l => { l with chkLock := true, prbsBits := (l.prbsBits + 128) % 2 ^ 64 })).sendBack t n [bits]
  else d

/-- PRBS_LOCK_LOSS: more than 64 of the last 128 bits are in error; before them `bits` bits, `errs` of them in error, were
compared since they were last counted. -/
def prbsLockLoss (t : Fin 9) (n : Fin 18) (errors : Fin 129) (bits errs : Nat) (d : Dev) : Dev :=
  let l := d.lane t n
  if l.chkLock = true ∧ 64 < errors.val then
    d.setLane t n (fun l => { (l.checked (bits + 128) (errs + errors)) with chkLock := false })
  else d

/-- A write of MARGIN_CTRL without GO sets its fields; its value passes the ranges of R159 and Table 5.13. -/
def marginOk (v : Nat) : Bool := fld v 24 3 != 7 && fld v 16 2 != 3 && fld v 8 8 != 0x80 && fld v 0 6 != 0x20

/-- MARGIN_GO: a write of MARGIN_CTRL with GO by port `c`. -/
def marginGo (c : CmdPort) (t : Fin 9) (n : Fin 18) (v : Nat) (d : Dev) : Dev :=
  let l := d.lane t n
  if !d.inRunOrTest || !d.laneUsable t n then d
  else if l.marginBusy || l.pcieStep then d.dropped c (laneAddr t n 0x44) v 1
  else if !marginOk v then d.dropped c (laneAddr t n 0x44) v 2
  else d.setLane t n (fun l => { l with marginCtrl := Nat.land v 0x0703FF3F, marginBusy := true, marginDone := false, preempted := false, frozen := true })

/-- MARGIN_DONE: a register measurement ends with its number of disagreeing samples; a margining step of the port reports
its count, and stops past the error count limit. -/
def marginDone (t : Fin 9) (n : Fin 18) (errors : Nat) (d : Dev) : Dev :=
  let l := d.lane t n
  if l.marginBusy then
    (d.setLane t n (fun l => { l.thaw with marginBusy := false, marginDone := true, marginErrs := min errors (2 ^ 29 - 1) })).fire (srcTile t 5)
  else if l.pcieStep then
    d.setLane t n (fun l =>
      let head := l.pcieMargin % 256
      if l.pcieLimit < errors then { l.thaw with pcieStep := false, pcieMargin := pack [(0, head), (8, min errors 63)] }
      else { l with pcieMargin := pack [(0, head), (8, 0x80 + min errors 63)] })
  else d

/-- PCIE_MARGIN_COMMAND on a lane of an H port. -/
def pcieMarginCommand (t : Fin 9) (n : Fin 18) (cmd : Fin 65536) (d : Dev) : Dev :=
  if d.role t = 1 then
    match d.cutPort t n with
    | some p => if n.val < 16 then d.laneMargin t n p cmd else d
    | none => d
  else d

end Sys2Proof.Machine
end

