-- ==== Sys2Proof/Machine/Contain.lean ====
section
/-! DEFINITION. Containment: domains and their fences, triggers, isolation, CONTAIN messages, restoration, Transit
timeouts, and the rows of SRAM macros (R399 to R424). -/

namespace Sys2Proof.Machine

/-! ### Fences of domains (R404) -/

/-- Fence one S port: the link of a LINK or TILE domain goes down with cause CONTAINED; in a DEVICE domain it sends IDLE
flits only. -/
def Dev.fenceLink (d : Dev) (p : Nat) (device : Bool) : Dev :=
  if device then ((d.fencePort p 4).dropStaging p).setLink p (fun l => { l with idleOnly := true, tx := [], txPkt := [] })
  else
    let d1 := (d.fencePort p 4).setLink p (fun l => { l with fenced := true })
    if (d1.link p).state = 1 then (d1.setLink p (fun l => { l with state := 5, lastCause := 10 })).lanesOff p else d1.linkDown p 10

/-- Fence one H port; its link goes to Disabled unless the domain is DEVICE. -/
def Dev.fenceHost (d : Dev) (p : Nat) (device : Bool) : Dev :=
  let d1 := ((d.fencePort p 4).retireToward p).setPport p (fun s => { s with fenced := true })
  if device then d1 else d1.commandLink p 0

/-- Fence a domain (Table 13.3). -/
def Dev.fenceDomain (d : Dev) (kind id : Nat) : Dev :=
  if kind = 3 then
    let d1 := d.dpcTrigger id 0 0
    (d1.fencePort id (if (d1.pport id).dpcCompUr then 1 else 4)).retireToward id
  else
    let ports := (List.range d.ports).filter (d.covers kind id)
    let d1 := ports.foldl (fun e p => if e.isS p then e.fenceLink p (kind == 0) else if e.isH p then e.fenceHost p (kind == 0) else e) d
    if kind = 4 then
      (d1.tallyMembers (fun n => d1.fnPart n == id) 0x08).parentQuiesce id 0x08
    else if kind = 0 then
      let open_ := d1.sw.tr.filter (fun e => e.2.state == 1)
      ((open_.foldl (fun e x => e.trAbort x.1) d1).tallyMembers (fun _ => true) 0x08).bbFreezeDevice
    else d1

/-- Service jobs on an element inside the domain are to end as cancelled (R86). -/
def Dev.abandonJobs (d : Dev) (kind id : Nat) : Dev :=
  let hit := fun (j : Job) =>
    if j.op = 0x06 then kind == 0 || (kind == 1 && id == j.arg0 % 16)
    else match d.jobPort j with
      | some p => d.covers kind id p
      | none => j.isService && kind == 0
  d.activeJobs.foldl (fun e x => if x.2.isService && hit x.2 then { e with jobs.slot := e.jobs.slot.upd x.1 (fun j => { j with cancel := true, abandon := true }) } else e) d

/-! ### CONTAIN messages (R406 to R408) -/

/-- 64 us in time units. -/
def seenSpan : Nat := 64 * usUnits

/-- Send a CONTAIN of this Haldion in four copies on every S port that is UP. -/
def Dev.sendContain (d : Dev) (cls kind id : Nat) : Dev :=
  let m : Margin := { type := 0x08, tag := d.cont.nextTag, body := pack [(0, d.run.switchId), (12, kind), (16, id), (32, cls)] }
  let d1 := (d.sPorts.filter (fun p => (d.link p).live)).foldl (fun e p => e.sendCopies p m) d
  { d1 with cont.nextTag := (d.cont.nextTag + 1) % 16, cont.seen := d1.cont.seen ++ [({ origin := d.run.switchId, tag := d.cont.nextTag, kind := kind, id := id, time := d.now } : SeenKey)] }

/-- What a CONTAIN of another Haldion's DEVICE domain does (R408). -/
def Dev.remoteDevice (d : Dev) (o cls port : Nat) : Dev :=
  if cls = 2 then { d with cont.contained := d.cont.contained &&& ~~~(1#4096 <<< o) }
  else
    let d1 := ({ d with cont.contained := d.cont.contained ||| (1#4096 <<< o) }).uncFault 18 o (portTile port) 0xF 0 port
    (d1.sw.tr.filter (fun e => e.2.state == 1 && e.2.destSwitch == some o)).foldl (fun e x => e.trAbort x.1) d1

/-- CONTAIN: a message arrives on S port `p` (R190, R407). -/
def contain (p : Fin 72) (m : Margin) (d : Dev) : Dev :=
  let l := d.link p
  let o := fld m.body 0 12
  let kind := fld m.body 12 4
  let id := fld m.body 16 16
  let cls := fld m.body 32 8
  if l.state < 2 ∨ l.state = 5 ∨ l.recent.any (fun r => r.1 == o && r.2.1 == m.tag) = true then d
  else
    let d0 := d.setLink p (fun l => { l with recent := l.recent ++ [(o, m.tag, 0)] })
    if cls ≠ 1 ∧ cls ≠ 2 then d0.setLink p (fun l => { l with marginDrop := satAdd 16 l.marginDrop 1 })
    else
      let live := d0.cont.seen.filter (fun s => decide (d0.now < s.time + seenSpan))
      if live.any (fun s => s.origin == o && s.tag == m.tag && s.kind == kind && s.id == id) then { d0 with cont.seen := live }
      else
        let full := 1024 ≤ live.length
        let d1 := if full then { d0 with cont.seen := live, cont.notForwarded := satAdd 32 d0.cont.notForwarded 1 }
          else (d0.sPorts.filter (fun x => x != p.val && (d0.link x).live)).foldl (fun e x => e.sendCopies x m)
            { d0 with cont.seen := live ++ [({ origin := o, tag := m.tag, kind := kind, id := id, time := d0.now } : SeenKey)] }
        if kind = 0 ∧ o ≠ d.run.switchId ∧ cls = 1 then (d1.fire 0x3A5).remoteDevice o cls p
        else
          let d2 := d1.log 0x3A5 2 { inst := o, detail := [o, pack [(0, id), (16, kind), (24, cls)]] }
          if kind = 0 ∧ o ≠ d.run.switchId then d2.remoteDevice o cls p else d2

/-! ### Isolation (R405, R406, R415) -/

/-- A trigger has been delivered to every stop: its domain is fenced, unless it lies inside an isolated one. Without a free
entry its fault record carries ENTRY_FULL (R415). -/
def Dev.isolate (d : Dev) (t : Trigger) : Dev :=
  let inside := d.isolated.any (fun x => d.encloses x.1 x.2 t.kind t.id)
  let dom := d.cont.domain.map (fun x => if x.2.valid ∧ x.2.restoring ∧ d.encloses x.2.kind x.2.id t.kind t.id then (x.1, { x.2 with restoring := false }) else x)
  let hit := dom != d.cont.domain
  let d0 := if hit then { d with cont.domain := dom, cont.restorePending := dom.any (fun x => x.2.restoring), cont.restoreCode := 2 } else d
  if 4 < t.kind ∨ inside = true then { d0 with cont.classify := d0.cont.classify ++ [(t, false)] }
  else
    let slot := (List.range 64).find? (fun k => !(d0.cont.domain.rd k).valid)
    let d1 := match slot with
      | some k => { d0 with cont.domain := d0.cont.domain.wr k { valid := true, kind := t.kind, id := t.id, cause := t.bit, tick := d0.stampTick % 2 ^ 32, source := t.source } }
      | none => { d0 with cont.extra := d0.cont.extra ++ [(t.kind, t.id)], cont.uncLog := d0.cont.uncLog.map (fun (r : FaultRec) => if r.bit = t.bit ∧ r.source = t.source then { r with entryFull := true } else r) }
    let d2 := { d1 with cont.classify := d1.cont.classify ++ [(t, slot.isNone)] }
    let d3 := ((d2.abandonJobs t.kind t.id).fenceDomain t.kind t.id).sendContain 1 t.kind t.id
    if t.kind = 4 then d3.fire (srcPart t.id 2) else d3

/-- TRIGGER_DELIVERY: the oldest trigger of a stop takes its ring slot (R405). Stop 9 is the management cluster's. -/
def triggerDelivery (stop : Fin 10) (d : Dev) : Dev :=
  match d.cont.stop.rd stop with
  | [] => d
  | t :: r => d.watchMode (fun e => ({ e with cont.stop := e.cont.stop.wr stop r }).isolate t)

/-- Functions of a partition that wait in RESETTING for their job get it (Table 13.5, R374). -/
def Dev.isolationJob (d : Dev) (q : Nat) : Dev :=
  let ns := (d.parentFns q).filter (fun n => (d.trav.fn.rd n).state == 2 && (d.trav.fn.rd n).job == 0)
  if ns.isEmpty then d
  else
    let total := ns.foldl (fun a n => a + d.fnQueues n) 0
    let (d1, k) := d.startInternal { op := 0x04, total := total, arg0 := ns.headD 0, staged := ns.foldl (fun t n => t.ins n 1) [] }
    { d1 with trav.fn := ns.foldl (fun t n => t.upd n (fun f => { f with job := k + 1 })) d1.trav.fn }

/-- The CTC classifies the isolations of the tick: their Fatal records, its own Error records, and the reset jobs
(Table 13.5, R402, R437). -/
def Dev.classifyFaults (d : Dev) : Dev :=
  let ctc := d.cores.roleMap.rd 1
  let runs := ctc != 0 && (d.cores.core.rd (ctc - 1)).state == .running
  d.cont.classify.foldl (fun e x =>
    let t := x.1
    let r : FaultRec := { bit := t.bit, cls := 2, entryFull := x.2, kind := t.kind, id := t.id, tick := e.stampTick, offset := e.stampOffset, source := t.source, detail := t.detail }
    let e1 := e.faultLog t.bit 4 (bitAt e.cont.uncMask t.bit) r
    let e2 := if runs then e1.enqueue { tick := e1.stampTick, offset := e1.stampOffset, code := t.bit, severity := 3, writer := 2, partition := if t.kind = 4 then t.id else 0x1F, inst := t.source % 2 ^ 16, detail := r.words.take 7 } else e1
    if t.kind = 4 then e2.isolationJob t.id else e2) { d with cont.classify := [] }

/-! ### Software trigger and restoration (R414) -/

/-- The domain exists on this part. -/
def Dev.domainExists (d : Dev) (kind id : Nat) : Bool :=
  if kind = 0 then id == 0 else if kind = 1 then decide (id < d.tiles) else if kind = 2 then d.isS id
  else if kind = 3 then d.isH id && (d.upstreamOf id).isNone else if kind = 4 then decide (id < 24) && (d.run.part.rd id).present else false

def containBase : Nat := 0x10000

/-- CONTAIN_TRIGGER: a write by port `c`; the domain is as written. -/
def Dev.containTrigger (d : Dev) (c : CmdPort) (v : Nat) : Dev :=
  if !bitAt v 31 then d
  else if d.domainExists (fld v 16 4) (fld v 0 16) then d.uncFault 17 (fld v 0 16) 9 (fld v 16 4) (fld v 0 16) (fld v 16 4)
  else d.dropped c (containBase + 0x1088) v 2

/-- The cause of a domain is still present. -/
def Dev.causePresent (d : Dev) (x : Domain) : Bool :=
  bitAt d.cont.uncStatus x.cause || (x.cause == 16 && (let a := (d.pport x.source).aer; Nat.land a.uncSta a.uncSev != 0))

/-- The code of a restoration of entry `k`. -/
def Dev.restoreCode (d : Dev) (k : Nat) : Nat :=
  let x := d.cont.domain.rd k
  if !x.valid then 1
  else if d.causePresent x then 2
  else if d.isolated.any (fun y => !(y.1 == x.kind && y.2 == x.id) && d.encloses y.1 y.2 x.kind x.id) then 3
  else if x.kind = 0 then 4 else 0

/-- CONTAIN_RESTORE. -/
def Dev.containRestore (d : Dev) (v : Nat) : Dev :=
  if !bitAt v 31 then d
  else
    let k := fld v 0 6
    let code := d.restoreCode k
    if code = 0 then { d with cont.restoreCode := 0, cont.restorePending := true, cont.domain := d.cont.domain.upd k (fun x => { x with restoring := true }) }
    else { d with cont.restoreCode := code }

/-- The fence of a restored domain lifts from every port that no other domain covers (R414). -/
def Dev.liftFence (d : Dev) (kind id : Nat) : Dev :=
  let ports := (List.range d.ports).filter (fun p => d.covers kind id p && !d.coveredPort p)
  ports.foldl (fun e p =>
    if e.isS p then
      let e1 := e.setLink p (fun l => { l with fenced := false })
      if (e1.link p).state = 5 ∧ (e1.link p).heldDown 0 = false then e1.retrain p else e1
    else if e.isH p then
      let e1 := e.setPport p (fun s => { s with fenced := kind != 3 && s.dpcTriggered })
      if kind = 3 then e1.dpcClear p
      else if (e1.pport p).adminDown || (e1.pport p).dpcTriggered then e1 else e1.commandLink p 1
    else e) d

/-- Accepted restorations take effect at the boundary. -/
def Dev.restoreEffect (d : Dev) : Dev :=
  let rs := d.cont.domain.filter (fun x => x.2.valid && x.2.restoring)
  rs.foldl (fun e x =>
    let e1 := ({ e with cont.domain := e.cont.domain.wr x.1 {}, cont.restorePending := false }).liftFence x.2.kind x.2.id
    let e2 := e1.sendContain 2 x.2.kind x.2.id
    if x.2.kind = 4 then e2.fire (srcPart x.2.id 3) else e2) d

/-! ### Transit timeouts (R409 to R411) -/

/-- TRANSIT_SCAN: every open entry that has reached its timeout is retired. -/
def transitScan (d : Dev) : Dev :=
  let old := d.sw.tr.filter (fun e => e.2.state == 1 && decide (e.2.time + d.trTimeoutOf e.2.part ≤ d.now))
  old.foldl (fun e x =>
    let t := x.2
    let dest := match t.destSwitch with
      | some s => 65536 + s
      | none => t.destPort
    let e1 := (({ e with sw.timeouts := satAdd 32 e.sw.timeouts 1 }).countTable 0x51 t.part 1).fire (srcPart t.part 1)
    let e2 := e1.uncFault 8 x.1 9 4 t.part (pack [(0, t.gen), (8, t.reqId % 65536), (24, dest % 2 ^ 17), (41, min ((e.now - t.time) / usUnits) (2 ^ 23 - 1))])
    e2.trAbort x.1) d

/-- QUARANTINE_END of entry `i`. -/
def quarantineEnd (i : Fin 65536) (d : Dev) : Dev :=
  if (d.trEntry i).state = 2 then { d with sw.tr := d.sw.tr.wr i { gen := (d.trEntry i).gen } } else d

/-! ### SRAM macros (R416, R419, R420, Table 13.10) -/

/-- Macros of the variant (R47). -/
def Dev.macroCount (d : Dev) : Nat := if d.is7144 then 1664 else 1392

/-- Spare rows left in macro `m`. -/
def Dev.rowsLeft (d : Dev) (m : Nat) : Nat := 4 - (d.part.rowsUsed.rd m + (d.cont.macros.rd m).used)

/-- SPARE_ROWS_LEFT. -/
def Dev.allRowsLeft (d : Dev) : Nat := (List.range d.macroCount).foldl (fun a m => a + d.rowsLeft m) 0

/-- A job is already swapping the row. -/
def Dev.rowBusy (d : Dev) (m row : Nat) : Bool := d.activeJobs.any (fun j => j.2.op == 0x08 && j.2.arg0 == m && j.2.arg1 == row)

/-- An automatic row swap starts when the policy allows it (R416). -/
def Dev.autoRow (d : Dev) (m row : Nat) : Dev :=
  if !(d.policy 3).enable || (d.cont.macros.rd m).swapped.rd row || d.rowBusy m row || d.isolated.any (fun x => x.1 == 0) then d
  else if d.rowsLeft m = 0 then d.spareExhausted 3 m
  else
    let copy := if Config.sramOwner m ≤ 2 then 0 else 1
    (d.startInternal { op := 0x08, arg0 := m, arg1 := row, arg2 := copy, total := if copy = 1 then 3 else 2 }).1

/-- A corrected error of a row counts for its macro and its row; the policy may swap the row (R416, R417). -/
def Dev.rowCorrected (d : Dev) (m row : Nat) : Dev :=
  let d1 := { d with cont.macros := d.cont.macros.upd m (fun x => { x with corrected := satAdd 16 x.corrected 1 }) }
  let d0 := if Config.sramOwner m = 3 ∨ Config.sramOwner m = 4 then d1.countTable 0x55 0 1 else d1
  let (d2, hit) := d0.spareCount 3 (512 * m + row)
  if hit then d2.autoRow m row else d2

/-- A corrected error in a row: SRAM_CORRECTED, counted per row. -/
def Dev.sramCorrected (d : Dev) (m row : Nat) : Dev := (d.corFault 0 m row).rowCorrected m row

/-- An uncorrectable error in a row. -/
def Dev.sramUncorrected (d : Dev) (m row : Nat) : Dev :=
  ({ d with cont.macros := d.cont.macros.upd m (fun x => { x with uncorrectable := satAdd 16 x.uncorrectable 1 }) }).autoRow m row

/-- The bit of Table 13.2 for an uncorrectable error in a macro of an owner that no access has met. -/
def ownerBit (owner : Nat) : Option Nat :=
  if owner = 0 ∨ owner = 1 ∨ owner = 2 ∨ owner = 9 then some 0 else if owner = 3 ∨ owner = 4 then some 1
  else if owner = 5 then some 2 else if owner = 6 ∨ owner = 7 then some 3 else none

/-- What a patrol or a SCRUB finds in a row (R420). -/
def Dev.scrubFinds (d : Dev) (m row : Nat) (bad : Bool) : Dev :=
  if !decide (m < d.macroCount) then d
  else if !bad then d.sramCorrected m row
  else
    let d1 := d.sramUncorrected m row
    match ownerBit (Config.sramOwner m) with
    | some b => d1.uncFault b m 9 0xF 0 row
    | none => d1

/-- PATROL_SCRUB: the patrol meets row `row` of macro `m`, whose error is corrected or cannot be. -/
def patrolScrub (m : Nat) (row : Fin 512) (bad : Bool) (d : Dev) : Dev := if d.mode.base = .m0 then d else d.scrubFinds m row bad

/-- SPARE_WINDOW_END: the block of a kind ends (R417). -/
def spareWindowEnd (kind : Fin 5) (d : Dev) : Dev :=
  if d.spareWindow kind = 0 then d
  else
    let d1 := d.spareBlockEnd kind
    if kind.val = 2 then { d1 with sw.plane := d1.sw.plane.mapAll (fun _ p => { p with errors := 0 }) } else d1

/-- DATAPATH_PLL_LOSS: the DCLK PLL loses lock; MCLK falls back to the common reference, and without that reference,
`ref` false, no command is answered (R466). -/
def datapathPllLoss (ref : Bool) (d : Dev) : Dev :=
  if d.mode.base == .m0 || d.bus.pllFallback then d
  else
    let d1 := { d with bus.pllFallback := true, bus.refLost := !ref }
    if d1.inRunOrTest then d1.uncFault 13 0 9 0 0 else d1

/-- SPARE_INVENTORY (Table 13.8). -/
def Dev.spareInventory (d : Dev) : Nat :=
  let spares := (List.range d.tiles).flatMap (fun t => [d.lane t 16, d.lane t 17])
  let plls := (List.range d.tiles).map (fun t => d.ln.tile.rd t)
  let core := if (d.cores.core.rd 4).state == .standby then 1 else if d.cores.takeover || (d.cores.core.rd 4).role.isSome then 2 else 0
  let plane := if (List.range 9).any (fun k => (d.planeSt k).state == 0 && !(d.part.planeOff && k == 8)) then 1 else if (d.planeSt 8).state = 1 then 2 else 0
  pack [(24, (spares.filter (fun l => l.state == 8)).length), (16, (spares.filter (fun l => l.state == 9)).length),
        (12, (plls.filter (fun p => p.pll1 && !p.onPll1)).length % 16), (8, (plls.filter (fun p => p.onPll1)).length % 16), (4, plane), (2, core)]

end Sys2Proof.Machine
end

