-- ==== Sys2Proof/Machine/Modes.lean ====
section
/-! DEFINITION. M0 and its release (R76 to R79, R82, R499 to R502). -/

namespace Sys2Proof.Machine

/-- PERST_N_T0 holds or causes M0: it is low and the sampled AUTH_SEL[0] is 1 (Table 3.1). -/
def ModeSt.perstHolds (m : ModeSt) : Bool := bitAt m.authSel 0 && !bitAt m.perst 0

/-- Everything that holds M0 has gone (R77). -/
def ModeSt.mayRelease (m : ModeSt) : Bool := m.pwrgd && m.holdEnded && m.rstN && !m.devReset && !m.perstHolds

/-- The mode state on entry to M0: pins, the last AUTH_SEL sample, the causes and the rail monitor stay (R77, R78). -/
def ModeSt.enterM0 (m : ModeSt) : ModeSt :=
  { m with base := .m0, released := false, srOpen := false, t8Open := false, t8Close := false, entry := .none,
           responder := 0 }

/-- Entry to M0: all traffic stops and everything but RESET_CAUSE is lost (R78). The part, time and the model's own
records stay. -/
def Dev.enterM0 (d : Dev) : Dev :=
  { now := d.now, part := d.part, mode := { d.mode.enterM0 with m0Cycle := d.mclk }, pkg := { d.pkg with tap := .bypass }, out := d.out,
    freeCtr := d.freeCtr }

/-- Reset release, when nothing holds M0 any more (R77). -/
def Dev.tryRelease (d : Dev) : Dev :=
  if d.mode.base == .m0 && d.mode.mayRelease then { d with mode.released := true, mode.perstM0 := false } else d

/-- Sample AUTH_SEL at the instant that ends M0 (R63, R77). -/
def Dev.sampleStraps (d : Dev) (straps : Nat) : Dev := { d with mode.authSel := straps % 8 }

/-- The device is in M0 and has not been released. -/
def Dev.held (d : Dev) : Bool := d.mode.base == .m0 && !d.mode.released

/-- A cause that comes while the device is held already comes in the MCLK cycle of the one that began the M0 (R78). -/
def Dev.sameCause (d : Dev) : Bool := d.held && d.mode.m0Cycle == d.mclk

/-- PWRGD_RISE: RESET_CAUSE shows POWER alone and the 100 us hold begins (R77, Table 3.5). -/
def pwrgdRise (d : Dev) : Dev :=
  if d.mode.pwrgd then d
  else { d with mode := { d.mode with pwrgd := true, holdEnded := false, causePower := true, causeRst := false,
                                      causePerst := false, causeDev := false, resetPort := 0 } }

/-- PWRGD_FALL: M0; the state that a fallen rail left ends when the rails are back (R76, R78, R500). -/
def pwrgdFall (d : Dev) : Dev :=
  let e := d.enterM0
  { e with mode := { e.mode with pwrgd := false, holdEnded := false, devReset := false, perstM0 := false,
                                 causePower := false, causeRst := false, causePerst := false, causeDev := false,
                                 resetPort := 0, authSel := 0,
                                 railFail := e.mode.railFail && e.mode.railsLow != 0 } }

/-- RST_N_FALL: M0 with its cause. A device that M0 holds already keeps its causes, unless both came in one MCLK cycle
(R76, R78, Table 3.5); RST_N has not stayed high through that M0 (R77). -/
def rstNFall (d : Dev) : Dev :=
  if d.held || !d.mode.pwrgd then
    { d with mode := { d.mode with rstN := false, perstM0 := false, causeRst := d.mode.causeRst || (d.mode.pwrgd && d.mode.rstN && d.sameCause) } }
  else
    let e := d.enterM0
    { e with mode := { e.mode with rstN := false, causeRst := true, perstM0 := false } }

/-- RST_N_RISE: AUTH_SEL is sampled when the 100 us hold has ended, and release follows when nothing else holds M0
(R77). -/
def rstNRise (straps : Fin 8) (d : Dev) : Dev :=
  if d.mode.rstN then d
  else
    let e := { d with mode.rstN := true }
    if e.held && e.mode.pwrgd && e.mode.holdEnded && !e.mode.devReset then (e.sampleStraps straps.val).tryRelease else e

/-- POWER_HOLD_END: the 100 us hold ends; AUTH_SEL is sampled here when RST_N is already high (R77). -/
def powerHoldEnd (straps : Fin 8) (d : Dev) : Dev :=
  if d.mode.pwrgd && !d.mode.holdEnded then
    let e := { d with mode.holdEnded := true }
    if e.mode.rstN then (e.sampleStraps straps.val).tryRelease else e
  else d

/-- A Steward's write of DEVICE_RESET (R82, Table 3.6). -/
def Dev.writeDeviceReset (d : Dev) (p : CmdPort) (addr value : Nat) : Dev :=
  if fld value 0 16 = 0x4D30 then
    let e := d.enterM0
    { e with mode := { e.mode with devReset := true, causeDev := true, resetPort := sourceCode p, perstM0 := false } }
  else d.dropped p addr value 2

/-- DEVICE_RESET_END: the 20 us end, AUTH_SEL is sampled and release follows (R77). -/
def deviceResetEnd (straps : Fin 8) (d : Dev) : Dev :=
  if d.mode.devReset then (({ d with mode.devReset := false }).sampleStraps straps.val).tryRelease else d

/-- PERST_N_T0 low in M0 to M2 with the sampled AUTH_SEL[0] at 1: M0 (Table 3.1); a second cause in the MCLK cycle of the
first sets its bit too (R78). -/
def Dev.perstT0M0 (d : Dev) : Dev :=
  if d.mode.perstHolds && d.sameCause then
    { d with mode := { d.mode with causePerst := d.mode.causePerst || d.mode.pwrgd, perstM0 := d.mode.pwrgd && d.mode.rstN } }
  else if d.mode.perstHolds && !d.held && (d.mode.base == .m0 || d.mode.base == .m1 || d.mode.base == .m2) then
    let e := d.enterM0
    { e with mode := { e.mode with causePerst := true, perstM0 := e.mode.pwrgd && e.mode.rstN } }
  else d

/-- PERST_N_T0 rises in M0: a fresh sample when PERST_N_T0 alone caused the M0, and release (R77). -/
def Dev.perstT0Rise (d : Dev) (straps : Nat) : Dev :=
  if d.held then (if d.mode.perstM0 then d.sampleStraps straps else d).tryRelease else d

/-- SR_BYPASS_OPEN: after the SRAM clearing the service ring bypass opens (Table 3.2). -/
def srBypassOpen (d : Dev) : Dev :=
  if d.mode.base == .m0 && d.mode.released && !d.mode.railFail then { d with mode.srOpen := true } else d

/-- M1_ENTRY: MODE_STATUS.BASE = 1, a RESPONDER value is drawn from the noise source (Table 3.2, R464). -/
def m1Entry (d : Dev) : Dev :=
  if d.mode.base == .m0 && d.mode.srOpen && !d.mode.railFail then
    (({ d with mode.base := .m1, mode.responder := d.freeVal 12 }).tickFree).fire 0x020
  else d

/-- RAIL_LOW: a rail falls below its threshold; until PWRGD has been low no command is answered (R500). -/
def railLow (r : Fin 6) (d : Dev) : Dev :=
  { d with mode.railFail := true, mode.railsLow := setBit d.mode.railsLow r.val }

/-- RAIL_RETURN: the rail is back; the part leaves the state only through PWRGD low (R500). -/
def railReturn (r : Fin 6) (d : Dev) : Dev :=
  let low := clrBit d.mode.railsLow r.val
  { d with mode.railsLow := low, mode.railFail := d.mode.railFail && (d.mode.pwrgd || low != 0) }

/-- The service ring bypass is open: mode machine, no M0 hold, every rail good (R501). Its row of Table 3.2 opens it
before M1. -/
def Dev.srIsOpen (d : Dev) : Bool := d.mode.srOpen && !d.mode.railFail

/-- Something arrives on an SRI pair. With the package switch in its bypass position it stands unchanged on the SRO pair
of the same number as `o`, whatever the state of the part (R88, R501); in the die position the die does `f` with it while
the bypass is open, and what reaches a die whose switch is about to move is lost (R502). -/
def Dev.ringIn (d : Dev) (o : Out) (f : Dev → Dev) : Dev :=
  if !d.pkg.srDie then { d with out := o :: d.out } else if d.srIsOpen then f d else d

/-- The T8 bypass is open (R89, R501). -/
def Dev.t8IsOpen (d : Dev) : Bool := d.mode.t8Open && !d.mode.railFail && d.is7144

/-- BYPASS_STATUS (Table 3.3); the HL-7080 has no T8 bypass (R87). -/
def Dev.bypassStatus (d : Dev) : Nat :=
  pack [(1, b2n (d.is7144 && !d.t8IsOpen)), (0, b2n (!d.srIsOpen))]

/-- RESET_CAUSE (Table 3.5). -/
def ModeSt.resetCause (m : ModeSt) : Nat :=
  pack [(12, m.resetPort), (3, b2n m.causeDev), (2, b2n m.causePerst), (1, b2n m.causeRst), (0, b2n m.causePower)]

/-- A write of RESET_CAUSE clears the bits written 1 (Table 3.5). -/
def ModeSt.clearCause (m : ModeSt) (v : Nat) : ModeSt :=
  { m with causePower := m.causePower && !bitAt v 0, causeRst := m.causeRst && !bitAt v 1,
           causePerst := m.causePerst && !bitAt v 2, causeDev := m.causeDev && !bitAt v 3 }

end Sys2Proof.Machine
end

