-- ==== Sys2Proof/Machine/Tick.lean ====
section
/-! DEFINITION. The survey tick: marks, delay exchanges, parents, tick states, and the time line's part of a boundary
(R100 to R118, R517, R518). Instants are in units of 62.5 ps. -/

namespace Sys2Proof.Machine

/-- ps from units of 62.5 ps. -/
def unitsToPs (u : Int) : Int := u * 125 / 2

/-- TICK_PIN_DELAY in units. -/
def TickSt.pinUnits (t : TickSt) : Nat := t.pinDelay * 2 / 125

/-- The device follows; it is not the tick source. -/
def Dev.follows (d : Dev) : Bool := d.tick.joined && !d.run.tickSourceRole

/-! ### Outputs (R103) -/

/-- The S ports whose link is up. -/
def Dev.upPorts (d : Dev) : List Nat := d.sPorts.filter (fun p => (d.link p).live)

/-- A mark's fields in a margin slot; REMAIN is filled in when the flit leaves. -/
def markBody (m : Mark) : Nat :=
  pack [(0, m.sourceId), (12, m.depth), (17, m.period), (20, b2n m.holdover), (21, m.number % 2 ^ 56)]

/-- The mark that announces the coming boundary. -/
def Dev.ownMark (d : Dev) : Mark :=
  { sourceId := if d.run.tickSourceRole then d.run.switchId else d.tick.sourceId, depth := d.tick.depth,
    period := d.run.tickPeriod, holdover := d.tick.state == .holdover, number := d.tick.nextNumber, remain := (d.tick.next - d.now) % 2 ^ 24 }

/-- The source, a LOCKED follower with no correction left, or one in HOLDOVER sends marks. -/
def Dev.sendsMarks (d : Dev) : Bool :=
  d.tick.joined && d.run.tickSource != 2 &&
    (d.run.tickSourceRole || (d.tick.state == .locked && d.tick.slew == 0) || d.tick.state == .holdover)

/-- TICK_MARK_SEND: one mark on every output of the medium. -/
def tickMarkSend (d : Dev) : Dev :=
  if !d.sendsMarks then d
  else
    let m := d.ownMark
    if d.run.tickSource = 0 then
      [0, 1].foldl (fun e n => e.emit (.mark n m.sourceId m.depth m.period m.holdover m.number m.remain)) d
    else d.upPorts.foldl (fun e p => e.sendMargin p { type := 0x01, body := markBody m }) d

/-! ### States (Table 4.2, R112) -/

/-- Enter a tick state with its TICK_STATE record; entry to HOLDOVER is device fault TICK_HOLDOVER (R112, R427). -/
def Dev.tickState (d : Dev) (s : TickState) : Dev :=
  let old := d.tick.state
  if old = s then d
  else
    let n := match s with | .acquiring => 0 | .locked => 1 | .holdover => 2 | .freeRun => 3 | .source => 4
    let d1 := { d with tick.state := s }
    if s = .holdover then (d1.fire 0x021).corFault 4 n 0 2
    else d1.log 0x021 (if s = .freeRun then 3 else 1) { inst := n, detail := [n] }

/-- Correct the time line on entry to LOCKED (R111): a slew when `agree` (the numbers agree, and the entry may slew) and
the offset is 64 ns or less, else a step, which adopts the number `n` at the boundary that it changes. -/
def Dev.tickLock (d : Dev) (off : Int) (agree : Bool) (n : Option Nat) : Dev :=
  let d1 := ({ d with tick.offsetPs := unitsToPs off, tick.after := none, tick.learned := none, tick.rateFrom := none, tick.rateRest := 0 }).tickState .locked
  if agree ∧ off.natAbs ≤ 1024 then { d1 with tick.slew := off, tick.stepLeft := 0, tick.adopt := none }
  else
    let m := n.getD d1.tick.nextNumber
    ({ d1 with tick.slew := 0, tick.stepLeft := off, tick.adopt := n }).log 0x024 1 { detail := [m % 2 ^ 32, m / 2 ^ 32] }

/-- The rate is measured from the boundary placed at `place`, `ahead` boundaries past the coming one, and against the one
from which the measure began; it begins anew after 1,024 periods. The longest measure since the entry to LOCKED holds
(R110; how the rate is learned is a DESIGN CHOICE, notes/assumptions/65.md). -/
def TickSt.learn (t : TickSt) (place ahead : Nat) : TickSt :=
  match t.rateFrom with
  | none => if ahead = 0 then { t with rateFrom := some (place, 0) } else t
  | some (p0, k0) =>
    let k := k0 + ahead
    if k = 0 ∨ place ≤ p0 then t
    else
      let t1 := if (t.learned.map Prod.snd).getD 0 ≤ k then { t with learned := some (place - p0, k), rateRest := 0 } else t
      if 1024 ≤ k ∧ ahead = 0 then { t1 with rateFrom := some (place, 0) } else t1

/-- No correction of R111 is under way. -/
def TickSt.steady (t : TickSt) : Bool := t.slew == 0 && t.stepLeft == 0 && t.adopt.isNone

/-! ### Marks (R104 to R106) -/

/-- Port of an input number of 16 and above. -/
def inputPort (i : Nat) : Nat := i - 16

/-- The input belongs to the follower's medium. -/
def Dev.tickInput (d : Dev) (i : Nat) : Bool :=
  (d.run.tickSource == 0 && decide (i < 2)) || (d.run.tickSource == 1 && decide (16 ≤ i) && d.isS (inputPort i) && (d.link (inputPort i)).live)

/-- Keys of the parent choice, lowest first (R104). -/
def parentKey2 (i : Nat) (x : TickInput) : Nat := ((x.sourceId * 2 + b2n x.holdover) * 32 + x.depth) * 128 + i

/-- The input that ranks first among those heard in the last 16 boundaries. -/
def TickSt.best (t : TickSt) : Option Nat :=
  ((t.inputs.filter (fun x => x.2.seen && decide (x.2.age < 16))).foldl (fun (a : Option (Nat × TickInput)) x =>
    match a with
    | some b => if parentKey2 x.1 x.2 < parentKey2 b.1 b.2 then some x else a
    | none => some x) none).map Prod.fst

/-- Median of the measured delays, in units: the mean of the middle two of an even number. -/
def TickSt.hopDelay (t : TickSt) : Nat :=
  let s := t.delays.mergeSort
  if s.isEmpty then 0
  else if s.length % 2 = 1 then s.getD (s.length / 2) 0 else (s.getD (s.length / 2 - 1) 0 + s.getD (s.length / 2) 0) / 2

/-- Follow a parent: its exchanges start again (R106). -/
def Dev.follow (d : Dev) (i : Option Nat) : Dev :=
  { d with tick.parent := i, tick.exchanges := 0, tick.delays := [], tick.run := 0, tick.open_ := [], tick.sinceExchange := 0 }

/-- An accepted mark of the parent places the boundary that it announces (R106), and may lock the follower. -/
def Dev.parentMark (d : Dev) (m : Mark) (at_ : Nat) : Dev :=
  let place := at_ + m.remain - d.tick.hopDelay
  let d1 := { d with tick.sourceId := m.sourceId, tick.depth := m.depth + 1, tick.run := d.tick.run + 1 }
  let off : Int := (place : Int) - (d.tick.next : Int)
  let lock := d1.tickLock off (m.number == d.tick.nextNumber) (some m.number)
  if d1.tick.exchanges < 8 then d1
  else match d1.tick.state with
    | .locked => if d1.tick.steady ∧ d1.tick.last < place then { d1 with tick := { (d1.tick.learn place 0) with next := place } } else d1
    | .holdover => lock
    | _ => if 4 ≤ d1.tick.run then lock else d1

/-- A mark is repeated onto the pair of its own number, from M1 until run-mode entry (R105). -/
def Dev.repeatMark (d : Dev) (i : Nat) (m : Mark) : Dev :=
  (d.emit (.mark i m.sourceId ((m.depth + 1) % 32) m.period m.holdover m.number (m.remain - d.freeVal 10))).tickFree

/-- Mark `m` reaches the tick unit from input `i` at instant `at_` (R104, R105). The medium comes first: a mark on an input
that is not of the SOURCE medium is none of the follower's, and raises no TICK_PERIOD_MISMATCH (DESIGN CHOICE,
notes/assumptions/66.md). -/
def Dev.takeMark (d : Dev) (i : Nat) (m : Mark) (at_ : Nat) : Dev :=
  if !d.tick.joined then (if i < 2 ∧ d.mode.base ≠ .m0 then d.repeatMark i m else d)
  else if d.run.tickSourceRole then
    if (d.tick.inputs.rd i).conflict then d
    else ({ d with tick.inputs := d.tick.inputs.upd i (fun x => { x with conflict := true }) }).log 0x023 3 { inst := i, detail := [m.sourceId] }
  else if !d.tickInput i then d
  else if m.period ≠ d.run.tickPeriod then
    if (d.tick.inputs.rd i).mismatch then d
    else ({ d with tick.inputs := d.tick.inputs.upd i (fun x => { x with mismatch := true }) }).log 0x022 3 { inst := i, detail := [m.period] }
  else if 30 < m.depth then d
  else
    let d1 := { d with tick.inputs := d.tick.inputs.upd i (fun x => { x with seen := true, sourceId := m.sourceId, depth := m.depth, holdover := m.holdover, age := 0 }), tick.announced := true }
    let d2 := if d1.tick.parent.isNone then d1.follow d1.tick.best else d1
    if d2.tick.parent = some i then d2.parentMark m at_ else d2

/-- TICK_MARK: mark `m` arrives on input `i` at instant `at_`; on an SRI pair a closed bypass passes it on unchanged
(R105). -/
def tickMark (i : Nat) (m : Mark) (at_ : Nat) (d : Dev) : Dev :=
  if i < 2 then d.ringIn (.mark i m.sourceId m.depth m.period m.holdover m.number m.remain) (fun d => d.takeMark i m at_) else d.takeMark i m at_

/-- PARENT_CHANGE: the parent's marks have stopped, or another input has ranked first for 1,024 boundaries (R104). Marks
have stopped when 16 boundaries have passed without an accepted one, the span over which R104 ranks inputs (DESIGN
CHOICE, notes/assumptions/66.md). -/
def parentChange (d : Dev) : Dev :=
  match d.tick.parent, d.tick.best with
  | some p, some b =>
    if d.follows ∧ b ≠ p ∧ (16 ≤ (d.tick.inputs.rd p).age ∨ 1024 ≤ (d.tick.inputs.rd b).first) then d.follow (some b) else d
  | _, _ => d

/-! ### Delay exchanges (R106) -/

/-- DELAY_EXCHANGE: the follower begins an exchange on its parent input; on a link t1 is taken when the flit leaves. -/
def delayExchange (d : Dev) : Dev :=
  match d.tick.parent with
  | none => d
  | some i =>
    if !d.follows || (d.tick.exchanges ≥ 8 && decide (d.tick.sinceExchange < 1024)) then d
    else
      let id := d.tick.nextId
      let d1 := { d with tick.open_ := d.tick.open_.wr id (some d.now), tick.nextId := (id + 1) % 16, tick.sinceExchange := 0 }
      if i < 2 then d1.emit (.delayReq (1 - i) id)
      else if (d1.link (inputPort i)).live then d1.sendExchange (inputPort i) { type := 0x02, body := id } else d1

/-- DELAY_REQ: a request arrives on input `i` at `at_`, and is answered. On a link t3 is taken when the flit leaves; the
queued answer carries t2 until then. -/
def delayReq (i id at_ : Nat) (d : Dev) : Dev :=
  if i < 2 then d.ringIn (.delayReq i (id % 16)) (fun d => if d.mode.base = .m0 then d else d.emit (.delayResp (1 - i) (id % 16) ((d.now - at_) % 2 ^ 32)))
  else if 16 ≤ i ∧ d.isS (inputPort i) = true ∧ (d.link (inputPort i)).live = true then
    d.sendMargin (inputPort i) { type := 0x03, body := id % 16 + 16 * at_ }
  else d

/-- The answer to exchange `id` reaches the tick unit. -/
def Dev.takeDelay (d : Dev) (i id t3t2 at_ : Nat) : Dev :=
  if d.tick.parent ≠ some i then d
  else match d.tick.open_.rd (id % 16) with
    | none => d
    | some t1 =>
      let delay := (at_ - t1 - t3t2) / 2
      let d1 := { d with tick.open_ := d.tick.open_.wr (id % 16) none, tick.delays := (delay :: d.tick.delays).take 8, tick.exchanges := min 8 (d.tick.exchanges + 1) }
      if 16 ≤ i then d1.setLink (inputPort i) (fun l => l.answered (fun m => m.type == 0x02 && m.body % 16 == id % 16)) else d1

/-- DELAY_RESP: the answer to exchange `id` arrives at `at_` with its t3 - t2. -/
def delayResp (i id t3t2 at_ : Nat) (d : Dev) : Dev :=
  if i < 2 then d.ringIn (.delayResp i (id % 16) t3t2) (fun d => d.takeDelay i id t3t2 at_) else d.takeDelay i id t3t2 at_

/-! ### Timeouts (Table 4.2, R109) -/

/-- No parent is left in FREE_RUN (R518). -/
def Dev.freeRun (d : Dev) : Dev :=
  let d1 := (d.follow none).tickState .freeRun
  { d1 with tick.sourceId := 0, tick.depth := 0 }

/-- ACQUIRING_TIMEOUT: 4 ms after run-mode entry without an accepted mark, or without the run of edges. -/
def acquiringTimeout (d : Dev) : Dev :=
  let quiet := if d.run.tickSource = 2 then decide (d.tick.run < 4) else !d.tick.inputs.any (fun x => x.2.seen)
  if d.follows ∧ d.tick.state = .acquiring ∧ quiet = true then d.freeRun else d

/-- HOLDOVER_TIMEOUT: 4 ms in HOLDOVER. -/
def holdoverTimeout (d : Dev) : Dev := if d.follows ∧ d.tick.state = .holdover then d.freeRun else d

/-! ### TICK_IN (R108, R109) -/

/-- The interval of two edges is within 0.1 % of the period. -/
def Dev.edgeRegular (d : Dev) (gap : Nat) : Bool := decide (1000 * gap ≤ 1001 * d.period) && decide (999 * d.period ≤ 1000 * gap)

/-- The interval of two edges is within 50 ns of the period. -/
def Dev.edgeNear (d : Dev) (gap : Nat) : Bool := decide (gap ≤ d.period + 800) && decide (d.period ≤ gap + 800)

/-- The boundary that an edge at `at_` places: one period after it, less the pin delay (R108). -/
def Dev.edgePlace (d : Dev) (at_ : Nat) : Nat := at_ + d.period - d.tick.pinUnits

/-- An edge that places a boundary, and takes the value of TICK_NUMBER_LOAD (R108): the coming boundary gets it (DESIGN
CHOICE, notes/assumptions/66.md). -/
def Dev.takeEdge (d : Dev) (at_ run : Nat) : Dev :=
  { d with tick.lastEdge := some at_, tick.run := run, tick.announced := d.tick.announced || decide (2 ≤ run), tick.nextNumber := d.tick.numberLoad.getD d.tick.nextNumber, tick.numberLoad := none }

/-- The offset of an edge's boundary from the coming one, or from the one after when the edge comes just before its own. -/
def Dev.edgeOffset (d : Dev) (at_ : Nat) : Int :=
  let off : Int := (d.edgePlace at_ : Int) - (d.tick.next : Int)
  if (d.period : Int) < 2 * off then off - (d.period : Int) else off

/-- TICK_IN_EDGE at instant `at_`. -/
def tickInEdge (at_ : Nat) (d : Dev) : Dev :=
  if !(d.follows && d.run.tickSource == 2) then d
  else
    let gap : Nat := at_ - d.tick.lastEdge.getD 0
    let place := d.edgePlace at_
    if d.tick.state = .locked then
      if d.edgeNear gap then
        let d1 := d.takeEdge at_ (d.tick.run + 1)
        if !d1.tick.steady || decide (place ≤ d1.tick.last) then d1
        else if d.period < 2 * (place - d1.tick.next) then { d1 with tick := { (d1.tick.learn place 1) with after := some place } }
        else { d1 with tick := { (d1.tick.learn place 0) with next := place } }
      else d
    else
      let near := if d.tick.state = .holdover then d.edgeNear gap else d.edgeRegular gap
      let d1 := d.takeEdge at_ (if d.tick.lastEdge.isSome && near then d.tick.run + 1 else 1)
      if 4 ≤ d1.tick.run then d1.tickLock (d1.edgeOffset at_) (d.tick.state == .holdover) none else d1

/-- TICK_IN_MISSED: a predicted edge instant has passed by 50 ns without an accepted edge. -/
def tickInMissed (d : Dev) : Dev :=
  if d.follows ∧ d.run.tickSource = 2 ∧ d.tick.state = .locked then ({ d with tick.run := 0 }).tickState .holdover else d

/-! ### The time line's part of a boundary (R100, R111, R112, R518) -/

/-- The correction that the period after a boundary takes: a slew of 0.5 ns at most, or a step of half a period. -/
def TickSt.correction (t : TickSt) (period : Nat) : Int :=
  if t.stepLeft ≠ 0 then max (-(period / 2 : Nat)) (min (period / 2 : Nat) t.stepLeft) else max (-8) (min 8 t.slew)

/-- The length of the coming period before corrections, with what it leaves over: at the learned rate in LOCKED and
HOLDOVER, else PERIOD of the local clock (Table 4.2, R110). -/
def TickSt.length (t : TickSt) (period : Nat) : Nat × Nat :=
  match (if t.state = .locked ∨ t.state = .holdover then t.learned else none) with
  | some (span, n) => ((span + t.rateRest) / n, (span + t.rateRest) % n)
  | none => (period, 0)

/-- Time reaches the boundary, which takes its number, and the next one is placed. -/
def Dev.tickAdvance (d : Dev) : Dev :=
  let t := d.tick
  let at_ := t.next
  let c := t.correction d.period
  let (length, rest) := t.length d.period
  let number := if t.stepLeft = 0 then (t.adopt.getD t.nextNumber) else t.nextNumber
  let t1 := { t with
    started := true, number := number % 2 ^ 56, nextNumber := (number + 1) % 2 ^ 56, last := at_,
    next := t.after.getD ((at_ : Int) + (length : Int) + c).toNat,
    after := none, rateRest := rest, rateFrom := t.rateFrom.map (fun r => (r.1, r.2 + 1)),
    slew := if t.stepLeft = 0 then t.slew - c else t.slew, stepLeft := if t.stepLeft = 0 then 0 else t.stepLeft - c,
    adopt := if t.stepLeft = 0 then none else t.adopt.map (· + 1),
    sinceExchange := t.sinceExchange + 1 }
  { d with now := max d.now at_, tick := t1 }

/-- TICK_OUT: high for 64 ns from each tick cycle, the first DCLK cycle at or after the boundary (R101, R103). -/
def Dev.tickOut (d : Dev) : Bool :=
  let cycle := (d.tick.last + 9) / 10 * 10
  d.tick.started && decide (cycle ≤ d.now) && decide (d.now < cycle + 1024)

/-- A boundary passes: ages of the inputs and first ranks. -/
def Dev.ageInputs (d : Dev) : Dev :=
  let best := d.tick.best
  { d with tick.inputs := d.tick.inputs.mapAll (fun i x => { x with age := if x.seen then min 16 (x.age + 1) else x.age, first := if best == some i && d.tick.parent != some i then x.first + 1 else 0 }) }

/-- The parent has sent an accepted mark since the last boundary. -/
def TickSt.parentHeard (t : TickSt) : Bool := t.parent.any (fun i => (t.inputs.rd i).seen && (t.inputs.rd i).age == 0)

/-- A boundary passes for a follower: what it heard since the last one, the loss count, and HOLDOVER without an accepted
mark (Table 4.2, R518). The consecutive marks of one parent end with a boundary that it did not announce. -/
def Dev.tickWatch (d : Dev) : Dev :=
  if !d.follows then { d with tick.announced := false }
  else
    let heard := d.tick.announced
    let run := if d.run.tickSource = 2 ∨ d.tick.parentHeard = true then d.tick.run else 0
    let d1 := { d.ageInputs with tick.announced := false, tick.run := run, tick.loss := if heard then d.tick.loss else satAdd 16 d.tick.loss 1 }
    if !heard && d.tick.state == .locked && d.run.tickSource != 2 then
      ({ d1 with tick.exchanges := 0, tick.run := 0 }).tickState .holdover
    else d1

/-! ### Budgets (R116, R117) -/

/-- The windows of the cores open: the budget less the carry of earlier overruns. -/
def Dev.openBudgets (d : Dev) : Dev :=
  (List.range 5).foldl (fun e c =>
    let b := e.run.budget.rd c
    let k := min b (e.tick.carry.rd c)
    { e with tick.inForce := e.tick.inForce.wr c (b - k), tick.carry := e.tick.carry.upd c (· - k), tick.windowOpen := e.tick.windowOpen.wr c (decide (0 < b - k)) }) d

/-- Role `c` does step work: a running core has it (R467, R469, R476). -/
def Dev.roleWorks (d : Dev) (c : Nat) : Bool :=
  d.cores.roleMap.rd c != 0 && (d.cores.core.rd (d.cores.roleMap.rd c - 1)).state == .running

/-- BUDGET_END of role `c`, whose core suspends its step `overrun` cycles later; a core that does no step work overruns
nothing. INSTANCE names the physical core (R117). -/
def budgetEnd (c : Fin 5) (overrun : Nat) (d : Dev) : Dev :=
  if !d.tick.windowOpen.rd c then d
  else
    let d1 := { d with tick.windowOpen := d.tick.windowOpen.wr c false }
    if overrun = 0 ∨ d.roleWorks c = false then d1
    else
      let core := d.cores.roleMap.rd c - 1
      ({ d1 with tick.carry := d1.tick.carry.upd c (· + overrun), tick.overrunTicks := d1.tick.overrunTicks.upd c (fun n => satAdd 16 n 1) }).countMgmt 0x71 core overrun |>.log 0x025 2 { inst := core, detail := [c, overrun] }

/-! ### Registers (Tables 4.3 and 4.4) -/

def TickState.num : TickState → Nat
  | .acquiring => 0 | .locked => 1 | .holdover => 2 | .freeRun => 3 | .source => 4

def Dev.tickConfig (d : Dev) : Nat := pack [(8, d.run.tickSource), (4, b2n d.run.tickSourceRole), (0, d.run.tickPeriod)]

/-- TICK_STATUS (R109, R518). -/
def Dev.tickStatus (d : Dev) : Nat :=
  let t := if d.tick.state = .freeRun ∧ d.run.tickSource ≠ 2 then { d.tick with parent := none, sourceId := 0, depth := 0 } else d.tick
  let parent := if d.run.tickSourceRole || !t.joined then 0x1F
    else if d.run.tickSource = 2 then 2
    else match t.parent with
      | some i => if i < 2 then i else 0x10 + portTile (inputPort i)
      | none => 0x1F
  let src := if d.run.tickSourceRole && t.joined then d.run.switchId else t.sourceId
  pack [(20, src), (15, t.depth % 32), (14, b2n (decide (16 < t.depth))), (13, b2n (t.slew != 0)), (8, parent), (0, t.state.num)]

/-- A signed 32-bit word. -/
def signed32 (v : Int) : Nat := (v % 2 ^ 32).toNat

def Dev.tickOffset (d : Dev) : Nat := signed32 d.tick.offsetPs
def Dev.tickHopDelay (d : Dev) : Nat := d.tick.hopDelay * 125 / 2 % 2 ^ 32
def Dev.budgetStatus (d : Dev) (c : Nat) : Nat := pack [(16, d.tick.overrunTicks.rd c), (0, d.tick.inForce.rd c % 65536)]

/-- A write of TICK_NUMBER_LOAD: dropped when SOURCE is not 2 (Table 4.3). -/
def Dev.writeNumberLoad (d : Dev) (p : CmdPort) (v : Nat) : Dev :=
  if d.run.tickSource ≠ 2 then d.dropped64 p 0x10058 v 2 else { d with tick.numberReg := v, tick.numberLoad := some (v % 2 ^ 56) }

end Sys2Proof.Machine
end

