-- ==== Sys2Proof/Machine/Sherix.lean ====
section
/-! DEFINITION. The Sherix link layer: flits received and sent, acknowledgement and replay, credits and their audit, the
margin slot's messages, bring-up, and the control bits of a port (R162 to R201). -/

namespace Sys2Proof.Machine

/-- Difference of sequences modulo 4,096 (R170). -/
def seqSub (a b : Nat) : Nat := (a + 4096 - b % 4096) % 4096

/-! ### Acknowledgement (R175, R177) -/

/-- An acknowledgement within the window frees the flits up to it; a replay goes on from the first flit left. -/
def Link.ackTo (l : Link) (k : Nat) : Link :=
  let a := (k + 1) % 4096
  let gone := fun s => decide (seqSub s l.a ≤ seqSub k l.a)
  { l with a := a, expiries := 0, buf := l.buf.filter (fun x => !gone x.seq), inReplay := l.inReplay.filter (fun x => !gone x.1),
           replay := l.replay.bind (fun r => if gone r then (if a = l.n then none else some a) else some r),
           replayStart := l.replayStart.filter (fun r => !gone r) }

/-- Act on a received ACK_SEQ and NAK. -/
def Dev.takeFresh (d : Dev) (p ack : Nat) (nak : Bool) : Dev :=
  let l := d.link p
  let l1 := { l with lastAck := ack }
  let l2 := if seqSub ack l.a < seqSub l.n l.a then l1.ackTo ack else l1
  let d1 := d.setLink p (fun _ => l2)
  let r := (ack + 1) % 4096
  if nak && l2.replayStart != some r && decide (seqSub r l2.a < seqSub l2.n l2.a) then d1.startReplay p r 0 else d1

/-! ### The audit (R185, R186) -/

/-- Units of VC `v` in a history that lie in flits after `s` and before `e`. -/
def unitsAfter (h : List (Nat × Nat × Nat)) (s e v : Nat) : Nat :=
  (h.filter (fun x => x.2.1 == v && decide (seqSub x.1 (s + 1) < seqSub e (s + 1)))).foldl (fun a x => a + x.2.2) 0

/-- The AVAIL[v] that the sender should report, modulo 1,024. -/
def Link.auditExpect (l : Link) (a : AuditSample) (v : Nat) : Nat :=
  let charged := l.chargedTot.rd v - unitsAfter l.charged a.s l.e v
  let returned := l.returnedTot.rd v - unitsAfter l.returned a.rseq l.n v
  ((l.grantTx.rd v + returned : Int) - (charged : Int)) % 1024 |>.toNat

/-- Compare a waiting audit once flit S has been accepted. -/
def Dev.auditCheck (d : Dev) (p : Nat) : Dev :=
  let l := d.link p
  match l.auditIn with
  | none => d
  | some a =>
    if seqSub (l.e + 4095) a.s < 2048 then
      let d1 := d.setLink p (fun l => { l with auditIn := none })
      match (List.range 8).find? (fun v => l.auditExpect a v != a.avail.getD v 0 % 1024) with
      | none => d1
      | some v => (d1.uncFault 4 p (portTile p) 2 p (pack [(0, v), (16, l.auditExpect a v), (32, a.avail.getD v 0 % 1024)])).linkDown p 2
    else d

/-- AUDIT: a message arrives on S port `p`; its first intact copy is kept until it can be compared. -/
def audit (p : Fin 72) (a : AuditSample) (d : Dev) : Dev :=
  let l := d.link p
  if l.state < 2 ∨ 3 < l.state then d
  else if l.auditSeen = true ∧ l.auditIn.isSome = true then d
  else (d.setLink p (fun l => { l with auditSeen := true, auditIn := some a })).auditCheck p

/-- An AUDIT body, and the sample it carries. -/
def AuditSample.body (a : AuditSample) : Nat :=
  pack ([(0, a.tick % 16), (4, a.s), (16, a.rseq)] ++ (List.range 8).map (fun v => (28 + 10 * v, a.avail.getD v 0 % 1024)))
def AuditSample.ofBody (b : Nat) : AuditSample :=
  { tick := fld b 0 4, s := fld b 4 12, rseq := fld b 16 12, avail := (List.range 8).map (fun v => fld b (28 + 10 * v) 10) }

/-- Row 4 of Table 4.5: each UP or PAUSED end samples its credits and queues its AUDIT; a tick without one is counted. -/
def Dev.auditSample (d : Dev) : Dev :=
  (d.sPorts.filter (fun p => (d.link p).live)).foldl (fun e p =>
    let l := e.link p
    let a : AuditSample := { tick := e.tick.number, s := seqSub l.n 1, rseq := seqSub l.e 1, avail := (List.range 8).map (fun v => l.avail.rd v) }
    let missed := !l.auditSeen
    let e1 := e.setLink p (fun l => { l with auditSeen := false, auditMissed := if missed then satAdd 16 l.auditMissed 1 else l.auditMissed })
    let e2 := if missed then e1.log (srcPort p 4) 1 { inst := p, detail := [p] } else e1
    e2.sendCopies p { type := 0x18, body := a.body }) d

/-! ### Bring-up (R192) -/

/-- The INIT message of this end, and its INIT_GRANT of a half. -/
def Dev.initMsg (d : Dev) (p : Nat) : Margin :=
  let l := d.link p
  { type := 0x20, body := pack [(0, d.run.switchId), (12, p), (19, l.width), (22, l.rate), (24, 48 * d.cutWidth p), (34, l.rcvd)] }
def Dev.grantMsg (d : Dev) (p half : Nat) : Margin :=
  { type := 0x21, body := pack ((0, half) :: (List.range 4).map (fun i => (17 + 16 * i, (d.link p).grantTx.rd (4 * half + i)))) }

/-- The link is UP when this end has all it needs and the peer says the same. A peer still in INIT needs to hear that
this end has received everything, so one INIT follows. -/
def Dev.linkUp (d : Dev) (p : Nat) : Dev :=
  let l := d.link p
  if l.state = 2 ∧ l.rcvd = 7 ∧ l.peerRcvd = 7 then
    let d1 := d.setLink p (fun l => { l with state := 3, hold := if l.wasUp then some (d.fab.returnTicks + 1) else none, wasUp := true })
    let d2 := { d1 with cont.contained := d1.cont.contained &&& ~~~(1#4096 <<< l.farSwitch) }
    let d3 := d2.log (srcPort p 0) 1 { inst := p, detail := [l.farSwitch, l.farPort] }
    (d3.endPortJobs p 0x0A .done 0 0).sendMargin p (d3.initMsg p)
  else d

/-- INIT: the peer's identity, width, rate and what it has received. -/
def init (p : Fin 72) (sw port width rate rcvd : Nat) (d : Dev) : Dev :=
  let l := d.link p
  if l.state ≠ 2 then d
  else if width ≠ l.width ∨ rate ≠ l.rate then d.linkDown p 4
  else (d.setLink p (fun l => { l with farSwitch := sw % 4096, farPort := port % 128, rcvd := setBit l.rcvd 0, peerRcvd := rcvd % 8 })).linkUp p

/-- INIT_GRANT: the grants of four VCs. A port that is UP already answers with its INIT. -/
def initGrant (p : Fin 72) (half : Fin 2) (grants : List Nat) (d : Dev) : Dev :=
  let l := d.link p
  if l.state = 3 then (if l.mq.any (fun x => x.msg.type == 0x20) then d else d.sendMargin p (d.initMsg p))
  else if l.state ≠ 2 then d
  else if bitAt l.rcvd (1 + half) then d.linkUp p
  else
    let put := fun (t : Tab Nat) => (List.range 4).foldl (fun (t : Tab Nat) i => t.wr (4 * half + i) (grants.getD i 0 % 65536)) t
    (d.setLink p (fun l => { l with rcvd := setBit l.rcvd (1 + half), grantRx := put l.grantRx, avail := put l.avail })).linkUp p

/-- INIT_TIMEOUT: 20 us after READY the link is not UP. -/
def initTimeout (p : Fin 72) (d : Dev) : Dev :=
  if (d.link p).state = 2 ∨ ((d.link p).state = 4 ∧ (d.link p).fromInit = true) then d.linkDown p 4 else d

/-! ### Mirror swaps (R196) -/

def swapMsg (type x s handle : Nat) (refused : Bool := false) : Margin :=
  { type := type, body := pack [(0, x), (5, s - 16), (6, b2n refused), (16, handle)] }

/-- SWAP_PROPOSE: the far end asks to mirror a lane onto a spare. -/
def swapPropose (p : Fin 72) (x spare handle : Nat) (d : Dev) : Dev :=
  let l := d.link p
  let t := portTile p
  let s := d.swapSpare p spare
  let answer := fun (e : Dev) (no : Bool) => e.sendMargin p { type := 0x11, body := pack [(0, x % 32), (5, spare % 2), (6, b2n no), (16, handle % 65536)] }
  if !l.live then d
  else if l.mirror = some (x, s, handle) then answer d false
  else match d.laneNamed p x with
    | none => answer d true
    | some n =>
      if l.mirror.isSome ∨ (d.lane t s).state ≠ 8 ∨ d.sparePort t s ≠ some p.val ∨ d.portConflict p = true then answer d true
      else answer (d.setLink p (fun l => { l with mirror := some (x, s, handle), mirrorLane := n })) false

/-- The mirror swap under way is the one that a message names. -/
def Link.mirrorIs (l : Link) (x handle : Nat) : Bool :=
  match l.mirror with
  | some m => m.1 == x && m.2.2 == handle
  | none => false

/-- SWAP_REPLY: the far end mirrors too, or has refused, which ends the job NO_SPARE. -/
def swapReply (p : Fin 72) (x handle : Nat) (refused : Bool) (d : Dev) : Dev :=
  let l := d.link p
  if l.live && l.mirrorIs x handle && l.ex.any (fun e => e.msg.type == 0x10) then
    let d1 := d.setLink p (fun l => l.answered (fun m => m.type == 0x10))
    if refused then d1.failMirror p 5 0 else d1
  else d

/-- SWAP_MATCHED: the far receiver has found its match. -/
def swapMatched (p : Fin 72) (x handle : Nat) (d : Dev) : Dev :=
  let l := d.link p
  match l.mirror with
  | some m =>
    if !(l.live && l.mirrorIs x handle) then d
    else if l.selOwn then d.sendMargin p (swapMsg 0x13 m.1 m.2.1 m.2.2)
    else (d.setLink p (fun l => { (l.answered (fun m => m.type == 0x10)) with mirrorPeer := true })).mirrorSelect p
  | none => d

/-- SWAP_SELECTED: the far end takes the lane's data from the spare. One that is repeated is answered again. -/
def swapSelected (p : Fin 72) (x spare handle : Nat) (d : Dev) : Dev :=
  let l := d.link p
  let s := d.swapSpare p spare
  match l.mirror with
  | some m =>
    if !(l.live && l.mirrorIs x handle) then d
    else
      let d0 := (d.setLink p (fun l => { (l.answered (fun m => m.type == 0x12 || m.type == 0x13)) with mirrorPeer := true, selPeer := true })).mirrorSelect p
      let d1 := if l.selOwn then (d0.portJobs p 0x05).foldl (fun e j => { e with jobs.slot := e.jobs.slot.upd j.1 (fun y => { y with progress := 3 }) }) d0 else d0
      if l.selPeer && l.selOwn then d1.sendMargin p (swapMsg 0x13 m.1 m.2.1 m.2.2) else d1
  | none => if l.live && (d.lane (portTile p) s).state == 9 && ((d.lane (portTile p) s).logical == x || (d.lane (portTile p) s).rxLogical == x) then d.sendMargin p (swapMsg 0x13 x s handle) else d

/-- The release on the tick after both ends have selected: the lane moves to the spare and the job ends (R153). -/
def Dev.mirrorRelease (d : Dev) : Dev :=
  d.sPorts.foldl (fun e p =>
    let l := e.link p
    match l.mirror with
    | some m =>
      if l.selOwn && l.selPeer && l.live then
        let t := portTile p
        let n := l.mirrorLane
        let e1 := ((e.moveLane p (e.lane t n).logical m.2.1).setLink p Link.endMirror).swapRecord t n m.2.1
        (e1.portJobs p 0x05).foldl (fun x j => ({ x with jobs.slot := x.jobs.slot.upd j.1 (fun y => { y with progress := 4 }) }).endJob j.1 .done 0 0) e1
      else e
    | none => e) d

/-! ### Width and rate changes (R195) -/

/-- WIDTH_REQ: the far end asks for a width and a rate. -/
def widthReq (p : Fin 72) (width rate handle : Nat) (d : Dev) : Dev :=
  let no := d.portConflict p || decide (widthCode (d.cutWidth p) < width) || width == 0 || decide ((d.run.tile.rd (portTile p)).rateMax < rate)
  if (d.link p).state ≠ 3 then d
  else
    let d1 := d.sendMargin p { type := 0x23, body := pack [(0, width % 8), (3, rate % 4), (5, b2n no), (16, handle % 65536)] }
    if no then d1 else d1.setLink p (fun l => { l with askWidth := some width, askRate := some rate, askHold := true })

/-- WIDTH_ACK: the far end agrees, or has refused, which ends the job. -/
def widthAck (p : Fin 72) (handle : Nat) (refused : Bool) (d : Dev) : Dev :=
  let mine := fun (m : Margin) => m.type == 0x22 && fld m.body 16 16 == handle
  if (d.link p).ex.any (fun x => mine x.msg) then
    let d1 := d.setLink p (fun l => l.answered mine)
    if refused then d1.endPortJobs p 0x0B .failed 6 0xFFFFFF else d1.setLink p (fun l => { l with widthAns := 1 })
  else d

/-! ### Repeats and timeouts of exchanges (R190, R196) -/

/-- MARGIN_REPEAT: the messages of port `p` that 16 flits have left unanswered go out again. -/
def marginRepeat (p : Fin 72) (d : Dev) : Dev :=
  let due := (d.link p).ex.filter (fun x => decide (16 ≤ x.flits))
  due.foldl (fun e x => e.sendMargin p x.msg) (d.setLink p (fun l => { l with ex := l.ex.map (fun x => if 16 ≤ x.flits then { x with flits := 0 } else x) }))

/-- EXCHANGE_TIMEOUT: the oldest exchange of port `p` has been unanswered for 1 ms. -/
def exchangeTimeout (p : Fin 72) (d : Dev) : Dev :=
  match (d.link p).ex with
  | [] => d
  | x :: r =>
    let d1 := d.setLink p (fun l => { l with ex := r })
    if x.msg.type = 0x22 then d1.endPortJobs p 0x0B .failed 6 0xFFFFFF
    else if x.msg.type = 0x02 then d1
    else d1.failMirror p 6 0xFFFFFF

/-! ### Receiving flits (R165, R171 to R175) -/

/-- A received tick mark's fields (Table 6.8). -/
def markOf (b : Nat) : Mark :=
  { sourceId := fld b 0 12, depth := fld b 12 5, period := fld b 17 3, holdover := bitAt b 20, number := fld b 21 56, remain := fld b 77 24 }

/-- Act on the margin slot of an intact flit (R188). -/
def Dev.takeMargin (d : Dev) (p : Fin 72) (m : Margin) : Dev :=
  let b := m.body
  let i := 16 + p.val
  if m.type = 0x00 then d
  else if m.type = 0x01 then tickMark i (markOf b) d.now d
  else if m.type = 0x02 then delayReq i (fld b 0 4) d.now d
  else if m.type = 0x03 then delayResp i (fld b 0 4) (fld b 4 32) d.now d
  else if m.type = 0x08 then contain p m d
  else if m.type = 0x10 then swapPropose p (fld b 0 5) (fld b 5 1) (fld b 16 16) d
  else if m.type = 0x11 then swapReply p (fld b 0 5) (fld b 16 16) (bitAt b 6) d
  else if m.type = 0x12 then swapMatched p (fld b 0 5) (fld b 16 16) d
  else if m.type = 0x13 then swapSelected p (fld b 0 5) (fld b 5 1) (fld b 16 16) d
  else if m.type = 0x18 then audit p (AuditSample.ofBody b) d
  else if m.type = 0x20 then init p (fld b 0 12) (fld b 12 7) (fld b 19 3) (fld b 22 2) (fld b 34 3) d
  else if m.type = 0x21 then initGrant p ⟨fld b 0 1, Nat.mod_lt _ (by decide)⟩ ((List.range 4).map (fun k => fld b (17 + 16 * k) 16)) d
  else if m.type = 0x22 then widthReq p (fld b 0 3) (fld b 3 2) (fld b 16 16) d
  else if m.type = 0x23 then widthAck p (fld b 16 16) (bitAt b 5) d
  else d.setLink p (fun l => { l with marginDrop := satAdd 16 l.marginDrop 1 })

/-- A packet of which some bytes have come, the rest taken as zeros. -/
def partOf (total : Nat) (bs : List Nat) : FPkt := FPkt.ofBytes (bs ++ List.replicate (total - bs.length) 0)

/-- The rest of what packet `id` has still to send, once it has grown: an S egress port that has begun it goes on with it. -/
def Dev.growCut (d : Dev) (id wr : Nat) (f : FPkt) : Dev :=
  let d1 := d.growPkt id wr f
  match d1.packetOf id with
  | some x => (match x.body with
    | .fab g => if d1.begunOn x then d1.setLink x.dst (fun l => { l with tx := l.tx.wr x.vc ((d1.datelineOut x.dst g).bytes.drop (g.bytes.length - (l.tx.rd x.vc).length)) }) else d1
    | .tlp _ => d1)
  | none => d1

/-- A packet that only passes through enters its VOQ when its first cell is whole, and its cells leave as they come (R267). -/
def Dev.beginCut (d : Dev) (p v total : Nat) (bs : List Nat) : Dev :=
  let f := partOf total bs
  if bs.length < 64 || f.dest == d.run.switchId || !f.known || f.pushable || d.portFenced p || d.mode.base == .m10 then d
  else
    let id := d.sw.nextPkt
    let e := d.fabricReceive p f (bs.length / 64)
    let entered := e.sw.voq.any (fun q => q.2.any (fun x => x.id == id && x.ing == p))
    { e with sw.writing := e.sw.writing.wr (8 * p + v) (if entered then id + 2 else 1) }

/-- The packets at the front of a receive stream go to the switch core, at most `n`: one for this Haldion when it is whole,
because its CRC and its sequence are checked first; one that passes through as it comes (R267, notes/assumptions/72.md). -/
def Dev.rxPackets (d : Dev) (n p v : Nat) : Dev :=
  match n with
  | 0 => d
  | n + 1 =>
    let bs := (d.link p).rx.rd v
    let w := d.sw.writing.rd (8 * p + v)
    let total := 16 * max 4 (leAt bs 2 1)
    if bs.length < 16 then d
    else if bs.length < total then
      (if w = 0 then d.beginCut p v total bs else if w = 1 then d else d.growCut (w - 2) (bs.length / 64) (partOf total bs))
    else
      let f := FPkt.ofBytes (bs.take total)
      let d1 := { (d.setLink p (fun l => { l with rx := l.rx.wr v (bs.drop total) })) with sw.writing := d.sw.writing.wr (8 * p + v) 0 }
      (if w = 0 then d1.fabricReceive p f else if w = 1 then d1 else if f.abort then d1.endPacket (w - 2) else d1.growCut (w - 2) f.units f).rxPackets n p v

/-- An accepted SEQ flit: its charges and returns act, and its chunks join the streams of their VCs (R172). -/
def Dev.takeStored (d : Dev) (p : Nat) (h : FlitHdr) (chunks : List Nat) : Dev :=
  let charge := [(h.vcA, h.chA), (h.vcB, h.chB)].filter (fun c => c.2 != 0)
  let d1 := d.setLink p (fun l =>
    let e1 := (l.e + 1) % 4096
    { l with e := e1, nakOut := false,
             avail := if h.crUnits = 0 then l.avail else l.avail.upd h.crVc (· + h.crUnits),
             held := charge.foldl (fun (t : Tab Nat) c => t.upd c.1 (· + c.2)) l.held,
             chargedTot := charge.foldl (fun (t : Tab Nat) c => t.upd c.1 (· + c.2)) l.chargedTot,
             charged := (l.charged.filter (fun x => decide (seqSub e1 x.1 ≤ 2048))) ++ charge.map (fun c => (l.e, c.1, c.2)),
             rx := (l.rx.upd h.vcA (· ++ slice chunks 0 (16 * h.split))).upd h.vcB (· ++ slice chunks (16 * h.split) (16 * (h.fill - h.split))) })
  ((d1.rxPackets 4 p h.vcA).rxPackets 4 p h.vcB).auditCheck p

/-- A bad or uncorrectable flit, or one that shows a gap, raises NAK (R174). -/
def Dev.raiseNak (d : Dev) (p : Nat) (f : Link → Link) : Dev := d.setLink p (fun l => { (f l) with nakOut := true })

/-- An intact flit of sequence `s`: its class, its Fresh fields and margin slot, and the stored fields of an accepted SEQ
flit. A link that goes down on the way reads nothing more. -/
def Dev.takeFlit (d : Dev) (p : Fin 72) (bs : List Nat) (s : Nat) : Dev :=
  let l := d.link p
  let h := FlitHdr.ofWord (leAt bs 0 8)
  let gap := seqSub s l.e
  let chunks := slice bs 0x18 208
  let fresh := fun (e : Dev) => ((e.takeFresh p h.ackSeq h.nak).takeMargin p (Margin.ofBytes (slice bs 8 16)))
  let on := fun (e : Dev) => (e.link p).state == 2 || (e.link p).state == 3
  if gap = 0 then
    if !h.ok chunks then (d.uncFault 5 p (portTile p) 2 p h.kind).linkDown p 5
    else
      let d1 := fresh d
      if h.kind = 1 && on d1 then d1.takeStored p h chunks else d1
  else if gap ≤ 1023 then fresh (d.raiseNak p (fun l => { l with ahead := satAdd 16 l.ahead 1 }))
  else if 3072 ≤ gap then fresh (if h.kind = 1 then d.setLink p (fun l => { l with dup := satAdd 16 l.dup 1 }) else d)
  else d.raiseNak p (fun l => { l with crcErr := satAdd 32 l.crcErr 1 })

/-- FLIT_RECEIVE without the register bridge: FEC, CRC and implicit sequence, then the flit's class. -/
def Dev.flitReceive (d : Dev) (p : Fin 72) (f : RawFlit) : Dev :=
  let l := d.link p
  if !(d.isS p && (l.state == 2 || l.state == 3)) then d
  else
    let d0 := d.setLink p (fun l => { l with recent := (l.recent.map (fun r => (r.1, r.2.1, r.2.2 + 1))).filter (fun r => decide (r.2.2 < 64)) })
    match fecDecode (fecWord f.bytes) (if l.rate = 0 then [] else f.erased.take 4) with
    | none => d0.raiseNak p (fun l => { l with fecUncorr := satAdd 32 l.fecUncorr 1 })
    | some (w, n) =>
      let bs := fecUnmsg w
      let d1 := (d0.setLink p (fun l => { l with fecCorr := satAdd 32 l.fecCorr n })).countTile (portTile p) 0x0A (portSlot p) 0 n
      let s := crc64Seed (bs.take 232) (leAt bs 0xE8 8)
      if s < 4096 then d1.takeFlit p bs s else d1.raiseNak p (fun l => { l with crcErr := satAdd 32 l.crcErr 1 })

/-! ### Sending flits (R162, R173, R177 to R183, R189 to R191) -/

/-- The head of the margin queue: the oldest message of the lowest rank. In INIT an empty queue gives the rotation. -/
def Dev.headMargin (d : Dev) (p : Nat) : Dev × Margin :=
  let l := d.link p
  let best := l.mq.foldl (fun (a : Option MQueued) m =>
    match a with
    | some b => if m.msg.rank < b.msg.rank then some m else a
    | none => some m) none
  match best with
  | some x => (d.setLink p (fun l => { l with mq := l.mq.erase x }), x.msg)
  | none =>
    if l.state = 2 then
      (d.setLink p (fun l => { l with initTurn := (l.initTurn + 1) % 3 }), if l.initTurn = 0 then d.initMsg p else d.grantMsg p (l.initTurn - 1))
    else (d, {})

/-- What a message takes at the departure of its flit: REMAIN, t1, or t3 - t2 (Table 6.8). -/
def Dev.depart (d : Dev) (m : Margin) : Dev × Margin :=
  if m.type = 0x01 then (d, { m with body := m.body + 2 ^ 77 * ((d.tick.next - d.now) % 2 ^ 24) })
  else if m.type = 0x02 then ({ d with tick.open_ := d.tick.open_.wr (m.body % 16) (some d.now) }, m)
  else if m.type = 0x03 then (d, { m with body := m.body % 16 + 16 * ((d.now - m.body / 16) % 2 ^ 32) })
  else (d, m)

/-- Words W0 to W31 of a flit, and those that travel on logical lane `x` of `w` (R162). -/
def flitWords (bytes : List Nat) : List Nat := (List.range 32).map (fun k => leAt bytes (8 * k) 8)
def laneWords (w x : Nat) (words : List Nat) : List Nat := (List.range (32 / w)).map (fun i => words.getD (x + w * i) 0)

/-- The blocks of a flit go out, word k on logical lane k mod w; a mirrored lane's blocks go out on its spare too (R153,
R162). What is sent after an ALIGN burst begins with W0, so flit boundaries follow from counting blocks. -/
def Dev.sendWords (d : Dev) (p : Nat) (bytes : List Nat) : Dev :=
  let t := portTile p
  let w := 2 ^ (d.link p).width
  let words := flitWords bytes
  (d.activeLanes p).foldl (fun e n =>
    let bs := (laneWords w (e.lane t n).logical words).map dataBlock
    let e1 := match (e.link p).mirror with
      | some m => if (e.link p).mirrorLane = n ∧ (e.link p).ex.all (fun x => x.msg.type != 0x10) = true then e.copyLane t n m.2.1 bs else e
      | none => e
    e1.sendLane t n bs) d

/-- A flit leaves with the Fresh fields of this moment. -/
def Dev.flitOut (d : Dev) (p : Nat) (h : FlitHdr) (m : Margin) (chunks : List Nat) (s : Nat) : Dev :=
  let l := d.link p
  let bytes := flitBytes { h with nak := l.nakOut, ackSeq := seqSub l.e 1 } m chunks s
  (d.emit (.flit p bytes)).sendWords p bytes

/-- The packet that VC `v` of port `p` begins next: the oldest of the heads of its three sub-queues for which AVAIL suffices
(R182, R250). -/
def Dev.chunkHead (d : Dev) (p v : Nat) : Option Staged :=
  let q := d.sw.staging.rd (8 * p + v)
  let heads := headsOf (q.map Staged.pkt)
  q.find? (fun s => heads.any (fun h => h.id == s.pkt.id) && decide (s.pkt.cells ≤ (d.link p).avail.rd v))

/-- VC `v` of port `p` can give a chunk: of the packet begun, or by beginning one in staging (R182, R267). -/
def Dev.canChunk (d : Dev) (p v : Nat) : Bool :=
  let l := d.link p
  let q := d.sw.staging.rd (8 * p + v)
  if l.txPkt.rd v = 0 then !l.fenced && (d.chunkHead p v).isSome
  else match q.find? (fun s => s.pkt.id + 1 == l.txPkt.rd v) with
    | some s => s.got == s.pkt.cells || decide (s.pkt.body.size - (l.tx.rd v).length + 16 ≤ 64 * s.got)
    | none => false

/-- Begin a packet of VC `v`: its sequence, its dateline, and its charge (R182, R290, R300). -/
def Dev.beginPacket (d : Dev) (p v : Nat) : Dev × Nat :=
  match d.chunkHead p v with
  | some s =>
    (match s.pkt.body with
     | .fab f =>
       let (d1, f1) := d.sequenceOut s.pkt f
       let f2 := d1.datelineOut p f1
       let s1 : Staged := { s with pkt := { s.pkt with body := .fab f1, sequenced := true } }
       let d2 := { d1 with sw.staging := d1.sw.staging.upd (8 * p + v) (fun q => q.map (fun (x : Staged) => if x.pkt.id = s.pkt.id then s1 else x)) }
       let d3 := d2.setLink p (fun l => { l with tx := l.tx.wr v f2.bytes, txPkt := l.txPkt.wr v (s.pkt.id + 1), avail := l.avail.upd v (· - s.pkt.cells) })
       (d3.countTile (portTile p) 0x04 (portSlot p) v 1, s.pkt.cells)
     | .tlp _ => (d, 0))
  | none => (d, 0)

/-- The last chunk of a packet has been placed in flit `n`: it leaves staging and, but for one that ended with ABORT, stays for
the failover. -/
def Dev.finishPacket (d : Dev) (p v n : Nat) : Dev :=
  let id := (d.link p).txPkt.rd v
  match (d.sw.staging.rd (8 * p + v)).find? (fun s => s.pkt.id + 1 == id) with
  | some s =>
    let bytes := match s.pkt.body with
      | .fab f => f.bytes
      | .tlp _ => []
    let d1 := { d with sw.staging := d.sw.staging.upd (8 * p + v) (fun q => q.filter (fun x => x.pkt.id + 1 != id)) }
    (d1.setLink p (fun l => { l with txPkt := l.txPkt.wr v 0, inReplay := l.inReplay ++ (if s.pkt.body.isAborted then [] else [(n, bytes)]) })).leaveEpoch s.pkt.epoch
  | none => d.setLink p (fun l => { l with txPkt := l.txPkt.wr v 0 })

/-- Take one chunk of VC `v`, and the units that it charges. -/
def Dev.takeChunk (d : Dev) (p v : Nat) : Dev × List Nat × Nat :=
  let (d1, units) := if (d.link p).txPkt.rd v = 0 then d.beginPacket p v else (d, 0)
  let l := d1.link p
  let bs := l.tx.rd v
  let d2 := (d1.setLink p (fun l => { l with tx := l.tx.wr v (bs.drop 16) })).countTile (portTile p) 0x02 (portSlot p) v 16
  (if bs.length ≤ 16 then d2.finishPacket p v l.n else d2, slice bs 0 16, units)

/-- What a new flit has been filled with: two runs of chunks at most. -/
structure Fill where
  runs : Nat := 0
  vcA : Nat := 0
  vcB : Nat := 0
  chA : Nat := 0
  chB : Nat := 0
  split : Nat := 0
  fill : Nat := 0
  bytes : List Nat := []
deriving DecidableEq, Repr, Inhabited

/-- What the next chunk of VC `v` costs its deficit: one cell at the first chunk of a cell, nothing for the rest of it. -/
def Dev.chunkCost (d : Dev) (p v : Nat) : Nat :=
  let l := d.link p
  match (d.sw.staging.rd (8 * p + v)).find? (fun s => s.pkt.id + 1 == l.txPkt.rd v) with
  | some s => if (s.pkt.body.size - (l.tx.rd v).length) % 64 = 0 then 1 else 0
  | none => 1

/-- Place one more chunk, VCs by deficit round-robin in cells (R255); a VC that only the layout of the flit holds back keeps its
deficit. -/
def Dev.fillOne (d : Dev) (p : Nat) (x : Fill) : Dev × Fill :=
  let ok := fun v => d.canChunk p v && (decide (x.runs < 2) || v == x.vcB)
  match (d.sw.drr.rd (64 + p)).pickOf d.weight (d.chunkCost p) (d.canChunk p) ok with
  | (r, none) => ({ d with sw.drr := d.sw.drr.wr (64 + p) r }, x)
  | (r, some v) =>
    let (d1, c, u) := ({ d with sw.drr := d.sw.drr.wr (64 + p) r }).takeChunk p v
    let y := { x with fill := x.fill + 1, bytes := x.bytes ++ c }
    if x.runs = 0 then (d1, { y with runs := 1, vcA := v, chA := u, split := 1 })
    else if x.runs = 1 ∧ v = x.vcA then (d1, { y with chA := x.chA + u, split := x.split + 1 })
    else (d1, { y with runs := 2, vcB := v, chB := x.chB + u })

/-- Credit debts of VC `v` are paid in order, `b` units at most: the debts left and the units paid (R183). -/
def payDebts (v b : Nat) (ds : List (Nat × Nat × Nat)) : List (Nat × Nat × Nat) × Nat :=
  match ds with
  | [] => ([], 0)
  | (w, u, t) :: r =>
    if w = v then
      let k := min u b
      let (r1, s) := payDebts v (b - k) r
      (if k = u then r1 else (w, u - k, t) :: r1, s + k)
    else
      let (r1, s) := payDebts v b r
      ((w, u, t) :: r1, s)

/-- Send a new SEQ flit with a filling: it takes the next sequence and a replay entry, and carries a credit return. -/
def Dev.sendSeq (d : Dev) (p : Nat) (m : Margin) (x : Fill) : Dev :=
  let l := d.link p
  let crVc := match l.debts with
    | (v, _, _) :: _ => v
    | [] => 0
  let (debts, units) := payDebts crVc 2047 l.debts
  let f : SeqFlit := { seq := l.n, fill := x.fill, split := x.split, vcA := x.vcA, vcB := x.vcB, chA := x.chA, chB := x.chB, crVc := crVc, crUnits := units, chunks := x.bytes }
  let h : FlitHdr := { kind := 1, crVc := crVc, crUnits := units, vcA := x.vcA, split := x.split, vcB := x.vcB, fill := x.fill, chA := x.chA, chB := x.chB }
  let n1 := (l.n + 1) % 4096
  (d.setLink p (fun l => { l with n := n1, buf := l.buf ++ [f], debts := debts, held := l.held.upd crVc (· - units), returnedTot := l.returnedTot.upd crVc (· + units), returned := (l.returned.filter (fun r => decide (seqSub n1 r.1 ≤ 2048))) ++ (if units = 0 then [] else [(l.n, crVc, units)]) })).flitOut p h m x.bytes l.n

/-- The entries of the replay buffer that a port may use (R179). -/
def Dev.replayShare (d : Dev) (p : Nat) : Nat := 48 * d.cutWidth p

/-- The replay share of a port is full (R179). -/
def Dev.stalled (d : Dev) (p : Nat) : Bool := (d.link p).state == 3 && decide (d.replayShare p ≤ (d.link p).buf.length)

/-- An IDLE flit, with the sequence that the next SEQ flit will carry (R168). -/
def Dev.sendIdle (d : Dev) (p : Nat) (m : Margin) : Dev :=
  let l := d.link p
  d.flitOut p {} m [] (l.replay.getD l.n)

/-- The margin slot of the flit that now begins; every open exchange counts the flit. -/
def Dev.slotOut (d : Dev) (p : Nat) : Dev × Margin :=
  let d0 := d.setLink p (fun l => { l with ex := l.ex.map (fun x => { x with flits := x.flits + 1 }) })
  let (d1, m) := d0.headMargin p
  d1.depart m

/-- FLIT_SEND: port `p` builds and sends its next flit: a replayed one, a new SEQ flit when there is payload, or IDLE. -/
def flitSend (p : Fin 72) (d : Dev) : Dev :=
  if !(d.isS p && ((d.link p).state == 2 || (d.link p).state == 3)) then d
  else
    let (d1, m) := d.slotOut p
    let l := d1.link p
    if l.state = 2 ∨ l.idleOnly = true then d1.sendIdle p m
    else match l.replay.bind (fun r => l.buf.find? (fun f => f.seq == r)) with
      | some f =>
        let next := (f.seq + 1) % 4096
        let h : FlitHdr := { kind := 1, rpl := true, crVc := f.crVc, crUnits := f.crUnits, vcA := f.vcA, split := f.split, vcB := f.vcB, fill := f.fill, chA := f.chA, chB := f.chB }
        (d1.setLink p (fun l => { l with replay := if next = l.n then none else some next })).flitOut p h m f.chunks f.seq |>.countTile (portTile p) 0x09 (portSlot p) 0 1
      | none =>
        if d1.stalled p then d1.sendIdle p m
        else
          let (d2, x) := iter 13 (fun (a : Dev × Fill) => a.1.fillOne p a.2) (d1, ({} : Fill))
          if x.fill = 0 then d2.sendIdle p m else d2.sendSeq p m x

/-- CREDIT_RETURN_TIMEOUT: a debt is older than 200 ns and there is no payload: an empty SEQ flit carries the return. -/
def creditReturnTimeout (p : Fin 72) (d : Dev) : Dev :=
  let l := d.link p
  if d.isS p && l.state == 3 && !l.debts.isEmpty && l.replay.isNone && !d.stalled p && !l.idleOnly &&
      !(List.range 8).any (fun v => d.canChunk p v) then
    let (d1, m) := d.slotOut p
    d1.sendSeq p m {}
  else d

/-- ACK_TIMER_EXPIRY: a replay from A, or the link goes down on the third expiry in a row (R176). -/
def ackTimerExpiry (p : Fin 72) (d : Dev) : Dev :=
  let l := d.link p
  if l.state ≠ 3 ∨ l.a = l.n then d
  else if 2 ≤ l.expiries then d.linkDown p 1
  else (d.setLink p (fun l => { l with expiries := l.expiries + 1 })).startReplay p l.a 1

/-- PEER_TIMEOUT: no valid block on any lane for 2 us (Table 6.10). -/
def peerTimeout (p : Fin 72) (d : Dev) : Dev := d.linkDown p 9

/-! ### Holding a port (R199, Table 6.13) -/

/-- A HELD port that nothing holds any more trains again, as an internal LINK_RETRAIN (R199, R200). -/
def Dev.unhold_ (d : Dev) (p : Nat) : Dev :=
  let l := d.link p
  if l.state = 5 ∧ l.heldDown 0 = false then d.retrain p else d

/-- ADMIN_DOWN takes the link down, a port in training too, and holds it. -/
def Dev.setAdminDown (d : Dev) (p : Nat) (v : Bool) : Dev :=
  let was := (d.link p).adminDown
  let d1 := d.setLink p (fun l => { l with adminDown := v })
  if v && !was then
    (if (d1.link p).state = 1 then (d1.setLink p (fun l => { l with state := 5, lastCause := 7 })).lanesOff p else d1.linkDown p 7)
  else d1.unhold_ p

def Dev.setHoldDown (d : Dev) (p : Nat) (v : Bool) : Dev := (d.setLink p (fun l => { l with holdDown := v })).unhold_ p

/-- A write of SX_CTRL. -/
def Dev.writeSxCtrl (d : Dev) (p v : Nat) : Dev :=
  ((d.setLink p (fun l => { l with autoDegrade := bitAt v 1 })).setHoldDown p (bitAt v 2)).setAdminDown p (bitAt v 0)

/-- TRAINING_RETRY: 100 ms after a failed training. -/
def trainingRetry (p : Fin 72) (d : Dev) : Dev :=
  if d.isS p && (d.link p).state == 1 && (d.link p).trainFailed then d.retrain p else d

/-- RETURN_HOLD_END: at the boundary that ends the return hold the ways of port `p` become usable (R298). -/
def returnHoldEnd (p : Fin 72) (d : Dev) : Dev :=
  if (d.link p).hold = some 0 then d.setLink p (fun l => { l with hold := none }) else d

/-- A boundary counts down the return holds. -/
def Dev.holdTick (d : Dev) : Dev :=
  d.sPorts.foldl (fun e p => e.setLink p (fun l => { l with hold := if l.live then l.hold.map (· - 1) else l.hold })) d

/-! ### Registers (Tables 6.11 to 6.13) -/

def Dev.sxStatus (d : Dev) (p : Nat) : Nat :=
  let l := d.link p
  pack [(25, l.width), (23, l.rate), (22, b2n l.nakOut), (21, b2n l.replay.isSome), (20, b2n (d.stalled p)), (19, b2n l.degraded), (17, l.expiries), (4, l.lastCause), (0, l.state)]
def Dev.sxCtrl (d : Dev) (p : Nat) : Nat :=
  let l := d.link p
  pack [(2, b2n l.holdDown), (1, b2n l.autoDegrade), (0, b2n l.adminDown)]

end Sys2Proof.Machine
end

