-- ==== Sys2Proof/Machine/Cycle.lean ====
section
/-! DEFINITION. One DCLK cycle without a command: time passes, and the conditions of Table 14.6 that hold count
(notes/assumptions/1.md). -/

namespace Sys2Proof.Machine

/-- The ports of the variant. -/
def Dev.portList (d : Dev) : List Nat := List.range d.ports

/-- NO_CREDIT of S port `p` and VC `v`: staging holds a cell at the head of a sub-queue and the link has no credit for its packet
(R182). The credit of an H link's partner is no state of the Haldion's (notes/assumptions/1.md). -/
def Dev.noCredit (d : Dev) (p v : Nat) : Bool :=
  (d.link p).live && (d.link p).txPkt.rd v == 0 &&
    (headsOf ((d.sw.staging.rd (8 * p + v)).map Staged.pkt)).any (fun h => decide ((d.link p).avail.rd v < h.cells))

/-- TRANSIT_WAIT of tile `t`: a non-posted head waits for a Transit entry (R271). -/
def Dev.transitWaits (d : Dev) (t : Nat) : Bool :=
  d.sw.voq.any (fun v => v.1 / 1024 == t && (headsOf v.2).any (fun p => p.needTransit && p.transit.isNone && !d.trAvail p.part))

/-- The conditions of one port. -/
def Dev.portCycle (d : Dev) (p : Nat) : Dev :=
  let d1 := if d.stalled p then
      (d.setLink p (fun l => { l with stall := satAdd 32 l.stall 1 })).countTile (portTile p) 0x08 (portSlot p) 0 1
    else d
  let d2 := (List.range 8).foldl (fun e v => if e.noCredit p v then e.countTile (portTile p) 0x07 (portSlot p) v 1 else e) d1
  if (d2.link p).live || (d2.pport p).dlActive then d2.countTile (portTile p) 0x12 (portSlot p) 0 1 else d2

/-- CORE_BUSY of the core of role `c`, on the cycles of MCLK: it is in its budget window (R116). -/
def Dev.coreCycle (d : Dev) (c : Nat) : Dev :=
  if d.tick.windowOpen.rd c && d.roleWorks c then d.countMgmt 0x70 (d.cores.roleMap.rd c - 1) 1 else d

/-- One DCLK cycle of an active device. -/
def Dev.condCycle (d : Dev) : Dev :=
  let d1 := d.portList.foldl (fun e p => e.portCycle p) d
  let d2 := (List.range 9).foldl (fun e t => if e.transitWaits t then e.countTile t 0x0D 0 0 1 else e) d1
  let d3 := if d2.holdFull then d2.countHub 0x66 0 1 else d2
  let d4 := (d3.boundTick 1).slotTick 1
  if d.now % 20 = 0 then (List.range 5).foldl (fun e c => e.coreCycle c) d4 else d4

/-- One DCLK cycle: 10 units of 62.5 ps. -/
def Dev.cycle (d : Dev) : Dev :=
  let d1 := if d.inRunOrTest then d.condCycle else d
  { d1 with now := d.now + 10 }

end Sys2Proof.Machine
end

