-- ==== Sys2Proof/Machine/PlatWrite.lean ====
section
/-! DEFINITION. What the loader writes in M2 as the sections of a full image pass their checks: tables, core memories, the
firmware store, the neighbour store and the staged registers; and the clearing of these destinations after a rejection
(R57 to R62, R71). Amendments share the entry forms. -/

namespace Sys2Proof.Machine

/-- Write a list of entries into a table. -/
def wrAll {V : Type} [Inhabited V] [DecidableEq V] (t : Tab V) (es : List (Nat × V)) : Tab V := es.foldl (fun t e => t.wr e.1 e.2) t

/-! ### Table loads (R59) -/

/-- The entries that a load section holds, read by `f` from their bytes. -/
def loadEntries {V : Type} (ty : Nat) (b : List Nat) (f : List Nat → V) : List (Nat × V) :=
  (List.range (leAt b 4 4)).map (fun i => (leAt b 0 4 + i, f (slice b (16 + loadEntryBytes ty * i) (loadEntryBytes ty))))

/-- A load section, of a full image or an amendment, stands in its table. -/
def Dev.applyLoad (d : Dev) (s : PlatSec) : Dev :=
  let ty := if 0x41 ≤ s.type then s.type - 0x38 else s.type
  let b := s.body
  if ty = 0x09 then { d with fab.gaz := wrAll d.fab.gaz (loadEntries ty b ofLe) }
  else if ty = 0x0A then { d with fab.bearing := wrAll d.fab.bearing (loadEntries ty b ofLe) }
  else if ty = 0x0B then { d with fab.rid := wrAll d.fab.rid (loadEntries ty b ofLe) }
  else if ty = 0x0C then { d with fab.win := wrAll d.fab.win (loadEntries ty b Win.ofBytes) }
  else d.applyRules (leAt b 8 1) (loadEntries ty b Rule.ofBytes)

/-! ### Small sections (R57, R60, Table 2.9) -/

/-- Authority entries: a later image never raises what an earlier one lowered (R457). -/
def RunCfg.applyAuth (r : RunCfg) (b : List Nat) : RunCfg :=
  { r with auth := (List.range (authEntries b)).foldl (fun (t : Tab AuthEntry) j => t.wr (leAt b (4 * j) 1) { set := true, level := leAt b (4 * j + 1) 1, amend := leAt b (4 * j + 2) 1 == 1 }) r.auth }

/-- QoS; an amendment keeps TC_TO_VC and LOSSY. VCs are kept plus 1. -/
def RunCfg.applyQos (r : RunCfg) (amend : Bool) (b : List Nat) : RunCfg :=
  { r with
    tcToVc := if amend then r.tcToVc else (List.range 8).foldl (fun (t : Tab Nat) n => t.wr n (leAt b n 1 + 1)) []
    lossy := if amend then r.lossy else leAt b 8 1
    ageing := (List.range 8).foldl (fun (t : Tab Nat) n => t.wr n (leAt b (0x10 + 4 * n) 4)) []
    weight := (List.range 8).foldl (fun (t : Tab Nat) n => t.wr n (leAt b (0x30 + n) 1)) [] }

/-- Step budgets. -/
def RunCfg.applyBudgets (r : RunCfg) (b : List Nat) : RunCfg :=
  { r with budget := (List.range 5).foldl (fun (t : Tab Nat) k => t.wr k (leAt b (4 + 2 * k) 2)) [] }

/-- Auto-Spare Policy: only the kinds that it holds change. -/
def RunCfg.applySpare (r : RunCfg) (b : List Nat) : RunCfg :=
  { r with spare := (List.range (b.length / 8)).foldl (fun (t : Tab SparePolicy) j => t.wr (leAt b (8 * j) 1) { enable := leAt b (8 * j + 1) 1 == 1, threshold := leAt b (8 * j + 4) 2, window := leAt b (8 * j + 6) 2 }) r.spare }

/-- Debug Ceiling. -/
def RunCfg.applyCeiling (r : RunCfg) (b : List Nat) : RunCfg :=
  { r with ceiling := (List.range 5).foldl (fun (t : Tab Nat) k => t.wr k (leAt b k 1)) [] }

/-! ### Destinations in M2 (R71) -/

def NeighbourSt.side (n : NeighbourSt) (s : Nat) : NeighbourSide := if s = 0 then n.side0 else n.side1
def Dev.setSide (d : Dev) (s : Nat) (f : NeighbourSide → NeighbourSide) : Dev :=
  if s = 0 then { d with nb.side0 := f d.nb.side0 } else { d with nb.side1 := f d.nb.side1 }

/-- The staged registers change: roles, cuts, partitions, quotas, authority, QoS, tick, policies, ceiling and lock mask. -/
def RunCfg.stageSection (r : RunCfg) (c : ImgCtx) (ports : Nat) (ty : Nat) (b : List Nat) : RunCfg :=
  if ty = 0x01 then { r with tile := (List.range c.tiles).foldl (fun (t : Tab TileCfg) k => t.wr k (c.tile k)) [] }
  else if ty = 0x02 then { r with cut := (List.range ports).foldl (fun (t : Tab Nat) p => t.wr p (c.cut p)) [] }
  else if ty = 0x03 then { r with part := (List.range 24).foldl (fun (t : Tab PartEntry) q => match c.part q with | some e => t.wr q e | none => t) [] }
  else if ty = 0x04 then { r with pfMsix := leAt b 0 2, quota := (List.range 24).foldl (fun (t : Tab Quota) q => if c.partDef q then t.wr q { vf := leAt b (8 + 4 * q) 2, msix := leAt b (10 + 4 * q) 2 } else t) [] }
  else if ty = 0x05 then r.applyAuth b
  else if ty = 0x06 then r.applyQos false b
  else if ty = 0x07 then { (r.applyBudgets b) with tickPeriod := leAt b 0 1, tickSourceRole := leAt b 1 1 == 1, tickSource := leAt b 2 1 }
  else if ty = 0x0E then r.applySpare b
  else if ty = 0x0F then r.applyCeiling b
  else if ty = 0x10 then { r with lock := (List.range (b.length / 16)).map (LockEntry.ofBytes b) }
  else r

/-- The firmware image of a Core Firmware body (R58). -/
def Firmware.ofBytes (b : List Nat) : Firmware :=
  { loadOffset := leAt b 4 4, entry := leAt b 12 4, image := slice b 16 (leAt b 8 4) }

/-- The last section that has passed goes to its destination (R71). -/
def Dev.writeSection (d : Dev) (s : PlatSec) : Dev :=
  let b := s.body
  if s.type = 0x08 then
    let f := Firmware.ofBytes b
    ({ d with run.firmware := d.run.firmware.wr (leAt b 0 1) f }).setCore (leAt b 0 1) (fun k => { k with mem := f.memory })
  else if 0x09 ≤ s.type ∧ s.type ≤ 0x0D then
    let d1 := d.applyLoad s
    if s.type = 0x0D then { d1 with bnd.gateMode := leAt b 9 1 == 1 } else d1
  else if s.type = 0x11 then d.setSide (leAt b 0 1) (fun n => { n with copy := b.drop 8 })
  else { d with plat.staged := d.plat.staged.stageSection (d.imgCtx d.plat.img d.plat.secs) d.ports s.type b }

/-- Every destination of an image is clear again (R71). -/
def Dev.clearDest (d : Dev) : Dev :=
  { d with
    plat := { d.plat with secs := [], staged := {} }
    run.firmware := []
    cores.core := d.cores.core.mapAll (fun _ k => { k with mem := [] })
    nb := { d.nb with side0 := { d.nb.side0 with copy := [] }, side1 := { d.nb.side1 with copy := [] } }
    fab := { d.fab with gaz := [], bearing := [], rid := [], win := [] }
    bnd := { d.bnd with rule := [], gateMode := false } }

end Sys2Proof.Machine
end

