-- ==== Sys2Proof/Machine/Plat.lean ====
section
/-! DEFINITION. The Plat loader and the neighbour exchange (R62 to R73, R91 to R99). -/

namespace Sys2Proof.Machine

/-! ### Records and messages of a load -/

/-- The 64 bytes of the header have been read (R69). -/
def PlatSt.headerRead (s : PlatSt) : Bool := decide (64 ≤ s.img.length)

/-- DETAIL of a Plat acceptance or rejection record (R426): it carries IMAGE_ID when the header has been read (R69). -/
def Dev.platDetail (d : Dev) (r : Reject) : List Nat :=
  let id := if d.plat.headerRead then leAt d.plat.img 0x18 8 else 0
  [r.code, r.section_, r.detail, r.offset, fld id 0 32, fld id 32 32,
   if d.plat.headerRead then leAt d.plat.img 0x28 4 else 0]

/-- A neighbour message goes out on SRO pair `pair` (R92). -/
def Dev.sendNeighbour (d : Dev) (pair type offset : Nat) (body : List Nat) : Dev :=
  d.emit (.neighbour pair (neighbourMsg type offset body))

/-- The SRO pair that leads back to the neighbour heard on SRI pair `pair` (R88). -/
def replyPair (pair : Nat) : Nat := 1 - pair

/-- RESULT to the holder whose stream has ended (R98). -/
def Dev.sendResult (d : Dev) (state : Nat) : Dev :=
  match d.nb.holder with
  | some pair =>
    let body := [state, d.plat.reject.code] ++ toLe 2 d.plat.reject.section_ ++ [0, 0, 0, 0]
    ({ d with nb.holder := none, nb.nextOff := 0, nb.filled := 0 }).sendNeighbour (replyPair pair) 0x28 0 body
  | none => d

/-! ### Rejection -/

/-- An image is rejected (R69, R71): one code, an Audit record, the claim ends. In M2 the destinations are cleared
before STATE becomes REJECTED; elsewhere nothing was written and STATE reads REJECTED at once (R85). IS_AMEND keeps its
value until the next START (DESIGN CHOICE, notes/assumptions/37.md). -/
def Dev.platReject (d : Dev) (r : Reject) : Dev :=
  let d1 := d.log 0x041 5 { port := d.plat.source, detail := d.platDetail r }
  let d2 := { d1 with plat := { d1.plat with reject := r, claim := none, bufFree := true, ended := false, chunk := [] } }
  if d.mode.base == .m2 then { d2 with plat.clearing := true }
  else ({ d2 with plat.state := .rejected, plat.secs := [] }).sendResult 5

/-- STREAM or ABORTED during a load (Table 2.16A). -/
def Dev.platStop (d : Dev) (code : Nat) : Dev :=
  d.platReject { code := code, section_ := 0xFFFF, detail := 0, offset := d.plat.bytes }

/-- CLEARING_DONE: the destinations are clear; STATE is REJECTED and M2 returns to M1 (R71, Table 3.10). -/
def clearingDone (d : Dev) : Dev :=
  if d.plat.clearing then
    (d.watchMode (fun e =>
      let x := e.clearDest
      { x with plat.clearing := false, plat.state := .rejected, mode.base := if x.mode.base == .m2 then .m1 else x.mode.base })).sendResult 5
  else d

/-! ### START (R66, R67) -/

/-- Rank of a claim among those of one MCLK cycle, by port key: anchor port, service ring, sideband (R66). -/
def claimRank (key : Nat) : Nat := if key = 0 then 0 else if key = 2 then 1 else if key = 1 then 2 else 3

/-- The claim that is held came in this same MCLK cycle from a port that ranks below `p` (R66). -/
def Dev.outranks (d : Dev) (p : CmdPort) : Bool :=
  d.plat.claimCycle == d.mclk && !d.plat.handed && d.plat.claim.any (fun k => decide (claimRank p.key < claimRank k))

/-- The refusal code of a START, and the severity of its record; 0 accepted (R67). -/
def Dev.startRefusal (d : Dev) (p : CmdPort) : Nat × Nat :=
  let right := if d.inRunOrTest then d.mayAmend p else d.mayLoadFull p
  if !right then (0x01, 5)
  else if d.plat.claim.isSome && !d.outranks p then (0x03, 1)
  else if d.mode.base == .m2 || d.plat.clearing || d.mode.base == .m10 then (0x02, 2)
  else (0, 0)

/-- The loader is claimed for `p` in MCLK cycle `cycle` and a load begins. -/
def PlatSt.begin_ (s : PlatSt) (p : CmdPort) (cycle : Nat) : PlatSt :=
  { s with before := if s.claim.isSome then s.before else (s.state, s.source, s.isAmend), claimCycle := cycle, state := .receiving, source := sourceCode p, isAmend := false,
           claim := some p.key, handed := false, ended := false, bytes := 0, chunk := [], img := [], headerOk := false,
           nextOff := 64, nextIdx := 0, secs := [], staged := {}, reject := {}, bufFree := true }

/-- The first of the things that left, counted from the newest, that is the neighbour message `a`, with its blocks,
becomes `b` with its own. -/
def swapOut (a b : Out) : List Out → List Out
  | [] => []
  | o :: r => if o = a then withLines (r.drop 1) [b] else o :: swapOut a b r

/-- The ACCEPT of this MCLK cycle gives way to a DECLINE: another claim of the same cycle ranks first, and no message of
the cycle has left yet (R66, R95; DESIGN CHOICE, notes/assumptions/38.md). -/
def Dev.declineHolder (d : Dev) : Dev :=
  match d.nb.holder with
  | some pair =>
    let msg := fun ty => Out.neighbour (replyPair pair) (neighbourMsg ty 0 (toLe 8 d.nb.offerId))
    { d with nb.holder := none, out := swapOut (msg 0x23) (msg 0x24) d.out }
  | none => d

/-- PLAT_CTRL.START (R67). A claim of the same MCLK cycle that ranks below it counts as refused with BUSY (R66). -/
def Dev.platStart (d : Dev) (p : CmdPort) : Dev :=
  let (code, sev) := d.startRefusal p
  if code = 0 then
    (if d.plat.claim.isSome then
      ({ d.declineHolder with plat := d.plat.begin_ p d.mclk }).log 0x042 1 { part := if d.plat.source = 1 then 0 else 0x1F, port := d.plat.source, detail := [3] }
     else { d with plat := d.plat.begin_ p d.mclk })
  else d.log 0x042 sev { part := p.partition, port := p.code, detail := [code] }

/-- The load is this port's. -/
def Dev.holds (d : Dev) (p : CmdPort) : Bool := d.plat.claim == some p.key

/-! ### PLAT_BUFFER and the handover (R65, R66) -/

/-- Bytes `bs` into the buffer from offset `off`. -/
def PlatSt.fill (s : PlatSt) (off : Nat) (bs : List Nat) : PlatSt :=
  { s with buf := (List.range bs.length).foldl (fun t i => t.wr (off + i) (bs.getD i 0 % 256)) s.buf }

/-- A write of PLAT_BUFFER: dropped from any other port; while the buffer is busy it ends the load (R66). -/
def Dev.platBufferWrite (d : Dev) (p : CmdPort) (off : Nat) (bs : List Nat) : Dev :=
  if !d.holds p then d
  else if !d.plat.bufFree then d.platStop 0x1C
  else { d with plat := d.plat.fill off bs }

/-- A write of PLAT_CHUNK_LEN hands the buffer over; the first handover of a full image enters M2. While BUFFER_FREE is 0,
before END and after it, the write ends the load (R65, R66). -/
def Dev.platHandover (d : Dev) (p : CmdPort) (len : Nat) : Dev :=
  if !d.holds p then
    (if d.plat.claim.isSome then d.log 0x042 1 { part := p.partition, port := p.code, detail := [3] } else d)
  else if !d.plat.bufFree then d.platStop 0x1C
  else if d.plat.state != .receiving then d
  else if decide (len < 8) || decide (65536 < len) || len % 8 != 0 then d.platStop 0x1C
  else d.watchMode (fun e =>
    { e with plat := { e.plat with chunk := (List.range len).map (fun i => e.plat.buf.rd i), bufFree := false,
                                   handed := true, bytes := e.plat.bytes + len }
             mode.base := if e.mode.base == .m1 then .m2 else e.mode.base })

/-! ### Checking (R68) -/

/-- A section has passed its checks: in M2 its content goes to its destination (R71). -/
def Dev.passSection (d : Dev) (sec : PlatSec) : Dev :=
  let e := { d with plat := { d.plat with secs := d.plat.secs ++ [sec], nextOff := sec.offset + 16 + sec.body.length, nextIdx := sec.index + 1 } }
  if e.mode.base == .m2 then e.writeSection sec else e

/-- Check the sections that have arrived, `n` at most (stage 2). Answers the state with the passed sections written and
the first failure. -/
def Dev.walk (d : Dev) (n : Nat) : Dev × Option Reject :=
  match n with
  | 0 => (d, none)
  | n + 1 =>
    let s := d.plat
    let o := s.nextOff
    let L := leAt s.img 8 4
    let len := leAt s.img (o + 4) 4
    if o + 8 = L ∨ (s.img.length < o + 16 ∧ noRoom s.img o = false) then (d, none)
    else if overruns s.img o = false ∧ s.img.length < o + 16 + len then (d, none)
    else match d.sectionFail s.img s.secs s.nextIdx o with
      | some r => (d, some r)
      | none =>
        let sec : PlatSec := { type := leAt s.img o 2, index := s.nextIdx, offset := o, body := slice s.img (o + 16) len }
        Dev.walk (d.passSection sec) n

/-- Header and section checks on the bytes that have arrived (stages 1 and 2). -/
def Dev.checkArrived (d : Dev) : Dev × Option Reject :=
  let s := d.plat
  if s.headerOk then d.walk s.img.length
  else if s.img.length < 64 then (d, none)
  else match d.headerFail s.img with
    | some r => (d, some r)
    | none => Dev.walk { d with plat := { s with headerOk := true, isAmend := bitAt (leAt s.img 0x13 1) 0 } } s.img.length

/-- Blocks of 4 KiB that staging an amendment takes, plus the commit step (R72). -/
def stagingTotal (secs : List PlatSec) : Nat :=
  (secs.foldl (fun a s => a + (if 0x7000 ≤ s.type ∧ s.type ≤ 0x7EFF then 0 else (s.body.length + 4095) / 4096)) 0) + 1

/-- An amendment that has passed its checks is accepted, with its Audit record, and begins its staging job (R69, R72).
The claim ends: a further load may begin, and its header is then refused with AMEND_PENDING (Table 2.16;
notes/assumptions/42.md). -/
def Dev.startStaging (d : Dev) : Dev :=
  let d1 := ({ d with plat := { d.plat with state := .accepted, claim := none } }).log 0x040 5 { port := d.plat.source, detail := d.platDetail {} }
  let (e, k) := d1.startInternal { op := 0x80, total := stagingTotal d1.plat.secs }
  { e with plat := { e.plat with amendState := 1, amendHandle := e.handle k, amendSecs := e.plat.secs, amendSeqNext := leAt e.plat.img 0x28 4, amendId := leAt e.plat.img 0x18 8, amendLen := leAt e.plat.img 8 4, amendPort := e.plat.source } }

/-- The end checks (stage 3) and what follows them. -/
def Dev.platFinish (d : Dev) : Dev :=
  let fail := if d.plat.headerOk then d.endFail d.plat.img d.plat.secs d.plat.bytes
    else some { code := 0x07, section_ := 0xFFFF, detail := 0, offset := d.plat.bytes }
  match fail with
  | some r => d.platReject r
  | none =>
    let e := { d with plat := { d.plat with state := .applying, ended := false } }
    if e.plat.isAmend then e.startStaging else e

/-- BUFFER_FREE: the loader has checked a chunk (R68); a requester acknowledges it (R96). -/
def bufferFree (d : Dev) : Dev :=
  if d.plat.bufFree then d
  else
    let s := d.plat
    let (e, fail) := Dev.checkArrived { d with plat := { s with img := s.img ++ s.chunk, chunk := [] } }
    match fail with
    | some r => e.platReject r
    | none =>
      let e1 := { e with plat.bufFree := true }
      let e2 := match e1.nb.holder with
        | some pair => e1.sendNeighbour (replyPair pair) 0x26 e1.plat.bytes []
        | none => e1
      if e2.plat.ended then e2.platFinish else e2

/-- PLAT_CTRL.END (R65, R68): the end checks wait for the last chunk. -/
def Dev.platEnd (d : Dev) (p : CmdPort) : Dev :=
  if d.holds p && d.plat.state == .receiving then
    let e := { d with plat := { d.plat with state := .validating, ended := true } }
    if e.plat.bufFree then e.platFinish else e
  else d

/-- PLAT_CTRL.ABORT from the port whose load is in progress (Table 2.12). While STATE is APPLYING the image has passed
every check, and ABORT does nothing (DESIGN CHOICE, notes/assumptions/37.md). -/
def Dev.platAbort (d : Dev) (p : CmdPort) : Dev :=
  if d.holds p && (d.plat.state == .receiving || d.plat.state == .validating) then d.platStop 0x1D else d

/-- A write of PLAT_CTRL; more than one of its bits is a dropped write (Table 2.12). -/
def Dev.writePlatCtrl (d : Dev) (p : CmdPort) (addr value : Nat) : Dev :=
  let v := fld value 0 3
  if v = 1 then d.platStart p
  else if v = 2 then d.platEnd p
  else if v = 4 then d.platAbort p
  else if v = 0 then d
  else d.dropped p addr value 2

/-- CLAIM_TIMEOUT: a claim without a handover for 1 s; STATE, SOURCE and IS_AMEND return (R66). -/
def claimTimeout (d : Dev) : Dev :=
  if d.plat.claim.isSome && !d.plat.handed then
    { d with plat := { d.plat with claim := none, state := d.plat.before.1, source := d.plat.before.2.1,
                                   isAmend := d.plat.before.2.2 }
             nb.holder := none }
  else d

/-- STREAM_TIMEOUT: a gap of more than 1 s before the next handover or END (R66). -/
def streamTimeout (d : Dev) : Dev :=
  if d.plat.claim.isSome && d.plat.handed && d.plat.state == .receiving then d.platStop 0x1C else d

/-- PLAT_ACCEPTED: STATE 4 with its Audit record; run-mode entry begins (R69, R84, R91). -/
def platAccepted (d : Dev) : Dev :=
  if d.plat.state == .applying && !d.plat.isAmend && d.mode.base == .m2 then
    let e := { d with plat := { d.plat with state := .accepted, claim := none }
                      run.imageId := leAt d.plat.img 0x18 8
                      run.amendSeq := 0
                      mode.entry := .accepted }
    (e.log 0x040 5 { port := d.plat.source, detail := d.platDetail {} }).sendResult 4
  else d

/-! ### The neighbour exchange (R93 to R99) -/

/-- NEED_PLAT_REPEAT: every 1.024 ms in M1 with AUTH_SEL[2] and no claim (R93). -/
def needPlatRepeat (d : Dev) : Dev :=
  if d.mode.base == .m1 && d.strap 2 && d.plat.claim.isNone then
    let body := toLe 4 (if d.is7144 then 0x7144 else 0x7080) ++ toLe 4 d.part.siliconRev
    (d.sendNeighbour 0 0x21 0 body).sendNeighbour 1 0x21 0 body
  else d

/-- The SIDE whose neighbour is heard on an SRI pair: pair 0 is SIDE 1 (R88). -/
def sideOf (pair : Nat) : Nat := 1 - pair

/-- A neighbour message arrives on SRI pair `pair`: the die does `f` with it, or a closed bypass passes it on (R88). -/
def Dev.neighbourIn (d : Dev) (pair type offset : Nat) (body : List Nat) (f : Dev → Dev) : Dev :=
  d.ringIn (.neighbour pair (neighbourMsg type offset body)) f

/-! #### The holder (R94, R96, R98, R99) -/

/-- Key of the stream job of a side. -/
def Dev.streamJob (d : Dev) (s : Nat) : Option Nat :=
  (d.jobList.find? (fun e => e.2.op == 0x81 && e.2.arg0 == s && e.2.active)).map Prod.fst

/-- The stream job of a side ends, if one runs (R94). -/
def Dev.endStream (d : Dev) (s : Nat) (st : JobState) (result : Nat) : Dev :=
  match d.streamJob s with
  | some k => d.endJob k st result 0
  | none => d

/-- The conditions of R94 for the copy of a side and a requester of part code `part` and revision `rev`. -/
def Dev.mayOffer (d : Dev) (n : NeighbourSide) (part rev : Nat) : Bool :=
  let target := leAt n.copy 0xE 2
  d.inRun && !n.copy.isEmpty && (target == part || target == 0xFFFF) && decide (leAt n.copy 0x10 2 ≤ rev) &&
    n.state != 4 && n.state != 5

/-- The SVC has an offer to make for a side: its stream job starts, or goes back to the offer (R94). The spec gives the
job no unit: TOTAL and PROGRESS are free values (notes/assumptions/22.md). -/
def Dev.startStream (d : Dev) (s : Nat) : Dev :=
  match d.streamJob s with
  | some k => { d with jobs.slot := d.jobs.slot.upd k (fun j => { j with phase := 0 }) }
  | none => (d.tickFree.startInternal { op := 0x81, arg0 := s, total := d.freeVal 32 }).1

/-- NEED_PLAT received on SRI pair `pair`: a side in state 4 returns to 1 first (R99), and under the conditions of R94 the
copy is to be offered. -/
def needPlat (pair : Fin 2) (part rev : Nat) (d : Dev) : Dev :=
  d.neighbourIn pair 0x21 0 (toLe 4 part ++ toLe 4 rev) (fun d =>
    let s := sideOf pair.val
    let d1 := if (d.nb.side s).state = 4 then d.setSide s (fun n => { n with state := 1 }) else d
    if d1.mayOffer (d1.nb.side s) part rev then d1.startStream s else d1)

/-- The stream of a side waits for the CHUNK_ACK of what it has sent: 65,536 B, or the last byte (R96). -/
def NeighbourSide.waits (n : NeighbourSide) : Bool :=
  decide (0 < n.sent) && (n.sent % 65536 == 0 || n.sent == n.copy.length) && n.acked != n.sent

/-- The stream job of a side has a step to take: the offer, a DATA message, DONE, or its end after RESULT (R94, R96,
R98). -/
def NeighbourSide.ready (n : NeighbourSide) (phase : Nat) : Bool :=
  phase == 0 || n.state == 4 || n.state == 5 || (n.state == 3 && !n.done && !n.waits)

/-- One step of the stream job of side `s` at `phase`: what the neighbour is sent, and the side after it. -/
def Dev.streamStep (d : Dev) (s phase : Nat) : Dev :=
  let n := d.nb.side s
  if phase = 0 then
    (d.setSide s (fun m => { m with state := 2, sent := 0, acked := 0, done := false })).sendNeighbour s 0x22 0
      (slice n.copy 0x18 8 ++ slice n.copy 8 4 ++ slice n.copy 0xE 2 ++ slice n.copy 0x10 2)
  else if n.sent < n.copy.length then
    let len := min 256 (n.copy.length - n.sent)
    let d1 := d.setSide s (fun m => { m with sent := n.sent + len })
    if d.mode.railFail then d1 else { d1 with out := withData d.out s n.sent n.copy.length (slice n.copy n.sent len) }
  else (d.setSide s (fun m => { m with done := true })).sendNeighbour s 0x27 n.copy.length []

/-- ACCEPT received: the stream of the copy offered begins (R96). -/
def accept (pair : Fin 2) (imageId : Nat) (d : Dev) : Dev :=
  d.neighbourIn pair 0x23 0 (toLe 8 imageId) (fun d =>
    let s := sideOf pair.val
    let n := d.nb.side s
    if n.state = 2 ∧ leAt n.copy 0x18 8 = imageId then d.setSide s (fun m => { m with state := 3, sent := 0, acked := 0, done := false })
    else d)

/-- The offer of a side is withdrawn (R95). -/
def Dev.withdraw (d : Dev) (s : Nat) : Dev :=
  if (d.nb.side s).state = 2 then (d.setSide s (fun n => { n with state := 1 })).endStream s .cancelled 1 else d

/-- DECLINE received (R95). -/
def decline (pair : Fin 2) (imageId : Nat) (d : Dev) : Dev :=
  d.neighbourIn pair 0x24 0 (toLe 8 imageId) (fun d =>
    if leAt (d.nb.side (sideOf pair.val)).copy 0x18 8 = imageId then d.withdraw (sideOf pair.val) else d)

/-- OFFER_WITHDRAW: no ACCEPT came within 1 ms (R95). -/
def offerWithdraw (side : Fin 2) (d : Dev) : Dev := d.withdraw side.val

/-- CHUNK_ACK received: the stream may go on when its OFFSET is the bytes sent (R96). -/
def chunkAck (pair : Fin 2) (offset : Nat) (d : Dev) : Dev :=
  d.neighbourIn pair 0x26 offset [] (fun d =>
    let s := sideOf pair.val
    let n := d.nb.side s
    if n.state = 3 ∧ n.waits = true ∧ offset = n.sent then d.setSide s (fun m => { m with acked := offset }) else d)

/-- RESULT received: NEIGHBOUR_STATUS of that side; a rejection is recorded and stops the offers (R98). -/
def neighbourResult (pair : Fin 2) (state code section_ : Nat) (d : Dev) : Dev :=
  d.neighbourIn pair 0x28 0 ([state, code] ++ toLe 2 section_ ++ [0, 0, 0, 0]) (fun d =>
    let s := sideOf pair.val
    if (d.nb.side s).copy.isEmpty then d
    else
      let d1 := d.setSide s (fun n => { n with state := if state = 5 then 5 else 4, code := code % 256 })
      if state = 5 then d1.log 0x044 2 { port := 3, inst := s, detail := [code, section_] } else d1)

/-! #### The requester (R95, R96) -/

/-- OFFER received: the first is accepted and claims the loader for the ring, any other is declined; of two in one MCLK
cycle the one on SRI pair 0 wins (R95). -/
def offer (pair : Fin 2) (imageId length target minRev : Nat) (d : Dev) : Dev :=
  d.neighbourIn pair 0x22 0 (toLe 8 imageId ++ toLe 4 length ++ toLe 2 target ++ toLe 2 minRev) (fun d =>
    let out := replyPair pair.val
    let take := fun (x : Dev) =>
      ({ x with nb := { x.nb with holder := some pair.val, offerCycle := d.mclk, offerId := imageId, nextOff := 0, filled := 0, length := length } }).sendNeighbour out 0x23 0 (toLe 8 imageId)
    if d.mode.base = .m0 then d
    else if d.mode.base == .m1 && d.strap 2 && d.nb.holder.isNone && (d.startRefusal .ring).1 == 0 then take (d.platStart .ring)
    else if pair.val = 0 ∧ d.nb.holder = some 1 ∧ d.nb.offerCycle = d.mclk ∧ d.nb.nextOff = 0 ∧ d.holds .ring = true then take d.declineHolder
    else d.sendNeighbour out 0x24 0 (toLe 8 imageId))

/-- A BODY that R92 allows: 0 to 256 bytes, a multiple of 8. -/
def neighbourBody (body : List Byte) : Bool := decide (body.length ≤ 256) && body.length % 8 == 0

/-- DATA received by the requester (R96): a body whose OFFSET is not the next expected byte ends the load with STREAM;
a full 65,536 bytes or the last byte hands the chunk over. A message that breaks the layout of R92 is discarded
(DESIGN CHOICE, notes/assumptions/38.md). -/
def data (pair : Fin 2) (offset : Nat) (body : List Byte) (d : Dev) : Dev :=
  d.neighbourIn pair 0x25 offset (body.map BitVec.toNat) (fun d =>
    if d.nb.holder = some pair.val ∧ d.holds .ring = true ∧ neighbourBody body = true then
      if offset ≠ d.nb.nextOff then d.platStop 0x1C
      else
        let d1 := d.platBufferWrite .ring d.nb.filled (body.map BitVec.toNat)
        let filled := d.nb.filled + body.length
        let next := d.nb.nextOff + body.length
        if filled = 65536 ∨ next = d.nb.length then
          ({ d1 with nb.nextOff := next, nb.filled := 0 }).platHandover .ring filled
        else { d1 with nb.nextOff := next, nb.filled := filled }
    else d)

/-- DONE received: the requester writes PLAT_CTRL.END (R96). -/
def neighbourDone (pair : Fin 2) (offset : Nat) (d : Dev) : Dev :=
  d.neighbourIn pair 0x27 offset [] (fun d => if d.nb.holder = some pair.val then d.platEnd .ring else d)

/-- NEIGHBOUR_STATUS (Table 3.11). -/
def NeighbourSt.status (n : NeighbourSt) : Nat :=
  pack [(24, n.side1.code), (16, n.side1.state), (8, n.side0.code), (0, n.side0.state)]

/-! ### Registers of the Plat window (Tables 2.11 to 2.14) -/

def PlatState.num : PlatState → Nat
  | .idle => 0 | .receiving => 1 | .validating => 2 | .applying => 3 | .accepted => 4 | .rejected => 5

def PlatSt.status (s : PlatSt) : Nat :=
  pack [(8, b2n s.isAmend), (5, s.source), (4, b2n s.bufFree), (0, s.state.num)]
def PlatSt.rejectWord (s : PlatSt) : Nat :=
  pack [(16, s.reject.section_), (8, s.reject.detail), (0, s.reject.code)]
def PlatSt.amendStatus (s : PlatSt) : Nat := pack [(16, s.amendHandle), (0, s.amendState)]
def Dev.sealStatus (d : Dev) : Nat := pack [(16, d.run.lock.length), (0, b2n d.run.sealed)]

end Sys2Proof.Machine
end

