-- ==== Sys2Proof/Machine/Tables.lean ====
section
/-! DEFINITION. Commits of the fabric tables, the effect of commits at a boundary, and the content of a Plat and of its
amendments brought into force (R59, R60, R71 to R75, R291, R305, R352, R356, R377, R389). -/

namespace Sys2Proof.Machine

/-! ### Fabric commits (R305) -/

/-- The window that will stand at index `i` once everything pending and the changes `es` have taken effect. -/
def Dev.winNext (d : Dev) (es : List (Nat × Win)) (i : Nat) : Win :=
  match es.find? (fun e => e.1 == i) with
  | some e => e.2
  | none => match d.fab.winGrp.pend.rd i with
    | some w => w
    | none => d.fab.win.rd i

/-- A partition of the Plat. -/
def Dev.partDef (d : Dev) (q : Nat) : Bool := (d.run.part.rd q).present

/-- Upstream port and downstream map of a defined partition. -/
def Dev.partPorts (d : Dev) (q : Nat) : Option (Nat × Nat) :=
  if d.partDef q then some ((d.run.part.rd q).upstream, (d.run.part.rd q).down) else none

/-- The code of one changed entry: LOCKED before the codes of Table 9.7 (notes/assumptions/41.md). -/
def Dev.winCode (d : Dev) (es : List (Nat × Win)) (i : Nat) (w : Win) : Nat :=
  if d.barLocked (loadAddr 0x0C 0 i) 32 then 0xF1
  else if winCheck d.partDef w ≠ 0 then winCheck d.partDef w
  else if (List.range 64).any (fun j => j != i && winOverlap (d.winNext es j) w) then 4 else 0
def Dev.gazCode (d : Dev) (i e : Nat) : Nat :=
  if d.barLocked (loadAddr 0x09 0 i) 8 || d.gazLocked i then 0xF1 else gazCheck e
def Dev.bearingCode (d : Dev) (i e : Nat) : Nat :=
  if d.barLocked (loadAddr 0x0A 0 i) 8 then 0xF1 else bearingCheck d.isS e
def Dev.ridCode (d : Dev) (i e : Nat) : Nat :=
  if d.barLocked (loadAddr 0x0B 0 i) 4 then 0xF1 else ridCheck d.partPorts e

/-- The first failure of a group in ascending index order: code and index. -/
def groupResult {V : Type} (g : Grp V) (port : Nat) (code : Nat → V → Nat) : Nat × Nat :=
  if g.foreign port then (0xF0, 0)
  else match g.changes.find? (fun e => code e.1 e.2 != 0) with
    | some e => (code e.1 e.2, e.1)
    | none => (0, 0)

/-- Commit group `n` of Table 9.9: its result, and the state with an accepted group pending. -/
def Dev.fabCommitOne (d : Dev) (p : CmdPort) (n : Nat) : Dev × Nat × Nat :=
  let f := d.fab
  if n = 0 then
    let r := groupResult f.winGrp p.key (d.winCode f.winGrp.changes)
    (if r.1 = 0 then ({ d with fab.winGrp := f.winGrp.accept }).queueCommit (.windows f.winGrp.changes) else d, r)
  else if n = 1 then
    let r := groupResult f.gazGrp p.key d.gazCode
    (if r.1 = 0 then ({ d with fab.gazGrp := f.gazGrp.accept }).queueCommit (.gazetteer f.gazGrp.changes) else d, r)
  else if n = 2 then
    let r := groupResult f.bearingGrp p.key d.bearingCode
    (if r.1 = 0 then ({ d with fab.bearingGrp := f.bearingGrp.accept }).queueCommit (.bearing f.bearingGrp.changes) else d, r)
  else
    let r := groupResult f.ridGrp p.key d.ridCode
    (if r.1 = 0 then ({ d with fab.ridGrp := f.ridGrp.accept }).queueCommit (.rid f.ridGrp.changes) else d, r)

/-- A write of FABRIC_COMMIT: each named group on its own, in ascending bit order (R305). A write that names no group
commits nothing. -/
def Dev.fabCommit (d : Dev) (p : CmdPort) (bits : Nat) : Dev :=
  if bits % 16 = 0 then d
  else (((List.range 4).filter (bitAt bits)).foldl (fun e n =>
    let (e1, code, det) := e.fabCommitOne p n
    if code = 0 then e1
    else { e1 with fab := { e1.fab with rejected := setBit e1.fab.rejected n, code := if e1.fab.rejected = 0 then code else e1.fab.code, detail := if e1.fab.rejected = 0 then det else e1.fab.detail } })
    { d with fab := { d.fab with rejected := 0, code := 0, detail := 0 } })

/-! ### The full image (Table 3.9) -/

/-- Roles and cuts (BOOT_PORT_RELEASE). -/
def Dev.applyTiles (d : Dev) : Dev :=
  { d with run := { d.run with tile := d.plat.staged.tile, cut := d.plat.staged.cut } }

/-- A value of the noise source that is never zero (R291). -/
def Dev.incarnation (d : Dev) : Nat := Config.free d.freeCtr % (2 ^ 32 - 1) + 1

/-- A side of the neighbour exchange holds the copy that stands in the neighbour store (R62). -/
def NeighbourSide.hold (n : NeighbourSide) : NeighbourSide := if n.copy.isEmpty then n else { n with state := 1 }

/-- The staged registers with the header's RUN_MODE and SWITCH_ID, and the levels of R75 where the image holds no Debug
Ceiling; the firmware store and what identifies the image stand already. -/
def Dev.activeCfg (d : Dev) : RunCfg :=
  let sealed := d.plat.secs.any (fun s => s.type == 0x7FFF)
  { d.plat.staged with
    runMode := leAt d.plat.img 0x12 1, switchId := leAt d.plat.img 0x14 2, imageId := d.run.imageId, amendSeq := d.run.amendSeq
    firmware := d.run.firmware
    ceiling := if d.plat.secs.any (fun s => s.type == 0x0F) then d.plat.staged.ceiling else (List.range 5).foldl (fun (t : Tab Nat) k => t.wr k (if sealed then 0 else 3)) []
    sealed := sealed }

/-- RUN_STATE_ACTIVATE: what was written in M2 is the active state, the Debug Ceiling is in force, and a Seal section
seals (R71, R74, R75, Table 3.9). -/
def Dev.activate (d : Dev) : Dev :=
  let r := d.activeCfg
  let d1 := { d.tickFree with
    run := r
    nb := { d.nb with side0 := d.nb.side0.hold, side1 := d.nb.side1.hold }
    fab.incarnation := d.incarnation
    bnd.epoch := 1
    trav.fn := if (r.part.rd 0).present then d.trav.fn.upd 0 (fun f => { f with state := 1 }) else d.trav.fn }
  if r.sealed then d1.fire 0x045 else d1

/-! ### Amendments (R72, R73) -/

/-- A Neighbour Copy: the side holds it and may offer it (R62, R98). -/
def Dev.applyCopy (d : Dev) (b : List Nat) : Dev :=
  d.setSide (leAt b 0 1) (fun n => { n with state := 1, copy := b.drop 8, sent := 0, done := false })

/-- One section of an amendment takes force. -/
def Dev.amendSection (d : Dev) (s : PlatSec) : Dev :=
  let b := s.body
  if 0x41 ≤ s.type ∧ s.type ≤ 0x45 then d.applyLoad s
  else if s.type = 0x46 then { d with run := d.run.applyQos true b }
  else if s.type = 0x47 then { d with run := d.run.applySpare b }
  else if s.type = 0x48 then { d with run := d.run.applyBudgets b }
  else if s.type = 0x49 then
    let old := d.run.ceiling
    ({ d with run := d.run.applyCeiling b }).ceilingLowered (fun r => old.rd r)
  else if s.type = 0x4A then { d with run := d.run.applyAuth b }
  else if s.type = 0x4B then d.applyCopy b
  else d

/-- The amendment that waits for its tick applies after the direct commits (R73). Answers whether Boundary rules
changed. -/
def Dev.amendBoundary (d : Dev) : Dev × Bool :=
  if d.plat.amendState = 2 then
    let d1 := d.plat.amendSecs.foldl (fun e s => e.amendSection s) d
    (({ d1 with plat := { d1.plat with amendState := 3, amendSecs := [] }, run.amendSeq := d1.run.amendSeq + 1 }).fire 0x043, d.plat.amendSecs.any (fun s => s.type == 0x45))
  else (d, false)

/-- The staging job was cancelled or abandoned: nothing is applied, and the image reads REJECTED with ABORTED (R72,
R524). -/
def Dev.amendDropped (d : Dev) : Dev :=
  let r : Reject := { code := 0x1D, section_ := 0xFFFF, detail := 0, offset := d.plat.amendLen }
  let d0 := { d with plat := { d.plat with amendState := 0, amendSecs := [] } }
  let d1 := if d.plat.claim.isSome then d0 else { d0 with plat := { d0.plat with state := .rejected, reject := r } }
  d1.log 0x041 5 { port := d.plat.amendPort, detail := [r.code, r.section_, r.detail, r.offset, fld d.plat.amendId 0 32, fld d.plat.amendId 32 32, d.plat.amendSeqNext] }

end Sys2Proof.Machine
end

