-- ==== Sys2Proof/Machine/Jobs.lean ====
section
/-! DEFINITION. Jobs: submission, the steps that the SVC runs, cancellation, the commit steps' effects and release
(R118 to R126, R153 to R156, R195, R200, R305, R374, R375, R388, R418 to R420, R520). -/

namespace Sys2Proof.Machine

/-! ### Submission (R120 to R122, Table 4.7) -/

/-- A request as it is staged for a command port. -/
structure Request where
  op : Nat := 0
  a0 : Nat := 0
  a1 : Nat := 0
  a2 : Nat := 0
  a3 : Nat := 0
deriving DecidableEq, Repr, Inhabited

def PortSt.request (s : PortSt) : Request :=
  { op := s.jobOp % 256, a0 := s.jobArg.rd 0, a1 := s.jobArg.rd 1, a2 := s.jobArg.rd 2, a3 := s.jobArg.rd 3 }

/-- Partition whose host space a load of this port reads; a port without a partition reads that of partition 0 (R126). -/
def jobSpace : CmdPort → Nat
  | .ep q => q
  | _ => 0

/-- The port belongs to a partition. -/
def hasPartition : CmdPort → Bool
  | .anchor | .ep _ => true
  | _ => false

/-- Table size, entry bytes of the bulk loads: Gazetteer, Bearing and Boundary. -/
def loadSize (op gate : Nat) : Nat := if op = 1 then 4194304 else if op = 2 then 4096 else if gate = 0xFF then 8192 else 128
def jobEntryBytes (op : Nat) : Nat := if op = 3 then 32 else 8


/-- A bulk load of `op` that is active and covers part of [first, first + n) of its table. -/
def Dev.loadHolds (d : Dev) (op gate first n : Nat) : Bool :=
  d.activeJobs.any (fun e => e.2.op == op && (op != 3 || e.2.arg3 == gate) && rangesMeet e.2.arg1 e.2.arg2 first n)

/-- Arguments of a bulk load (R126, R388; BEARING_LOAD takes those of GAZETTEER_LOAD, notes/assumptions/43.md). -/
def Dev.loadArgs (d : Dev) (p : CmdPort) (r : Request) : Nat :=
  let gate := if r.op = 3 then r.a3 else 0xFF
  let addrOf := loadAddr (if r.op = 1 then 0x09 else if r.op = 2 then 0x0A else 0x0D) gate r.a1
  if (d.mode.base == .m6 && !hasPartition p) || r.a0 % 4096 != 0 || r.a2 == 0 || decide (loadSize r.op gate < r.a1 + r.a2) ||
      (r.op != 3 && r.a3 != 0) || (r.op == 3 && (decide (255 < r.a3) || (r.a3 == 0xFF) == d.bnd.gateMode || (r.a3 != 0xFF && !d.gateExists r.a3))) then 4
  else if d.barLocked addrOf (jobEntryBytes r.op * r.a2) then 6
  else if r.op = 1 ∧ d.run.sealed = true ∧ d.run.lock.any (fun e => e.kind == 3 && e.length != 0 && rangesMeet e.base e.length r.a1 r.a2) = true then 6
  else if r.op = 3 ∧ (d.tableRules gate).any (fun e => decide (ruleKey gate r.a1 ≤ e.1) && decide (e.1 < ruleKey gate r.a1 + r.a2) && d.ruleInLock e.2) = true then 6
  else if d.loadHolds r.op gate r.a1 r.a2 then 7 else 0

/-- FUNCTION_RESET (R375). -/
def Dev.resetArgs (d : Dev) (r : Request) : Nat :=
  if decide (4096 < r.a0) || r.a1 != 0 || r.a2 != 0 || r.a3 != 0 || (d.trav.fn.rd r.a0).state == 0 then 4
  else if (d.trav.fn.rd r.a0).state = 2 then 7 else 0

/-- LANE_SWAP (R155). -/
def Dev.laneArgs (d : Dev) (r : Request) : Nat :=
  let t := r.a0 / 18
  let n := r.a0 % 18
  if decide (255 < r.a0) || decide (1 < r.a1) || r.a2 != 0 || r.a3 != 0 || decide (d.tiles ≤ t) || decide (16 ≤ n) then 4
  else match d.cutPort t n with
    | none => 4
    | some p => if d.isS p = false ∨ (d.lane t n).state ≠ 7 then 4 else if d.portConflict p then 7 else 0

/-- PLL_SWAP (R156). -/
def Dev.pllArgs (d : Dev) (r : Request) : Nat :=
  if decide (d.tiles ≤ r.a0) || r.a1 != 0 || r.a2 != 0 || r.a3 != 0 then 4
  else if d.activeJobs.any (fun e => e.2.phase != 9 && ((d.jobPort e.2).any (fun p => portTile p == r.a0) || (e.2.op == 0x06 && e.2.arg0 == r.a0))) then 7 else 0

/-- PLANE_SWAP (R418). -/
def Dev.planeArgs (d : Dev) (r : Request) : Nat :=
  if decide (8 < r.a0) && r.a0 != 0xF || r.a1 != 0 || r.a2 != 0 || r.a3 != 0 || (decide (r.a0 ≤ 8) && (d.planeSt r.a0).state != 1) then 4
  else if d.activeJobs.any (fun e => e.2.op == 0x07) then 7 else 0

/-- SRAM_ROW_SWAP (R419). -/
def Dev.rowArgs (d : Dev) (r : Request) : Nat :=
  if decide (d.macroCount ≤ r.a0) || decide (511 < r.a1) || decide (1 < r.a2) || r.a3 != 0 || (r.a2 == 0 && decide (2 < Config.sramOwner r.a0)) then 4
  else if d.rowBusy r.a0 r.a1 then 7 else 0

/-- SCRUB (R420). -/
def Dev.scrubArgs (d : Dev) (r : Request) : Nat :=
  if decide (2047 < r.a0) || decide (4095 < r.a1) || r.a2 != 0 || r.a3 != 0 || decide (d.macroCount < r.a0 + r.a1) then 4
  else if d.activeJobs.any (fun e => e.2.op == 0x09 && rangesMeet e.2.arg0 e.2.arg1 r.a0 r.a1) then 7 else 0

/-- LINK_RETRAIN (R200). -/
def Dev.retrainArgs (d : Dev) (r : Request) : Nat :=
  if !d.isS r.a0 || r.a1 != 0 || r.a2 != 0 || r.a3 != 0 then 4 else if d.portConflict r.a0 then 7 else 0

/-- WIDTH_SPEED_CHANGE (R195). -/
def Dev.widthArgs (d : Dev) (r : Request) : Nat :=
  if !d.isS r.a0 || (d.link r.a0).state != 3 || r.a1 == 0 || decide (widthCode (d.cutWidth r.a0) < r.a1) || decide ((d.run.tile.rd (portTile r.a0)).rateMax < r.a2) || r.a3 != 0 then 4
  else if d.portConflict r.a0 then 7 else 0

/-- The checks of an operation's arguments and object: BAD_ARGUMENT, LOCKED, CONFLICT or 0. -/
def Dev.argCode (d : Dev) (p : CmdPort) (r : Request) : Nat :=
  if r.op ≤ 3 then d.loadArgs p r
  else if r.op = 4 then d.resetArgs r
  else if r.op = 5 then d.laneArgs r
  else if r.op = 6 then d.pllArgs r
  else if r.op = 7 then d.planeArgs r
  else if r.op = 8 then d.rowArgs r
  else if r.op = 9 then d.scrubArgs r
  else if r.op = 0xA then d.retrainArgs r
  else d.widthArgs r

/-- The port's authority covers the operation and its object (R122). -/
def Dev.maySubmit (d : Dev) (p : CmdPort) (r : Request) : Bool :=
  d.isSteward p || match d.tenantOf p with
    | some q => r.op == 4 && decide (r.a0 ≤ 4096) && d.fnPart r.a0 == q
    | none => false

/-- The submission code (R121, Table 4.7). -/
def Dev.submitCode (d : Dev) (p : CmdPort) (r : Request) : Nat :=
  if !d.inRunOrTest then 5
  else if r.op = 0 ∨ 0xB < r.op then 3
  else if !d.maySubmit p r then 2
  else if d.argCode p r ≠ 0 then d.argCode p r
  else if d.freeSlot = none then 1 else 0

/-- TOTAL of an accepted job. -/
def Dev.jobTotal (d : Dev) (r : Request) : Nat :=
  if r.op ≤ 3 then r.a2
  else if r.op = 4 then d.fnQueues r.a0
  else if r.op = 5 then 4
  else if r.op = 6 then 1
  else if r.op = 8 then (if r.a2 = 1 then 3 else 2)
  else if r.op = 9 then 65536 * r.a1
  else if r.op = 0xB then (if r.a1 ≤ (d.link r.a0).width ∧ r.a2 = (d.link r.a0).rate then 1 else 2)
  else 2

/-- JOB_GO: the port's staged request is submitted (R120, R121). A function reset quiesces at acceptance (R375). -/
def Dev.jobGo (d : Dev) (p : CmdPort) : Dev :=
  let r := (d.portSt p).request
  let code := d.submitCode p r
  match (if code = 0 then d.freeSlot else none) with
  | none =>
    (d.setPort p (fun s => { s with jobIssued := code })).log 0x027 (if code = 2 ∨ code = 6 then 5 else 1)
      { part := p.partition, port := p.code, detail := [code] }
  | some k =>
    let fns := if r.op ≠ 4 then [] else if r.a0 = 0 then (d.parentFns 0).filter d.fnOn else [r.a0]
    let j : Job := { state := .queued, source := sourceCode p, op := r.op, arg0 := r.a0, arg1 := r.a1, arg2 := r.a2, arg3 := r.a3, tenant := if d.isSteward p then none else d.tenantOf p, space := jobSpace p, total := d.jobTotal r, staged := fns.foldl (fun t n => t.ins n 1) [] }
    let d1 := if r.op ≠ 4 then d else if r.a0 = 0 then d.parentQuiesce 0 0x0B else d.fnQuiesce [r.a0] false 0x0B
    let d2 := { d1 with trav.fn := fns.foldl (fun t n => t.upd n (fun f => { f with job := k + 1 })) d1.trav.fn }
    let d3 := d2.putJob k j
    d3.setPort p (fun s => { s with jobIssued := pack [(16, d3.handle k)] })

/-! ### Steps (R123) -/

def Dev.job (d : Dev) (k : Nat) : Job := d.jobs.slot.rd k
def Dev.setJob (d : Dev) (k : Nat) (f : Job → Job) : Dev := { d with jobs.slot := d.jobs.slot.upd k f }

/-- The job's commit step: it is COMMITTING until the next boundary. -/
def Dev.commitJob (d : Dev) (k : Nat) : Dev :=
  (d.setJob k (fun j => { j with state := .committing })).queueCommit (.job k)

/-! #### Bulk loads (R126, R388) -/

/-- Read slot of request `i` of the block that job `k` reads. -/
def jobSlot (k i : Nat) : Nat := 4096 + 32 * k + i

/-- Bytes of the block that comes next. -/
def Job.blockBytes (j : Job) : Nat := min 4096 (jobEntryBytes j.op * (j.arg2 - j.progress))
def Job.blockReads (j : Job) : Nat := (j.blockBytes + 127) / 128

/-- The reads of job `k` are given up; what still arrives for them is discarded as late. -/
def Dev.dropReads (d : Dev) (k : Nat) : Dev :=
  (List.range 32).foldl (fun e i =>
    let s := e.trav.slot.rd (jobSlot k i)
    if s.used then { e with trav.slot := e.trav.slot.wr (jobSlot k i) { gen := s.gen + 1 } } else e) d

/-- A load ends with HOST_READ or BAD_ENTRY: nothing that it staged remains. -/
def Dev.failLoad (d : Dev) (k result index : Nat) : Dev :=
  ((d.dropReads k).setJob k (fun j => { j with staged := [], stagedWide := [] })).endJob k .failed result index

/-- Issue the reads of the block, 128 B each, as far as Transit entries allow. -/
def Dev.issueBlock (d : Dev) (k fuel : Nat) : Dev :=
  match fuel with
  | 0 => d
  | fuel + 1 =>
    let j := d.job k
    let i := j.aux
    if j.blockReads ≤ i then d
    else
      let a := j.arg0 + jobEntryBytes j.op * j.progress + 128 * i
      let n := min 128 (j.blockBytes - 128 * i)
      let index := j.arg1 + j.progress + 128 * i / jobEntryBytes j.op
      let (d1, ok, _) := d.hubCheck j.space a 0
      if !ok then d1.failLoad k 2 index
      else
        let g := (d1.trav.slot.rd (jobSlot k i)).gen
        let d2 := { d1 with trav.slot := d1.trav.slot.wr (jobSlot k i) { used := true, gen := g, kind := 4, off := 128 * i, bytes := n, time := d1.now } }
        match d2.hubIssue j.space (d2.engineId j.space) (jobSlot k i) { kind := .memRead, addr := a, lenDw := spanDw a n, firstBe := firstBeOf a n, lastBe := lastBeOf a n } (some d2.bnd.epoch) with
        | (d3, .sent _) => Dev.issueBlock (d3.setJob k (fun j => { j with aux := i + 1 })) k fuel
        | (_, .wait) => d1
        | (d3, .refused) => d3.failLoad k 2 index

/-- Every read of the block has been issued and has ended. -/
def Dev.blockDone (d : Dev) (k : Nat) : Bool :=
  let j := d.job k
  j.aux == j.blockReads && (List.range j.aux).all (fun i => (d.trav.slot.rd (jobSlot k i)).bytes == 0)

/-- The format check of a loaded entry. -/
def Dev.entryBad (d : Dev) (op gate index : Nat) (bs : List Nat) : Bool :=
  if op = 1 then gazCheck (ofLe bs) != 0
  else if op = 2 then bearingCheck d.isS (ofLe bs) != 0
  else d.ruleCode (ruleKey gate index) (Rule.ofBytes bs) != 0

/-- The block has arrived: its entries are checked and staged, apart from register writes (R305, R388). -/
def Dev.stageBlock (d : Dev) (k : Nat) : Dev :=
  let j := d.job k
  let slots := (List.range j.aux).map (fun i => (i, d.trav.slot.rd (jobSlot k i)))
  let sz := jobEntryBytes j.op
  match slots.find? (fun s => s.2.kind == 5) with
  | some s => d.failLoad k 2 (j.arg1 + j.progress + 128 * s.1 / sz)
  | none =>
    let bytes := slots.flatMap (fun s => s.2.got)
    let n := j.blockBytes / sz
    match (List.range n).find? (fun i => d.entryBad j.op j.arg3 (j.arg1 + j.progress + i) (slice bytes (sz * i) sz)) with
    | some i => d.failLoad k 3 (j.arg1 + j.progress + i)
    | none =>
      let first := j.arg1 + j.progress
      let narrow := if j.op = 3 then j.staged else (List.range n).foldl (fun (t : Tab Nat) i => t.wr (first + i) (ofLe (slice bytes (sz * i) sz) + 1)) j.staged
      let wide := if j.op = 3 then (List.range n).foldl (fun (t : Tab (List Nat)) i => t.wr (first + i) (slice bytes (sz * i) sz)) j.stagedWide else j.stagedWide
      (d.dropReads k).setJob k (fun j => { j with staged := narrow, stagedWide := wide, progress := j.progress + n, phase := 0, aux := 0 })

/-- One step of a bulk load: a block is read, then staged; after the last block the commit step. -/
def Dev.stepLoad (d : Dev) (k : Nat) : Dev :=
  let j := d.job k
  if j.phase = 1 ∧ d.blockDone k = true then d.stageBlock k
  else if j.phase = 0 ∧ j.progress = j.total then d.commitJob k
  else (d.setJob k (fun j => { j with phase := 1 })).issueBlock k 32

/-! #### Function reset (R374) -/

/-- The functions of a reset job. -/
def Job.functions (j : Job) : List Nat := j.staged.map Prod.fst

/-- One step returns up to 64 queue contexts; the last is the commit step. -/
def Dev.stepReset (d : Dev) (k : Nat) : Dev :=
  let j := d.job k
  if j.total ≤ j.progress then d.commitJob k
  else d.setJob k (fun j => { j with progress := min j.total (j.progress + 64) })

/-! #### Repairs -/

/-- LANE_SWAP (R153, R155, R196): the spare qualifies, and the swap is proposed, or the hard cut-over starts. -/
def Dev.stepLane (d : Dev) (k : Nat) : Dev :=
  let j := d.job k
  let t := j.arg0 / 18
  let n := j.arg0 % 18
  let s := spareLane n
  match d.cutPort t n with
  | none => d.endJob k .failed 5 0
  | some p =>
    if j.phase = 9 then d.endJob k .done 0 0
    else if !d.spareReady p n || (j.arg1 == 0 && decide ((d.lane t s).fom < 64)) then d.endJob k .failed 5 0
    else
      let x := (d.lane t n).logical
      if j.arg1 = 1 then ((d.setJob k (fun j => { j with phase := 1, progress := 2 })).startCutover p x s false)
      else
        let d1 := (d.setJob k (fun j => { j with phase := 1, progress := 1 })).setLink p (fun l => { l.endMirror with mirror := some (x, s, d.handle k), mirrorLane := n })
        d1.sendExchange p (swapMsg 0x10 x s (d.handle k))

/-- PLL_SWAP (R156). -/
def Dev.stepPll (d : Dev) (k : Nat) : Dev :=
  let j := d.job k
  let s := d.ln.tile.rd j.arg0
  if j.phase = 9 then d.endJob k .done 0 0
  else if s.pll1 && !s.onPll1 then (((d.pllMove j.arg0).setJob k (fun j => { j with progress := 1 })).endJob k .done 0 0)
  else d.endJob k .failed 5 0

/-- The plane that stands by. -/
def Dev.sparePlane (d : Dev) : Option Nat := (List.range 9).find? (fun k => (d.planeSt k).state == 0)

/-- PLANE_SWAP (R418). -/
def Dev.stepPlane (d : Dev) (k : Nat) (inp : StepIn) : Dev :=
  match d.sparePlane with
  | none => d.endJob k .failed 5 0
  | some s =>
    if (d.job k).phase = 1 then (d.setJob k (fun j => { j with progress := 2 })).commitJob k
    else if !inp.ok then d.endJob k .failed 6 s
    else d.setJob k (fun j => { j with phase := 1, progress := 1 })

/-- SRAM_ROW_SWAP (R419): without COPY the first step repeats until its owner has let go of the row. -/
def Dev.stepRow (d : Dev) (k : Nat) (inp : StepIn) : Dev :=
  let j := d.job k
  if d.rowsLeft j.arg0 = 0 then d.endJob k .failed 5 0
  else if j.progress + 1 = j.total then (d.setJob k (fun j => { j with progress := j.total })).commitJob k
  else if j.arg2 = 0 ∧ inp.ok = false then d
  else d.setJob k (fun j => { j with progress := j.progress + 1 })

/-- SCRUB (R420): 8 KiB of one macro, 64 of its rows. -/
def Dev.stepScrub (d : Dev) (k : Nat) (inp : StepIn) : Dev :=
  let j := d.job k
  let m := j.arg0 + j.progress / 65536
  let r := j.progress % 65536 / 128
  let d1 := if j.progress < j.total then (inp.found.filter (fun x => decide (r ≤ x.1) && decide (x.1 < r + 64))).foldl (fun e x => e.scrubFinds m x.1 x.2) d else d
  let d2 := d1.setJob k (fun j => { j with progress := min j.total (j.progress + 8192) })
  if j.total ≤ j.progress + 8192 then d2.endJob k .done 0 0 else d2

/-- LINK_RETRAIN (R200): its commit step; what follows waits for UP. -/
def Dev.stepRetrain (d : Dev) (k : Nat) : Dev :=
  (d.setJob k (fun j => { j with aux := 1 })).queueCommit (.job k)

/-- WIDTH_SPEED_CHANGE (R195). -/
def Dev.stepWidth (d : Dev) (k : Nat) : Dev :=
  let j := d.job k
  if j.total = 1 ∨ j.phase = 1 then (d.setJob k (fun j => { j with progress := j.total })).commitJob k
  else
    ((d.setJob k (fun j => { j with phase := 1 })).setLink j.arg0 (fun l => { l with widthAns := 0 })).sendExchange j.arg0
      { type := 0x22, body := pack [(0, j.arg1), (3, j.arg2), (16, d.handle k)] }

/-- AMEND_STAGING (R72): one block of a section, and at last the commit step, after which the amendment waits for its
tick. -/
def Dev.stepStaging (d : Dev) (k : Nat) : Dev :=
  let j := d.job k
  let d1 := d.setJob k (fun j => { j with progress := j.progress + 1 })
  if j.progress + 1 = j.total then ({ d1 with plat.amendState := 2 }).commitJob k else d1

/-- NEIGHBOUR_STREAM (R94, R96): the offer, one DATA message, DONE, or the end after RESULT. -/
def Dev.stepStream (d : Dev) (k : Nat) : Dev :=
  let j := d.job k
  let n := d.nb.side j.arg0
  if j.phase ≠ 0 ∧ (n.state = 4 ∨ n.state = 5) then d.endJob k .done 0 0
  else (d.streamStep j.arg0 j.phase).tickFree.setJob k (fun j => { j with phase := 1, progress := d.freeVal 32 })

/-- One step of the job under key `k`. -/
def Dev.stepOf (d : Dev) (k : Nat) (inp : StepIn) : Dev :=
  let op := (d.job k).op
  if op ≤ 3 then d.stepLoad k
  else if op = 4 then d.stepReset k
  else if op = 5 then d.stepLane k
  else if op = 6 then d.stepPll k
  else if op = 7 then d.stepPlane k inp
  else if op = 8 then d.stepRow k inp
  else if op = 9 then d.stepScrub k inp
  else if op = 0xA then d.stepRetrain k
  else if op = 0xB then d.stepWidth k
  else if op = 0x80 then d.stepStaging k
  else if op = 0x81 then d.stepStream k
  else d

/-! ### Cancellation (R86, R124) -/

/-- The job has not reached a commit step, and a CANCEL can end it at its next step boundary. -/
def Dev.cancellable (d : Dev) (j : Job) : Bool :=
  (j.state == .queued || j.state == .running) && j.phase != 9 && j.op != 4 && j.op != 0x82 &&
  (if j.op ≤ 3 then j.phase == 0
   else if j.op = 5 then (if j.arg1 = 1 then j.phase == 0 else match d.jobPort j with
      | some p => !(d.link p).selOwn
      | none => true)
   else if j.op = 0xA then j.phase == 0 && j.aux == 0
   else true)

/-- A job ends CANCELLED: what it staged is reverted. -/
def Dev.cancelJob (d : Dev) (k : Nat) : Dev :=
  let j := d.job k
  let d1 :=
    if j.op = 5 ∧ j.phase = 1 then match d.jobPort j with
      | some p => d.setLink p Link.endMirror
      | none => d
    else if j.op = 0xB ∧ j.phase = 1 then d.setLink j.arg0 (fun l => { l with widthAns := 0, ex := l.ex.filter (fun x => x.msg.type != 0x22) })
    else if j.op = 0x80 then d.amendDropped
    else if j.op = 0x81 then d.setSide j.arg0 (fun n => { n with state := if n.state = 2 ∨ n.state = 3 then 1 else n.state })
    else d.dropReads k
  let d2 := d1.setJob k (fun j => { j with staged := [], stagedWide := [] })
  if j.abandon then d2.endJob k .cancelled 4 0 else d2.endJob k .cancelled 1 j.progress

/-! ### Selection (R123) -/

/-- The job can take a step now. -/
def Dev.jobReady (d : Dev) (k : Nat) (j : Job) : Bool :=
  (j.state == .queued || j.state == .running) &&
  (((j.cancel || j.abandon) && d.cancellable j) ||
   (if j.op ≤ 3 then j.phase == 0 || decide (j.aux < j.blockReads) || d.blockDone k
    else if j.op = 4 then decide (j.progress < j.total) || !j.functions.any (fun n => d.isolated.contains (4, d.fnPart n))
    else if j.op = 5 then j.phase == 9 || (j.phase == 0 && (match d.jobPort j with
      | some p => (d.link p).state == 3
      | none => true))
    else if j.op = 0xA then j.phase == 9 || (j.phase == 0 && j.aux == 0)
    else if j.op = 0xB then (d.link j.arg0).state == 3 && (j.phase == 0 || (d.link j.arg0).widthAns == 1)
    else if j.op = 0x81 then (d.nb.side j.arg0).ready j.phase
    else j.op != 0x82))

def Job.isRepair (j : Job) : Bool :=
  j.op == 0x05 || j.op == 0x06 || j.op == 0x07 || j.op == 0x08 || j.op == 0x0A || j.op == 0x0B || j.op == 0x82

/-- The job first in submission order. -/
def firstSubmitted (js : List (Nat × Job)) : Option (Nat × Job) :=
  js.foldl (fun b e => match b with
    | none => some e
    | some x => if e.2.order < x.2.order then some e else b) none

/-- The job whose step the SVC suspended when its window closed: that step resumes first (R117). -/
def Dev.suspendedJob (d : Dev) : Option (Nat × Job) :=
  match d.jobs.suspended with
  | some k => if (d.job k).state = .running then some (k, d.job k) else none
  | none => none

/-- Repair jobs in submission order, then the others in turn. -/
def Dev.pickJob (d : Dev) : Option (Nat × Job) :=
  let ready := d.jobList.filter (fun e => d.jobReady e.1 e.2)
  match firstSubmitted (ready.filter (fun e => e.2.isRepair)) with
  | some e => some e
  | none => match firstSubmitted (ready.filter (fun e => decide (d.jobs.lastTurn < e.2.order))) with
    | some e => some e
    | none => firstSubmitted ready

/-- A step may hold a job lock while the SVC is suspended: only steps that write fields that ports share (R118). -/
def Job.mayLock (j : Job) : Bool := decide (4 ≤ j.op) && j.op != 0x80 && j.op != 0x81

/-- The SVC runs the step of job `k`, or is suspended inside it at the end of its window (R117, R118). -/
def Dev.runStep (d : Dev) (k : Nat) (inp : StepIn) : Dev :=
  let e := { (d.setJob k (fun j => { j with state := .running, locked := inp.held && j.mayLock })) with jobs.suspended := if inp.held then some k else none }
  if inp.held then e else e.stepOf k inp

/-- JOB_STEP: the SVC, in its window, runs one step: the suspended one, which no CANCEL ends within the step, else one of
the job whose turn it is (R116, R117, R123, R124). -/
def jobStep (inp : StepIn) (d : Dev) : Dev :=
  if !(d.svcRuns && d.tick.windowOpen.rd 3) then d
  else match d.suspendedJob with
    | some (k, _) => d.watchMode (fun e => e.runStep k inp)
    | none => match d.pickJob with
      | none => d
      | some (k, j) => d.watchMode (fun e =>
        let e1 := if j.isRepair then e else { e with jobs.lastTurn := j.order }
        if (j.cancel || j.abandon) && e1.cancellable j then e1.cancelJob k else e1.runStep k inp)

/-! ### Effects at a boundary (row 3 of Table 4.5) -/

/-- The commit of job `k` takes effect. Answers whether Boundary rules changed. -/
def Dev.jobEffect (d : Dev) (k : Nat) : Dev × Bool :=
  let j := d.job k
  let done := fun (e : Dev) => e.endJob k .done 0 0
  if j.op = 0x0A ∧ j.state = .running ∧ j.aux = 1 then
    ((d.setJob k (fun j => { j with phase := 1, aux := 0, progress := 1 })).linkDown j.arg0 8, false)
  else if j.state ≠ .committing then (d, false)
  else if j.op = 1 then (done { d with fab.gaz := wrAll d.fab.gaz (j.staged.map (fun e => (e.1, e.2 - 1))) }, false)
  else if j.op = 2 then (done { d with fab.bearing := wrAll d.fab.bearing (j.staged.map (fun e => (e.1, e.2 - 1))) }, false)
  else if j.op = 3 then (done (d.applyRules j.arg3 (j.stagedWide.map (fun e => (e.1, Rule.ofBytes e.2)))), true)
  else if j.op = 4 then (done (d.fnResetCommit j.functions), false)
  else if j.op = 7 then
    match d.sparePlane with
    | none => (d.endJob k .failed 5 0, false)
    | some s =>
      let off := fun (t : Tab Plane) => if j.arg0 ≤ 8 ∧ (d.planeSt j.arg0).state = 1 then t.upd j.arg0 (fun p => { p with state := 2 }) else t
      (done (({ d with sw.plane := off (d.sw.plane.upd s (fun p => { p with state := 1 })) }).corFault 5 s j.arg0), false)
  else if j.op = 8 then
    (done (({ d with cont.macros := d.cont.macros.upd j.arg0 (fun m => { m with used := m.used + 1, swapped := m.swapped.wr j.arg1 true }) }).corFault 5 j.arg0 j.arg1), false)
  else if j.op = 0x0B then
    let e := done d
    if j.total = 1 then (e.degrade j.arg0 j.arg1, false)
    else ((e.setLink j.arg0 (fun l => { l with askWidth := some j.arg1, askRate := some j.arg2, askHold := true, widthAns := 0 })).linkDown j.arg0 8, false)
  else if j.op = 5 then (d, false)
  else (done d, false)

/-- The tick cycle releases every job lock that is held (R118). -/
def Dev.breakLocks (d : Dev) : Dev :=
  (d.jobList.filter (fun e => e.2.locked)).foldl (fun e x =>
    (e.setJob x.1 (fun j => { j with locked := false })).log 0x026 1 { port := 7, inst := x.1 % 64, detail := [pack [(0, x.2.op), (16, e.handle x.1)]] }) d

/-! ### JOB[s].CTRL (R125) -/

/-- A write of JOB[s].CTRL at address `addr`: HANDLE must match; RELEASE frees an ended job, CANCEL asks for its end. -/
def Dev.writeJobCtrl (d : Dev) (p : CmdPort) (addr s v : Nat) : Dev :=
  let j := d.job s
  let match_ := j.state != .free && fld v 16 16 == d.handle s
  if !match_ then d.dropped p addr v 1
  else
    let d1 := if bitAt v 0 then d.setJob s (fun j => { j with cancel := true }) else d
    if !bitAt v 1 then d1 else if j.ended then d1.releaseSlot s else d1.dropped p addr v 1

/-- STATUS and RESULT of slot `s` (Tables 4.8 and 4.10). -/
def Dev.jobStatus (d : Dev) (s : Nat) : Nat :=
  let j := d.job s
  if j.state = .free then 0 else pack [(16, d.handle s), (12, j.state.num), (11, b2n j.internal), (8, j.source), (0, j.op)]
def Job.resultWord (j : Job) : Nat := pack [(8, j.detail), (0, j.result)]

end Sys2Proof.Machine
end

