-- ==== Sys2Proof/Machine/Reset.lean ====
section
/-! DEFINITION. PERST_N, the entry to a run mode, the bypasses and the boot interval (R76, R77, R84, R89, R502, R517). -/

namespace Sys2Proof.Machine

/-! ### PERST_N (Table 3.1) -/

/-- Partitions whose upstream port lies in tile `t`. -/
def Dev.tilePartitions (d : Dev) (t : Nat) : List Nat :=
  (List.range 24).filter (fun q => (d.run.part.rd q).present && portTile (d.run.part.rd q).upstream == t)

/-- PERST_N low resets partitions in M3, M4, M5 and M7. -/
def Dev.perstActs (d : Dev) : Bool := d.inRun && d.mode.base != .m6

/-- The management endpoint of the anchor returns to its reset values. -/
def Dev.endpointReset (d : Dev) : Dev := d.clearCfg (fun fn => fn == fnMgmt 0)

/-- PERST_N_FALL on tile `t`. -/
def perstNFall (t : Fin 9) (d : Dev) : Dev :=
  if !bitAt d.mode.perst t.val || decide (d.tiles ≤ t.val) then d
  else
    let d1 := { d with mode.perst := clrBit d.mode.perst t.val }
    if d1.perstActs then (d1.tilePartitions t.val).foldl (fun e q => e.partResetBegin q 0) d1
    else if d1.mode.base == .m10 then (if (d1.tilePartitions t.val).contains 0 then d1.endpointReset else d1)
    else if t.val = 0 then d1.perstT0M0
    else d1

/-- PERST_N_RISE on tile `t`; `straps` are the AUTH_SEL pins at this instant. -/
def perstNRise (t : Fin 9) (straps : Fin 8) (d : Dev) : Dev :=
  if bitAt d.mode.perst t.val || decide (d.tiles ≤ t.val) then d
  else
    let d1 := { d with mode.perst := setBit d.mode.perst t.val }
    if d1.perstActs then (d1.tilePartitions t.val).foldl (fun e q => e.partResetEnd q 0) d1
    else if t.val = 0 then d1.perstT0Rise straps.val
    else d1

/-- PERST_STATUS (Table 3.3). -/
def Dev.perstStatus (d : Dev) : Nat := d.mode.perst % 2 ^ d.tiles

/-! ### Run-mode entry (Table 3.9) -/

/-- Planes 0 to 7 are active; the ninth is the spare unless manufacturing fused it off (R258). -/
def Dev.planesReady (d : Dev) : Tab Plane :=
  (List.range 9).foldl (fun (t : Tab Plane) k => t.wr k { state := if k < 8 then 1 else if d.part.planeOff then 2 else 0 }) []

/-- BOOT_PORT_RELEASE: the boot port goes to electrical idle; tiles take roles, cuts and rates, the lane PLLs lock, and
the T8 bypass opens unless T8 is Off (R84, R89). -/
def bootPortRelease (d : Dev) : Dev :=
  if d.mode.entry != .accepted then d
  else
    let d1 := ((if d.isBoot 0 then d.commandLink 0 4 else d).endpointReset).applyTiles
    { d1 with
      mode := { d1.mode with entry := .tilesSet, t8Open := d1.is7144 && d1.role 8 != 0 }
      pcie.capBus := d1.pcie.capBus.del 0
      ln.tile := (List.range d1.tiles).foldl (fun (t : Tab TileSt) k => t.wr k { pll0 := true, pll1 := !bitAt d1.part.pllOff k }) []
      sw.plane := d1.planesReady }

/-- RUN_STATE_ACTIVATE: the content written in M2 becomes the active state (R84). -/
def runStateActivate (d : Dev) : Dev :=
  if d.mode.entry != .tilesSet then d else ({ d with mode.entry := .activated }).activate

/-- CORES_START (R84). -/
def coresStart (d : Dev) : Dev :=
  if d.mode.entry != .activated then d else ({ d with mode.entry := .coresStarted }).startCores

/-- The device joins the survey tick; the source numbers its first boundary 0 (R100, R517). -/
def Dev.joinTick (d : Dev) : Dev :=
  { d with tick := { d.tick with joined := true, next := d.now, nextNumber := 0, state := if d.run.tickSourceRole then .source else .acquiring } }

/-- RUN_MODE_ENTERED: the base mode is the image's RUN_MODE, every port trains and the device joins the survey tick. A
PERST_N that is low resets its partitions at once. -/
def runModeEntered (d : Dev) : Dev :=
  if d.mode.entry != .coresStarted then d
  else
    let d1 := d.watchMode (fun e => { e with mode := { e.mode with base := (Mode.ofNum e.run.runMode).getD e.mode.base, entry := .none } })
    let d2 := (d1.sPorts.foldl (fun e p => e.startTraining p) d1).joinTick
    let d3 := d2.hPorts.foldl (fun e p => e.commandLink p 1) d2
    if d3.perstActs then
      ((List.range d3.tiles).filter (fun t => !bitAt d3.mode.perst t)).foldl (fun e t => (e.tilePartitions t).foldl (fun x q => x.partResetBegin q 0) e) d3
    else d3

/-! ### The T8 bypass (R89) -/

/-- The S ports of tile T8. -/
def Dev.t8Ports (d : Dev) : List Nat := d.sPorts.filter (fun p => portTile p == 8)

/-- The ports go down with cause ADMIN and stay down while the bypass is closed. -/
def Dev.bypassPort (d : Dev) (p : Nat) : Dev :=
  let d1 := d.setLink p (fun l => { l with bypassed := true })
  if (d1.link p).state = 1 then (d1.setLink p (fun l => { l with state := 5, lastCause := 7 })).lanesOff p else d1.linkDown p 7

/-- A write of T8_CLOSE; `addr` is the address of BYPASS_CTRL. A write of the value that T8_CLOSE has changes nothing: with
the bypass open already no port retrains (DESIGN CHOICE, notes/assumptions/63.md). -/
def Dev.t8Write (d : Dev) (p : CmdPort) (addr value : Nat) : Dev :=
  let close := bitAt value 0
  if !d.is7144 then d
  else if !d.inRunOrTest then d.dropped p addr value 2
  else if d.role 8 = 0 then d
  else if d.role 8 = 1 then (if close then d.dropped p addr value 2 else d)
  else if close then
    (if d.mode.t8Close then d
     else
       let d1 := d.t8Ports.foldl (fun e x => e.bypassPort x) d
       { d1 with mode.t8Close := true, mode.t8Open := false })
  else if d.mode.t8Close then
    let d1 := { d with mode.t8Close := false, mode.t8Open := true }
    d1.t8Ports.foldl (fun e x => (e.setLink x (fun l => { l with bypassed := false })).unhold_ x) d1
  else d

/-- A gap of the signal on the service ring: a follower whose medium it is and that is LOCKED enters HOLDOVER, and makes
the 8 exchanges again (R106, R113). -/
def Dev.ringGap (d : Dev) : Dev :=
  if d.follows && d.run.tickSource == 0 then
    let d1 := { d with tick.exchanges := 0, tick.run := 0 }
    if d.tick.state = .locked then d1.tickState .holdover else d1
  else d

/-- BYPASS_SWITCHED: a package switch reaches the position that the state of its bypass calls for (R501, R502): `t8`
names the T8 switch, else the service ring switch, whose move is a gap of the signal (R88, R113). -/
def bypassSwitched (t8 : Bool) (d : Dev) : Dev :=
  if t8 then { d with pkg.t8Die := d.t8IsOpen }
  else if d.pkg.srDie = d.srIsOpen then d
  else ({ d with pkg.srDie := d.srIsOpen }).ringGap

/-! ### The boot interval (R517) -/

/-- BOOT_INTERVAL_END: before the first boundary and from M1 on, a boot interval stands in for a tick. -/
def bootIntervalEnd (d : Dev) : Dev :=
  if d.mode.base == .m0 || d.tick.started then d else d.flood.eventBoundary

end Sys2Proof.Machine
end

