-- ==== Sys2Proof/Machine/RegBase.lean ====
section
/-! DEFINITION. What a register is to the register file: its form, the access codes of its fields and who may reach it
(R8 to R14, R74, R434, R456, R459, R522); the Legend ROM, the global control block and the Plat window. -/

namespace Sys2Proof.Machine

/-- What an address of the management BAR holds. -/
inductive Form where
  /-- No register (R13). -/
  | none
  /-- Reads zero, drops writes, no record (R2, R81, R274, R481). -/
  | silent
  /-- A 32-bit register, and a 64-bit one. -/
  | word
  | wide
deriving DecidableEq, Repr, Inhabited

/-- A register: its address, the bits that a locked range locks (RW and ST in `rw`, WO and RW1S in `wo`), its RWL
bits, and who besides a Steward reaches it. -/
structure Attr where
  form : Form := .none
  base : Nat := 0
  rw : Nat := 0
  wo : Nat := 0
  rwl : Nat := 0
  /-- An Observer reads it, and writes it. -/
  obs : Bool := true
  obsW : Bool := false
  /-- The Tenant of the port reads it, and writes it. -/
  ten : Bool := false
  tenW : Bool := false
  /-- Only a management core writes it. -/
  coreOnly : Bool := false
  /-- The write is refused to every port below Steward by a rule of the register itself, which records it. -/
  ownRule : Bool := false
deriving DecidableEq, Repr, Inhabited

def full32 : Nat := 0xFFFFFFFF
def full64 : Nat := 0xFFFFFFFFFFFFFFFF

/-- The common shapes. -/
def attrRO (a : Nat) : Attr := { form := .word, base := a }
def attrRW (a : Nat) : Attr := { form := .word, base := a, rw := full32 }
def attrWO (a : Nat) : Attr := { form := .word, base := a, wo := full32 }
def attrW1C (a : Nat) : Attr := { form := .word, base := a }
def attrRO64 (a : Nat) : Attr := { form := .wide, base := a }
def attrRW64 (a : Nat) : Attr := { form := .wide, base := a, rw := full64 }
def attrWO64 (a : Nat) : Attr := { form := .wide, base := a, wo := full64 }
def attrSilent : Attr := { form := .silent }

/-- A 64-bit register that holds address `a`: its own address. -/
def wideBase (a : Nat) : Nat := a / 8 * 8

/-! ### The Legend (R43 to R47) -/

/-- A Legend record: header and body. -/
def legendRecord (ty : Nat) (body : List Nat) : List Nat := toLe 2 ty ++ toLe 2 (8 + body.length) ++ [1, 0, 0, 0] ++ body

/-- Usable lanes of tile `t`. -/
def Dev.laneMap (d : Dev) (t : Nat) : Nat := (List.range 18).foldl (fun a n => a + b2n (d.laneUsable t n) * 2 ^ n) 0

/-- Spare rows that manufacturing repair left. -/
def Dev.rowsFree (d : Dev) : Nat := 4 * d.macroCount - (d.part.rowsUsed.foldl (fun a e => a + min 4 e.2) 0)

/-- The records of Table 2.2 but the End record. -/
def Dev.legendRecords (d : Dev) : List Nat :=
  let big := d.is7144
  legendRecord 1 ([d.tiles, d.ports] ++ toLe 2 (16 * d.tiles) ++ toLe 2 (2 * d.tiles) ++ toLe 2 (if big then 395 else 245) ++ toLe 4 (if big then 7 else 0) ++ toLe 4 0) ++
  legendRecord 2 ((List.range d.tiles).flatMap (fun t => [t] ++ toLe 3 (d.laneMap t) ++ [if bitAt d.part.pllOff t then 1 else 3, 3, 0, 0])) ++
  legendRecord 3 [0x07, 0x3F, 2, 0] ++
  legendRecord 4 (toLe 4 4194304 ++ toLe 2 4096 ++ [4, 0] ++ toLe 4 65536 ++ toLe 4 65536 ++ toLe 2 8192 ++ toLe 2 (128 * (d.ports + 2)) ++ [d.ports + 2, 64, 0, 0]) ++
  legendRecord 5 ([24, 3, 8, 0] ++ toLe 4 8388608 ++ toLe 2 4096 ++ toLe 2 4096 ++ toLe 2 16384 ++ [0, 0]) ++
  legendRecord 6 (toLe 4 67108864 ++ toLe 4 2097152 ++ toLe 4 8388608 ++ [1, 0, 0, 0] ++ [1, 0, 0, 0]) ++
  legendRecord 7 ([9, 0] ++ toLe 2 (if d.part.planeOff then 0xFF else 0x1FF) ++ [5, 0x1F] ++ toLe 2 d.macroCount ++ toLe 4 d.rowsFree) ++
  legendRecord 8 (toLe 2 1600 ++ toLe 2 800 ++ [0x1F, 0, 0, 0])

/-- The Legend's bytes up to its TOTAL_LENGTH. -/
def Dev.legend (d : Dev) : List Nat :=
  let recs := d.legendRecords
  let head := toLe 4 0x444E474C ++ toLe 2 0x0100 ++ toLe 2 64 ++ toLe 4 (if d.is7144 then 0x7144 else 0x7080) ++ toLe 4 (d.part.siliconRev % 65536) ++
    toLe 2 9 ++ toLe 2 0x40 ++ toLe 4 (64 + recs.length + 12) ++ List.replicate 36 0
  let rom := head ++ toLe 4 (crc32c head) ++ recs ++ toLe 2 0xFFFF ++ toLe 2 12 ++ [1, 0, 0, 0]
  rom ++ toLe 4 (crc32c rom)

/-! ### Global control (Tables 3.3, 4.3, 4.6 and 13.8) -/

/-- Slot `s` holds a job of the port's Tenant (R122). -/
def Dev.ownSlot (d : Dev) (p : CmdPort) (s : Nat) : Bool :=
  match d.tenantOf p, (d.job s).tenant with
  | some q, some q' => (d.job s).state != .free && q == q'
  | _, _ => false

/-- The register at offset `o` of the global control block. -/
def Dev.globalAttr (d : Dev) (p : CmdPort) (o : Nat) : Attr :=
  let a := 0x10000 + o
  if o = 0x0 then { attrRO a with ten := true }
  else if o = 0x4 then attrW1C a
  else if o = 0x8 then attrWO a
  else if o = 0xC ∨ o = 0x14 ∨ o = 0x18 ∨ o = 0x40 then attrRO a
  else if o = 0x10 then (if d.is7144 then attrRW a else attrRO a)
  else if o = 0x44 then { attrRO a with ten := true }
  else if o = 0x48 ∨ o = 0x4C then attrRO64 (wideBase a)
  else if o = 0x50 ∨ o = 0x54 then attrRO a
  else if o = 0x58 ∨ o = 0x5C then attrWO64 (wideBase a)
  else if o = 0x60 then attrRW a
  else if o = 0x64 then attrRO a
  else if 0x70 ≤ o ∧ o < 0x84 then attrRO a
  else if o = 0x100 then { attrRW a with ten := true, tenW := true }
  else if 0x108 ≤ o ∧ o < 0x128 then { attrRW64 (wideBase a) with ten := true, tenW := true }
  else if o = 0x128 then { attrWO a with ten := true, tenW := true }
  else if o = 0x12C then { attrRO a with ten := true }
  else if o = 0x130 then attrRO a
  else if 0x400 ≤ o ∧ o < 0xC00 then
    let s := (o - 0x400) / 32
    let w := (o - 0x400) % 32
    if w < 0x10 then { attrRO a with ten := d.ownSlot p s }
    else if w = 0x10 then { attrWO a with ten := d.ownSlot p s, tenW := d.ownSlot p s }
    else {}
  else if o = 0x1000 ∨ o = 0x1008 then attrW1C a
  else if o = 0x1004 ∨ o = 0x100C ∨ o = 0x1010 then attrRW a
  else if o = 0x1014 then attrRO a
  else if 0x1020 ≤ o ∧ o < 0x1060 then attrRO a
  else if o = 0x1080 ∨ o = 0x1088 then attrWO a
  else if o = 0x1084 ∨ o = 0x108C ∨ o = 0x1090 ∨ o = 0x1094 then attrRO a
  else if 0x1100 ≤ o ∧ o < 0x1300 then attrRO64 (wideBase a)
  else if 0x1400 ≤ o ∧ o < 0x1600 then attrRO a
  else if o = 0x2000 ∨ o = 0x2004 then attrRO a
  else if 0x4000 ≤ o ∧ o < 0x4000 + 8 * d.macroCount then attrRO64 (wideBase a)
  else {}

/-- CONTAIN_DOMAIN[k] (Table 13.11). -/
def Domain.word (x : Domain) : Nat :=
  pack [(63, b2n x.valid), (62, b2n x.restoring), (56, x.kind), (40, x.id), (32, x.cause), (0, x.tick % 2 ^ 32)]

/-- SRAM_MACRO[m] (Table 13.10). -/
def Dev.macroWord (d : Dev) (m : Nat) : Nat :=
  let x := d.cont.macros.rd m
  pack [(56, Config.sramOwner m % 256), (40, d.rowsLeft m), (16, x.corrected), (0, x.uncorrectable)]

/-- CONTAIN_STATUS: valid entries, and DEVICE_ISOLATED. -/
def Dev.containStatus (d : Dev) : Nat :=
  pack [(8, b2n (d.isolated.any (fun x => x.1 == 0))), (0, (d.cont.domain.filter (fun x => x.2.valid)).length)]

/-- A read of the global control block at the register's offset `o`: the state after it, and the value. -/
def Dev.globalRead (d : Dev) (p : CmdPort) (o : Nat) : Dev × Nat :=
  let s := (o - 0x400) / 32
  let w := (o - 0x400) % 32
  if o = 0x0 then (d, d.modeStatus)
  else if o = 0x4 then (d, d.mode.resetCause)
  else if o = 0xC then (d, d.perstStatus)
  else if o = 0x10 then (d, b2n d.mode.t8Close)
  else if o = 0x14 then (d, d.bypassStatus)
  else if o = 0x18 then (d, d.nb.status)
  else if o = 0x40 then (d, d.tickConfig)
  else if o = 0x44 then (d, d.tickStatus)
  else if o = 0x48 then (d, d.tick.number)
  else if o = 0x50 then (d, d.tickOffset)
  else if o = 0x54 then (d, d.tickHopDelay)
  else if o = 0x60 then (d, d.tick.pinDelay)
  else if o = 0x64 then ({ d with tick.loss := 0 }, d.tick.loss)
  else if 0x70 ≤ o ∧ o < 0x84 then (d, d.budgetStatus ((o - 0x70) / 4))
  else if o = 0x100 then (d, (d.portSt p).jobOp)
  else if 0x108 ≤ o ∧ o < 0x128 then (d, (d.portSt p).jobArg.rd ((o - 0x108) / 8))
  else if o = 0x12C then (d, (d.portSt p).jobIssued)
  else if o = 0x130 then (d, d.slotsFree)
  else if 0x400 ≤ o ∧ o < 0xC00 then
    (d, if w = 0 then d.jobStatus s else if w = 4 then (d.job s).progress % 2 ^ 32 else if w = 8 then (d.job s).total % 2 ^ 32
      else if w = 12 then (d.job s).resultWord else b2n (d.job s).cancel)
  else if o = 0x1000 then (d, d.cont.corStatus)
  else if o = 0x1004 then (d, d.cont.corMask)
  else if o = 0x1008 then (d, d.cont.uncStatus)
  else if o = 0x100C then (d, d.cont.uncMask)
  else if o = 0x1010 then (d, d.cont.severity)
  else if o = 0x1014 then (d, d.cont.faultCtrl)
  else if 0x1020 ≤ o ∧ o < 0x1040 then d.readFaultLog false ((o - 0x1020) / 4)
  else if 0x1040 ≤ o ∧ o < 0x1060 then d.readFaultLog true ((o - 0x1040) / 4)
  else if o = 0x1084 then (d, pack [(31, b2n d.cont.restorePending), (0, d.cont.restoreCode)])
  else if o = 0x108C then (d, d.containStatus)
  else if o = 0x1090 then ({ d with cont.fenceDiscard := 0 }, d.cont.fenceDiscard)
  else if o = 0x1094 then ({ d with cont.notForwarded := 0 }, d.cont.notForwarded)
  else if 0x1100 ≤ o ∧ o < 0x1300 then (d, (d.cont.domain.rd ((o - 0x1100) / 8)).word)
  else if 0x1400 ≤ o ∧ o < 0x1600 then (d, fld d.cont.contained.toNat (8 * (o - 0x1400)) 32)
  else if o = 0x2000 then (d, d.spareInventory)
  else if o = 0x2004 then (d, d.allRowsLeft)
  else if 0x4000 ≤ o then (d, d.macroWord ((o - 0x4000) / 8))
  else (d, 0)

/-- A write of the global control block at the register's offset `o`; `v` is the whole register. -/
def Dev.globalWrite (d : Dev) (p : CmdPort) (o v : Nat) : Dev :=
  let a := 0x10000 + o
  if o = 0x4 then { d with mode := d.mode.clearCause v }
  else if o = 0x8 then d.writeDeviceReset p a v
  else if o = 0x10 then d.t8Write p a v
  else if o = 0x58 then d.writeNumberLoad p v
  else if o = 0x60 then { d with tick.pinDelay := v % 65536 }
  else if o = 0x100 then d.setPort p (fun s => { s with jobOp := v % 256 })
  else if 0x108 ≤ o ∧ o < 0x128 then d.setPort p (fun s => { s with jobArg := s.jobArg.wr ((o - 0x108) / 8) v })
  else if o = 0x128 then (if bitAt v 0 then d.jobGo p else d)
  else if 0x400 ≤ o ∧ o < 0xC00 then (if (o - 0x400) % 32 = 16 then d.writeJobCtrl p a ((o - 0x400) / 32) v else d)
  else if o = 0x1000 then { d with cont.corStatus := rw1c d.cont.corStatus v }
  else if o = 0x1004 then { d with cont.corMask := v % 2 ^ 7 }
  else if o = 0x1008 then { d with cont.uncStatus := rw1c d.cont.uncStatus v }
  else if o = 0x100C then { d with cont.uncMask := v % 2 ^ 19 }
  else if o = 0x1010 then { d with cont.uncSev := Nat.land v sevWritable }
  else if o = 0x1080 then d.containRestore v
  else if o = 0x1088 then d.containTrigger p v
  else d

/-! ### The Plat window (Table 2.11) -/

/-- The port may write the Plat window below Steward: the sideband with AUTH_SEL[1] at 1 (Table 15.2). -/
def Dev.platPort (d : Dev) (p : CmdPort) : Bool := p == .sideband && d.strap 1 && d.level p != 0

def Dev.platAttr (d : Dev) (p : CmdPort) (o : Nat) : Attr :=
  let a := 0x20000 + o
  let w := { attrWO a with obsW := d.platPort p }
  if o = 0x0 then { w with ownRule := true }
  else if o = 0x8 then w
  else if o = 0x4 then { attrRO a with ten := true }
  else if o = 0xC ∨ o = 0x10 ∨ o = 0x14 ∨ o = 0x20 ∨ o = 0x24 ∨ o = 0x28 ∨ o = 0x2C then attrRO a
  else if o = 0x18 ∨ o = 0x1C then attrRO64 (wideBase a)
  else if 0x10000 ≤ o ∧ o < 0x20000 then w
  else {}

def Dev.platRead (d : Dev) (o : Nat) : Nat :=
  if o = 0x4 then d.plat.status
  else if o = 0xC then d.plat.bytes % 2 ^ 32
  else if o = 0x10 then d.plat.rejectWord
  else if o = 0x14 then d.plat.reject.offset % 2 ^ 32
  else if o = 0x18 then d.run.imageId
  else if o = 0x20 then d.run.amendSeq % 2 ^ 32
  else if o = 0x24 then d.plat.amendStatus
  else if o = 0x28 then d.sealStatus
  else if o = 0x2C then d.mode.authSel
  else 0

def Dev.platWrite (d : Dev) (p : CmdPort) (o v : Nat) : Dev :=
  if o = 0x0 then d.writePlatCtrl p 0x20000 v
  else if o = 0x8 then d.platHandover p (fld v 0 17)
  else if 0x10000 ≤ o then d.platBufferWrite p (o - 0x10000) (toLe 4 v)
  else d

end Sys2Proof.Machine
end

