-- ==== Sys2Proof/Machine/RegsMgmt.lean ====
section
/-! DEFINITION. The registers of the Cairn, event, counter and cores blocks (Tables 14.7 to 14.10, 15.11 and 15.12, R433,
R434, R439, R440, R443, R455, R478). -/

namespace Sys2Proof.Machine

/-! ### Cairn, Black Box and events -/

/-- Source `s` is a family 5 source of the Tenant's partition (R443). -/
def Dev.ownSource (d : Dev) (p : CmdPort) (s : Nat) : Bool :=
  decide (0x300 ≤ s) && decide (s < 0x360) && d.tenantOf p == some ((s - 0x300) / 4)

def Dev.cairnAttr (d : Dev) (p : CmdPort) (o : Nat) : Attr :=
  let a := 0x3C00000 + o
  let cursor := { attrRW a with obsW := true, ten := true, tenW := true }
  if o = 0x0 then attrRW a
  else if o = 0x8 ∨ o = 0xC then attrRO64 (wideBase a)
  else if o = 0x10 ∨ o = 0x14 ∨ o = 0x18 ∨ o = 0x44 then attrRO a
  else if 0x20 ≤ o ∧ o < 0x38 then attrRO a
  else if o = 0x40 then attrWO a
  else if o = 0x48 ∨ o = 0x1008 then cursor
  else if o = 0x1000 ∨ o = 0x100C then attrRO a
  else if o = 0x1004 then attrRW a
  else if 0x1040 ≤ o ∧ o < 0x1080 then { attrRO a with ten := true }
  else if 0x4000 ≤ o ∧ o < 0x4080 then attrW1C a
  else if o = 0x4100 then attrRW a
  else if 0x8000 ≤ o ∧ o < 0x9000 then
    let own := d.ownSource p ((o - 0x8000) / 4)
    { attrRW a with ten := own, tenW := own }
  else if 0x100000 ≤ o ∧ o < 0x200000 then { attrRO a with ten := true }
  else {}

def Dev.cairnRead (d : Dev) (p : CmdPort) (o : Nat) : Dev × Nat :=
  let c := d.cairn
  let q := d.tenantOf p
  if o = 0x0 then (d, c.minSeverity)
  else if o = 0x8 then (d, c.lastSeq)
  else if o = 0x10 then (d, c.fill)
  else if o = 0x14 then (d, c.fillHigh)
  else if o = 0x18 then ({ d with cairn.filtered := 0 }, c.filtered)
  else if 0x20 ≤ o ∧ o < 0x38 then ({ d with cairn.dropped := c.dropped.wr ((o - 0x20) / 4) 0 }, c.dropped.rd ((o - 0x20) / 4))
  else if o = 0x44 then (d, pack [(31, b2n c.clearBusy), (0, c.clearCode)])
  else if o = 0x48 then (d, (d.portSt p).cairnPage)
  else if o = 0x1000 then (d, c.bbStatus)
  else if o = 0x1004 then (d, b2n c.bbFrozen)
  else if o = 0x1008 then (d, (d.portSt p).bbCursor)
  else if o = 0x100C then ({ d with cairn.bbMissed := 0 }, c.bbMissed)
  else if 0x1040 ≤ o ∧ o < 0x1080 then d.readBb p q ((o - 0x1040) / 4)
  else if 0x4000 ≤ o ∧ o < 0x4080 then (d, d.eventWord ((o - 0x4000) / 4))
  else if o = 0x4100 then (d, d.evt.pulse)
  else if 0x8000 ≤ o ∧ o < 0x9000 then (d, (d.evt.route.rd ((o - 0x8000) / 4)).word)
  else if 0x100000 ≤ o then d.readSlot p q ((o - 0x100000) / 64) (o % 64 / 4)
  else (d, 0)

def Dev.cairnWrite (d : Dev) (p : CmdPort) (o v : Nat) : Dev :=
  let a := 0x3C00000 + o
  if o = 0x0 then (if v % 4 = 3 then d.dropped p a v 2 else { d with cairn.minSeverity := v % 4 })
  else if o = 0x40 then d.writeCairnClear p a v
  else if o = 0x48 then d.setPort p (fun s => { s with cairnPage := v % 4 })
  else if o = 0x1004 then d.writeBbCtrl (bitAt v 0)
  else if o = 0x1008 then d.setPort p (fun s => { s with bbCursor := v % 4096 })
  else if 0x4000 ≤ o ∧ o < 0x4080 then d.clearEvents ((o - 0x4000) / 4) v
  else if o = 0x4100 then { d with evt.pulse := v % 16, evt.pulseLow := Nat.land d.evt.pulseLow v }
  else if 0x8000 ≤ o ∧ o < 0x9000 then d.writeRoute ((o - 0x8000) / 4) v
  else d

/-! ### Counters (R455, Tables 14.9 and 14.10) -/

def Dev.cntAttr (d : Dev) (o : Nat) : Attr :=
  let a := 0x3E00000 + o
  let k := fun (x : Attr) (i : Nat) => if d.cntAbsent i then attrSilent else x
  if o = 0x0 ∨ o = 0x24 then attrRO a
  else if 0x8 ≤ o ∧ o < 0x18 then attrRO64 (wideBase a)
  else if o = 0x18 then { attrRW a with obsW := true }
  else if o = 0x20 then attrWO a
  else if 0x100 ≤ o ∧ o < 0x198 then
    (if !d.is7144 && decide (15 ≤ (o - 0x100) / 4) && decide ((o - 0x100) / 4 < 27) then attrSilent else attrW1C a)
  else if 0x10000 ≤ o ∧ o < 0x10000 + 16 * 1200 then k (if o % 16 < 8 then attrRW a else attrRO64 (wideBase a)) ((o - 0x10000) / 16)
  else if 0x40000 ≤ o ∧ o < 0x40000 + 8 * 1200 then k (attrRO64 (wideBase a)) ((o - 0x40000) / 8)
  else if 0x50000 ≤ o ∧ o < 0x50000 + 8 * 1200 then k (attrRO64 (wideBase a)) ((o - 0x50000) / 8)
  else {}

/-- CNT_OVF[w]. -/
def Dev.ovfWord (d : Dev) (w : Nat) : Nat := pack ((List.range 32).map (fun b => (b, b2n (d.cnt.tab.rd (32 * w + b)).ovf)))

def Dev.cntRead (d : Dev) (p : CmdPort) (o : Nat) : Dev × Nat :=
  let c := d.cnt
  if o = 0x0 then (d, c.status)
  else if o = 0x8 then (d, c.snapTickA)
  else if o = 0x10 then (d, c.snapTickB)
  else if o = 0x18 then (d, b2n (d.portSt p).cntHold)
  else if o = 0x24 then (d, pack [(31, b2n c.commitPending), (16, c.commitDetail), (0, c.commitCode)])
  else if 0x100 ≤ o ∧ o < 0x198 then (d, d.ovfWord ((o - 0x100) / 4))
  else if 0x10000 ≤ o ∧ o < 0x40000 then
    let k := c.tab.rd ((o - 0x10000) / 16)
    (d, if o % 16 = 0 then k.selSh else if o % 16 = 4 then k.qualSh else k.value)
  else if 0x50000 ≤ o then (d, (c.tab.rd ((o - 0x50000) / 8)).snapB)
  else if 0x40000 ≤ o then (d, (c.tab.rd ((o - 0x40000) / 8)).snapA)
  else (d, 0)

/-- The fields of CNT[k].SEL: CHAIN exists on odd counters of the HL-7144 (Table 14.10, R3). -/
def Dev.selBits (d : Dev) (k : Nat) : Nat := if d.is7144 && k % 2 == 1 then 0xE00000FF else 0xA00000FF

def Dev.cntWrite (d : Dev) (p : CmdPort) (o v : Nat) : Dev :=
  if o = 0x18 then (if bitAt v 0 then d.holdOn p else d.holdOff p)
  else if o = 0x20 then d.writeCntCommit p v
  else if 0x100 ≤ o ∧ o < 0x198 then
    (List.range 32).foldl (fun e b =>
      if bitAt v b then { e with cnt.tab := e.cnt.tab.upd (8 * (o - 0x100) + b) (fun (c : Cnt) => { c with ovf := false }) } else e) d
  else if 0x10000 ≤ o ∧ o < 0x40000 then
    let k := (o - 0x10000) / 16
    { d with cnt.tab := d.cnt.tab.upd k (fun (c : Cnt) => if o % 16 = 0 then { c with selSh := Nat.land v (d.selBits k), lastPort := some p.key } else { c with qualSh := v % 65536, lastPort := some p.key }) }
  else d

/-! ### Cores (R478, Tables 15.11 and 15.12) -/

def coresAttr (o : Nat) : Attr :=
  let a := 0x4000000 + o
  let w := o % 0x100
  if o < 0x500 then
    if w = 0x0 then attrRO a
    else if w = 0x4 then { attrRW a with coreOnly := true }
    else if w = 0x8 ∨ w = 0xC ∨ (0x40 ≤ w ∧ w < 0x80) then { attrWO a with coreOnly := true }
    else {}
  else if 0x5000 ≤ o ∧ o < 0x5020 then attrRO a
  else {}

/-- SIGHTING_STATUS. -/
def SightSt.word (s : SightSt) : Nat := pack [(31, b2n s.pending), (8, s.lastCmd), (0, s.lastStatus)]

def Dev.coresRead (d : Dev) (o : Nat) : Dev × Nat :=
  let b := d.bus
  if o < 0x500 then (d, if o % 0x100 = 0 then (d.core (o / 0x100)).status else if o % 0x100 = 4 then (d.core (o / 0x100)).watchdog else 0)
  else if o = 0x5000 then (d, d.cores.roleWord)
  else if o = 0x5004 then (d, d.takeoverStatus)
  else if o = 0x5008 then (d, d.run.ceilingWord)
  else if o = 0x500C then (d, d.authWord)
  else if o = 0x5010 then (d, d.sight.word)
  else if o = 0x5014 then ({ d with bus.regTimeouts := 0 }, b.regTimeouts)
  else if o = 0x5018 then ({ d with bus.ringErr0 := 0, bus.ringErr1 := 0 }, pack [(16, b.ringErr1), (0, b.ringErr0)])
  else if o = 0x501C then ({ d with bus.ringAlarms := 0 }, b.ringAlarms)
  else (d, 0)

def Dev.coresWrite (d : Dev) (p : CmdPort) (o v : Nat) : Dev :=
  let c := o / 0x100
  let w := o % 0x100
  if 0x500 ≤ o then d
  else if w = 0x4 then
    (if watchdogOk (v % 65536) then d.setCore c (fun k => { k with watchdog := v % 65536 }) else d.dropped p (0x4000000 + o) v 2)
  else if w = 0x8 then d.writeKick c v
  else if w = 0xC then d.writeEvent v
  else if 0x40 ≤ w then d.writeLog c ((w - 0x40) / 4) v
  else d

end Sys2Proof.Machine
end

