-- ==== Sys2Proof/Machine/RegsTables.lean ====
section
/-! DEFINITION. The registers of the Graticule, the fabric block, the Transit block, the Gazetteer aperture, the Boundary,
Tally and Traverse blocks (Tables 8.5, 8.7, 9.9, 10.14, 11.12 and 12.6, R275, R276, R319, R350, R398, R424). The 8 B
fields of WINDOW, RULE and MEMBER entries are 64-bit registers (notes/assumptions/45.md). -/

namespace Sys2Proof.Machine

/-- A table entry: no Observer reads it (R522). -/
def Attr.entry (x : Attr) : Attr := { x with obs := false }

/-- A register whose value must lie in [lo, hi] of its low 16 bits, else the write is dropped at Warning (R521). -/
def Dev.ranged (d : Dev) (p : CmdPort) (a v lo hi : Nat) (f : Dev → Nat → Dev) : Dev :=
  if lo ≤ v % 65536 ∧ v % 65536 ≤ hi then f d (v % 65536) else d.dropped p a v 2

/-! ### Graticule and QoS (R275, R424) -/

def gratAttr (o : Nat) : Attr :=
  let a := 0xB00000 + o
  if o = 0 ∨ o = 0x88 then attrRO a
  else if (0x10 ≤ o ∧ o < 0x34) ∨ (0x40 ≤ o ∧ o < 0x64) ∨ (0x90 ≤ o ∧ o < 0xB0) ∨ (0x100 ≤ o ∧ o < 0x124) then attrRO a
  else if o = 0x80 ∨ o = 0x84 ∨ o = 0xB0 ∨ o = 0xB4 then attrRO64 (wideBase a)
  else {}

def Dev.setPlane (d : Dev) (k : Nat) (f : Plane → Plane) : Dev := { d with sw.plane := d.sw.plane.upd k f }

def Dev.gratRead (d : Dev) (o : Nat) : Dev × Nat :=
  let k := o / 4 % 16
  if o = 0 then (d, d.grStatus)
  else if 0x10 ≤ o ∧ o < 0x34 then (d.setPlane (k - 4) (fun x => { x with crcErr := 0 }), (d.planeSt (k - 4)).crcErr)
  else if 0x40 ≤ o ∧ o < 0x64 then (d.setPlane k (fun x => { x with timeouts := 0 }), (d.planeSt k).timeouts)
  else if o = 0x80 then (d, pack ((List.range 8).map (fun n => (8 * n, d.vcOf n))))
  else if o = 0x88 then (d, pack ((0, d.run.lossy % 256) :: (List.range 8).map (fun v => (8 + v, b2n (d.vcLossy v)))))
  else if 0x90 ≤ o ∧ o < 0xB0 then (d, d.ageingUs ((o - 0x90) / 4))
  else if o = 0xB0 then (d, pack ((List.range 8).map (fun v => (8 * v, d.weight v))))
  else if 0x100 ≤ o then (d, pack [(30, (d.planeSt k).state), (0, (d.planeSt k).errors % 65536)])
  else (d, 0)

/-! ### Fabric control and tables (R305, R319, Tables 9.9 to 9.11) -/

/-- PORT_TAG of an initiating port (Table 9.8A); the spec gives none to a core, the Sighting port or a far initiator
(notes/assumptions/46.md). -/
def portTag : CmdPort → Nat
  | .anchor => 1
  | .sideband => 2
  | .ring => 3
  | .ep q => 0x20 + q.val
  | p => Config.rbTag p.key % 256

/-- The register at offset `o` of the fabric block. -/
def fabAttr (o : Nat) : Attr :=
  let a := 0xC00000 + o
  if o = 0x00 ∨ o = 0x0C ∨ o = 0x10 then attrRW a
  else if o = 0x04 ∨ o = 0x08 ∨ o = 0x18 ∨ o = 0x1C then attrRO a
  else if o = 0x14 then attrWO a
  else if 0x40 ≤ o ∧ o < 0x64 then attrRO a
  else if o = 0x68 ∨ o = 0x6C then attrRO64 (wideBase a)
  else if 0x1000 ≤ o ∧ o < 0x1800 then (if o % 32 < 8 then attrRW a else attrRW64 (wideBase a)).entry
  else if o = 0x2000 ∨ o = 0x2008 then { attrRW a with obsW := true }
  else if o = 0x2004 then { attrWO a with obsW := true }
  else if o = 0x2010 ∨ o = 0x2014 then { attrRW64 (wideBase a) with obsW := true }
  else if o = 0x2018 ∨ o = 0x201C then attrRO64 (wideBase a)
  else if o = 0x2020 then attrRO a
  else if o = 0x2024 then attrRW a
  else if 0x8000 ≤ o ∧ o < 0x10000 then (attrRW64 (wideBase a)).entry
  else if 0x40000 ≤ o ∧ o < 0x80000 then (if o < 0x40000 + 4 * 0xB800 then attrRW a else attrRO a).entry
  else {}

/-- FABRIC_COMMIT_STATUS (Table 9.11). -/
def FabSt.status (f : FabSt) : Nat :=
  pack [(31, b2n f.ridGrp.pending), (30, b2n f.bearingGrp.pending), (29, b2n f.gazGrp.pending), (28, b2n f.winGrp.pending),
    (8, f.rejected), (0, f.code)]

/-- The fields of a window as registers: CTRL, GZ_FIRST, BASE, SIZE and TARGET. -/
def Win.reg (w : Win) (o : Nat) : Nat :=
  if o = 0 then w.ctrl else if o = 4 then w.gzFirst else if o = 8 then w.base else if o = 16 then w.size else w.target
def Win.setReg (w : Win) (o v : Nat) : Win :=
  if o = 0 then { w with ctrl := v } else if o = 4 then { w with gzFirst := v } else if o = 8 then { w with base := v }
  else if o = 16 then { w with size := v } else { w with target := v }

/-- What the shadow copies hold. -/
def Dev.winShadow (d : Dev) (i : Nat) : Win := d.fab.winGrp.read i (d.fab.win.rd i)
def Dev.gazShadow (d : Dev) (i : Nat) : Nat := d.fab.gazGrp.read i (d.fab.gaz.rd i)
def Dev.bearingShadow (d : Dev) (i : Nat) : Nat := d.fab.bearingGrp.read i (d.fab.bearing.rd i)
def Dev.ridShadow (d : Dev) (i : Nat) : Nat := if i < 0xB800 then d.fab.ridGrp.read i (d.fab.rid.rd i) else d.fab.rid.rd i

/-- RB_STATUS. -/
def PortSt.rbStatus (s : PortSt) : Nat := pack [(31, b2n s.rbBusy), (30, b2n s.rbDone), (8, s.rbSeq), (0, s.rbCode)]

def Dev.fabRead (d : Dev) (p : CmdPort) (o : Nat) : Dev × Nat :=
  let s := d.portSt p
  let f := d.fab
  if o = 0x00 then (d, pack [(16, f.returnTicks), (0, f.hopLimit)])
  else if o = 0x04 then (d, d.run.switchId)
  else if o = 0x08 then (d, f.incarnation)
  else if o = 0x0C then (d, f.flowHold)
  else if o = 0x10 then (d, f.bridgeTimeout)
  else if o = 0x18 then (d, f.status)
  else if o = 0x1C then (d, f.detail)
  else if o = 0x40 then ({ d with fab.noRoute := 0 }, f.noRoute)
  else if o = 0x44 then ({ d with fab.hopExpired := 0 }, f.hopExpired)
  else if o = 0x48 then ({ d with fab.flowDup := 0 }, f.flowDup)
  else if o = 0x4C then ({ d with fab.flowGap := 0 }, f.flowGap)
  else if o = 0x50 then (d, d.sw.held.length)
  else if o = 0x54 then ({ d with fab.pktCrcErr := 0 }, f.pktCrcErr)
  else if o = 0x58 then ({ d with fab.xlateMiss := 0 }, f.xlateMiss)
  else if o = 0x5C then ({ d with fab.lateCpl := 0 }, f.lateCpl)
  else if o = 0x60 then ({ d with fab.badKind := 0 }, f.badKind)
  else if o = 0x68 then (d, d.sw.slotWait)
  else if 0x1000 ≤ o ∧ o < 0x1800 then (d, (d.winShadow ((o - 0x1000) / 32)).reg (o % 32))
  else if o = 0x2000 then (d, s.rbSwitch)
  else if o = 0x2008 then (d, s.rbOffset)
  else if o = 0x2010 then (d, s.rbWdata)
  else if o = 0x2018 then (d, s.rbRdata)
  else if o = 0x2020 then (d, s.rbStatus)
  else if o = 0x2024 then (d, f.rbTimeout)
  else if 0x8000 ≤ o ∧ o < 0x10000 then (d, d.bearingShadow ((o - 0x8000) / 8))
  else if 0x40000 ≤ o then (d, d.ridShadow ((o - 0x40000) / 4))
  else (d, 0)

/-- GO written to RB_CTRL (R315): refused to an Observer that writes, dropped while BUSY, ended at once with SELF, or sent
as a REG_REQUEST on TC 7 (R318). -/
def Dev.rbGo (d : Dev) (p : CmdPort) (v : Nat) : Dev :=
  let s := d.portSt p
  let wr := bitAt v 1
  let wide := bitAt v 0
  if wr && decide (d.level p < 3) then d.log 0x046 5 { part := p.partition, port := p.code }
  else if s.rbBusy then d.dropped p 0xC02004 v 1
  else if s.rbSwitch = d.run.switchId then d.setPort p (fun s => { s with rbDone := true, rbCode := 7, rbSeq := (s.rbSeq + 1) % 256 })
  else
    let seq := (s.rbSeq + 1) % 256
    let data := if wr then (if wide then s.rbWdata else s.rbWdata % 2 ^ 32) else 0
    let req := pack [(0, b2n wr), (1, b2n wide), (2, d.level p), (8, seq), (16, portTag p)]
    let f : FPkt := { kind := 0x10, flags := 7 + 8, hops := d.fab.hopLimit, dest := s.rbSwitch, src := d.run.switchId, srcPart := 0x1F, addr := s.rbOffset, reqF := req, payload := toLe 8 data ++ List.replicate 8 0 }
    (d.setPort p (fun s => { s with rbBusy := true, rbDone := false, rbCode := 0, rbSeq := seq, rbTag := portTag p, rbDest := s.rbSwitch })).sendFab f.seal

def Dev.fabWrite (d : Dev) (p : CmdPort) (o v : Nat) : Dev :=
  let a := 0xC00000 + o
  if o = 0x00 then
    (if v % 32 = 0 then d.dropped p a v 2 else { d with fab.returnTicks := fld v 16 16, fab.hopLimit := v % 32 })
  else if o = 0x0C then d.ranged p a v 8 1000 (fun e x => { e with fab.flowHold := x })
  else if o = 0x10 then d.ranged p a v 1 10000 (fun e x => { e with fab.bridgeTimeout := x })
  else if o = 0x14 then d.fabCommit p v
  else if 0x1000 ≤ o ∧ o < 0x1800 then
    let i := (o - 0x1000) / 32
    { d with fab.winGrp := d.fab.winGrp.write p.key i ((d.winShadow i).setReg (o % 32) v) (d.fab.win.rd i) }
  else if o = 0x2000 then d.setPort p (fun s => { s with rbSwitch := v % 4096 })
  else if o = 0x2004 then (if bitAt v 31 then d.rbGo p v else d)
  else if o = 0x2008 then d.setPort p (fun s => { s with rbOffset := v % 2 ^ 27 })
  else if o = 0x2010 then d.setPort p (fun s => { s with rbWdata := v })
  else if o = 0x2024 then d.ranged p a v 10 10000 (fun e x => { e with fab.rbTimeout := x })
  else if 0x8000 ≤ o ∧ o < 0x10000 then
    let i := (o - 0x8000) / 8
    if d.loadHolds 2 0xFF i 1 then d.dropped64 p a v 2 else { d with fab.bearingGrp := d.fab.bearingGrp.write p.key i v (d.fab.bearing.rd i) }
  else if 0x40000 ≤ o then
    let i := (o - 0x40000) / 4
    if i < 0xB800 then { d with fab.ridGrp := d.fab.ridGrp.write p.key i v (d.fab.rid.rd i) } else d
  else d

/-- A write of Gazetteer entry `i` through its aperture (R126, R305). -/
def Dev.gazWrite (d : Dev) (p : CmdPort) (i v : Nat) : Dev :=
  if d.loadHolds 1 0xFF i 1 then d.dropped64 p (0x1000000 + 8 * i) v 2
  else { d with fab.gazGrp := d.fab.gazGrp.write p.key i v (d.fab.gaz.rd i) }

/-! ### Transit (R276, R424) -/

def transitAttr (o : Nat) : Attr :=
  let a := 0xC80000 + o
  if o = 0 ∨ o = 4 ∨ o = 8 ∨ o = 0x10 ∨ o = 0x14 ∨ o = 0x18 then attrRO a
  else if 0x100 ≤ o ∧ o < 0x280 then (if o % 16 < 8 then attrRO a else attrRO64 (wideBase a))
  else if 0x400 ≤ o ∧ o < 0x460 then attrRW a
  else {}

def Dev.transitRead (d : Dev) (o : Nat) : Dev × Nat :=
  let count := fun (s : Nat) => (d.sw.tr.filter (fun e => e.2.state == s)).length
  let q := (o - 0x100) / 16
  if o = 0 then (d, count 1)
  else if o = 4 then (d, d.trShared)
  else if o = 8 then (d, d.trSharedFree)
  else if o = 0x10 then ({ d with sw.timeouts := 0 }, d.sw.timeouts)
  else if o = 0x14 then ({ d with sw.late := 0 }, d.sw.late)
  else if o = 0x18 then (d, count 2)
  else if 0x400 ≤ o then
    let q := (o - 0x400) / 4
    (d, if d.partDef q then (if d.sw.trTimeout.rd q = 0 then 100 else d.sw.trTimeout.rd q) else 0)
  else if !d.partDef q then (d, 0)
  else if o % 16 = 0 then (d, d.trUsed q)
  else if o % 16 = 4 then (d, d.trReserve q)
  else (d, d.sw.boundCycles.rd q)

def Dev.transitWrite (d : Dev) (p : CmdPort) (o v : Nat) : Dev :=
  if 0x400 ≤ o then
    d.ranged p (0xC80000 + o) v 10 10000 (fun e x => { e with sw.trTimeout := e.sw.trTimeout.wr ((o - 0x400) / 4) x })
  else d

/-! ### Boundary (R398, Tables 12.6 and 12.7) -/

/-- The shadow copy of rule `i` of a table, and its registers. -/
def Dev.ruleShadow (d : Dev) (table i : Nat) : Rule := (d.bnd.grp.rd table).read i (d.bnd.rule.rd (ruleKey table i))
def Rule.reg (r : Rule) (o : Nat) : Nat :=
  if o = 0 then r.ctrl else if o = 4 then r.req else if o = 8 then r.base else if o = 16 then r.limit else r.rsvd
def Rule.setReg (r : Rule) (o v : Nat) : Rule :=
  let s := { r with bad := false }
  if o = 0 then { s with ctrl := v } else if o = 4 then { s with req := v } else if o = 8 then { s with base := v }
  else if o = 16 then { s with limit := v } else { s with rsvd := v }

/-- A rule register: a Tenant reads the rules of its own host space. -/
def Dev.ruleAttr (d : Dev) (p : CmdPort) (a table i o : Nat) : Attr :=
  let r := d.ruleShadow table i
  let x := if o < 8 then attrRW a else attrRW64 (wideBase a)
  { x.entry with ten := r.hostSpace && d.tenantOf p == some r.partition }

/-- Gate `g` lies in the absent tiles of the HL-7080 (R2). -/
def Dev.gateAbsent (d : Dev) (g : Nat) : Bool := !d.is7144 && decide (40 ≤ g) && decide (g < 72)

def Dev.bndAttr (d : Dev) (p : CmdPort) (o : Nat) : Attr :=
  let a := 0x3000000 + o
  if o = 0x0C then attrWO a
  else if o < 0x20 then attrRO a
  else if 0x10000 ≤ o ∧ o < 0x50000 then d.ruleAttr p a 0xFF ((o - 0x10000) / 32) (o % 32)
  else if 0x80000 ≤ o ∧ o < 0x80000 + 0x1000 * 74 then
    let g := (o - 0x80000) / 0x1000
    if d.gateAbsent g then attrSilent else d.ruleAttr p a g (o % 0x1000 / 32) (o % 32)
  else if 0x100000 ≤ o ∧ o < 0x108000 then attrRO a
  else if 0x120000 ≤ o ∧ o < 0x120000 + 0x200 * 74 then
    (if d.gateAbsent ((o - 0x120000) / 0x200) then attrSilent else attrRO a)
  else if 0x140000 ≤ o ∧ o < 0x141000 then (if o % 16 < 8 then attrRO a else attrRO64 (wideBase a)).entry
  else {}

/-- LOCK_ENTRY[k] (R61, R398). -/
def LockEntry.reg (e : LockEntry) (o : Nat) : Nat :=
  if o = 0 then pack [(0, e.kind), (8, e.space), (16, e.partition)] else if o = 4 then e.length else e.base

def Dev.bndRead (d : Dev) (o : Nat) : Dev × Nat :=
  let b := d.bnd
  if o = 0x00 then (d, b2n b.gateMode)
  else if o = 0x04 then (d, b.epoch % 2 ^ 32)
  else if o = 0x08 then (d, b.drain % 2 ^ 32)
  else if o = 0x10 then (d, b.status)
  else if o = 0x14 then ({ d with bnd.denied := 0 }, b.denied)
  else if o = 0x18 then ({ d with bnd.noMatch := 0 }, b.noMatch)
  else if o = 0x1C then ({ d with bnd.debugDenied := 0 }, b.debugDenied)
  else if 0x10000 ≤ o ∧ o < 0x50000 then (d, (d.ruleShadow 0xFF ((o - 0x10000) / 32)).reg (o % 32))
  else if 0x80000 ≤ o ∧ o < 0x100000 then (d, (d.ruleShadow ((o - 0x80000) / 0x1000) (o % 0x1000 / 32)).reg (o % 32))
  else if 0x100000 ≤ o ∧ o < 0x140000 then
    let k := if o < 0x120000 then ruleKey 0xFF ((o - 0x100000) / 4) else ruleKey ((o - 0x120000) / 0x200) (o % 0x200 / 4)
    ({ d with bnd.count := b.count.wr k 0 }, b.count.rd k)
  else if 0x140000 ≤ o then (d, if d.run.sealed then (d.run.lock.getD ((o - 0x140000) / 16) {}).reg (o % 16) else 0)
  else (d, 0)

/-- A write of a rule register: one of a table that is not of the check mode in force is dropped without a record (R398);
inside the range of a running BOUNDARY_LOAD it is dropped (R126, R388). -/
def Dev.ruleWrite (d : Dev) (p : CmdPort) (a table i o v : Nat) : Dev :=
  if (table == 0xFF) == d.bnd.gateMode then d
  else if d.loadHolds 3 table i 1 then (if o < 8 then d.dropped p a v 2 else d.dropped64 p a v 2)
  else
    let r := (d.ruleShadow table i).setReg o v
    { d with bnd.grp := d.bnd.grp.upd table (fun g => g.write p.key i r (d.bnd.rule.rd (ruleKey table i))) }

def Dev.bndWrite (d : Dev) (p : CmdPort) (o v : Nat) : Dev :=
  let a := 0x3000000 + o
  if o = 0x0C then (if bitAt v 31 then d.bndCommit p (v % 256) else d)
  else if 0x10000 ≤ o ∧ o < 0x50000 then d.ruleWrite p a 0xFF ((o - 0x10000) / 32) (o % 32) v
  else if 0x80000 ≤ o ∧ o < 0x100000 then d.ruleWrite p a ((o - 0x80000) / 0x1000) (o % 0x1000 / 32) (o % 32) v
  else d

/-! ### Tally (R350, Tables 10.14 to 10.17) -/

/-- The Tenant of the port owns collective `c`, by the shadow copy that its read shows. -/
def Dev.ownColl (d : Dev) (p : CmdPort) (c : Nat) : Bool := d.tenantOf p == some (d.tally.collSh.rd c).partition

/-- The Tenant owns the collective whose range holds member `m` or child `k`. -/
def Dev.ownMember (d : Dev) (p : CmdPort) (m : Nat) : Bool :=
  d.tally.collSh.any (fun e => rangesMeet e.2.memFirst e.2.memCount m 1 && d.tenantOf p == some e.2.partition)
def Dev.ownChild (d : Dev) (p : CmdPort) (k : Nat) : Bool :=
  d.tally.collSh.any (fun e => rangesMeet e.2.kidFirst e.2.kidCount k 1 && d.tenantOf p == some e.2.partition)

def Dev.tallyAttr (d : Dev) (p : CmdPort) (o : Nat) : Attr :=
  let a := 0x3400000 + o
  if o = 0x08 then attrWO a
  else if o < 0x18 then attrRO a
  else if o < 0x20 then attrRO64 (wideBase a)
  else if 0x20 ≤ o ∧ o < 0x38 then attrRO64 (wideBase a)
  else if 0x40 ≤ o ∧ o < 0x4C then attrRO a
  else if 0x10000 ≤ o ∧ o < 0x30000 then { (attrRW a).entry with ten := d.ownColl p ((o - 0x10000) / 32) }
  else if 0x30000 ≤ o ∧ o < 0x40000 then { attrRO a with ten := d.ownColl p ((o - 0x30000) / 16) }
  else if 0x40000 ≤ o ∧ o < 0x48000 then { (attrRW64 (wideBase a)).entry with ten := d.ownChild p ((o - 0x40000) / 8) }
  else if 0x100000 ≤ o ∧ o < 0x180000 then
    { (if o % 32 < 8 then attrRW a else attrRW64 (wideBase a)).entry with ten := d.ownMember p ((o - 0x100000) / 32) }
  else {}

/-- The words of COLL[c], without their reserved bits. -/
def Coll.reg (k : Coll) (o : Nat) : Nat :=
  if o = 0 then k.ctrl else if o = 4 then k.elements else if o = 8 then k.ledgerBase else if o = 12 then k.members
  else if o = 16 then k.children else if o = 20 then k.parent else if o = 24 then k.timing else 0
def Coll.setReg (k : Coll) (o v : Nat) : Coll :=
  if o = 0 then { k with ctrl := Nat.land v 0xFFFFF1FF } else if o = 4 then { k with elements := v % 2 ^ 20 }
  else if o = 8 then { k with ledgerBase := v % 2 ^ 19 } else if o = 12 then { k with members := Nat.land v 0x7FFF3FFF }
  else if o = 16 then { k with children := Nat.land v 0x007F0FFF } else if o = 20 then { k with parent := v % 2 ^ 24 }
  else if o = 24 then { k with timing := v } else k
def Memb.reg (m : Memb) (o : Nat) : Nat :=
  if o = 0 then m.bind else if o = 4 then m.notify else if o = 8 then m.resultAddr else if o = 16 then m.recordAddr else 0
def Memb.setReg (m : Memb) (o v : Nat) : Memb :=
  if o = 0 then { m with bind := Nat.land v 0x8FFF1FFF } else if o = 4 then { m with notify := Nat.land v 0x800F07FF }
  else if o = 8 then { m with resultAddr := v } else if o = 16 then { m with recordAddr := v } else m

/-- The words of COLL_STATE[c] (Table 10.16). -/
def Dev.collWord (d : Dev) (c w : Nat) : Nat :=
  let s := d.collSt c
  let k := d.coll c
  if w = 0 then pack [(24, s.round), (20, s.state), (19, b2n s.awaiting), (0, s.lastStatus)]
  else if w = 1 then pack [(16, (s.count.filter (fun e => k.elems ≤ e.2)).length), (0, (s.childDone.filter (fun e => e.2)).length)]
  else if w = 2 then s.contributions % 2 ^ 32
  else min s.ticksOpen 65535

/-- Free ledger memory in 16 B units. -/
def Dev.ledgerFree (d : Dev) : Nat :=
  524288 - (d.tally.coll.filter (fun e => (d.collSt e.1).state != 0)).foldl (fun a e => a + e.2.ledgerUnits) 0

def Dev.tallyRead (d : Dev) (o : Nat) : Dev × Nat :=
  let t := d.tally
  if o = 0x00 then (d, (t.st.filter (fun e => e.2.state != 0)).length)
  else if o = 0x04 then (d, d.ledgerFree)
  else if o = 0x0C then (d, pack [(31, b2n d.tallyPending), (16, t.detail), (0, t.code)])
  else if o = 0x10 then ({ d with tally.discard := 0 }, t.discard)
  else if o = 0x14 then ({ d with tally.aborts := 0 }, t.aborts)
  else if o = 0x18 then (d, t.rounds)
  else if 0x20 ≤ o ∧ o < 0x38 then (d, t.updates.rd ((o - 0x20) / 8))
  else if 0x40 ≤ o ∧ o < 0x4C then (d, d.holdCells ((o - 0x40) / 4))
  else if 0x10000 ≤ o ∧ o < 0x30000 then (d, (t.collSh.rd ((o - 0x10000) / 32)).reg (o % 32))
  else if 0x30000 ≤ o ∧ o < 0x40000 then (d, d.collWord ((o - 0x30000) / 16) (o % 16 / 4))
  else if 0x40000 ≤ o ∧ o < 0x48000 then (d, t.childSh.rd ((o - 0x40000) / 8))
  else if 0x100000 ≤ o then (d, (t.membSh.rd ((o - 0x100000) / 32)).reg (o % 32))
  else (d, 0)

/-- A write of a staged Tally word: the last writer of its entry is kept in order (R240). -/
def Dev.tallyWriteReg (d : Dev) (p : CmdPort) (o v : Nat) : Dev :=
  let n := d.tally.writes + 1
  let mark := 65536 * n + p.key + 1
  let d1 := { d with tally.writes := n }
  if o = 0x08 then (if bitAt v 31 then d.tallyCommit p (fld v 0 12) else d)
  else if 0x10000 ≤ o ∧ o < 0x30000 then
    let c := (o - 0x10000) / 32
    { d1 with tally.collSh := d1.tally.collSh.upd c (fun k => k.setReg (o % 32) v), tally.collPort := d1.tally.collPort.wr c mark }
  else if 0x40000 ≤ o ∧ o < 0x48000 then
    let k := (o - 0x40000) / 8
    { d1 with tally.childSh := d1.tally.childSh.wr k (Nat.land v 0x800000FFFFFFFFFF), tally.childPort := d1.tally.childPort.wr k mark }
  else if 0x100000 ≤ o then
    let m := (o - 0x100000) / 32
    { d1 with tally.membSh := d1.tally.membSh.upd m (fun k => k.setReg (o % 32) v), tally.membPort := d1.tally.membPort.wr m mark }
  else d

/-! ### Traverse and the function pool (R376, Tables 11.12 and 11.13) -/

/-- Function `n` belongs to the Tenant's partition. -/
def Dev.ownFn (d : Dev) (p : CmdPort) (n : Nat) : Bool := d.tenantOf p == some (d.fnPart n)

def Dev.travAttr (d : Dev) (p : CmdPort) (o : Nat) : Attr :=
  let a := 0x3800000 + o
  if o = 0x04 ∨ o = 0x08 then attrRW a
  else if o = 0x00 ∨ o = 0x10 ∨ o = 0x14 ∨ o = 0x18 then attrRO a
  else if 0x20 ≤ o ∧ o < 0x60 then attrRO64 (wideBase a)
  else if 0x60 ≤ o ∧ o < 0x80 then attrRO a
  else if 0x10000 ≤ o ∧ o < 0x10000 + 16 * 4097 then { (attrRO a).entry with ten := d.ownFn p ((o - 0x10000) / 16) }
  else if 0x40000 ≤ o ∧ o < 0x40180 then { (attrRO a).entry with ten := d.tenantOf p == some ((o - 0x40000) / 16) }
  else {}

/-- Bound queues of engine `e`. -/
def Dev.boundQueues (d : Dev) (e : Nat) : Nat := (d.trav.q.filter (fun x => x.2.engine == some e)).length

/-- FUNCTION[n] and PART_POOL[q] as words. -/
def Dev.fnWord (d : Dev) (n w : Nat) : Nat :=
  let f := d.trav.fn.rd n
  if w = 0 then pack [(30, f.state), (24, d.fnPart n), (0, f.gen)]
  else if w = 1 then pack [(16, ((List.range (d.fnQueues n)).filter (fun k => (d.queue (d.qKey n k)).state == 4)).length % 4096), (0, d.fnQueues n % 4096)]
  else if w = 2 then d.fnPool n % 16384
  else if f.job = 0 then 0 else d.handle (f.job - 1)
def Dev.poolWord (d : Dev) (q w : Nat) : Nat :=
  if w = 0 then d.vfBase q % 8192
  else if w = 1 then pack [(16, ((d.vfsOf q).filter (fun n => (d.trav.fn.rd n).state == 1)).length), (0, d.totalVfs q)]
  else if w = 2 then d.vectorsPerVf q
  else (d.run.pfMsix + (List.range q).foldl (fun a r => a + d.msixQuota r) 0) % 16384

def Dev.travRead (d : Dev) (o : Nat) : Dev × Nat :=
  let t := d.trav
  if o = 0x00 then (d, pack [(16, (List.range 8).foldl (fun a e => a + b2n (d.boundQueues e != 0) * 2 ^ e) 0), (0, t.waiting.length % 1024)])
  else if o = 0x04 then (d, pack [(16, t.descAhead), (0, t.kibAhead)])
  else if o = 0x08 then (d, t.readTimeout)
  else if o = 0x10 then ({ d with trav.prefDiscard := 0 }, t.prefDiscard)
  else if o = 0x14 then ({ d with trav.lateCpl := 0 }, t.lateCpl)
  else if o = 0x18 then ({ d with trav.descErrors := 0 }, t.descErrors)
  else if 0x20 ≤ o ∧ o < 0x60 then (d, t.bytes.rd ((o - 0x20) / 8))
  else if 0x60 ≤ o ∧ o < 0x80 then
    let e := (o - 0x60) / 4
    (d, pack [(16, d.engineReads e), (0, d.boundQueues e)])
  else if 0x40000 ≤ o then (d, d.poolWord ((o - 0x40000) / 16) (o % 16 / 4))
  else if 0x10000 ≤ o then (d, d.fnWord ((o - 0x10000) / 16) (o % 16 / 4))
  else (d, 0)

def Dev.travWrite (d : Dev) (p : CmdPort) (o v : Nat) : Dev :=
  let a := 0x3800000 + o
  if o = 0x04 then
    (if fld v 16 3 ≤ 4 ∧ fld v 0 7 ≤ 64 then { d with trav.descAhead := fld v 16 3, trav.kibAhead := fld v 0 7 } else d.dropped p a v 2)
  else if o = 0x08 then d.ranged p a v 1 10000 (fun e x => { e with trav.readTimeout := x })
  else d

end Sys2Proof.Machine
end

