-- ==== Sys2Proof/Machine/RegsTile.lean ====
section
/-! DEFINITION. The registers of a tile: lanes, Sherix port slots, PCI Express port slots and the switch core (Tables
5.8, 6.11, 7.7, 8.4 and 16.2, R480, R481). -/

namespace Sys2Proof.Machine

/-! ### Lanes (R160, R161, Tables 5.8 to 5.15) -/

/-- The register at offset `o` of a lane block at BAR address `a`. -/
def laneAttr (a o : Nat) : Attr :=
  if o = 0x00 ∨ o = 0x04 ∨ o = 0x0C ∨ o = 0x10 ∨ o = 0x14 ∨ o = 0x1C ∨ o = 0x28 ∨ o = 0x34 ∨ o = 0x48 then attrRO a
  else if o = 0x08 ∨ o = 0x18 ∨ o = 0x20 ∨ o = 0x30 ∨ o = 0x40 then attrRW a
  else if o = 0x24 then attrWO a
  else if o = 0x38 ∨ o = 0x3C then attrRO64 (wideBase a)
  else if o = 0x44 then { attrRW a with rw := 0x7FFFFFFF, wo := 0x80000000 }
  else {}

/-- LANE[n].STATUS (Table 5.9): LOGICAL is the LOGICAL_LANE that the lane carries inward (R134). A lane of an active H link reads READY with both locks held
(notes/assumptions/56.md). -/
def Dev.laneStatus (d : Dev) (t n : Nat) : Nat :=
  let l := d.lane t n
  let h := d.hLane t n && l.state != 11
  pack [(24, if h then n - 2 * portSlot ((d.cutPort t n).getD 0) else l.rxLogical), (16, (d.lanePort t n).getD 0xFF), (14, b2n l.frozen),
    (13, b2n l.reversed), (12, b2n l.polInv), (11, b2n (l.lock || h)), (10, b2n (l.cdr || h)), (0, if h then 7 else l.state)]

/-- Bits of TX_FFE_SET and RX_CTLE_SET that are fields (Table 5.10). -/
def txBits : Nat := 0x801F3F0F
def rxBits : Nat := 0x8000000F

/-- A read of a lane register: the state after it, and the value. -/
def Dev.laneRead (d : Dev) (t n o : Nat) : Dev × Nat :=
  let l := d.lane t n
  if o = 0x00 then (d, d.laneStatus t n)
  else if o = 0x04 then (d, l.fom)
  else if o = 0x08 then (d, l.floor)
  else if o = 0x0C then (d, l.health)
  else if o = 0x10 then (d.setLane t n (fun l => { l with hdrErr := 0 }), l.hdrErr)
  else if o = 0x14 then (d, pack [(16, l.post), (8, l.main), (0, l.pre)])
  else if o = 0x18 then (d, l.txSh)
  else if o = 0x1C then (d, l.ctle)
  else if o = 0x20 then (d, l.rxSh)
  else if o = 0x28 then (d, l.eqStatus)
  else if o = 0x30 then (d, pack [(16, b2n l.chkLock), (4, l.prbsChk), (0, l.prbsGen)])
  else if o = 0x34 then (d.setLane t n (fun l => { l with prbsErr := 0 }), l.prbsErr)
  else if o = 0x38 then (d, l.prbsBits)
  else if o = 0x40 then (d, l.loop)
  else if o = 0x44 then (d, l.marginCtrl)
  else if o = 0x48 then (d, pack [(31, b2n l.marginDone), (30, b2n l.marginBusy), (29, b2n l.preempted), (0, l.marginErrs)])
  else (d, 0)

/-- A write of MARGIN_CTRL: with GO it starts a measurement, else it sets the fields (R159, Table 5.13). -/
def Dev.writeMargin (d : Dev) (p : CmdPort) (t : Fin 9) (n : Fin 18) (v : Nat) : Dev :=
  if bitAt v 31 then marginGo p t n v d
  else if !marginOk v then d.dropped p (laneAddr t n 0x44) v 2
  else d.setLane t n (fun l => { l with marginCtrl := Nat.land v 0x0703FF3F })

/-- A write of a lane register by port `p`. -/
def Dev.laneWrite (d : Dev) (p : CmdPort) (t : Fin 9) (n : Fin 18) (o v : Nat) : Dev :=
  if o = 0x08 then d.setLane t n (fun l => { l with floor := v % 256 })
  else if o = 0x18 then d.setLane t n (fun l => { l with txSh := Nat.land v txBits, eqPort := some p.key })
  else if o = 0x20 then d.setLane t n (fun l => { l with rxSh := Nat.land v rxBits, eqPort := some p.key })
  else if o = 0x24 then (if bitAt v 0 then eqCommit p t n d else d)
  else if o = 0x30 then prbsCtrl p t n v d
  else if o = 0x40 then loop p t n v d
  else if o = 0x44 then d.writeMargin p t n v
  else d

/-- TILE[t].PLL_STATUS and SPARE_STATUS (Tables 5.8 and 5.15). -/
def Dev.pllStatus (d : Dev) (t : Nat) : Nat :=
  let s := d.ln.tile.rd t
  pack [(9, b2n s.pll1), (8, b2n s.pll0), (0, b2n s.onPll1)]
def Lane.spareState (l : Lane) : Nat := if l.state = 8 then 1 else if l.state = 9 then 2 else if l.state = 12 then 3 else 0
def Dev.spareStatus (d : Dev) (t : Nat) : Nat :=
  pack [(24, (d.lane t 17).serves), (16, (d.lane t 16).serves), (2, (d.lane t 17).spareState), (0, (d.lane t 16).spareState)]

/-! ### Sherix port slots (R201, Tables 6.11 to 6.13) -/

def sherixAttr (a o : Nat) : Attr :=
  if o = 0x04 ∨ o = 0x08 then attrRW a
  else if o = 0x00 ∨ (0x0C ≤ o ∧ o < 0x1C) ∨ (0x20 ≤ o ∧ o < 0x80) then attrRO a
  else {}

/-- A read of a Sherix register of port `p`. -/
def Dev.sherixRead (d : Dev) (p o : Nat) : Dev × Nat :=
  let l := d.link p
  let v := (o % 32) / 4
  if o = 0x00 then (d, d.sxStatus p)
  else if o = 0x04 then (d, d.sxCtrl p)
  else if o = 0x08 then (d, l.ackTimer)
  else if o = 0x0C then (d, pack [(16, l.farSwitch), (0, l.farPort)])
  else if o = 0x10 then (d, pack [(16, l.a), (0, l.n)])
  else if o = 0x14 then (d, pack [(16, l.lastAck), (0, l.e)])
  else if o = 0x18 then (d, pack [(16, l.buf.length), (0, d.replayShare p)])
  else if o = 0x20 then (d.setLink p (fun l => { l with fecCorr := 0 }), l.fecCorr)
  else if o = 0x24 then (d.setLink p (fun l => { l with fecUncorr := 0 }), l.fecUncorr)
  else if o = 0x28 then (d.setLink p (fun l => { l with crcErr := 0 }), l.crcErr)
  else if o = 0x2C then (d.setLink p (fun l => { l with ahead := 0, dup := 0 }), pack [(16, l.dup), (0, l.ahead)])
  else if o = 0x30 then (d.setLink p (fun l => { l with replaysNak := 0, replaysTimer := 0 }), pack [(16, l.replaysTimer), (0, l.replaysNak)])
  else if o = 0x34 then (d.setLink p (fun l => { l with stall := 0 }), l.stall)
  else if o = 0x38 then (d.setLink p (fun l => { l with auditMissed := 0 }), l.auditMissed)
  else if o = 0x3C then (d.setLink p (fun l => { l with marginDrop := 0 }), l.marginDrop)
  else if 0x40 ≤ o ∧ o < 0x60 then (d, pack [(16, l.grantRx.rd v), (0, l.avail.rd v)])
  else if 0x60 ≤ o ∧ o < 0x80 then (d, pack [(16, l.grantTx.rd v), (0, l.held.rd v)])
  else (d, 0)

/-- A write of a Sherix register of port `p` by command port `c`, at BAR address `a`. -/
def Dev.sherixWrite (d : Dev) (c : CmdPort) (p a o v : Nat) : Dev :=
  if o = 0x04 then d.writeSxCtrl p v
  else if o = 0x08 then
    (if 125 ≤ v % 65536 ∧ v % 65536 ≤ 12500 then d.setLink p (fun l => { l with ackTimer := v % 65536 }) else d.dropped c a v 2)
  else d

/-! ### PCI Express port slots (R243, Tables 7.7 to 7.9) -/

def pcieAttr (a o : Nat) : Attr :=
  let x : Attr :=
    if o = 0x000 ∨ o = 0x024 ∨ o = 0x084 ∨ o = 0x088 ∨ o = 0x104 ∨ o = 0x1F8 then attrRO a
    else if o = 0x004 ∨ o = 0x014 ∨ o = 0x018 ∨ o = 0x020 ∨ o = 0x1F4 then attrRW a
    else if o = 0x010 ∨ o = 0x01C then attrW1C a
    else if 0x040 ≤ o ∧ o < 0x078 then attrRO a
    else if o = 0x080 then { attrRW a with rw := 0xB, wo := 0x80000004 }
    else if o = 0x100 then { attrRW a with rw := 0, rwl := 0xFF }
    else if o = 0x108 ∨ o = 0x1F0 then attrWO a
    else if 0x200 ≤ o ∧ o < 0x380 then attrRW a
    else if 0x400 ≤ o ∧ o < 0x800 then attrRW a
    else {}
  { x with obs := false }

/-- PORT[p].PCIE_STATUS (Table 7.8). -/
def Dev.pcieStatus (d : Dev) (p : Nat) : Nat :=
  let s := d.pport p
  let ltssm := if s.adminDown then 0x16 else if s.holdDown && !s.dlActive then 0 else s.ltssm
  pack [(26, ltssm), (24, s.retimers), (23, b2n (d.isShared p)), (22, b2n (d.upstreamOf p).isSome), (21, b2n s.flit),
    (20, b2n s.dlActive), (15, d.portPartition p), (12, s.rate), (7, s.width)]

/-- PORT[p].SHARE_STATUS (Table 7.9), BME_DRAIN and PCFG_STATUS. -/
def ShareSt.status (s : ShareSt) : Nat :=
  pack [(24, s.asgCode), (16, s.winCode), (8, s.detail), (1, b2n s.asgPend.isSome), (0, b2n s.winPend.isSome)]
def Dev.drainBits (d : Dev) (p : Nat) : Nat :=
  (List.range 24).foldl (fun a q => a + b2n (d.pcie.bmeDrain.rd (d.bridgeOf q p) != 0) * 2 ^ q) 0
def PcfgSt.word (s : PcfgSt) : Nat := pack [(31, b2n s.done), (3, b2n s.timeout), (0, s.status)]

/-- SHARE_ASSIGN[f] and SHARE_WIN[q] as words. -/
def ShareAsg.word (x : ShareAsg) : Nat := pack [(31, b2n x.valid), (16, x.vfn), (0, x.partition)]
def ShareAsg.ofWord (v : Nat) : ShareAsg := { valid := bitAt v 31, vfn := fld v 16 8, partition := fld v 0 5 }
def ShareWin.word (x : ShareWin) (w : Nat) : Nat := if w = 0 then x.baseHi else if w = 1 then x.size else if w = 2 then x.offsetHi else 0
def ShareWin.put (x : ShareWin) (w v : Nat) : ShareWin :=
  if w = 0 then { x with baseHi := v } else if w = 1 then { x with size := v } else if w = 2 then { x with offsetHi := v } else x

/-- PORT[p].DPC_STATUS. Table 7.7 gives bits 0 and [3:2] to two fields each; TRIGGERED and the reason are shown there,
and the Source ID in the other bits of [15:0] (notes/assumptions/44.md). -/
def PciePort.dpcStatus (s : PciePort) : Nat := s.dpcSource / 16 % 4096 * 16 + fld s.dpcSource 1 1 * 2 + 4 * s.dpcReason + b2n s.dpcTriggered

/-- A read of a PCI Express register of port `p`. -/
def Dev.pcieRead (d : Dev) (p o : Nat) : Dev × Nat :=
  let s := d.pport p
  if o = 0x000 then (d, d.pcieStatus p)
  else if o = 0x004 then (d, pack [(1, b2n s.holdDown), (0, b2n s.adminDown)])
  else if o = 0x010 then (d, s.aer.uncSta)
  else if o = 0x014 then (d, Nat.land s.aer.uncMask (aerUncBits (d.physKind p)))
  else if o = 0x018 then (d, Nat.land s.aer.uncSev (aerUncBits (d.physKind p)))
  else if o = 0x01C then (d, s.aer.corSta)
  else if o = 0x020 then (d, Nat.land s.aer.corMask (aerCorBits (d.physKind p)))
  else if o = 0x024 then (d, pack [(8, s.aer.queued), (0, s.aer.firstPtr)])
  else if 0x040 ≤ o ∧ o < 0x078 then d.aerHdr p ((o - 0x040) / 4)
  else if o = 0x080 then (d, pack [(3, b2n s.dpcCompUr), (0, s.dpcTrigEn)])
  else if o = 0x084 then (d, s.dpcStatus)
  else if o = 0x088 then (d, d.drainBits p)
  else if o = 0x100 then (d, s.share.pbus.getD p)
  else if o = 0x104 then (d, s.share.status)
  else if o = 0x1F4 then (d, s.pcfg.data)
  else if o = 0x1F8 then (d, s.pcfg.word)
  else if 0x200 ≤ o ∧ o < 0x380 then (d, (s.share.winSh.rd ((o - 0x200) / 16)).word (o % 16 / 4))
  else if 0x400 ≤ o then (d, (s.share.asgSh.rd ((o - 0x400) / 4)).word)
  else (d, 0)

/-- Change the shared-port groups of port `p`. -/
def Dev.setShare (d : Dev) (p : Nat) (f : ShareSt → ShareSt) : Dev := d.setPport p (fun y => { y with share := f y.share })

/-- A write of DPC_CTRL: TRIGGER_ENABLE and COMPLETION_UR, then SW_TRIGGER and RELEASE. -/
def Dev.writeDpc (d : Dev) (p v : Nat) : Dev :=
  let d1 := d.setPport p (fun s => { s with dpcCompUr := bitAt v 3, dpcTrigEn := fld v 0 2 })
  let d2 := if bitAt v 2 then d1.dpcSw p else d1
  if bitAt v 31 then d2.dpcClear p else d2

/-- A write of SHARE_COMMIT. -/
def Dev.writeShareCommit (d : Dev) (c : CmdPort) (p v : Nat) : Dev :=
  let d1 := if bitAt v 0 then d.winCommit c p else d
  if bitAt v 1 then d1.asgCommit c p else d1

/-- A write of a PCI Express register of port `p` by command port `c`. -/
def Dev.pcieWrite (d : Dev) (c : CmdPort) (p o v : Nat) : Dev :=
  let aer := fun (f : Aer → Aer) => d.setPport p (fun s => { s with aer := f s.aer })
  if o = 0x004 then (d.pcieHold p (bitAt v 1)).pcieAdmin p (bitAt v 0)
  else if o = 0x010 then aer (fun a => { a with uncSta := rw1c a.uncSta v })
  else if o = 0x014 then aer (fun a => { a with uncMask := Nat.land v (aerUncBits (d.physKind p)) })
  else if o = 0x018 then aer (fun a => { a with uncSev := Nat.land v (aerUncBits (d.physKind p)) })
  else if o = 0x01C then aer (fun a => { a with corSta := rw1c a.corSta v })
  else if o = 0x020 then aer (fun a => { a with corMask := Nat.land v (aerCorBits (d.physKind p)) })
  else if o = 0x080 then d.writeDpc p v
  else if o = 0x100 then d.setShare p (fun s => { s with pbus := some (v % 256) })
  else if o = 0x108 then d.writeShareCommit c p v
  else if o = 0x1F0 then (if bitAt v 31 then d.pcfgGo c p v else d)
  else if o = 0x1F4 then d.setPport p (fun s => { s with pcfg := { s.pcfg with data := v } })
  else if 0x200 ≤ o ∧ o < 0x380 then
    d.setShare p (fun s => { s with winSh := s.winSh.upd ((o - 0x200) / 16) (fun x => x.put (o % 16 / 4) v), winPort := some c.key })
  else if 0x400 ≤ o then
    d.setShare p (fun s => { s with asgSh := s.asgSh.wr ((o - 0x400) / 4) (ShareAsg.ofWord v), asgPort := some c.key })
  else d

/-! ### The switch core of a tile (R274, Table 8.4) -/

def Dev.switchAttr (d : Dev) (a o : Nat) : Attr :=
  if o = 0 ∨ o = 4 ∨ o = 8 then attrRO a
  else if 0x100 ≤ o ∧ o < 0x200 then (if (o - 0x100) % 32 < 0x14 then attrRO a else {})
  else if 0x300 ≤ o ∧ o < 0x380 then (if o % 16 = 0 then attrRO a else {})
  else if 0x1000 ≤ o ∧ o < 0x1000 + 32 * 74 then
    let dst := (o - 0x1000) / 32
    if !d.is7144 && decide (40 ≤ dst) && decide (dst < 72) then attrSilent else attrRO a
  else {}

/-- Cells held in a VOQ: those written that have not left. -/
def Dev.voqCells (d : Dev) (key : Nat) : Nat := (d.sw.voq.rd key).foldl (fun a p => a + (p.wr - p.sent)) 0

def Dev.switchRead (d : Dev) (t o : Nat) : Dev × Nat :=
  let s := (o - 0x100) / 32
  let p := 8 * t + s
  let w := (o - 0x100) % 32
  if o = 0 then (d, 65536 - (List.range 8).foldl (fun a s => a + (d.ing (8 * t + s)).used + d.arriving (8 * t + s)) 0)
  else if o = 4 then ({ d with sw.retransmit := d.sw.retransmit.wr t 0 }, d.sw.retransmit.rd t)
  else if o = 8 then ({ d with sw.dupDiscard := d.sw.dupDiscard.wr t 0 }, d.sw.dupDiscard.rd t)
  else if 0x100 ≤ o ∧ o < 0x200 then
    if w = 0 then (d, d.share p)
    else if w = 4 then (d, (d.ing p).used + d.arriving p)
    else if w = 8 then (d.setIng p (fun x => { x with pushout := 0 }), (d.ing p).pushout)
    else if w = 12 then (d.setIng p (fun x => { x with agedLossless := 0, agedLossy := 0 }), pack [(16, (d.ing p).agedLossless), (0, (d.ing p).agedLossy)])
    else (d.setIng p (fun x => { x with cutAbort := 0 }), (d.ing p).cutAbort)
  else if 0x300 ≤ o ∧ o < 0x380 then
    let q := 8 * t + (o - 0x300) / 16
    (d, pack [(16, d.stagedCells q), (0, if d.share q = 0 then 0 else d.stagingCap q)])
  else (d, d.voqCells (voqKey t ((o - 0x1000) / 32) (o / 4 % 8)))

/-! ### The tile block (Table 16.2) -/

/-- The register at offset `o` of tile `t`. -/
def Dev.tileAttr (d : Dev) (t o : Nat) : Attr :=
  let a := 0x100000 + 0x100000 * t + o
  if d.tiles ≤ t then attrSilent
  else if o < 0x4800 then laneAttr a (o % 0x400)
  else if o = 0x6000 ∨ o = 0x6004 then attrRO a
  else if 0xA000 ≤ o ∧ o < 0xB000 then
    (if d.isS (8 * t + (o - 0xA000) / 0x200) then sherixAttr a (o % 0x200) else attrSilent)
  else if 0xC000 ≤ o ∧ o < 0x10000 then
    (if d.isH (8 * t + (o - 0xC000) / 0x800) then pcieAttr a (o % 0x800) else attrSilent)
  else if 0x20000 ≤ o ∧ o < 0x22000 then d.switchAttr a (o - 0x20000)
  else {}

def Dev.tileRead (d : Dev) (t o : Nat) : Dev × Nat :=
  if o < 0x4800 then d.laneRead t (o / 0x400) (o % 0x400)
  else if o = 0x6000 then (d, d.pllStatus t)
  else if o = 0x6004 then (d, d.spareStatus t)
  else if 0xA000 ≤ o ∧ o < 0xB000 then d.sherixRead (8 * t + (o - 0xA000) / 0x200) (o % 0x200)
  else if 0xC000 ≤ o ∧ o < 0x10000 then d.pcieRead (8 * t + (o - 0xC000) / 0x800) (o % 0x800)
  else if 0x20000 ≤ o then d.switchRead t (o - 0x20000)
  else (d, 0)

def Dev.tileWrite (d : Dev) (c : CmdPort) (t o v : Nat) : Dev :=
  if o < 0x4800 then
    (if h : t < 9 ∧ o / 0x400 < 18 then d.laneWrite c ⟨t, h.1⟩ ⟨o / 0x400, h.2⟩ (o % 0x400) v else d)
  else if 0xA000 ≤ o ∧ o < 0xB000 then
    d.sherixWrite c (8 * t + (o - 0xA000) / 0x200) (0x100000 + 0x100000 * t + o) (o % 0x200) v
  else if 0xC000 ≤ o ∧ o < 0x10000 then d.pcieWrite c (8 * t + (o - 0xC000) / 0x800) (o % 0x800) v
  else d

end Sys2Proof.Machine
end

