-- ==== Sys2Proof/Machine/Regs.lean ====
section
/-! DEFINITION. The register fabric: the decode of the management BAR (R479, R480, Tables 16.1 to 16.3), and one access by
a command port with every check the spec makes of it (R2, R8 to R14, R74, R81, R433, R456, R459, R465, R466, R481,
R485, R519, R522). -/

namespace Sys2Proof.Machine

/-! ### Decode (Table 16.1) -/

/-- The register that the aligned address `a` belongs to, for port `p`. -/
def Dev.regAttr (d : Dev) (p : CmdPort) (a : Nat) : Attr :=
  if a < 0x10000 then { attrRO a with ten := true }
  else if a < 0x20000 then d.globalAttr p (a - 0x10000)
  else if a < 0x40000 then d.platAttr p (a - 0x20000)
  else if 0x100000 ≤ a ∧ a < 0xA00000 then d.tileAttr (a / 0x100000 - 1) (a % 0x100000)
  else if 0xB00000 ≤ a ∧ a < 0xB10000 then gratAttr (a - 0xB00000)
  else if 0xC00000 ≤ a ∧ a < 0xC80000 then fabAttr (a - 0xC00000)
  else if 0xC80000 ≤ a ∧ a < 0xC90000 then transitAttr (a - 0xC80000)
  else if 0x1000000 ≤ a ∧ a < 0x3000000 then (attrRW64 (wideBase a)).entry
  else if 0x3000000 ≤ a ∧ a < 0x3400000 then d.bndAttr p (a - 0x3000000)
  else if 0x3400000 ≤ a ∧ a < 0x3800000 then d.tallyAttr p (a - 0x3400000)
  else if 0x3800000 ≤ a ∧ a < 0x3C00000 then d.travAttr p (a - 0x3800000)
  else if 0x3C00000 ≤ a ∧ a < 0x3E00000 then d.cairnAttr p (a - 0x3C00000)
  else if 0x3E00000 ≤ a ∧ a < 0x4000000 then d.cntAttr (a - 0x3E00000)
  else if 0x4000000 ≤ a ∧ a < 0x8000000 then coresAttr (a - 0x4000000)
  else {}

/-- Read the register at its own address `a`: the state after it, and its 32 or 64 bits. -/
def Dev.regRead (d : Dev) (p : CmdPort) (a : Nat) : Dev × Nat :=
  if a < 0x10000 then (d, leAt d.legend a 4)
  else if a < 0x20000 then d.globalRead p (a - 0x10000)
  else if a < 0x40000 then (d, d.platRead (a - 0x20000))
  else if a < 0xA00000 then d.tileRead (a / 0x100000 - 1) (a % 0x100000)
  else if a < 0xC00000 then d.gratRead (a - 0xB00000)
  else if a < 0xC80000 then d.fabRead p (a - 0xC00000)
  else if a < 0x1000000 then d.transitRead (a - 0xC80000)
  else if a < 0x3000000 then (d, d.gazShadow ((a - 0x1000000) / 8))
  else if a < 0x3400000 then d.bndRead (a - 0x3000000)
  else if a < 0x3800000 then d.tallyRead (a - 0x3400000)
  else if a < 0x3C00000 then d.travRead (a - 0x3800000)
  else if a < 0x3E00000 then d.cairnRead p (a - 0x3C00000)
  else if a < 0x4000000 then d.cntRead p (a - 0x3E00000)
  else d.coresRead (a - 0x4000000)

/-- Write the whole register at its own address `a`. -/
def Dev.regWrite (d : Dev) (p : CmdPort) (a v : Nat) : Dev :=
  if a < 0x10000 then d
  else if a < 0x20000 then d.globalWrite p (a - 0x10000) v
  else if a < 0x40000 then d.platWrite p (a - 0x20000) v
  else if a < 0xA00000 then d.tileWrite p (a / 0x100000 - 1) (a % 0x100000) v
  else if a < 0xC00000 then d
  else if a < 0xC80000 then d.fabWrite p (a - 0xC00000) v
  else if a < 0x1000000 then d.transitWrite p (a - 0xC80000) v
  else if a < 0x3000000 then d.gazWrite p ((a - 0x1000000) / 8) v
  else if a < 0x3400000 then d.bndWrite p (a - 0x3000000) v
  else if a < 0x3800000 then d.tallyWriteReg p (a - 0x3400000) v
  else if a < 0x3C00000 then d.travWrite p (a - 0x3800000) v
  else if a < 0x3E00000 then d.cairnWrite p (a - 0x3C00000) v
  else if a < 0x4000000 then d.cntWrite p (a - 0x3E00000) v
  else d.coresWrite p (a - 0x4000000) v

/-! ### Who is answered -/

/-- The register fabric runs: not in M0, not after a rail fell, and with a clock (R466, R484, R500). -/
def Dev.regOn (d : Dev) : Bool := d.mode.base != .m0 && !d.mode.railFail && !d.bus.refLost

/-- The endpoint of partition `q` answers in a run mode or M10: it exists, is out of reset and its link is DL_Active
(R76, R210, R220, R519). -/
def Dev.epLive (d : Dev) (q : Nat) : Bool :=
  d.mode.base != .m6 && (d.run.part.rd q).present && d.pcie.partReset.rd q == 0 && !(q == 0 && d.endpointHeld) && (d.pport (d.run.part.rd q).upstream).dlActive

/-- Commands of port `p` reach the register fabric: the boot port while its link is DL_Active, until its release; the
endpoints once their links are active; a core that runs (R79 to R81, R84, R519). -/
def Dev.portLive (d : Dev) : CmdPort → Bool
  | .anchor => if d.inRunOrTest then d.epLive 0 else d.takesTlps 0
  | .ep q => q.val != 0 && d.inRunOrTest && d.epLive q.val
  | .core c => (d.core c.val).active
  | _ => true

/-- The register is reached by a read of port `p`, and by a write. The Sighting port has rules of its own (R474). -/
def Dev.mayRead (d : Dev) (p : CmdPort) (x : Attr) : Bool :=
  match p with
  | .sighting => true
  | _ => if d.level p = 3 then true else if d.level p = 2 then x.ten else if d.level p = 1 then x.obs else false
/-- Registers that the Sighting port never writes (R474). -/
def sightExcluded (a : Nat) : Bool :=
  [0x10008, 0x10128, 0x20000, 0x20008, 0x3C00040, 0x3C01004, 0x11080, 0x11088].contains a || (decide (0x30000 ≤ a) && decide (a < 0x40000))

def Dev.mayWrite (d : Dev) (p : CmdPort) (x : Attr) (v : Nat) : Bool :=
  match p with
  | .core _ => true
  | .sighting => !x.coreOnly && !sightExcluded x.base
  | _ => !x.coreOnly && ((x.ownRule && v % 8 == 1 && d.level p != 0) ||
      (if d.level p = 3 then true else if d.level p = 2 then x.tenW else if d.level p = 1 then x.obsW else false))

/-- A block that runs on DCLK (Table 15.6). -/
def dclkBlock (a : Nat) : Bool := decide (0x100000 ≤ a) && !(decide (0x3C00000 ≤ a) && decide (a < 0x3E00000)) && decide (a < 0x4000000)

/-- The blocks that answer in M1 and M2 (R81). -/
def bootBlock (a : Nat) : Bool := decide (a < 0x40000) || (decide (0x3C00000 ≤ a) && decide (a < 0x3E00000))

/-- What becomes of an access. -/
inductive Reach where
  /-- Not answered at all. -/
  | dead
  /-- Reads zero, drops the write, no record. -/
  | silent
  | badAccess
  | noRegister
  | denied
  /-- The DCLK block does not answer (R466). -/
  | timeout
  | ok
deriving DecidableEq, Repr, Inhabited

/-- The Cairn slot window takes no writes (R433). -/
def slotWindow (a : Nat) : Bool := decide (0x3D00000 ≤ a) && decide (a < 0x3E00000)

/-- The fate of an access of `size` bytes at `a`; `full` tells whether every byte enable is set; `wr` holds the value
of a write. -/
def Dev.reach (d : Dev) (p : CmdPort) (a size : Nat) (full : Bool) (wr : Option Nat) : Reach :=
  let x := d.regAttr p (a / 4 * 4)
  if !d.regOn || !d.portLive p then .dead
  else if !d.inRunOrTest && !bootBlock a then .silent
  else if x.form = .silent then .silent
  else if !full || !(size == 4 || size == 8) || a % size != 0 || (size == 8 && !(x.form == .wide)) then .badAccess
  else if x.form = .none || (wr.isSome && slotWindow a) then .noRegister
  else if !(match wr with
      | some v => d.mayWrite p x v
      | none => d.mayRead p x) then .denied
  else if d.bus.pllFallback && dclkBlock a then .timeout
  else .ok

/-- The record of a refused access (R8, R13, R14); the rules name no DETAIL (R426). -/
def Dev.refuse (d : Dev) (p : CmdPort) : Reach → Dev
  | .badAccess => d.log 0x048 2 { part := p.partition, port := p.code }
  | .noRegister => d.log 0x049 1 { part := p.partition, port := p.code }
  | .denied => d.log 0x046 5 { part := p.partition, port := p.code }
  | .timeout => { d with bus.regTimeouts := satAdd 32 d.bus.regTimeouts 1 }
  | _ => d

/-- Result codes shared by the far side of a remote access, the sideband and the ring (Tables 9.8, 15.3 and 15.5). -/
def Reach.code : Reach → Nat
  | .denied => 3
  | .noRegister => 5
  | .badAccess => 6
  | _ => 0

/-- An access that the fabric answers counts for its port (REG_ACCESSES, Table 14.6). -/
def Dev.countAccess (d : Dev) (p : CmdPort) : Reach → Dev
  | .dead => d
  | .silent => d
  | _ => d.countMgmt 0x74 p.code 1

/-! ### Reads (R8, R9) -/

/-- One word of a register: the low half of a 64-bit register latches its high half for the port. -/
def Dev.wordRead (d : Dev) (p : CmdPort) (a : Nat) (x : Attr) : Dev × Nat :=
  if x.form = .wide then
    if a = x.base then
      let (d1, v) := d.regRead p x.base
      (d1.setPort p (fun s => { s with latch := s.latch.wr x.base (v / 2 ^ 32 % 2 ^ 32) }), v % 2 ^ 32)
    else (d, (d.portSt p).latch.rd x.base)
  else
    let (d1, v) := d.regRead p a
    (d1, v % 2 ^ 32)

/-- A read by port `p`: the state after it, the value and the result code. -/
def Dev.busRead (d : Dev) (p : CmdPort) (a size : Nat) (full : Bool := true) : Dev × Nat × Nat :=
  let r := d.reach p a size full none
  let d1 := d.countAccess p r
  match r with
  | .ok =>
    let x := d.regAttr p a
    let (d2, lo) := d1.wordRead p a x
    if size = 8 then
      let (d3, hi) := d2.wordRead p (a + 4) x
      (d3, lo + 2 ^ 32 * hi, 0)
    else (d2, lo, 0)
  | r => (d1.refuse p r, 0, r.code)

/-! ### Writes (R10, R11, R74) -/

/-- The register holds a field that the seal locks against a write: RWL fields, and RW, ST, WO and RW1S fields in a locked
range. A 64-bit register of which a range holds one half is locked whole: its halves take effect together (R10; DESIGN
CHOICE, notes/assumptions/63.md). -/
def Dev.regLocked (d : Dev) (x : Attr) : Bool :=
  (d.run.sealed && x.rwl != 0) || ((x.rw != 0 || x.wo != 0) && d.barLocked x.base (if x.form = .wide then 8 else 4))

/-- The LOCKED_WRITE record of a write that reaches a locked field (R74). -/
def Dev.lockedWrite (d : Dev) (p : CmdPort) : Dev := d.log 0x047 5 { part := p.partition, port := p.code }

/-- The low half of a 64-bit register that a write of the high half alone keeps (R10): TICK_NUMBER_LOAD, which reads
nothing, keeps the value last written. -/
def Dev.lowHalf (d : Dev) (p : CmdPort) (x : Attr) : Nat :=
  (if x.rw = 0 then (if x.base = 0x10058 then d.tick.numberReg else 0) else (d.regRead p x.base).2) % 2 ^ 32

/-- Commit the whole of a 64-bit register with high half `hi`: the port's staged low half, or the current one (R10). -/
def Dev.commitHalves (d : Dev) (p : CmdPort) (x : Attr) (hi : Nat) : Dev :=
  let lo := match (d.portSt p).staged.rd x.base with
    | some v => v
    | none => d.lowHalf p x
  (d.setPort p (fun s => { s with staged := s.staged.wr x.base none })).regWrite p x.base (lo + 2 ^ 32 * (hi % 2 ^ 32))

/-- A write by port `p`: the state after it and the result code. -/
def Dev.busWrite (d : Dev) (p : CmdPort) (a size v : Nat) (full : Bool := true) : Dev × Nat :=
  let r := d.reach p a size full (some v)
  let d1 := d.countAccess p r
  match r with
  | .ok =>
    let x := d.regAttr p a
    if d.regLocked x then (d1.lockedWrite p, 4)
    else if size = 8 then
      ((d1.setPort p (fun s => { s with staged := s.staged.wr x.base (some (v % 2 ^ 32)) })).commitHalves p x (v / 2 ^ 32), 0)
    else if x.form = .wide then
      (if a = x.base then d1.setPort p (fun s => { s with staged := s.staged.wr x.base (some (v % 2 ^ 32)) })
       else d1.commitHalves p x v, 0)
    else (d1.regWrite p a (v % 2 ^ 32), 0)
  | r => (d1.refuse p r, r.code)

end Sys2Proof.Machine
end

