-- ==== Sys2Proof/Machine/RegPort.lean ====
section
/-! DEFINITION. The packets that end at a register, a function BAR or a Tally unit: the remote register bridge (R315 to
R318), the management endpoints (R218, R219), the BARs of the service device (R330, R358) and kind 3 handles (R309).
What has reached them waits in `sw.regIn` and `sw.hubIn`; a row that may bring something there takes it all. -/

namespace Sys2Proof.Machine

/-! ### The remote register bridge -/

/-- The key of the port that holds the open access a response belongs to, by far switch, PORT_TAG and RB_SEQ. -/
def Dev.rbMatch (d : Dev) (f : FPkt) : Option Nat :=
  (d.port.find? (fun e => e.2.rbBusy && e.2.rbDest == f.src && e.2.rbTag == fld f.reqF 16 8 && e.2.rbSeq == fld f.reqF 8 8)).map Prod.fst

/-- REG_REQUEST: the access is applied at the capped level and answered (R316, R317). -/
def Dev.regRequest (d : Dev) (f : FPkt) : Dev :=
  let p := CmdPort.far ⟨f.src % 4096, Nat.mod_lt _ (by decide)⟩
  let d0 := d.setPort p (fun s => { s with farLevel := fld f.reqF 2 2 })
  let size := if bitAt f.reqF 1 then 8 else 4
  let a := f.addr % 2 ^ 27
  let data := leAt f.payload 0 8
  if !d.regOn then d
  else
    let (d1, v, code) :=
      if bitAt f.reqF 0 then (let r := d0.busWrite p a size data; (r.1, 0, r.2))
      else d0.busRead p a size
    let c : FPkt := { kind := 0x11, flags := 7 + 16, hops := d1.fab.hopLimit, dest := f.src, src := d1.run.switchId, srcPart := 0x1F, addr := f.addr, reqF := f.reqF, cplF := code * 2 ^ 24, payload := toLe 8 v ++ List.replicate 8 0 }
    if d1.regOn then d1.sendFab c.seal else d1

/-- REG_RESPONSE: the matching access ends with its code; any other response is late (R317). -/
def Dev.regResponse (d : Dev) (f : FPkt) : Dev :=
  let code := fld f.cplF 24 8
  match d.rbMatch f with
  | some k =>
    { d with port := d.port.upd k (fun s => { s with rbBusy := false, rbDone := true, rbCode := code, rbRdata := if code = 0 ∧ bitAt f.reqF 0 = false then leAt f.payload 0 8 else s.rbRdata }) }
  | none => d.log 0x3A4 (if code = 0 then 1 else 2) { inst := f.src, detail := [f.src, f.addr % 2 ^ 27, code] }

/-- No response within RB_TIMEOUT (R317). -/
def Dev.rbExpire (d : Dev) (p : CmdPort) : Dev :=
  if (d.portSt p).rbBusy then d.setPort p (fun s => { s with rbBusy := false, rbDone := true, rbCode := 1 }) else d

/-- The register bridge takes what has reached it; a reset in between loses the rest (R78). -/
def Dev.drainReg (d : Dev) : Dev :=
  (d.sw.regIn).foldl (fun e f => if e.mode.base = .m0 then e else if f.kind = 0x10 then e.regRequest f else e.regResponse f) { d with sw.regIn := [] }

/-! ### Answers of the Haldion's own functions -/

/-- The completions of a read of a function's BAR from port `p`, cut at Max_Payload_Size. -/
def Dev.sendCplData (d : Dev) (p mps cplId : Nat) (x : Pkt) (a : Nat) (data : List Nat) : Dev :=
  (cutsOf (data.length + 1) a data.length mps mps).foldl (fun e c =>
    e.sendTlp p { kind := .cplData, tc := x.tc, reqId := x.reqId, tag := x.tag, cplId := cplId, lowerAddr := c.1 % 128, byteCount := data.length - (c.1 - a), data := slice data (c.1 - a) c.2 }) d

/-! ### Management endpoints (R218, R219) -/

/-- Word `o` of BAR2 of management endpoint `q`: MSI-X table and pending bits. -/
def Dev.mgmtMsixRead (d : Dev) (fn o : Nat) : Nat :=
  if o < 0x8000 then (if o / 16 < 32 then d.msixWord fn (o / 16) (o / 4 % 4) else 0)
  else if o / 4 = 0x2000 then pack ((List.range 32).map (fun i => (i, b2n (d.pcie.msixPend.rd (msixKey fn i))))) else 0
def Dev.mgmtMsixWrite (d : Dev) (fn o v : Nat) : Dev :=
  let w := o / 4 % 4
  if o / 16 < 32 then
    { d with pcie.msixTab := d.pcie.msixTab.wrD (4 * msixKey fn (o / 16) + w) (if w = 3 then v % 2 else if w = 0 then v / 4 * 4 else v) (if w = 3 then 1 else 0) }
  else d

/-- A memory request reaches the management endpoint of partition `q`: BAR0 is the register file; what is no access of R8
completes normally without effect. A poisoned one is logged by the endpoint and has no effect. -/
def Dev.mgmtAccess (d0 : Dev) (q : Fin 24) (bar off : Nat) (t : Tlp) : Dev × List Nat :=
  let p : CmdPort := if q.val = 0 then .anchor else .ep q
  let fn := fnMgmt q.val
  let d := if t.ep then d0.aerView fn true 12 t.header true else d0
  if bar = 0 then
    let size := 4 * t.lenDw
    if t.kind = .memWrite then
      (if t.ep then d else (d.busWrite p off size (ofLe (t.data.take 8)) t.fullBe).1, [])
    else
      let (d1, v, _) := d.busRead p off size t.fullBe
      (d1, slice (toLe 8 v) 0 size)
  else if t.kind = .memWrite then
    (if t.ep || !t.fullBe then d else (List.range (t.data.length / 4)).foldl (fun e i => e.mgmtMsixWrite fn (off + 4 * i) (leAt t.data (4 * i) 4)) d, [])
  else (d, (List.range t.lenDw).flatMap (fun i => toLe 4 (d.mgmtMsixRead fn (off + 4 * i))))

/-! ### What has reached the engine hub -/

/-- Routing ID of the management endpoint of partition `q`: function 1 of device 0, function 0 on the boot port (R208, R220). -/
def Dev.mgmtId (d : Dev) (q : Nat) : Nat := 256 * d.pcie.capBus.rd q + (if d.mode.base = .m1 ∨ d.mode.base = .m2 then 0 else 1)

/-- A TLP for a management endpoint or a service function, whose target was written at routing, or a completion for an engine. -/
def Dev.hubTlp (d : Dev) (x : Pkt) (t : Tlp) : Dev :=
  if t.kind = .cpl ∨ t.kind = .cplData then d.hubCpl x.part t
  else if t.target < 64 then
    let q := t.target - 32
    if h : q < 24 then
      let (d1, data) := d.mgmtAccess ⟨q, h⟩ t.reg t.lowerAddr t
      let d2 := if d1.takesTlps x.ing && d1.isBoot x.ing then d1.tlpDone x.ing t else d1
      if t.kind.cls = 1 then d2.sendCplData x.ing (d2.mpsOf t.target) (d2.mgmtId q) x t.addr data else d2
    else d
  else
    let n := if t.target = fnPf then 0 else t.target - 1024
    let (d1, ok) := d.gateCheck x.ing 72 x
    let d2 := d1.leaveEpoch x.epoch
    if !ok then d2.gateDeny x.ing x
    else
      let (d3, data) := d2.svcAccess n t.reg t.lowerAddr t
      if t.kind.cls = 1 then d3.sendCplData x.ing (d3.fnMps n) (d3.fnRid n) x t.addr data else d3

/-- Data that a service function returns to a fabric request, as completions of 512 B at most: to this Haldion's own requester
over the engine link of its port, or into the fabric. -/
def Dev.hubReply (d : Dev) (f : FPkt) (data : List Nat) : Dev :=
  (cutsOf (data.length + 1) f.addr data.length 512 512).foldl (fun e c =>
    let g : FPkt := ({ kind := 5, flags := pack [(0, f.tc), (3, 2)], hops := e.fab.hopLimit, dest := f.src, src := e.run.switchId, srcPart := 0x1F, inc := e.fab.incarnation, reqId := f.reqId, cplF := pack [(3, (data.length - (c.1 - f.addr)) % 8192), (16, c.1 % 128)], payload := slice data (c.1 - f.addr) c.2 } : FPkt).seal
    if f.src = e.run.switchId then e.fabCompletion g else e.sendFab g) d

/-- A fabric packet at the hub: a Tally packet; a completion for an engine; or a request for a kind 3 handle, translated, which
the service functions of the handle's partition take at the local address (R309, Table 12.1). They complete no AtomicOp. -/
def Dev.hubFab (d : Dev) (x : Pkt) (f : FPkt) : Dev :=
  if f.isTally then (d.leaveEpoch x.epoch).tallyPacket f
  else if f.kind = 4 ∨ f.kind = 5 then d.fabCompletion f
  else
    let q := ridPartition x.rid
    let tile := if x.ing = 0xFF then d.hubTile q else portTile x.ing
    match (d.leaveEpoch x.epoch).exportXlate (d.hubTile q) q f with
    | (d1, none) => d1.refuseFab tile f 1
    | (d1, some a) =>
      let (d2, ok) := d1.gateCheck x.ing 72 { x with body := .fab { f with addr := a } }
      if !ok then d2.refuseFab tile f 4
      else match (if f.kind = 3 then none else d2.svcHit q a) with
        | none => d2.refuseFab tile f 1
        | some (n, bar, off) =>
          let t : Tlp := { kind := if f.kind = 1 then .memWrite else .memRead, tc := f.tc, ep := f.poisoned, addr := a, lenDw := f.lenDw, firstBe := f.firstBe, lastBe := f.lastBe, data := f.payload.take (4 * f.lenDw) }
          let (d3, data) := d2.svcAccess n bar off t
          if f.order = 1 then d3.hubReply f data else d3

/-- The engine hub takes what has reached it; a reset in between loses the rest (R78). -/
def Dev.drainHub (d : Dev) : Dev :=
  (d.sw.hubIn).foldl (fun e x => if e.mode.base = .m0 then e else match x.body with
    | .tlp t => e.hubTlp x t
    | .fab f => e.hubFab x f) { d with sw.hubIn := [] }

/-- Everything that has reached the register bridge or the hub acts. -/
def Dev.settleIn (d : Dev) : Dev := d.drainReg.drainHub.drainReg

end Sys2Proof.Machine
end

