-- ==== Sys2Proof/Machine/Ports.lean ====
section
/-! DEFINITION. The command ports other than PCI Express: the sideband (R460, Table 15.3), the service ring's frames
(R461 to R464, R485, Table 15.5), the Sighting port (R472 to R476, R394 to R397, Table 15.9) and the test access port
(R512). -/

namespace Sys2Proof.Machine

/-- Accesses in turn at ascending addresses, 4 bytes each; the first code that is not OK is the result. -/
def Dev.writeWords (d : Dev) (p : CmdPort) (a : Nat) : List Nat → Dev × Nat
  | [] => (d, 0)
  | v :: r =>
    let (d1, c) := d.busWrite p a 4 v
    let (d2, c2) := d1.writeWords p (a + 4) r
    (d2, if c = 0 then c2 else c)

/-- The dwords of bytes. -/
def dwordsOf (n : Nat) (bs : List Nat) : List Nat := (List.range n).map (fun i => leAt bs (4 * i) 4)

/-! ### The sideband (R460) -/

/-- Status of a result code on the sideband: Table 15.3 has no LOCKED (notes/assumptions/48.md). -/
def sbCode (c : Nat) : Nat := if c = 4 then 0 else c

/-- Answer a sideband command. -/
def Dev.sbAnswer (d : Dev) (st : Nat) (data : List Nat) : Dev :=
  ({ d with bus.sbStatus := st }).emit (.response CmdPort.sideband.key st data)

/-- Run a sideband command: the target answers from M1 on, and a wrong PEC leaves it without effect. -/
def Dev.sbRun (d : Dev) (pecOk : Bool) (f : Dev → Dev) : Dev :=
  if !d.regOn then d else if !pecOk then d.sbAnswer 8 [] else f d

def Dev.sbOffset (d : Dev) : Nat := (d.portSt .sideband).offset
def Dev.setSbOffset (d : Dev) (a : Nat) : Dev := d.setPort .sideband (fun s => { s with offset := a % 2 ^ 32 })

/-- SET_OFFSET. -/
def sbSetOffset (pecOk : Bool) (a : Nat) (d : Dev) : Dev := d.sbRun pecOk (fun e => (e.setSbOffset a).sbAnswer 0 [])

/-- READ: status, then the value; the offset advances by 4. -/
def sbRead (pecOk : Bool) (d : Dev) : Dev :=
  d.sbRun pecOk (fun e =>
    let (e1, v, c) := e.busRead .sideband e.sbOffset 4
    (e1.setSbOffset (e.sbOffset + 4)).sbAnswer (sbCode c) (toLe 4 v))

/-- WRITE: the offset advances by 4. -/
def sbWrite (pecOk : Bool) (v : Nat) (d : Dev) : Dev :=
  d.sbRun pecOk (fun e =>
    let (e1, c) := e.busWrite .sideband e.sbOffset 4 v
    (e1.setSbOffset (e.sbOffset + 4)).sbAnswer (sbCode c) [])

/-- WRITE_BLOCK of 4 to 32 bytes, a multiple of 4; any other length has no effect (notes/assumptions/48.md). -/
def sbWriteBlock (pecOk : Bool) (bs : List Byte) (d : Dev) : Dev :=
  d.sbRun pecOk (fun e =>
    if bs.length % 4 = 0 ∧ 4 ≤ bs.length ∧ bs.length ≤ 32 then
      let (e1, c) := e.writeWords .sideband e.sbOffset (dwordsOf (bs.length / 4) (bs.map BitVec.toNat))
      (e1.setSbOffset (e.sbOffset + bs.length)).sbAnswer (sbCode c) []
    else e.sbAnswer 6 [])

/-- GET_STATUS: status of the last command, then BUSY, which reads 0 between commands. -/
def sbGetStatus (pecOk : Bool) (d : Dev) : Dev :=
  d.sbRun pecOk (fun e => e.emit (.response CmdPort.sideband.key e.bus.sbStatus [0]))

/-- SETDASA and ENTDAA give a target without a dynamic address the address that the controller assigns; RSTDAA takes it
away. -/
def Dev.assignAddress (d : Dev) (a : Nat) : Dev :=
  if d.regOn && d.bus.sbDynamic.isNone then { d with bus.sbDynamic := some a } else d
def setdasa (a : Fin 128) (d : Dev) : Dev := d.assignAddress a
def entdaa (a : Fin 128) (d : Dev) : Dev := d.assignAddress a
def rstdaa (d : Dev) : Dev := if d.regOn then { d with bus.sbDynamic := none } else d

/-! ### The service ring (R461 to R464) -/

/-- The frames of the ring reach the die: the service ring bypass is open. -/
def Dev.ringOn (d : Dev) : Bool := d.regOn && d.srIsOpen

/-- RESPONDER of this Haldion (R464). -/
def Dev.ringId (d : Dev) : Nat := if d.inRunOrTest then d.run.switchId else 0xF000 + d.mode.responder % 4096

/-- A COMMAND for this Haldion (R463). -/
def Dev.ringMine (d : Dev) (dest : Nat) : Bool := dest == 0xFFFF || (d.inRunOrTest && dest == d.run.switchId)

/-- A damaged frame is discarded and counted in RING_ERRORS of its pair (R461). -/
def Dev.ringBad (d : Dev) (pair : Nat) : Dev :=
  if pair = 0 then { d with bus.ringErr0 := satAdd 16 d.bus.ringErr0 1 } else { d with bus.ringErr1 := satAdd 16 d.bus.ringErr1 1 }

/-- A ring frame: type and body, the body in whole 8 B units. -/
def ringFrame (type : Nat) (body : List Nat) : List Nat := type :: padded8 body

/-- The body of a COMMAND and of a RESPONSE (Table 15.5): `id` is DEST_SWITCH or RESPONDER, `op` OP or CODE. -/
def ringBody (id origin hops seq op offset : Nat) (data : List Nat) : List Nat :=
  toLe 2 id ++ toLe 2 origin ++ toLe 2 hops ++ [seq % 256, op % 256] ++ toLe 4 offset ++ [0, 0, 0, 0] ++ data

/-- Forward a frame with HOPS one less, or discard it when that is 0 (R463). -/
def Dev.ringForward (d : Dev) (pair type hops : Nat) (body : Nat → List Nat) : Dev :=
  if hops ≤ 1 then d else d.emit (.ring pair (ringFrame type (body (hops - 1))))

/-- A frame arrives: the die does `f` with an intact one, and a closed bypass passes it on as it came (R88, R461). -/
def Dev.ringFrameIn (d : Dev) (pair type hops : Nat) (crcOk : Bool) (body : Nat → List Nat) (f : Dev → Dev) : Dev :=
  d.ringIn (.ring pair (ringFrame type (body hops))) (fun d => if !d.ringOn then d else if !crcOk then d.ringBad pair else f d)

/-- A COMMAND as it arrives. A device that the command itself has reset answers nothing (R78). -/
def Dev.ringCommand (d : Dev) (pair : Nat) (c : RingCmd) (op : Nat) (run : Dev → Dev × List Nat × Nat) : Dev :=
  let body := fun h => ringBody c.dest c.origin h c.seq op c.offset (c.data.map BitVec.toNat)
  d.ringFrameIn pair 0x10 c.hops c.crcOk body (fun d =>
    if d.ringMine c.dest then
      let (e, data, code) := run d
      if e.regOn then e.emit (.ring pair (ringFrame 0x11 (ringBody e.ringId c.origin 4095 c.seq code c.offset data))) else e
    else d.ringForward pair 0x10 c.hops body)

/-- The operations: the access runs at service ring authority. -/
def Dev.ringRead (d : Dev) (c : RingCmd) (size : Nat) : Dev × List Nat × Nat :=
  let (e, v, code) := d.busRead .ring c.offset size
  (e, toLe size v, code)
def Dev.ringWrite (d : Dev) (c : RingCmd) (size : Nat) : Dev × List Nat × Nat :=
  let (e, code) := d.busWrite .ring c.offset size (leAt (c.data.map BitVec.toNat) 0 size)
  (e, [], code)

def ringRead32 (pair : Fin 2) (c : RingCmd) (d : Dev) : Dev := d.ringCommand pair c 0 (fun e => e.ringRead c 4)
def ringWrite32 (pair : Fin 2) (c : RingCmd) (d : Dev) : Dev := d.ringCommand pair c 1 (fun e => e.ringWrite c 4)
def ringRead64 (pair : Fin 2) (c : RingCmd) (d : Dev) : Dev := d.ringCommand pair c 2 (fun e => e.ringRead c 8)
def ringWrite64 (pair : Fin 2) (c : RingCmd) (d : Dev) : Dev := d.ringCommand pair c 3 (fun e => e.ringWrite c 8)

/-- OP 4: up to 256 B as successive 32-bit writes; other lengths have no effect (notes/assumptions/48.md). -/
def ringWriteBlock (pair : Fin 2) (c : RingCmd) (d : Dev) : Dev :=
  d.ringCommand pair c 4 (fun e =>
    if c.data.length % 4 = 0 ∧ c.data.length ≤ 256 then
      let (e1, code) := e.writeWords .ring c.offset (dwordsOf (c.data.length / 4) (c.data.map BitVec.toNat))
      (e1, [], code)
    else (e, [], 6))

/-- RESPONSE: forwarded, or discarded when it is the Haldion's own. -/
def ringResponse (pair : Fin 2) (r : RingCmd) (code : Fin 256) (d : Dev) : Dev :=
  let body := fun h => ringBody r.dest r.origin h r.seq code r.offset (r.data.map BitVec.toNat)
  d.ringFrameIn pair 0x11 r.hops r.crcOk body (fun d => if r.dest = d.ringId then d else d.ringForward pair 0x11 r.hops body)

/-- ALARM: counted, and forwarded unless it is the Haldion's own. -/
def ringAlarm (pair : Fin 2) (crcOk : Bool) (sw source hops : Nat) (d : Dev) : Dev :=
  let body := fun h => toLe 2 sw ++ toLe 2 source ++ toLe 2 h ++ [0, 0]
  d.ringFrameIn pair 0x18 hops crcOk body (fun d =>
    let d1 := { d with bus.ringAlarms := satAdd 32 d.bus.ringAlarms 1 }
    if d1.inRunOrTest && sw == d1.run.switchId then d1 else d1.ringForward pair 0x18 hops body)

/-! ### The Sighting port (R472 to R476) -/

/-- The debug level for the core that a command names. -/
def Dev.sightLevel (d : Dev) (c : Nat) : Nat := if c < 5 then d.debugLevel c else 0

/-- Answer a Sighting command: HALTED is added, and SIGHTING_STATUS follows. -/
def Dev.sightAnswer (d : Dev) (r : SightReq) (cmd st data : Nat) : Dev :=
  let s := st + (if (d.core r.core.val).state == .halted then 64 else 0)
  ({ d with sight.lastCmd := cmd, sight.lastStatus := s }).emit (.response CmdPort.sighting.key s (toLe 8 data))

/-- A denied command: an Audit record with the command, the address and the core, and DEBUG_DENIED (R395, R397, R474). -/
def Dev.sightDenied (d : Dev) (r : SightReq) (cmd : Nat) : Dev :=
  ({ d with bnd.debugDenied := satAdd 32 d.bnd.debugDenied 1 }).log 0x382 5
    { port := CmdPort.sighting.code, inst := r.core.val, detail := [cmd, 0, fld r.addr 0 32, fld r.addr 32 32, r.core.val] }

/-- Run a Sighting command of level `lvl`; `boot` tells that M1 and M2 serve it. The effect answers a status without
HALTED, and the data. -/
def Dev.sightRun (d : Dev) (r : SightReq) (cmd lvl : Nat) (boot : Bool) (f : Dev → Dev × Nat × Nat) : Dev :=
  if !d.regOn then d
  else if !r.crcOk then d.sightAnswer r cmd 16 0
  else if d.sight.pending && cmd != 0 then d.sightAnswer r cmd 4 0
  else if !d.inRunOrTest && !boot then d.sightAnswer r cmd 8 0
  else if d.inRunOrTest && decide (d.sightLevel r.core.val < lvl) then (d.sightDenied r cmd).sightAnswer r cmd 1 0
  else
    let (e, st, data) := f d
    e.sightAnswer r cmd st data

/-- The read slot of the debug master. -/
def sightSlot : Nat := 8191

/-- POLL: the outcome of the pending read, once its completion is there (R473); with nothing pending, status and data are
zero (notes/assumptions/49.md). -/
def sightPoll (r : SightReq) (d : Dev) : Dev :=
  d.sightRun r 0 0 true (fun e =>
    let s := e.trav.slot.rd sightSlot
    if !e.sight.pending then (e, 0, 0)
    else if s.used && s.bytes != 0 then (e, 2, 0)
    else
      let e1 := { e with sight.pending := false, trav.slot := e.trav.slot.wr sightSlot { gen := s.gen + 1 } }
      if !s.used || s.kind == 5 then (e1, 32, 0) else (e1, 0, leAt s.got 0 8))

/-- IDCODE: PART_CODE and SILICON_REV. -/
def sightIdcode (r : SightReq) (d : Dev) : Dev :=
  d.sightRun r 1 0 true (fun e => (e, 0, (if e.is7144 then 0x7144 else 0x7080) + 2 ^ 32 * (e.part.siliconRev % 65536)))

/-- CORE_STATUS. -/
def sightCoreStatus (r : SightReq) (d : Dev) : Dev := d.sightRun r 2 0 true (fun e => (e, 0, (e.core r.core.val).status))

/-- HALT: a core that runs or stands by stops. A core in reset, or failed, has nothing to stop. -/
def sightHalt (r : SightReq) (d : Dev) : Dev :=
  d.sightRun r 3 2 false (fun e => (if (e.core r.core.val).active then e.haltCore r.core.val 1 0 else e, 0, 0))

/-- RESUME. -/
def sightResume (r : SightReq) (d : Dev) : Dev := d.sightRun r 4 2 false (fun e => (e.resumeCore r.core.val, 0, 0))

/-- STEP: one instruction of a halted core; what it leaves in registers and memory is open (notes/assumptions/40.md). -/
def sightStep (r : SightReq) (d : Dev) : Dev :=
  d.sightRun r 5 2 false (fun e =>
    if (e.core r.core.val).state = .halted then (e.setCore r.core.val (fun k => { k with haltReason := 2, hitIndex := 0, poked := [], ran := true }), 0, 0)
    else (e, 0, 0))

/-- REG_READ: registers 0 to 33; any other number is an ERROR (notes/assumptions/49.md). -/
def sightRegRead (r : SightReq) (d : Dev) : Dev :=
  d.sightRun r 6 1 false (fun e =>
    if r.addr % 64 < 34 then (let x := e.coreReg r.core.val (r.addr % 64); (x.1, 0, x.2)) else (e, 32, 0))

/-- REG_WRITE: a halted core's register. -/
def sightRegWrite (r : SightReq) (d : Dev) : Dev :=
  d.sightRun r 7 3 false (fun e =>
    if 34 ≤ r.addr % 64 then (e, 32, 0)
    else (if (e.core r.core.val).state = .halted then e.setCoreReg r.core.val (r.addr % 64) (r.data % 2 ^ 64) else e, 0, 0))

/-- An address of 8 aligned bytes in the 512 KiB of a core memory. -/
def tcmOk (a : Nat) : Bool := a % 8 == 0 && decide (a < 524288)

/-- TCM_READ and TCM_WRITE. -/
def sightTcmRead (r : SightReq) (d : Dev) : Dev :=
  d.sightRun r 8 1 false (fun e =>
    if tcmOk r.addr then (let x := e.coreBytes r.core.val r.addr 8; (x.1, 0, leAt x.2 0 8)) else (e, 32, 0))
def sightTcmWrite (r : SightReq) (d : Dev) : Dev :=
  d.sightRun r 9 3 false (fun e => if tcmOk r.addr then (e.setCoreBytes r.core.val r.addr (toLe 8 r.data), 0, 0) else (e, 32, 0))

/-- BREAK: INDEX 0 to 7. -/
def sightBreak (r : SightReq) (d : Dev) : Dev :=
  d.sightRun r 10 2 false (fun e =>
    if r.index.val < 8 then (e.setCore r.core.val (fun k => { k with bp := k.bp.wr r.index.val (if bitAt r.data 0 then { enable := true, addr := r.addr } else {}) }), 0, 0)
    else (e, 32, 0))

/-- WATCH: INDEX 0 to 3. -/
def sightWatch (r : SightReq) (d : Dev) : Dev :=
  d.sightRun r 11 2 false (fun e =>
    if r.index.val < 4 then
      (e.setCore r.core.val (fun k => { k with wp := k.wp.wr r.index.val (if bitAt r.data 34 then { enable := true, addr := r.addr, mask := fld r.data 0 32, read := bitAt r.data 32, write := bitAt r.data 33 } else {}) }), 0, 0)
    else (e, 32, 0))

/-- Size of a BAR access. -/
def SightReq.size (r : SightReq) : Nat := if r.wide then 8 else 4

/-- BAR_READ: in M1 and M2 within the blocks of R81 (R475). An access that the fallback clock ends is an ERROR. -/
def sightBarRead (r : SightReq) (d : Dev) : Dev :=
  d.sightRun r 12 1 (bootBlock r.addr) (fun e =>
    let end_ := e.reach .sighting r.addr r.size true none
    let (e1, v, _) := e.busRead .sighting r.addr r.size
    (e1, if end_ = .timeout then 32 else 0, v))

/-- A write that the seal takes from the debugger: a kind 1 range, an RWL field, or a Gazetteer entry of a kind 3 range
(R395). -/
def Dev.sightLocked (d : Dev) (a : Nat) : Bool :=
  d.regLocked (d.regAttr .sighting (a / 4 * 4)) ||
    (d.run.sealed && decide (0x1000000 ≤ a) && decide (a < 0x3000000) && d.gazLocked ((a - 0x1000000) / 8))

/-- BAR_WRITE. -/
def sightBarWrite (r : SightReq) (d : Dev) : Dev :=
  d.sightRun r 13 3 false (fun e =>
    match e.reach .sighting r.addr r.size true (some r.data) with
    | .ok =>
      if e.sightLocked r.addr then (e.sightDenied r 13, 1, 0)
      else ((e.busWrite .sighting r.addr r.size r.data).1, 0, 0)
    | x => ((e.busWrite .sighting r.addr r.size r.data).1, if x = .denied then 1 else if x = .timeout then 32 else 0, 0))

/-- A memory access names 8 aligned bytes in a space that exists: the fabric space, or the host space of a partition. -/
def Dev.sightSpaceOk (d : Dev) (r : SightReq) : Bool :=
  r.addr % 8 == 0 && (r.space.val == 0 || (decide (r.space.val ≤ 24) && d.partDef (r.space.val - 1)))

/-- The check of a memory access: R395 first, then the rules of the central table or of gate 73 (R378, R394 to R396).
A denial of a rule is recorded each time, at severity Warning (R386). Answers whether the access goes on. -/
def Dev.sightCheck (d : Dev) (r : SightReq) (cmd access : Nat) : Dev × Bool :=
  let c : Chk := { kind := 3, sw := d.run.switchId, host := r.space.val != 0, space := r.space.val - 1, addr := r.addr }
  let v := d.verdict (d.checkTable 73) c
  if v.locked.isSome then (d.sightDenied r cmd, false)
  else if v.allows access then (d, true)
  else
    let d1 := ({ d with bnd.ruleLogged := [] }).recordDenial v c
    ({ d1 with bnd.ruleLogged := d.bnd.ruleLogged }, false)

/-- The TLP of a memory access. -/
def SightReq.tlp (r : SightReq) (write : Bool) : Tlp :=
  { kind := if write then .memWrite else .memRead, addr := r.addr, lenDw := 2, firstBe := 0xF, lastBe := 0xF, data := if write then toLe 8 r.data else [] }

/-- Issue a memory access in the fabric space. No rule gives its DEST_HANDLE: it is a free value
(notes/assumptions/50.md). Answers whether it left. -/
def Dev.sightFabric (d0 : Dev) (r : SightReq) (write : Bool) : Dev × Bool :=
  let h := d0.freeVal 16
  let d := d0.tickFree
  let f := d.fabOf 0x1F (r.tlp write) { addr := r.addr, handle := h, write := true }
  let go := fun (e : Dev) (g : FPkt) => if g.dest = e.run.switchId then e.deliverFab 0 { inVc := e.vcOf 0 } g else e.sendFab g
  if d.cont.contained.getLsbD f.dest then (d, false)
  else if write then (go d f.seal, true)
  else
    match d.trOpen { part := 0, engine := true, port := 0xFF, reqId := (d.trav.slot.rd sightSlot).gen, tag := sightSlot, destSwitch := some f.dest, bytes := 8 } with
    | (e, some k) => (go e ({ f with reqId := e.trReqId k } : FPkt).seal, true)
    | (e, none) => (e, false)

/-- Issue a memory access in the host space of partition `q`, as a request that enters through the engine bridge. -/
def Dev.sightHost (d : Dev) (q : Nat) (r : SightReq) (write : Bool) : Dev × Bool :=
  match d.hubIssue q (d.engineId q) sightSlot (r.tlp write) (some d.bnd.epoch) with
  | (e, .sent _) => (e, true)
  | (e, _) => (e, false)

def Dev.sightIssue (d : Dev) (r : SightReq) (write : Bool) : Dev × Bool :=
  if r.space.val = 0 then d.sightFabric r write else d.sightHost (r.space.val - 1) r write

/-- MEM_READ: the read is PENDING until its completion. -/
def sightMemRead (r : SightReq) (d : Dev) : Dev :=
  d.sightRun r 14 1 false (fun e =>
    if !e.sightSpaceOk r then (e, 32, 0)
    else
      let (e1, ok) := e.sightCheck r 14 0
      if !ok then (e1, 1, 0)
      else
        let e2 := { e1 with trav.slot := e1.trav.slot.upd sightSlot (fun s => { used := true, gen := s.gen, kind := 6, bytes := 8, time := e1.now }) }
        let (e3, sent) := e2.sightIssue r false
        if sent then ({ e3 with sight.pending := true }, 2, 0)
        else ({ e3 with trav.slot := e3.trav.slot.upd sightSlot (fun s => { gen := s.gen + 1 }) }, 32, 0))

/-- MEM_WRITE: a posted write. -/
def sightMemWrite (r : SightReq) (d : Dev) : Dev :=
  d.sightRun r 15 3 false (fun e =>
    if !e.sightSpaceOk r then (e, 32, 0)
    else
      let (e1, ok) := e.sightCheck r 15 1
      if !ok then (e1, 1, 0)
      else
        let (e2, sent) := e1.sightIssue r true
        (e2, if sent then 0 else 32, 0))

/-! ### The test access port (R512) -/

/-- The instruction as it acts: outside M1 and M10 every one but BYPASS and SAMPLE/PRELOAD acts as BYPASS. -/
def Dev.tapActs (d : Dev) : TapInstr :=
  if d.mode.base = .m1 ∨ d.mode.base = .m10 then d.pkg.tap
  else if d.pkg.tap = .samplePreload then .samplePreload else .bypass

/-- Load an instruction. -/
def Dev.tapLoad (d : Dev) (i : TapInstr) : Dev := { d with pkg.tap := i }

def tapBypass (d : Dev) : Dev := d.tapLoad .bypass

/-- SAMPLE/PRELOAD: the cells take the preloaded values; what they sample, no rule lays out: a free value
(notes/assumptions/51.md). -/
def tapSamplePreload (cells : Nat) (d : Dev) : Dev :=
  (({ (d.tapLoad .samplePreload) with pkg.tapCells := cells }).emit (.response 4 0 [d.freeVal 8])).tickFree
def tapExtest (d : Dev) : Dev := d.tapLoad .extest
def tapExtestPulse (d : Dev) : Dev := d.tapLoad .extestPulse
def tapExtestTrain (d : Dev) : Dev := d.tapLoad .extestTrain
def tapHighz (d : Dev) : Dev := d.tapLoad .highz

end Sys2Proof.Machine
end

