-- ==== Sys2Proof/Machine/RegRows.lean ====
section
/-! DEFINITION. The commands that are one register access by a command port: the access goes through every check of the
register fabric (R8 to R14, R74), and the register's own rule does the rest. -/

namespace Sys2Proof.Machine

/-! ### Any register (R8 to R11) -/

/-- A write of `size` bytes; `full` tells whether every byte enable is set. -/
def registerWrite (p : CmdPort) (a : Word) (size : Nat) (full : Bool) (v : DWord) (d : Dev) : Dev :=
  (d.busWrite p a.toNat size v.toNat full).1

/-- A 4-byte write at `a`, and at the half above it. -/
def Dev.write4 (d : Dev) (p : CmdPort) (a v : Nat) : Dev := (d.busWrite p a 4 v).1

/-- The half of a 64-bit register at `a`: low, and high. -/
def writeLowHalf (p : CmdPort) (a : Word) (v : Word) (d : Dev) : Dev := d.write4 p (wideBase a.toNat) v.toNat
def writeHighHalf (p : CmdPort) (a : Word) (v : Word) (d : Dev) : Dev := d.write4 p (wideBase a.toNat + 4) v.toNat

/-- A read of `size` bytes; the value goes back to the port. -/
def Dev.readOut (d : Dev) (p : CmdPort) (a size : Nat) : Dev :=
  if d.reach p a size true none = .dead then d
  else
    let (e, v, _) := d.busRead p a size
    e.emit (.readData p.key v)

def readLowHalf (p : CmdPort) (a : Word) (d : Dev) : Dev := d.readOut p (wideBase a.toNat) 4
def rcRead (p : CmdPort) (a : Word) (d : Dev) : Dev := d.readOut p (a.toNat / 4 * 4) 4

/-! ### Global control -/

def deviceReset (p : CmdPort) (v : Word) (d : Dev) : Dev := d.write4 p 0x10008 v.toNat
def t8Close (p : CmdPort) (d : Dev) : Dev := d.write4 p 0x10010 1
def t8Open (p : CmdPort) (d : Dev) : Dev := d.write4 p 0x10010 0
def tickNumberLoad (p : CmdPort) (v : DWord) (d : Dev) : Dev := (d.busWrite p 0x10058 8 v.toNat).1
def containTrigger (p : CmdPort) (kind : Fin 16) (id : Fin 65536) (d : Dev) : Dev :=
  d.write4 p 0x11088 (pack [(31, 1), (16, kind), (0, id)])
def containRestore (p : CmdPort) (k : Fin 64) (d : Dev) : Dev := d.write4 p 0x11080 (pack [(31, 1), (0, k)])
def faultLogAdvance (p : CmdPort) (cor : Bool) (d : Dev) : Dev := d.readOut p (if cor then 0x1105C else 0x1103C) 4

/-! ### The Plat window (R64 to R67) -/

def platStart (p : CmdPort) (d : Dev) : Dev := d.write4 p 0x20000 1
def platBufferWrite (p : CmdPort) (off : Fin 65536) (v : Word) (d : Dev) : Dev := d.write4 p (0x30000 + off / 4 * 4) v.toNat
def chunkHandover (p : CmdPort) (len : Fin 131072) (d : Dev) : Dev := d.write4 p 0x20008 len
def platEnd (p : CmdPort) (d : Dev) : Dev := d.write4 p 0x20000 2
def platAbort (p : CmdPort) (d : Dev) : Dev := d.write4 p 0x20000 4

/-! ### Jobs (R119 to R125) -/

/-- JOB_GO while the port's JOB_OP holds `op`; with another operation staged the command is another one, and this one does
nothing (notes/assumptions/52.md). -/
def Dev.goWith (d : Dev) (p : CmdPort) (op : Nat) : Dev := if (d.portSt p).jobOp = op then d.write4 p 0x10128 1 else d

def gazetteerLoad (p : CmdPort) (d : Dev) : Dev := d.goWith p 0x01
def bearingLoad (p : CmdPort) (d : Dev) : Dev := d.goWith p 0x02
def boundaryLoad (p : CmdPort) (d : Dev) : Dev := d.goWith p 0x03
def functionReset (p : CmdPort) (d : Dev) : Dev := d.goWith p 0x04
def laneSwap (p : CmdPort) (d : Dev) : Dev := d.goWith p 0x05
def pllSwap (p : CmdPort) (d : Dev) : Dev := d.goWith p 0x06
def planeSwap (p : CmdPort) (d : Dev) : Dev := d.goWith p 0x07
def sramRowSwap (p : CmdPort) (d : Dev) : Dev := d.goWith p 0x08
def scrub (p : CmdPort) (d : Dev) : Dev := d.goWith p 0x09
def linkRetrain (p : CmdPort) (d : Dev) : Dev := d.goWith p 0x0A
def widthSpeedChange (p : CmdPort) (d : Dev) : Dev := d.goWith p 0x0B

def jobCtrlAddr (s : Nat) : Nat := 0x10410 + 32 * s
def jobCancel (p : CmdPort) (s : Fin 64) (handle : Fin 65536) (d : Dev) : Dev := d.write4 p (jobCtrlAddr s) (1 + 65536 * handle)
def jobRelease (p : CmdPort) (s : Fin 64) (handle : Fin 65536) (d : Dev) : Dev := d.write4 p (jobCtrlAddr s) (2 + 65536 * handle)

/-! ### Lanes -/

def eqCommitWrite (p : CmdPort) (t : Fin 9) (n : Fin 18) (d : Dev) : Dev := d.write4 p (laneAddr t n 0x24) 1
def loopWrite (p : CmdPort) (t : Fin 9) (n : Fin 18) (v : Fin 4) (d : Dev) : Dev := d.write4 p (laneAddr t n 0x40) v
def prbsWrite (p : CmdPort) (t : Fin 9) (n : Fin 18) (v : Word) (d : Dev) : Dev := d.write4 p (laneAddr t n 0x30) v.toNat
def marginWrite (p : CmdPort) (t : Fin 9) (n : Fin 18) (v : Word) (d : Dev) : Dev :=
  d.write4 p (laneAddr t n 0x44) (v.toNat % 2 ^ 31 + 2 ^ 31)

/-! ### Link and port control -/

/-- Address of a register of S port `x` (Table 16.2). -/
def sherixAddr (x off : Nat) : Nat := 0x100000 + 0x100000 * portTile x + 0xA000 + 0x200 * portSlot x + off

/-- A word with bit `i` put to `b`. -/
def withBit (v i : Nat) (b : Bool) : Nat := if b then setBit v i else clrBit v i

def adminDown (p : CmdPort) (x : Fin 72) (b : Bool) (d : Dev) : Dev := d.write4 p (sherixAddr x 0x04) (withBit (d.sxCtrl x) 0 b)
def holdDown (p : CmdPort) (x : Fin 72) (b : Bool) (d : Dev) : Dev := d.write4 p (sherixAddr x 0x04) (withBit (d.sxCtrl x) 2 b)

def Dev.pcieCtrl (d : Dev) (x : Nat) : Nat := pack [(1, b2n (d.pport x).holdDown), (0, b2n (d.pport x).adminDown)]
def Dev.dpcCtrl (d : Dev) (x : Nat) : Nat := pack [(3, b2n (d.pport x).dpcCompUr), (0, (d.pport x).dpcTrigEn)]
def pcieAdminDown (p : CmdPort) (x : Fin 72) (b : Bool) (d : Dev) : Dev := d.write4 p (pcieAddr x 0x04) (withBit (d.pcieCtrl x) 0 b)
def pcieHoldDown (p : CmdPort) (x : Fin 72) (b : Bool) (d : Dev) : Dev := d.write4 p (pcieAddr x 0x04) (withBit (d.pcieCtrl x) 1 b)
def dpcSwTrigger (p : CmdPort) (x : Fin 72) (d : Dev) : Dev := d.write4 p (pcieAddr x 0x80) (d.dpcCtrl x + 4)
def dpcRelease (p : CmdPort) (x : Fin 72) (d : Dev) : Dev := d.write4 p (pcieAddr x 0x80) (d.dpcCtrl x + 2 ^ 31)
def shareAssignCommit (p : CmdPort) (x : Fin 72) (d : Dev) : Dev := d.write4 p (pcieAddr x 0x108) 2
def shareWindowsCommit (p : CmdPort) (x : Fin 72) (d : Dev) : Dev := d.write4 p (pcieAddr x 0x108) 1
def pcfgAccess (p : CmdPort) (x : Fin 72) (v : Word) (d : Dev) : Dev := d.write4 p (pcieAddr x 0x1F0) (v.toNat % 2 ^ 31 + 2 ^ 31)
def aerHdrAdvance (p : CmdPort) (x : Fin 72) (d : Dev) : Dev := d.readOut p (pcieAddr x 0x74) 4

/-! ### Fabric, Boundary and Tally -/

def windowsCommit (p : CmdPort) (d : Dev) : Dev := d.write4 p 0xC00014 1
def gazetteerCommit (p : CmdPort) (d : Dev) : Dev := d.write4 p 0xC00014 2
def bearingCommit (p : CmdPort) (d : Dev) : Dev := d.write4 p 0xC00014 4
def routingIdCommit (p : CmdPort) (d : Dev) : Dev := d.write4 p 0xC00014 8
def rbRead (p : CmdPort) (wide : Bool) (d : Dev) : Dev := d.write4 p 0xC02004 (2 ^ 31 + b2n wide)
def rbWrite (p : CmdPort) (wide : Bool) (d : Dev) : Dev := d.write4 p 0xC02004 (2 ^ 31 + 2 + b2n wide)
def boundaryCommit (p : CmdPort) (table : Fin 256) (d : Dev) : Dev := d.write4 p 0x300000C (2 ^ 31 + table)
def tallyCommitWrite (p : CmdPort) (c : Fin 4096) (d : Dev) : Dev := d.write4 p 0x3400008 (2 ^ 31 + c)

/-! ### Cairn, events and counters -/

def cairnClear (p : CmdPort) (v : Word) (d : Dev) : Dev := d.write4 p 0x3C00040 v.toNat
def slotLatch (p : CmdPort) (i : Fin 16384) (d : Dev) : Dev := d.readOut p (0x3D00000 + 64 * i) 4
def bbRecordLatch (p : CmdPort) (d : Dev) : Dev := d.readOut p 0x3C01040 4
def bbCursorAdvance (p : CmdPort) (d : Dev) : Dev := d.readOut p 0x3C0107C 4
def bbFreeze (p : CmdPort) (d : Dev) : Dev := d.write4 p 0x3C01004 1
def bbUnfreeze (p : CmdPort) (d : Dev) : Dev := d.write4 p 0x3C01004 0
def eventStatusClear (p : CmdPort) (w : Fin 32) (v : Word) (d : Dev) : Dev := d.write4 p (0x3C04000 + 4 * w) v.toNat
def cntCommit (p : CmdPort) (k : Fin 1200) (d : Dev) : Dev := d.write4 p 0x3E00020 (2 ^ 31 + k)
def cntCommitAllRow (p : CmdPort) (d : Dev) : Dev := d.write4 p 0x3E00020 (2 ^ 30)
def cntHold (p : CmdPort) (d : Dev) : Dev := d.write4 p 0x3E00018 1
def cntRelease (p : CmdPort) (d : Dev) : Dev := d.write4 p 0x3E00018 0

/-! ### Core-only registers -/

/-- Address of a register of core `c`. -/
def coreAddr (c off : Nat) : Nat := 0x4000000 + 0x100 * c + off
def coreKick (c : Fin 5) (v : Word) (d : Dev) : Dev := d.write4 (.core c) (coreAddr c 0x08) v.toNat
def coreEvent (c : Fin 5) (n : Fin 32) (d : Dev) : Dev := d.write4 (.core c) (coreAddr c 0x0C) n
def coreLog (c : Fin 5) (v : Word) (d : Dev) : Dev := d.write4 (.core c) (coreAddr c 0x7C) v.toNat

/-! ### Doorbells and queue control in a function's BAR0 (R358 to R360) -/

/-- The host writes dword `off` of BAR0 of function `n`, which answers. -/
def Dev.fnBarWrite (d : Dev) (n off v : Nat) : Dev := if d.inRunOrTest && d.fnMse (fnKeyOf n) then d.svcWrite n 0 off v else d

def queueReg (k off : Nat) : Nat := 0x1000 * (k + 1) + off
/-- Q_CTRL as it stands, without its command bits. -/
def Dev.qWeight (d : Dev) (n k : Nat) : Nat := 256 * (d.queue (d.qKey n k)).weight
def queueEnableRow (n : Fin 4097) (k : Fin 2048) (d : Dev) : Dev := d.fnBarWrite n (queueReg k 0x14) (2 ^ 31 + d.qWeight n k)
def queueDisableRow (n : Fin 4097) (k : Fin 2048) (d : Dev) : Dev := d.fnBarWrite n (queueReg k 0x14) (d.qWeight n k)
def queueResumeRow (n : Fin 4097) (k : Fin 2048) (d : Dev) : Dev :=
  d.fnBarWrite n (queueReg k 0x14) (2 ^ 31 + 2 ^ 30 + d.qWeight n k)
def sqTailRow (n : Fin 4097) (k : Fin 2048) (v : Word) (d : Dev) : Dev := d.fnBarWrite n (queueReg k 0x20) v.toNat
def cqHeadRow (n : Fin 4097) (k : Fin 2048) (v : Word) (d : Dev) : Dev := d.fnBarWrite n (queueReg k 0x24) v.toNat

end Sys2Proof.Machine
end

