-- ==== Sys2Proof/Machine/State.lean ====
section
/-! DEFINITION. The state of the block: the device and the queue of the commands that wait; the reasons a step can stop;
and the state after reset. -/

namespace Sys2Proof.Machine

/-- The state: `dev` holds every register, table, buffer, counter, mode and pin of the device, and `pending` the commands
that wait, first in, first out. -/
structure State where
  dev : Dev := {}
  pending : List Instr := []
deriving DecidableEq, Repr, Inhabited

/-- Reasons for a fault. No command of this block raises one: what the spec calls an error is an effect on the device. -/
inductive Fault where
  /-- An inconsistency of the model itself. Raised by nothing; safe. -/
  | internal
deriving DecidableEq, Repr

/-- Reasons for a refusal. -/
inductive Refusal where
  /-- A command that has no meaning yet, by mnemonic. Raised by the arms of `exec` that say so, and by none now; safe. -/
  | notModelled (mnemonic : String)
deriving DecidableEq, Repr

/-- The state right after reset: the device on entry to M1 after power-up with AUTH_SEL 0 (notes/assumptions/3.md), and
no command waiting. -/
def State.reset : State := { dev := {}, pending := [] }

/-- A change of the device alone. -/
def State.onDev (s : State) (f : Dev → Dev) : State := { s with dev := f s.dev }

end Sys2Proof.Machine
end

