-- ==== Sys2Proof/Machine/AccessCmds.lean ====
section
/-! DEFINITION. Meanings of commands: Register accesses that have no row of their own (R8 to R12). Each command moves the device on; none stops. -/

namespace Sys2Proof.Machine

/-- REGISTER_WRITE (R11). -/
def execRegisterWrite (p : CmdPort) (a : Word) (size : Nat) (full : Bool) (v : DWord) (s : State) : Host.Outcome State Fault Refusal :=
  .next (s.onDev (registerWrite p a size full v))

/-- WRITE_LOW_HALF (R10). -/
def execWriteLowHalf (p : CmdPort) (a v : Word) (s : State) : Host.Outcome State Fault Refusal :=
  .next (s.onDev (writeLowHalf p a v))

/-- WRITE_HIGH_HALF (R10). -/
def execWriteHighHalf (p : CmdPort) (a v : Word) (s : State) : Host.Outcome State Fault Refusal :=
  .next (s.onDev (writeHighHalf p a v))

/-- READ_LOW_HALF (R9). -/
def execReadLowHalf (p : CmdPort) (a : Word) (s : State) : Host.Outcome State Fault Refusal :=
  .next (s.onDev (readLowHalf p a))

/-- RC_READ (R11). -/
def execRcRead (p : CmdPort) (a : Word) (s : State) : Host.Outcome State Fault Refusal :=
  .next (s.onDev (rcRead p a))

end Sys2Proof.Machine
end

