-- ==== Sys2Proof/Machine/CairnCmds.lean ====
section
/-! DEFINITION. Meanings of commands: The Cairn log, the Black Box, events and counters (R425 to R455). Each command moves the device on; none stops. -/

namespace Sys2Proof.Machine

/-- CAIRN_STORE (R431). -/
def execCairnStore (s : State) : Host.Outcome State Fault Refusal :=
  .next (s.onDev cairnStore)

/-- CAIRN_CLEAR (R435). -/
def execCairnClear (p : CmdPort) (v : Word) (s : State) : Host.Outcome State Fault Refusal :=
  .next (s.onDev (cairnClear p v))

/-- CLEAR_DONE (R436). -/
def execClearDone (s : State) : Host.Outcome State Fault Refusal :=
  .next (s.onDev clearDone)

/-- SLOT_LATCH (R433). -/
def execSlotLatch (p : CmdPort) (idx : Fin 16384) (s : State) : Host.Outcome State Fault Refusal :=
  .next (s.onDev (slotLatch p idx))

/-- BB_RECORD_LATCH (R439). -/
def execBbRecordLatch (p : CmdPort) (s : State) : Host.Outcome State Fault Refusal :=
  .next (s.onDev (bbRecordLatch p))

/-- BB_CURSOR_ADVANCE (R439). -/
def execBbCursorAdvance (p : CmdPort) (s : State) : Host.Outcome State Fault Refusal :=
  .next (s.onDev (bbCursorAdvance p))

/-- FAULT_LOG_ADVANCE (R423). -/
def execFaultLogAdvance (p : CmdPort) (cor : Bool) (s : State) : Host.Outcome State Fault Refusal :=
  .next (s.onDev (faultLogAdvance p cor))

/-- BB_FREEZE (R438). -/
def execBbFreeze (p : CmdPort) (s : State) : Host.Outcome State Fault Refusal :=
  .next (s.onDev (bbFreeze p))

/-- BB_UNFREEZE (R438). -/
def execBbUnfreeze (p : CmdPort) (s : State) : Host.Outcome State Fault Refusal :=
  .next (s.onDev (bbUnfreeze p))

/-- EVENT_STATUS_CLEAR (R442). -/
def execEventStatusClear (p : CmdPort) (w : Fin 32) (v : Word) (s : State) : Host.Outcome State Fault Refusal :=
  .next (s.onDev (eventStatusClear p w v))

/-- EVT_PULSE_END (R445). -/
def execEvtPulseEnd (n : Fin 4) (s : State) : Host.Outcome State Fault Refusal :=
  .next (s.onDev (evtPulseEnd n))

/-- CNT_COMMIT (R450). -/
def execCntCommit (p : CmdPort) (k : Fin 1200) (s : State) : Host.Outcome State Fault Refusal :=
  .next (s.onDev (cntCommit p k))

/-- CNT_COMMIT_ALL (R450). -/
def execCntCommitAll (p : CmdPort) (s : State) : Host.Outcome State Fault Refusal :=
  .next (s.onDev (cntCommitAllRow p))

/-- CNT_HOLD (R453). -/
def execCntHold (p : CmdPort) (s : State) : Host.Outcome State Fault Refusal :=
  .next (s.onDev (cntHold p))

/-- CNT_RELEASE (R453). -/
def execCntRelease (p : CmdPort) (s : State) : Host.Outcome State Fault Refusal :=
  .next (s.onDev (cntRelease p))

/-- SNAP_HOLD_EXPIRED (R453). -/
def execSnapHoldExpired (p : CmdPort) (s : State) : Host.Outcome State Fault Refusal :=
  .next (s.onDev (snapHoldExpired p))

/-- COUNTER_WRAP (R451). -/
def execCounterWrap (k : Nat) (s : State) : Host.Outcome State Fault Refusal :=
  .next (s.onDev (counterWrap k))

end Sys2Proof.Machine
end

