-- ==== Sys2Proof/Machine/FaultRow.lean ====
section
/-! DEFINITION. The faults that blocks detect in their memories and at the die sensor (R248, R399 to R402). -/

namespace Sys2Proof.Machine

/-- An uncorrectable buffer error as Uncorrectable Internal Error of an H port: the physical copy and the views; the
device fault's record is the one record of the event unless the port's own error is fatal (Table 7.5A, R427). -/
def Dev.internalError (d : Dev) (p : Nat) : Dev :=
  if !d.isH p then d
  else
    let a := (d.pport p).aer
    let fatal := bitAt a.uncSev 22 && !bitAt a.uncMask 22
    let d1 := (d.viewsOf p).foldl (fun e fn => e.aerView fn true 22) ((d.setPport p (fun s => { s with aer := a.log true 22 [] })).fire (srcPort p 4))
    let (kind, id) := match d.upstreamOf p with
      | some q => (4, q)
      | none => (3, p)
    let d2 := if fatal then d1.uncFault 16 p (portTile p) kind id 22 3 else d1
    d2.dpcOn p 22

/-- Errors that the physical or data link layer of an H port detects (Table 7.5A): Receiver Error, Bad TLP, Bad DLLP, REPLAY_NUM
Rollover, Replay Timer Timeout; Data Link Protocol Error, Flow Control Protocol Error, Receiver Overflow. -/
def linkErrorBit (unc : Bool) (bit : Nat) : Bool := if unc then [4, 13, 17].contains bit else [0, 6, 7, 8, 12].contains bit

/-- The unreadable entry fails safe (R401). -/
def Dev.failSafe (d : Dev) (table index : Nat) : Dev :=
  if table = 0 then { d with fab.gaz := d.fab.gaz.wr index 0 }
  else if table = 1 then { d with fab.bearing := d.fab.bearing.wr index 0 }
  else if table = 2 then { d with fab.rid := d.fab.rid.wr index 0 }
  else if table = 3 then { d with bnd.rule := d.bnd.rule.upd index (fun r => { r with bad := true }) }
  else if table = 4 then d.trAbort index
  else { d with sw.rx := d.sw.rx.del index }

/-- FAULT_DETECT. -/
def faultDetect (f : FaultIn) (d : Dev) : Dev :=
  if d.mode.base == .m0 then d
  else d.withDpc (fun d => match f with
    | .sram m row => if m < d.macroCount then d.sramCorrected m row else d
    | .buffer p m row =>
      let d1 := d.rowCorrected m row
      if d.isH p then d1.linkError p false 14 else d1.corFault 0 m row
    | .bufferBad p m row pkt =>
      let d1 := match pkt with
        | some id => d.endPacket id
        | none => d
      let (kind, id) := d.ingressDomain p
      ((d1.sramUncorrected m row).internalError p).uncFault 0 p (portTile p) kind id row
    | .tableBad table index m row p q =>
      let (kind, id) := if d.isS p then (2, p) else (4, q)
      ((d.failSafe table index).sramUncorrected m row).uncFault 1 m 9 kind id index
    | .ledgerBad c m row => ((d.sramUncorrected m row).uncFault 2 m 9 0xF 0 c).tallyEcc c
    | .core c => d.coreMemoryCorrected c.val
    | .coreBad c => d.coreMemoryFails c.val 0
    | .pcieLink p unc bit => if d.isH p && linkErrorBit unc bit then d.linkError p unc bit else d
    | .thermal => d.uncFault 14 0 9 0 0)

end Sys2Proof.Machine
end

