-- ==== Sys2Proof/Machine/TickWork.lean ====
section
/-! DEFINITION. The work of a survey tick boundary (R115, Table 4.5). -/

namespace Sys2Proof.Machine

/-- The once-per-tick limits of the other chapters start afresh. -/
def Dev.clearTickLimits (d : Dev) : Dev :=
  { d with
    bnd.ruleLogged := [], bnd.regionLogged := []
    sw.routeNoted := [], sw.boundNoted := [], sw.hubWait := []
    sw.ingress := d.sw.ingress.mapAll (fun _ (s : Ingress) => { s with noted := false, agedNoted := false }) }

/-- One commit takes effect; answers whether it changed Boundary rules (R305, R387, R391). -/
def Dev.commitEffect (d : Dev) (c : Commit) : Dev × Bool :=
  match c with
  | .windows es => ({ d with fab.win := wrAll d.fab.win es, fab.winGrp := d.fab.winGrp.effect }, false)
  | .gazetteer es => ({ d with fab.gaz := wrAll d.fab.gaz es, fab.gazGrp := d.fab.gazGrp.effect }, false)
  | .bearing es => ({ d with fab.bearing := wrAll d.fab.bearing es, fab.bearingGrp := d.fab.bearingGrp.effect }, false)
  | .rid es => ({ d with fab.rid := wrAll d.fab.rid es, fab.ridGrp := d.fab.ridGrp.effect }, false)
  | .rules table es =>
    let d1 := d.applyRules table es
    ({ d1 with bnd.grp := d1.bnd.grp.wr table (d1.bnd.grp.rd table).effect }, true)
  | .job k => d.jobEffect k
  | .shareWin p => (d.winEffect p, false)
  | .shareAsg p => (d.asgEffect p, false)
  | .eq lane => (d.eqEffect lane, false)

/-- The content of a commit that still waits stays pending in its group. -/
def Dev.stillPending (d : Dev) (c : Commit) : Dev :=
  match c with
  | .windows es => { d with fab.winGrp := d.fab.winGrp.keep es }
  | .gazetteer es => { d with fab.gazGrp := d.fab.gazGrp.keep es }
  | .bearing es => { d with fab.bearingGrp := d.fab.bearingGrp.keep es }
  | .rid es => { d with fab.ridGrp := d.fab.ridGrp.keep es }
  | .rules table es => { d with bnd.grp := d.bnd.grp.upd table (fun g => g.keep es) }
  | _ => d

/-- Row 3: the commits that are due in the order of acceptance, then the amendment (R73); one new epoch when Boundary rules
changed. A commit accepted in the tick MCLK cycle itself waits for the next boundary (R32). -/
def Dev.commitRow (d : Dev) : Dev :=
  let due := (d.commits.filter (fun x => !x.1)).map Prod.snd
  let wait := (d.commits.filter (fun x => x.1)).map Prod.snd
  let (d0, ch) := due.foldl (fun (x : Dev × Bool) c =>
    let (e, b) := x.1.commitEffect c
    (e, x.2 || b)) ({ d with commits := wait.map (fun c => (false, c)) }, false)
  let d1 := wait.foldl Dev.stillPending d0
  let (d2, am) := d1.amendBoundary
  let d3 := if ch || am then { d2 with bnd := d2.bnd.advance } else d2
  d3.restoreEffect.ridRefresh.fnBoundary.mirrorRelease.cntEffects

/-- TICK_BOUNDARY (R115). -/
def tickBoundary (d : Dev) : Dev :=
  if !d.tick.joined then d
  else d.watchMode (fun e =>
    let e1 := e.tickAdvance.clearTickLimits
    let e2 := (e1.snapshot e1.tick.number).flood.eventBoundary
    let e3 := (e2.tickWatch.tallyBoundary e2.tick.number).commitRow
    let e4 := e3.auditSample.holdTick.classifyFaults.breakLocks
    e4.openBudgets.takeoverBoundary.watchdogs)

end Sys2Proof.Machine
end

