-- ==== Sys2Proof/Machine/Rows.lean ====
section
/-! DEFINITION. The events that links, ports, the switch core, the engines and the timers bring: one definition per row of
the command table that none of the blocks' own files already gives. A row that may bring something to the engine hub or
to the register bridge lets it act (`settleIn`). -/

namespace Sys2Proof.Machine

/-! ### Sherix links -/

def flitReceive (p : Fin 72) (f : RawFlit) (d : Dev) : Dev := (d.flitReceive p f).settleIn

/-! ### PCI Express (R203 to R245) -/

/-- Port `p` carries TLPs of the specification's message, completion and request forms. -/
def tlpReceive (p : Fin 72) (t : Tlp) (d : Dev) : Dev := (d.withDpc (fun d => d.tlpReceive p t)).settleIn
def tlpTransmit (p : Fin 72) (credits : List Nat) (d : Dev) : Dev := d.withDpc (fun d => d.tlpTransmit p credits)
def configRequest (q : Fin 24) (t : Tlp) (d : Dev) : Dev := if t.kind = .cfgRead ∨ t.kind = .cfgWrite then d.configRequest q t else d

/-- FUNCTION_LEVEL_RESET: Initiate Function Level Reset of a function, or of the parent in a partition; a parent takes
its VFs with it (R373). Function 0 is the service PF. -/
def functionLevelReset (x : FlrTarget) (d : Dev) : Dev :=
  match x with
  | .vf n => if n.val = 0 then d.svcReset 0 0x0B else d.fnReset [n.val] false 0x0B
  | .parent q => d.svcReset q.val 0x0B

def vfEnable (q : Fin 24) (num : Fin 65536) (en : Bool) (d : Dev) : Dev := if d.hasEngine q then d.vfEnable q num en else d
def hotReset (p : Fin 72) (d : Dev) : Dev := d.hotReset p
def dlDown (p : Fin 72) (d : Dev) : Dev := d.withDpc (fun d => d.dlDown p)
def dlActive (p : Fin 72) (rate width retimers : Nat) (flit scaled : Bool) (d : Dev) : Dev :=
  d.lanesIn (portTile p) [] [] (fun d => d.dlActive p rate width retimers flit scaled)
def bmeDrainClear (d : Dev) : Dev := d.bmeDrainClear
def presenceLost (p : Fin 72) (d : Dev) : Dev := d.presenceLost p
def receiverDetection (p : Fin 72) (d : Dev) : Dev := d.receiverDetection p
def pcfgComplete (p : Fin 72) (status : Fin 8) (data : Word) (d : Dev) : Dev := d.pcfgDone p status data.toNat
def pcfgTimeout (p : Fin 72) (d : Dev) : Dev := d.pcfgExpire p

/-- MSIX_PENDING_SEND: a pending vector of a management endpoint whose conditions hold (R219). -/
def msixPendingSend (q : Fin 24) (vec : Fin 32) (d : Dev) : Dev := d.msixRetry (fnMgmt q) vec
def ptmRequest (p : Fin 72) (t : Tlp) (d : Dev) : Dev := d.ptmRequest p t
def errorMessage (p : Fin 72) (t : Tlp) (d : Dev) : Dev := d.withDpc (fun d => d.errorMessage p t)

/-! ### Switch core and fabric -/

def cellTime (d : Dev) : Dev := d.withDpc (fun d => d.cellTimeCore.settleIn)
def cellArrival (key seq : Nat) (good : Bool) (d : Dev) : Dev := (d.cellArrive key seq good).settleIn
def cellConfirm (key seq : Nat) (d : Dev) : Dev := d.cellConfirmed key seq
def confirmTimeout (key seq : Nat) (d : Dev) : Dev := d.cellTimedOut key seq
def planeRemoved (k : Fin 9) (d : Dev) : Dev := d.removePlane k
def ageingScan (t : Fin 9) (d : Dev) : Dev := d.ageingScan t
def fabricPacketReceive (p : Fin 72) (f : FPkt) (d : Dev) : Dev := if d.isS p && (d.link p).state == 3 then (d.fabricReceive p f).settleIn else d
def flowHoldExpiry (sw : Fin 4096) (tc : Fin 8) (cls : Fin 3) (d : Dev) : Dev := (d.flowExpire sw tc cls).settleIn
def fabricCompletion (f : FPkt) (d : Dev) : Dev := if d.inRunOrTest = true ∧ (f.kind = 4 ∨ f.kind = 5) then d.fabCompletion f else d
def bridgeSlotTimeout (t : Fin 9) (s : Fin 16384) (d : Dev) : Dev := d.slotTimeout t s
def bridgeSlotReuse (t : Fin 9) (s : Fin 16384) (d : Dev) : Dev := d.slotReuse t s
def regRequest (f : FPkt) (d : Dev) : Dev := if d.inRunOrTest = true ∧ f.kind = 0x10 then (d.regRequest f).settleIn else d
def regResponse (f : FPkt) (d : Dev) : Dev := if d.inRunOrTest = true ∧ f.kind = 0x11 then d.regResponse f else d
def rbTimeout (p : CmdPort) (d : Dev) : Dev := d.rbExpire p

/-! ### Tally (R329 to R349) -/

def tallyContribution (n : Fin 4097) (slot : Fin 16) (off : Nat) (bytes : List Byte) (be poisoned : Bool) (d : Dev) : Dev :=
  if d.fnMse (fnKeyOf n) then d.tallyWrite n slot off (bytes.map BitVec.toNat) be poisoned else d

/-- A Tally packet of its kind that has reached the hub (Table 9.2); fabric packets exist in run modes and M10 alone. -/
def partialPacket (f : FPkt) (d : Dev) : Dev := if d.inRunOrTest = true ∧ f.kind = 8 then d.tallyPacket f else d
def donePacket (f : FPkt) (d : Dev) : Dev := if d.inRunOrTest = true ∧ f.kind = 0x0B then d.tallyPacket f else d
def resultPacket (f : FPkt) (d : Dev) : Dev := if d.inRunOrTest = true ∧ f.kind = 9 then d.tallyPacket f else d
def abortPacket (f : FPkt) (d : Dev) : Dev := if d.inRunOrTest = true ∧ f.kind = 0x0A then d.tallyPacket f else d
def roundPacked (c : Fin 4096) (d : Dev) : Dev := d.roundPacked c
def roundDelivered (c : Fin 4096) (d : Dev) : Dev := d.roundDelivered c
def roundTimeout (c : Fin 4096) (d : Dev) : Dev := d.roundTimeout c
def resultTimeout (c : Fin 4096) (d : Dev) : Dev := d.resultTimeout c
def ledgerClearDone (c : Fin 4096) (d : Dev) : Dev := d.ledgerCleared c

/-! ### Traverse (R363 to R371) -/

def queueBind (d : Dev) : Dev := d.queueBind
def engineSegment (e : Fin 8) (d : Dev) : Dev := (d.engineSegment e).settleIn
def engineReadCompletion (slot : Fin 8192) (gen : Nat) (bytes : List Byte) (status : Fin 8) (poisoned : Bool) (d : Dev) : Dev :=
  if d.inRunOrTest then d.engineData slot gen (bytes.map BitVec.toNat) status poisoned else d
def engineReadTimeout (slot : Fin 8192) (d : Dev) : Dev := d.readTimeout slot
def vectorPendingSend (n : Fin 4097) (vec : Fin 2048) (d : Dev) : Dev := d.fnRetry n vec

/-! ### The register fabric on the fallback clock (R466) -/

/-- REG_ACCESS_TIMEOUT: an access of port `p` to a DCLK block ends. A read returns zero. -/
def regAccessTimeout (p : CmdPort) (a : Word) (write : Bool) (d : Dev) : Dev :=
  if d.bus.pllFallback && dclkBlock a.toNat && !(d.reach p (a.toNat / 4 * 4) 4 true none == .dead) then
    let e := { d with bus.regTimeouts := satAdd 32 d.bus.regTimeouts 1 }
    if write then e else e.emit (.readData p.key 0)
  else d

end Sys2Proof.Machine
end

