-- ==== Sys2Proof/Machine/ContainCmds.lean ====
section
/-! DEFINITION. Meanings of commands: Boundary commits, faults, containment, Transit scans and spares (R387, R399 to R424, R466). Each command moves the device on; none stops. -/

namespace Sys2Proof.Machine

/-- BOUNDARY_COMMIT (R387). -/
def execBoundaryCommit (p : CmdPort) (table : Fin 256) (s : State) : Host.Outcome State Fault Refusal :=
  .next (s.onDev (boundaryCommit p table))

/-- FAULT_DETECT (R399). -/
def execFaultDetect (f : FaultIn) (s : State) : Host.Outcome State Fault Refusal :=
  .next (s.onDev (faultDetect f))

/-- CONTAIN_TRIGGER (R423). -/
def execContainTrigger (p : CmdPort) (kind : Fin 16) (id : Fin 65536) (s : State) : Host.Outcome State Fault Refusal :=
  .next (s.onDev (containTrigger p kind id))

/-- TRIGGER_DELIVERY (R405). -/
def execTriggerDelivery (stop : Fin 10) (s : State) : Host.Outcome State Fault Refusal :=
  .next (s.onDev (triggerDelivery stop))

/-- CONTAIN_RESTORE (R414). -/
def execContainRestore (p : CmdPort) (k : Fin 64) (s : State) : Host.Outcome State Fault Refusal :=
  .next (s.onDev (containRestore p k))

/-- TRANSIT_SCAN (R409). -/
def execTransitScan (s : State) : Host.Outcome State Fault Refusal :=
  .next (s.onDev transitScan)

/-- QUARANTINE_END (R411). -/
def execQuarantineEnd (idx : Fin 65536) (s : State) : Host.Outcome State Fault Refusal :=
  .next (s.onDev (quarantineEnd idx))

/-- SPARE_WINDOW_END (R417). -/
def execSpareWindowEnd (kind : Fin 5) (s : State) : Host.Outcome State Fault Refusal :=
  .next (s.onDev (spareWindowEnd kind))

/-- PATROL_SCRUB (R420). -/
def execPatrolScrub (m : Nat) (row : Fin 512) (bad : Bool) (s : State) : Host.Outcome State Fault Refusal :=
  .next (s.onDev (patrolScrub m row bad))

/-- DATAPATH_PLL_LOSS (R466). -/
def execDatapathPllLoss (ref : Bool) (s : State) : Host.Outcome State Fault Refusal :=
  .next (s.onDev (datapathPllLoss ref))

/-- REG_ACCESS_TIMEOUT (R466). -/
def execRegAccessTimeout (p : CmdPort) (a : Word) (write : Bool) (s : State) : Host.Outcome State Fault Refusal :=
  .next (s.onDev (regAccessTimeout p a write))

end Sys2Proof.Machine
end

