-- ==== Sys2Proof/Machine/CoreCmds.lean ====
section
/-! DEFINITION. Meanings of commands: Management cores (R467 to R478). Each command moves the device on; none stops. -/

namespace Sys2Proof.Machine

/-- WATCHDOG_EXPIRY (R469). -/
def execWatchdogExpiry (c : Fin 5) (s : State) : Host.Outcome State Fault Refusal :=
  .next (s.onDev (watchdogExpiry c))

/-- READY_TIMEOUT (R469). -/
def execReadyTimeout (c : Fin 5) (s : State) : Host.Outcome State Fault Refusal :=
  .next (s.onDev (readyTimeout c))

/-- CORE_EXCEPTION (R469). -/
def execCoreException (c : Fin 5) (memory : Bool) (s : State) : Host.Outcome State Fault Refusal :=
  .next (s.onDev (coreException c memory))

/-- TAKEOVER_IMAGE_LOADED (R470). -/
def execTakeoverImageLoaded (s : State) : Host.Outcome State Fault Refusal :=
  .next (s.onDev takeoverImageLoaded)

/-- CORE_KICK (R468). -/
def execCoreKick (c : Fin 5) (v : Word) (s : State) : Host.Outcome State Fault Refusal :=
  .next (s.onDev (coreKick c v))

/-- CORE_EVENT (R478). -/
def execCoreEvent (c : Fin 5) (n : Fin 32) (s : State) : Host.Outcome State Fault Refusal :=
  .next (s.onDev (coreEvent c n))

/-- CORE_LOG (R478). -/
def execCoreLog (c : Fin 5) (v : Word) (s : State) : Host.Outcome State Fault Refusal :=
  .next (s.onDev (coreLog c v))

end Sys2Proof.Machine
end

