-- ==== Sys2Proof/Machine/FabricCmds.lean ====
section
/-! DEFINITION. Meanings of commands: Routing, translation, Bridges and the remote register bridge (R282 to R319). Each command moves the device on; none stops. -/

namespace Sys2Proof.Machine

/-- FABRIC_PACKET_RECEIVE (R309). -/
def execFabricPacketReceive (p : Fin 72) (f : FPkt) (s : State) : Host.Outcome State Fault Refusal :=
  .next (s.onDev (fabricPacketReceive p f))

/-- FLOW_HOLD_EXPIRY (R293). -/
def execFlowHoldExpiry (sw : Fin 4096) (tc : Fin 8) (cls : Fin 3) (s : State) : Host.Outcome State Fault Refusal :=
  .next (s.onDev (flowHoldExpiry sw tc cls))

/-- RETURN_HOLD_END (R298). -/
def execReturnHoldEnd (p : Fin 72) (s : State) : Host.Outcome State Fault Refusal :=
  .next (s.onDev (returnHoldEnd p))

/-- WINDOWS_COMMIT (R305). -/
def execWindowsCommit (p : CmdPort) (s : State) : Host.Outcome State Fault Refusal :=
  .next (s.onDev (windowsCommit p))

/-- GAZETTEER_COMMIT (R305). -/
def execGazetteerCommit (p : CmdPort) (s : State) : Host.Outcome State Fault Refusal :=
  .next (s.onDev (gazetteerCommit p))

/-- BEARING_COMMIT (R305). -/
def execBearingCommit (p : CmdPort) (s : State) : Host.Outcome State Fault Refusal :=
  .next (s.onDev (bearingCommit p))

/-- ROUTING_ID_COMMIT (R305). -/
def execRoutingIdCommit (p : CmdPort) (s : State) : Host.Outcome State Fault Refusal :=
  .next (s.onDev (routingIdCommit p))

/-- FABRIC_COMPLETION (R308). -/
def execFabricCompletion (f : FPkt) (s : State) : Host.Outcome State Fault Refusal :=
  .next (s.onDev (fabricCompletion f))

/-- BRIDGE_SLOT_TIMEOUT (R310). -/
def execBridgeSlotTimeout (t : Fin 9) (k : Fin 16384) (s : State) : Host.Outcome State Fault Refusal :=
  .next (s.onDev (bridgeSlotTimeout t k))

/-- BRIDGE_SLOT_REUSE (R310). -/
def execBridgeSlotReuse (t : Fin 9) (k : Fin 16384) (s : State) : Host.Outcome State Fault Refusal :=
  .next (s.onDev (bridgeSlotReuse t k))

/-- RB_READ (R315). -/
def execRbRead (p : CmdPort) (wide : Bool) (s : State) : Host.Outcome State Fault Refusal :=
  .next (s.onDev (rbRead p wide))

/-- RB_WRITE (R315). -/
def execRbWrite (p : CmdPort) (wide : Bool) (s : State) : Host.Outcome State Fault Refusal :=
  .next (s.onDev (rbWrite p wide))

/-- REG_REQUEST (R316). -/
def execRegRequest (f : FPkt) (s : State) : Host.Outcome State Fault Refusal :=
  .next (s.onDev (regRequest f))

/-- REG_RESPONSE (R317). -/
def execRegResponse (f : FPkt) (s : State) : Host.Outcome State Fault Refusal :=
  .next (s.onDev (regResponse f))

/-- RB_TIMEOUT (R317). -/
def execRbTimeout (p : CmdPort) (s : State) : Host.Outcome State Fault Refusal :=
  .next (s.onDev (rbTimeout p))

end Sys2Proof.Machine
end

