-- ==== Sys2Proof/Machine/JobCmds.lean ====
section
/-! DEFINITION. Meanings of commands: Jobs (R118 to R126, R155, R156, R195, R200, R305, R375, R388, R418 to R420). Each command moves the device on; none stops. -/

namespace Sys2Proof.Machine

/-- JOB_STEP (R123). -/
def execJobStep (inp : StepIn) (s : State) : Host.Outcome State Fault Refusal :=
  .next (s.onDev (jobStep inp))

/-- GAZETTEER_LOAD (R126). -/
def execGazetteerLoad (p : CmdPort) (s : State) : Host.Outcome State Fault Refusal :=
  .next (s.onDev (gazetteerLoad p))

/-- BEARING_LOAD (R305). -/
def execBearingLoad (p : CmdPort) (s : State) : Host.Outcome State Fault Refusal :=
  .next (s.onDev (bearingLoad p))

/-- BOUNDARY_LOAD (R388). -/
def execBoundaryLoad (p : CmdPort) (s : State) : Host.Outcome State Fault Refusal :=
  .next (s.onDev (boundaryLoad p))

/-- FUNCTION_RESET (R375). -/
def execFunctionReset (p : CmdPort) (s : State) : Host.Outcome State Fault Refusal :=
  .next (s.onDev (functionReset p))

/-- LANE_SWAP (R155). -/
def execLaneSwap (p : CmdPort) (s : State) : Host.Outcome State Fault Refusal :=
  .next (s.onDev (laneSwap p))

/-- PLL_SWAP (R156). -/
def execPllSwap (p : CmdPort) (s : State) : Host.Outcome State Fault Refusal :=
  .next (s.onDev (pllSwap p))

/-- PLANE_SWAP (R418). -/
def execPlaneSwap (p : CmdPort) (s : State) : Host.Outcome State Fault Refusal :=
  .next (s.onDev (planeSwap p))

/-- SRAM_ROW_SWAP (R419). -/
def execSramRowSwap (p : CmdPort) (s : State) : Host.Outcome State Fault Refusal :=
  .next (s.onDev (sramRowSwap p))

/-- SCRUB (R420). -/
def execScrub (p : CmdPort) (s : State) : Host.Outcome State Fault Refusal :=
  .next (s.onDev (scrub p))

/-- LINK_RETRAIN (R200). -/
def execLinkRetrain (p : CmdPort) (s : State) : Host.Outcome State Fault Refusal :=
  .next (s.onDev (linkRetrain p))

/-- WIDTH_SPEED_CHANGE (R195). -/
def execWidthSpeedChange (p : CmdPort) (s : State) : Host.Outcome State Fault Refusal :=
  .next (s.onDev (widthSpeedChange p))

/-- JOB_CANCEL (R124). -/
def execJobCancel (p : CmdPort) (k : Fin 64) (handle : Fin 65536) (s : State) : Host.Outcome State Fault Refusal :=
  .next (s.onDev (jobCancel p k handle))

/-- JOB_RELEASE (R125). -/
def execJobRelease (p : CmdPort) (k : Fin 64) (handle : Fin 65536) (s : State) : Host.Outcome State Fault Refusal :=
  .next (s.onDev (jobRelease p k handle))

end Sys2Proof.Machine
end

