-- ==== Sys2Proof/Machine/LaneCmds.lean ====
section
/-! DEFINITION. Meanings of commands: Lanes (R127 to R161). Each command moves the device on; none stops. -/

namespace Sys2Proof.Machine

/-- SIGNAL_DETECT (R141). -/
def execSignalDetect (t : Fin 9) (n : Fin 18) (s : State) : Host.Outcome State Fault Refusal :=
  .next (s.onDev (fun d => d.laneIn t n [] (signalDetect t n)))

/-- CDR_LOCK (R141). -/
def execCdrLock (t : Fin 9) (n : Fin 18) (s : State) : Host.Outcome State Fault Refusal :=
  .next (s.onDev (fun d => d.laneIn t n [] (cdrLock t n)))

/-- BLOCK_LOCK (R132). -/
def execBlockLock (t : Fin 9) (n : Fin 18) (heads loads : List Nat) (s : State) : Host.Outcome State Fault Refusal :=
  .next (s.onDev (fun d => d.laneIn t n (lineBlocks heads loads) (blockLock t n (lineBlocks heads loads))))

/-- BLOCK_LOCK_LOSS (R149). -/
def execBlockLockLoss (t : Fin 9) (x : LockLoss) (s : State) : Host.Outcome State Fault Refusal :=
  .next (s.onDev (blockLockLoss t x.lane x.bad))

/-- TRAINING_TIMEOUT (R141). -/
def execTrainingTimeout (t : Fin 9) (n : Fin 18) (s : State) : Host.Outcome State Fault Refusal :=
  .next (s.onDev (trainingTimeout t n))

/-- FOM_WINDOW_END (R138). -/
def execFomWindowEnd (t : Fin 9) (n : Fin 18) (eye spacing : Nat) (w : WindowCount) (s : State) : Host.Outcome State Fault Refusal :=
  .next (s.onDev (fomWindowEnd t n eye spacing w.bad w.bits w.errs))

/-- TRAIN (R142). -/
def execTrain (t : Fin 9) (n : Fin 18) (b : TrainBlk) (s : State) : Host.Outcome State Fault Refusal :=
  .next (s.onDev (fun d => d.laneIn t n [trainBlock b] (train t n b)))

/-- ALIGN_BURST (R133). -/
def execAlignBurst (p : Fin 72) (a : AlignBurst) (s : State) : Host.Outcome State Fault Refusal :=
  .next (s.onDev (fun d => d.lanesIn (portTile p) (a.lanes.map Prod.fst) (a.lanes.map (fun x => alignBlock x.2.1 a.width x.2.2)) (alignBurst p a)))

/-- SWAP_REQUEST (R150). -/
def execSwapRequest (p : Fin 72) (b : SwapBlk) (s : State) : Host.Outcome State Fault Refusal :=
  .next (s.onDev (fun d => d.lanesIn (portTile p) (d.portLanes p) [swapBlock false b] (swapRequest p b)))

/-- SWAP_ACKNOWLEDGE (R150). -/
def execSwapAcknowledge (p : Fin 72) (b : SwapBlk) (s : State) : Host.Outcome State Fault Refusal :=
  .next (s.onDev (fun d => d.lanesIn (portTile p) (d.portLanes p) [swapBlock true b] (swapAcknowledge p b)))

/-- MIRROR_MATCH (R153). -/
def execMirrorMatch (p : Fin 72) (offset : Nat) (s : State) : Host.Outcome State Fault Refusal :=
  .next (s.onDev (mirrorMatch p offset))

/-- PLL_LOCK_LOSS (R156). -/
def execPllLockLoss (t : Fin 9) (pll : Fin 2) (s : State) : Host.Outcome State Fault Refusal :=
  .next (s.onDev (pllLockLoss t pll))

/-- EQ_COMMIT (R161). -/
def execEqCommit (p : CmdPort) (t : Fin 9) (n : Fin 18) (s : State) : Host.Outcome State Fault Refusal :=
  .next (s.onDev (eqCommitWrite p t n))

/-- LOOP (R157). -/
def execLoop (p : CmdPort) (t : Fin 9) (n : Fin 18) (v : Fin 4) (s : State) : Host.Outcome State Fault Refusal :=
  .next (s.onDev (loopWrite p t n v))

/-- PRBS_CTRL (R158). -/
def execPrbsCtrl (p : CmdPort) (t : Fin 9) (n : Fin 18) (v : Word) (s : State) : Host.Outcome State Fault Refusal :=
  .next (s.onDev (prbsWrite p t n v))

/-- PRBS_LOCK (R158). -/
def execPrbsLock (t : Fin 9) (x : PrbsRun) (s : State) : Host.Outcome State Fault Refusal :=
  .next (s.onDev (prbsLock t x.lane x.bits))

/-- PRBS_LOCK_LOSS (R158). -/
def execPrbsLockLoss (t : Fin 9) (n : Fin 18) (x : PrbsEnd) (s : State) : Host.Outcome State Fault Refusal :=
  .next (s.onDev (prbsLockLoss t n x.errors x.bits x.errs))

/-- MARGIN_GO (R159). -/
def execMarginGo (p : CmdPort) (t : Fin 9) (n : Fin 18) (v : Word) (s : State) : Host.Outcome State Fault Refusal :=
  .next (s.onDev (marginWrite p t n v))

/-- MARGIN_DONE (R159). -/
def execMarginDone (t : Fin 9) (n : Fin 18) (errors : Nat) (s : State) : Host.Outcome State Fault Refusal :=
  .next (s.onDev (marginDone t n errors))

/-- PCIE_MARGIN_COMMAND (R159). -/
def execPcieMarginCommand (t : Fin 9) (x : MarginWord) (s : State) : Host.Outcome State Fault Refusal :=
  .next (s.onDev (pcieMarginCommand t x.lane x.cmd))

end Sys2Proof.Machine
end

