-- ==== Sys2Proof/Machine/PcieCmds.lean ====
section
/-! DEFINITION. Meanings of commands: PCI Express ports, functions and shared ports (R203 to R245, R356, R373, R519). Each command moves the device on; none stops. -/

namespace Sys2Proof.Machine

/-- TLP_RECEIVE (R209). -/
def execTlpReceive (p : Fin 72) (t : Tlp) (s : State) : Host.Outcome State Fault Refusal :=
  .next (s.onDev (tlpReceive p t))

/-- TLP_TRANSMIT (R267). -/
def execTlpTransmit (x : SendSlot) (s : State) : Host.Outcome State Fault Refusal :=
  .next (s.onDev (tlpTransmit x.port x.credits))

/-- CONFIG_REQUEST (R209). -/
def execConfigRequest (q : Fin 24) (t : Tlp) (s : State) : Host.Outcome State Fault Refusal :=
  .next (s.onDev (configRequest q t))

/-- FUNCTION_LEVEL_RESET (R373). -/
def execFunctionLevelReset (x : FlrTarget) (s : State) : Host.Outcome State Fault Refusal :=
  .next (s.onDev (functionLevelReset x))

/-- VF_ENABLE (R356). -/
def execVfEnable (q : Fin 24) (num : Fin 65536) (en : Bool) (s : State) : Host.Outcome State Fault Refusal :=
  .next (s.onDev (vfEnable q num en))

/-- HOT_RESET (R210). -/
def execHotReset (p : Fin 72) (s : State) : Host.Outcome State Fault Refusal :=
  .next (s.onDev (hotReset p))

/-- DL_DOWN (R232). -/
def execDlDown (p : Fin 72) (s : State) : Host.Outcome State Fault Refusal :=
  .next (s.onDev (dlDown p))

/-- DL_ACTIVE (R519). -/
def execDlActive (p : Fin 72) (rate width retimers : Nat) (flit scaled : Bool) (s : State) : Host.Outcome State Fault Refusal :=
  .next (s.onDev (dlActive p rate width retimers flit scaled))

/-- BME_DRAIN_CLEAR (R230). -/
def execBmeDrainClear (s : State) : Host.Outcome State Fault Refusal :=
  .next (s.onDev bmeDrainClear)

/-- DPC_SW_TRIGGER (R227). -/
def execDpcSwTrigger (p : CmdPort) (x : Fin 72) (s : State) : Host.Outcome State Fault Refusal :=
  .next (s.onDev (dpcSwTrigger p x))

/-- DPC_RELEASE (R228). -/
def execDpcRelease (p : CmdPort) (x : Fin 72) (s : State) : Host.Outcome State Fault Refusal :=
  .next (s.onDev (dpcRelease p x))

/-- PRESENCE_LOST (R231). -/
def execPresenceLost (p : Fin 72) (s : State) : Host.Outcome State Fault Refusal :=
  .next (s.onDev (presenceLost p))

/-- SHARE_ASSIGN_COMMIT (R245). -/
def execShareAssignCommit (p : CmdPort) (x : Fin 72) (s : State) : Host.Outcome State Fault Refusal :=
  .next (s.onDev (shareAssignCommit p x))

/-- SHARE_WINDOWS_COMMIT (R245). -/
def execShareWindowsCommit (p : CmdPort) (x : Fin 72) (s : State) : Host.Outcome State Fault Refusal :=
  .next (s.onDev (shareWindowsCommit p x))

/-- PCFG_ACCESS (R238). -/
def execPcfgAccess (p : CmdPort) (x : Fin 72) (v : Word) (s : State) : Host.Outcome State Fault Refusal :=
  .next (s.onDev (pcfgAccess p x v))

/-- PCFG_COMPLETE (R238). -/
def execPcfgComplete (p : Fin 72) (status : Fin 8) (data : Word) (s : State) : Host.Outcome State Fault Refusal :=
  .next (s.onDev (pcfgComplete p status data))

/-- PCFG_TIMEOUT (R238). -/
def execPcfgTimeout (p : Fin 72) (s : State) : Host.Outcome State Fault Refusal :=
  .next (s.onDev (pcfgTimeout p))

/-- PCIE_ADMIN_DOWN (R243). -/
def execPcieAdminDown (p : CmdPort) (x : Fin 72) (b : Bool) (s : State) : Host.Outcome State Fault Refusal :=
  .next (s.onDev (pcieAdminDown p x b))

/-- PCIE_HOLD_DOWN (R243). -/
def execPcieHoldDown (p : CmdPort) (x : Fin 72) (b : Bool) (s : State) : Host.Outcome State Fault Refusal :=
  .next (s.onDev (pcieHoldDown p x b))

/-- AER_HDR_ADVANCE (R243). -/
def execAerHdrAdvance (p : CmdPort) (x : Fin 72) (s : State) : Host.Outcome State Fault Refusal :=
  .next (s.onDev (aerHdrAdvance p x))

/-- MSIX_PENDING_SEND (R219). -/
def execMsixPendingSend (q : Fin 24) (vec : Fin 32) (s : State) : Host.Outcome State Fault Refusal :=
  .next (s.onDev (msixPendingSend q vec))

/-- PTM_REQUEST (R217). -/
def execPtmRequest (p : Fin 72) (t : Tlp) (s : State) : Host.Outcome State Fault Refusal :=
  .next (s.onDev (ptmRequest p t))

/-- ERROR_MESSAGE (R225). -/
def execErrorMessage (p : Fin 72) (t : Tlp) (s : State) : Host.Outcome State Fault Refusal :=
  .next (s.onDev (errorMessage p t))

/-- RECEIVER_DETECTION (R231). -/
def execReceiverDetection (p : Fin 72) (s : State) : Host.Outcome State Fault Refusal :=
  .next (s.onDev (receiverDetection p))

end Sys2Proof.Machine
end

