-- ==== Sys2Proof/Machine/PlatCmds.lean ====
section
/-! DEFINITION. Meanings of commands: The Plat loader, run-mode entry and the neighbour exchange (R64 to R71, R84, R92 to R99). Each command moves the device on; none stops. -/

namespace Sys2Proof.Machine

/-- PLAT_START (R67). -/
def execPlatStart (p : CmdPort) (s : State) : Host.Outcome State Fault Refusal :=
  .next (s.onDev (platStart p))

/-- PLAT_BUFFER_WRITE (R66). -/
def execPlatBufferWrite (p : CmdPort) (off : Fin 65536) (v : Word) (s : State) : Host.Outcome State Fault Refusal :=
  .next (s.onDev (platBufferWrite p off v))

/-- CHUNK_HANDOVER (R66). -/
def execChunkHandover (p : CmdPort) (len : Fin 131072) (s : State) : Host.Outcome State Fault Refusal :=
  .next (s.onDev (chunkHandover p len))

/-- BUFFER_FREE (R68). -/
def execBufferFree (s : State) : Host.Outcome State Fault Refusal :=
  .next (s.onDev bufferFree)

/-- PLAT_END (R68). -/
def execPlatEnd (p : CmdPort) (s : State) : Host.Outcome State Fault Refusal :=
  .next (s.onDev (platEnd p))

/-- PLAT_ABORT (R64). -/
def execPlatAbort (p : CmdPort) (s : State) : Host.Outcome State Fault Refusal :=
  .next (s.onDev (platAbort p))

/-- PLAT_ACCEPTED (R69). -/
def execPlatAccepted (s : State) : Host.Outcome State Fault Refusal :=
  .next (s.onDev platAccepted)

/-- CLEARING_DONE (R71). -/
def execClearingDone (s : State) : Host.Outcome State Fault Refusal :=
  .next (s.onDev clearingDone)

/-- CLAIM_TIMEOUT (R66). -/
def execClaimTimeout (s : State) : Host.Outcome State Fault Refusal :=
  .next (s.onDev claimTimeout)

/-- STREAM_TIMEOUT (R66). -/
def execStreamTimeout (s : State) : Host.Outcome State Fault Refusal :=
  .next (s.onDev streamTimeout)

/-- BOOT_PORT_RELEASE (R84). -/
def execBootPortRelease (s : State) : Host.Outcome State Fault Refusal :=
  .next (s.onDev bootPortRelease)

/-- RUN_STATE_ACTIVATE (R84). -/
def execRunStateActivate (s : State) : Host.Outcome State Fault Refusal :=
  .next (s.onDev runStateActivate)

/-- CORES_START (R84). -/
def execCoresStart (s : State) : Host.Outcome State Fault Refusal :=
  .next (s.onDev coresStart)

/-- RUN_MODE_ENTERED (R84). -/
def execRunModeEntered (s : State) : Host.Outcome State Fault Refusal :=
  .next (s.onDev runModeEntered)

/-- NEED_PLAT_REPEAT (R93). -/
def execNeedPlatRepeat (s : State) : Host.Outcome State Fault Refusal :=
  .next (s.onDev needPlatRepeat)

/-- NEED_PLAT (R94). -/
def execNeedPlat (pair : Fin 2) (part rev : Nat) (s : State) : Host.Outcome State Fault Refusal :=
  .next (s.onDev (needPlat pair part rev))

/-- OFFER (R95). -/
def execOffer (pair : Fin 2) (imageId length target minRev : Nat) (s : State) : Host.Outcome State Fault Refusal :=
  .next (s.onDev (offer pair imageId length target minRev))

/-- ACCEPT (R96). -/
def execAccept (pair : Fin 2) (imageId : Nat) (s : State) : Host.Outcome State Fault Refusal :=
  .next (s.onDev (accept pair imageId))

/-- DECLINE (R95). -/
def execDecline (pair : Fin 2) (imageId : Nat) (s : State) : Host.Outcome State Fault Refusal :=
  .next (s.onDev (decline pair imageId))

/-- OFFER_WITHDRAW (R95). -/
def execOfferWithdraw (side : Fin 2) (s : State) : Host.Outcome State Fault Refusal :=
  .next (s.onDev (offerWithdraw side))

/-- DATA (R96). -/
def execNeighbourData (pair : Fin 2) (offset : Nat) (body : List Byte) (s : State) : Host.Outcome State Fault Refusal :=
  .next (s.onDev (data pair offset body))

/-- CHUNK_ACK (R96). -/
def execChunkAck (pair : Fin 2) (offset : Nat) (s : State) : Host.Outcome State Fault Refusal :=
  .next (s.onDev (chunkAck pair offset))

/-- NEIGHBOUR_DONE (R96). -/
def execNeighbourDone (pair : Fin 2) (offset : Nat) (s : State) : Host.Outcome State Fault Refusal :=
  .next (s.onDev (neighbourDone pair offset))

/-- NEIGHBOUR_RESULT (R98). -/
def execNeighbourResult (pair : Fin 2) (state code sec : Nat) (s : State) : Host.Outcome State Fault Refusal :=
  .next (s.onDev (neighbourResult pair state code sec))

end Sys2Proof.Machine
end

