-- ==== Sys2Proof/Machine/ResetCmds.lean ====
section
/-! DEFINITION. Meanings of commands: Reset inputs, reset release, rails and bypasses (R76 to R79, R89, R500 to R502, R517). Each command moves the device on; none stops. -/

namespace Sys2Proof.Machine

/-- PWRGD_RISE (R77). -/
def execPwrgdRise (s : State) : Host.Outcome State Fault Refusal :=
  .next (s.onDev pwrgdRise)

/-- PWRGD_FALL (R78). -/
def execPwrgdFall (s : State) : Host.Outcome State Fault Refusal :=
  .next (s.onDev pwrgdFall)

/-- RST_N_FALL (R76). -/
def execRstNFall (s : State) : Host.Outcome State Fault Refusal :=
  .next (s.onDev rstNFall)

/-- RST_N_RISE (R77). -/
def execRstNRise (straps : Fin 8) (s : State) : Host.Outcome State Fault Refusal :=
  .next (s.onDev (rstNRise straps))

/-- PERST_N_FALL (R76). -/
def execPerstNFall (t : Fin 9) (s : State) : Host.Outcome State Fault Refusal :=
  .next (s.onDev (perstNFall t))

/-- PERST_N_RISE (R77). -/
def execPerstNRise (t : Fin 9) (straps : Fin 8) (s : State) : Host.Outcome State Fault Refusal :=
  .next (s.onDev (perstNRise t straps))

/-- POWER_HOLD_END (R77). -/
def execPowerHoldEnd (straps : Fin 8) (s : State) : Host.Outcome State Fault Refusal :=
  .next (s.onDev (powerHoldEnd straps))

/-- DEVICE_RESET (R82). -/
def execDeviceReset (p : CmdPort) (v : Word) (s : State) : Host.Outcome State Fault Refusal :=
  .next (s.onDev (deviceReset p v))

/-- DEVICE_RESET_END (R77). -/
def execDeviceResetEnd (straps : Fin 8) (s : State) : Host.Outcome State Fault Refusal :=
  .next (s.onDev (deviceResetEnd straps))

/-- SR_BYPASS_OPEN (R79). -/
def execSrBypassOpen (s : State) : Host.Outcome State Fault Refusal :=
  .next (s.onDev srBypassOpen)

/-- M1_ENTRY (R79). -/
def execM1Entry (s : State) : Host.Outcome State Fault Refusal :=
  .next (s.onDev m1Entry)

/-- RAIL_LOW (R500). -/
def execRailLow (r : Fin 6) (s : State) : Host.Outcome State Fault Refusal :=
  .next (s.onDev (railLow r))

/-- BYPASS_SWITCHED (R502). -/
def execBypassSwitched (t8 : Bool) (s : State) : Host.Outcome State Fault Refusal :=
  .next (s.onDev (bypassSwitched t8))

/-- T8_CLOSE (R89). -/
def execT8Close (p : CmdPort) (s : State) : Host.Outcome State Fault Refusal :=
  .next (s.onDev (t8Close p))

/-- T8_OPEN (R89). -/
def execT8Open (p : CmdPort) (s : State) : Host.Outcome State Fault Refusal :=
  .next (s.onDev (t8Open p))

/-- BOOT_INTERVAL_END (R517). -/
def execBootIntervalEnd (s : State) : Host.Outcome State Fault Refusal :=
  .next (s.onDev bootIntervalEnd)

/-- RAIL_RETURN (R500). -/
def execRailReturn (r : Fin 6) (s : State) : Host.Outcome State Fault Refusal :=
  .next (s.onDev (railReturn r))

end Sys2Proof.Machine
end

