-- ==== Sys2Proof/Machine/RingCmds.lean ====
section
/-! DEFINITION. Meanings of commands: Service ring frames (R461 to R464, R485). Each command moves the device on; none stops. -/

namespace Sys2Proof.Machine

/-- RING_READ_32 (R463). -/
def execRingRead32 (pair : Fin 2) (c : RingCmd) (s : State) : Host.Outcome State Fault Refusal :=
  .next (s.onDev (ringRead32 pair c))

/-- RING_WRITE_32 (R463). -/
def execRingWrite32 (pair : Fin 2) (c : RingCmd) (s : State) : Host.Outcome State Fault Refusal :=
  .next (s.onDev (ringWrite32 pair c))

/-- RING_READ_64 (R485). -/
def execRingRead64 (pair : Fin 2) (c : RingCmd) (s : State) : Host.Outcome State Fault Refusal :=
  .next (s.onDev (ringRead64 pair c))

/-- RING_WRITE_64 (R485). -/
def execRingWrite64 (pair : Fin 2) (c : RingCmd) (s : State) : Host.Outcome State Fault Refusal :=
  .next (s.onDev (ringWrite64 pair c))

/-- RING_WRITE_BLOCK (R463). -/
def execRingWriteBlock (pair : Fin 2) (c : RingCmd) (s : State) : Host.Outcome State Fault Refusal :=
  .next (s.onDev (ringWriteBlock pair c))

/-- RESPONSE (R464). -/
def execRingResponse (pair : Fin 2) (r : RingCmd) (code : Fin 256) (s : State) : Host.Outcome State Fault Refusal :=
  .next (s.onDev (ringResponse pair r code))

/-- ALARM (R463). -/
def execRingAlarm (pair : Fin 2) (crcOk : Bool) (sw source hops : Nat) (s : State) : Host.Outcome State Fault Refusal :=
  .next (s.onDev (ringAlarm pair crcOk sw source hops))

end Sys2Proof.Machine
end

