-- ==== Sys2Proof/Machine/SherixCmds.lean ====
section
/-! DEFINITION. Meanings of commands: Sherix links (R162 to R201, R407). Each command moves the device on; none stops. -/

namespace Sys2Proof.Machine

/-- FLIT_RECEIVE (R171). -/
def execFlitReceive (p : Fin 72) (f : RawFlit) (s : State) : Host.Outcome State Fault Refusal :=
  .next (s.onDev (fun d => d.lanesIn (portTile p) (d.portLanes p) f.bytes (flitReceive p f)))

/-- FLIT_SEND (R162). -/
def execFlitSend (p : Fin 72) (s : State) : Host.Outcome State Fault Refusal :=
  .next (s.onDev (flitSend p))

/-- ACK_TIMER_EXPIRY (R176). -/
def execAckTimerExpiry (p : Fin 72) (s : State) : Host.Outcome State Fault Refusal :=
  .next (s.onDev (ackTimerExpiry p))

/-- CREDIT_RETURN_TIMEOUT (R183). -/
def execCreditReturnTimeout (p : Fin 72) (s : State) : Host.Outcome State Fault Refusal :=
  .next (s.onDev (creditReturnTimeout p))

/-- AUDIT (R185). -/
def execAudit (p : Fin 72) (a : AuditSample) (s : State) : Host.Outcome State Fault Refusal :=
  .next (s.onDev (audit p a))

/-- CONTAIN (R407). -/
def execContain (p : Fin 72) (m : Margin) (s : State) : Host.Outcome State Fault Refusal :=
  .next (s.onDev (contain p m))

/-- SWAP_PROPOSE (R196). -/
def execSwapPropose (p : Fin 72) (x spare handle : Nat) (s : State) : Host.Outcome State Fault Refusal :=
  .next (s.onDev (swapPropose p x spare handle))

/-- SWAP_REPLY (R196). -/
def execSwapReply (p : Fin 72) (x handle : Nat) (refused : Bool) (s : State) : Host.Outcome State Fault Refusal :=
  .next (s.onDev (swapReply p x handle refused))

/-- SWAP_MATCHED (R196). -/
def execSwapMatched (p : Fin 72) (x handle : Nat) (s : State) : Host.Outcome State Fault Refusal :=
  .next (s.onDev (swapMatched p x handle))

/-- SWAP_SELECTED (R196). -/
def execSwapSelected (p : Fin 72) (x spare handle : Nat) (s : State) : Host.Outcome State Fault Refusal :=
  .next (s.onDev (swapSelected p x spare handle))

/-- INIT (R192). -/
def execLinkInit (p : Fin 72) (sw port width rate rcvd : Nat) (s : State) : Host.Outcome State Fault Refusal :=
  .next (s.onDev (init p sw port width rate rcvd))

/-- INIT_GRANT (R192). -/
def execInitGrant (p : Fin 72) (half : Fin 2) (grants : List Nat) (s : State) : Host.Outcome State Fault Refusal :=
  .next (s.onDev (initGrant p half grants))

/-- WIDTH_REQ (R195). -/
def execWidthReq (p : Fin 72) (width rate handle : Nat) (s : State) : Host.Outcome State Fault Refusal :=
  .next (s.onDev (widthReq p width rate handle))

/-- WIDTH_ACK (R195). -/
def execWidthAck (p : Fin 72) (handle : Nat) (refused : Bool) (s : State) : Host.Outcome State Fault Refusal :=
  .next (s.onDev (widthAck p handle refused))

/-- MARGIN_REPEAT (R190). -/
def execMarginRepeat (p : Fin 72) (s : State) : Host.Outcome State Fault Refusal :=
  .next (s.onDev (marginRepeat p))

/-- EXCHANGE_TIMEOUT (R196). -/
def execExchangeTimeout (p : Fin 72) (s : State) : Host.Outcome State Fault Refusal :=
  .next (s.onDev (exchangeTimeout p))

/-- INIT_TIMEOUT (R192). -/
def execInitTimeout (p : Fin 72) (s : State) : Host.Outcome State Fault Refusal :=
  .next (s.onDev (initTimeout p))

/-- PEER_TIMEOUT (R197). -/
def execPeerTimeout (p : Fin 72) (s : State) : Host.Outcome State Fault Refusal :=
  .next (s.onDev (peerTimeout p))

/-- ADMIN_DOWN (R199). -/
def execAdminDown (p : CmdPort) (x : Fin 72) (b : Bool) (s : State) : Host.Outcome State Fault Refusal :=
  .next (s.onDev (adminDown p x b))

/-- HOLD_DOWN (R199). -/
def execHoldDown (p : CmdPort) (x : Fin 72) (b : Bool) (s : State) : Host.Outcome State Fault Refusal :=
  .next (s.onDev (holdDown p x b))

/-- TRAINING_RETRY (R199). -/
def execTrainingRetry (p : Fin 72) (s : State) : Host.Outcome State Fault Refusal :=
  .next (s.onDev (trainingRetry p))

end Sys2Proof.Machine
end

