-- ==== Sys2Proof/Machine/SidebandCmds.lean ====
section
/-! DEFINITION. Meanings of commands: The sideband (R460). Each command moves the device on; none stops. -/

namespace Sys2Proof.Machine

/-- SET_OFFSET (R460). -/
def execSbSetOffset (pecOk : Bool) (a : Nat) (s : State) : Host.Outcome State Fault Refusal :=
  .next (s.onDev (sbSetOffset pecOk a))

/-- READ (R460). -/
def execSbRead (pecOk : Bool) (s : State) : Host.Outcome State Fault Refusal :=
  .next (s.onDev (sbRead pecOk))

/-- WRITE (R460). -/
def execSbWrite (pecOk : Bool) (v : Nat) (s : State) : Host.Outcome State Fault Refusal :=
  .next (s.onDev (sbWrite pecOk v))

/-- WRITE_BLOCK (R460). -/
def execSbWriteBlock (pecOk : Bool) (bs : List Byte) (s : State) : Host.Outcome State Fault Refusal :=
  .next (s.onDev (sbWriteBlock pecOk bs))

/-- GET_STATUS (R460). -/
def execSbGetStatus (pecOk : Bool) (s : State) : Host.Outcome State Fault Refusal :=
  .next (s.onDev (sbGetStatus pecOk))

/-- SETDASA (R460). -/
def execSetdasa (a : Fin 128) (s : State) : Host.Outcome State Fault Refusal :=
  .next (s.onDev (setdasa a))

/-- ENTDAA (R460). -/
def execEntdaa (a : Fin 128) (s : State) : Host.Outcome State Fault Refusal :=
  .next (s.onDev (entdaa a))

/-- RSTDAA (R460). -/
def execRstdaa (s : State) : Host.Outcome State Fault Refusal :=
  .next (s.onDev rstdaa)

end Sys2Proof.Machine
end

