-- ==== Sys2Proof/Machine/SightingCmds.lean ====
section
/-! DEFINITION. Meanings of commands: The Sighting port (R472 to R476). Each command moves the device on; none stops. -/

namespace Sys2Proof.Machine

/-- POLL (R474). -/
def execSightPoll (r : SightReq) (s : State) : Host.Outcome State Fault Refusal :=
  .next (s.onDev (sightPoll r))

/-- IDCODE (R474). -/
def execSightIdcode (r : SightReq) (s : State) : Host.Outcome State Fault Refusal :=
  .next (s.onDev (sightIdcode r))

/-- CORE_STATUS (R474). -/
def execSightCoreStatus (r : SightReq) (s : State) : Host.Outcome State Fault Refusal :=
  .next (s.onDev (sightCoreStatus r))

/-- HALT (R476). -/
def execSightHalt (r : SightReq) (s : State) : Host.Outcome State Fault Refusal :=
  .next (s.onDev (sightHalt r))

/-- RESUME (R476). -/
def execSightResume (r : SightReq) (s : State) : Host.Outcome State Fault Refusal :=
  .next (s.onDev (sightResume r))

/-- STEP (R474). -/
def execSightStep (r : SightReq) (s : State) : Host.Outcome State Fault Refusal :=
  .next (s.onDev (sightStep r))

/-- REG_READ (R474). -/
def execSightRegRead (r : SightReq) (s : State) : Host.Outcome State Fault Refusal :=
  .next (s.onDev (sightRegRead r))

/-- REG_WRITE (R474). -/
def execSightRegWrite (r : SightReq) (s : State) : Host.Outcome State Fault Refusal :=
  .next (s.onDev (sightRegWrite r))

/-- TCM_READ (R474). -/
def execSightTcmRead (r : SightReq) (s : State) : Host.Outcome State Fault Refusal :=
  .next (s.onDev (sightTcmRead r))

/-- TCM_WRITE (R474). -/
def execSightTcmWrite (r : SightReq) (s : State) : Host.Outcome State Fault Refusal :=
  .next (s.onDev (sightTcmWrite r))

/-- BREAK (R474). -/
def execSightBreak (r : SightReq) (s : State) : Host.Outcome State Fault Refusal :=
  .next (s.onDev (sightBreak r))

/-- WATCH (R474). -/
def execSightWatch (r : SightReq) (s : State) : Host.Outcome State Fault Refusal :=
  .next (s.onDev (sightWatch r))

/-- BAR_READ (R474). -/
def execSightBarRead (r : SightReq) (s : State) : Host.Outcome State Fault Refusal :=
  .next (s.onDev (sightBarRead r))

/-- BAR_WRITE (R474). -/
def execSightBarWrite (r : SightReq) (s : State) : Host.Outcome State Fault Refusal :=
  .next (s.onDev (sightBarWrite r))

/-- MEM_READ (R474). -/
def execSightMemRead (r : SightReq) (s : State) : Host.Outcome State Fault Refusal :=
  .next (s.onDev (sightMemRead r))

/-- MEM_WRITE (R474). -/
def execSightMemWrite (r : SightReq) (s : State) : Host.Outcome State Fault Refusal :=
  .next (s.onDev (sightMemWrite r))

/-- BREAKPOINT_HIT (R476). -/
def execBreakpointHit (c : Fin 5) (watch : Bool) (idx : Fin 8) (s : State) : Host.Outcome State Fault Refusal :=
  .next (s.onDev (breakpointHit c watch idx))

end Sys2Proof.Machine
end

