-- ==== Sys2Proof/Machine/SwitchCmds.lean ====
section
/-! DEFINITION. Meanings of commands: The switch core and the Graticule (R254 to R267). Each command moves the device on; none stops. -/

namespace Sys2Proof.Machine

/-- CELL_TIME (R254). -/
def execCellTime (s : State) : Host.Outcome State Fault Refusal :=
  .next (s.onDev cellTime)

/-- CELL_ARRIVAL (R257). -/
def execCellArrival (key seq : Nat) (good : Bool) (s : State) : Host.Outcome State Fault Refusal :=
  .next (s.onDev (cellArrival key seq good))

/-- CELL_CONFIRM (R257). -/
def execCellConfirm (key seq : Nat) (s : State) : Host.Outcome State Fault Refusal :=
  .next (s.onDev (cellConfirm key seq))

/-- CONFIRM_TIMEOUT (R257). -/
def execConfirmTimeout (key seq : Nat) (s : State) : Host.Outcome State Fault Refusal :=
  .next (s.onDev (confirmTimeout key seq))

/-- PLANE_REMOVED (R258). -/
def execPlaneRemoved (k : Fin 9) (s : State) : Host.Outcome State Fault Refusal :=
  .next (s.onDev (planeRemoved k))

/-- AGEING_SCAN (R264). -/
def execAgeingScan (t : Fin 9) (s : State) : Host.Outcome State Fault Refusal :=
  .next (s.onDev (ageingScan t))

end Sys2Proof.Machine
end

