-- ==== Sys2Proof/Machine/TallyCmds.lean ====
section
/-! DEFINITION. Meanings of commands: Tally reductions (R329 to R349). Each command moves the device on; none stops. -/

namespace Sys2Proof.Machine

/-- TALLY_CONTRIBUTION (R331). -/
def execTallyContribution (n : Fin 4097) (slot : Fin 16) (off : Nat) (bytes : List Byte) (be poisoned : Bool) (s : State) : Host.Outcome State Fault Refusal :=
  .next (s.onDev (tallyContribution n slot off bytes be poisoned))

/-- PARTIAL (R338). -/
def execTallyPartial (f : FPkt) (s : State) : Host.Outcome State Fault Refusal :=
  .next (s.onDev (partialPacket f))

/-- DONE (R338). -/
def execTallyDone (f : FPkt) (s : State) : Host.Outcome State Fault Refusal :=
  .next (s.onDev (donePacket f))

/-- RESULT (R340). -/
def execTallyResult (f : FPkt) (s : State) : Host.Outcome State Fault Refusal :=
  .next (s.onDev (resultPacket f))

/-- ABORT (R343). -/
def execTallyAbort (f : FPkt) (s : State) : Host.Outcome State Fault Refusal :=
  .next (s.onDev (abortPacket f))

/-- ROUND_PACKED (R337). -/
def execRoundPacked (c : Fin 4096) (s : State) : Host.Outcome State Fault Refusal :=
  .next (s.onDev (roundPacked c))

/-- ROUND_DELIVERED (R340). -/
def execRoundDelivered (c : Fin 4096) (s : State) : Host.Outcome State Fault Refusal :=
  .next (s.onDev (roundDelivered c))

/-- ROUND_TIMEOUT (R345). -/
def execRoundTimeout (c : Fin 4096) (s : State) : Host.Outcome State Fault Refusal :=
  .next (s.onDev (roundTimeout c))

/-- RESULT_TIMEOUT (R345). -/
def execResultTimeout (c : Fin 4096) (s : State) : Host.Outcome State Fault Refusal :=
  .next (s.onDev (resultTimeout c))

/-- TALLY_COMMIT (R347). -/
def execTallyCommit (p : CmdPort) (c : Fin 4096) (s : State) : Host.Outcome State Fault Refusal :=
  .next (s.onDev (tallyCommitWrite p c))

/-- LEDGER_CLEAR_DONE (R347). -/
def execLedgerClearDone (c : Fin 4096) (s : State) : Host.Outcome State Fault Refusal :=
  .next (s.onDev (ledgerClearDone c))

end Sys2Proof.Machine
end

