-- ==== Sys2Proof/Machine/TapCmds.lean ====
section
/-! DEFINITION. Meanings of commands: The test access port (R512). Each command moves the device on; none stops. -/

namespace Sys2Proof.Machine

/-- BYPASS (R512). -/
def execTapBypass (s : State) : Host.Outcome State Fault Refusal :=
  .next (s.onDev tapBypass)

/-- SAMPLE_PRELOAD (R512). -/
def execTapSamplePreload (cells : Nat) (s : State) : Host.Outcome State Fault Refusal :=
  .next (s.onDev (tapSamplePreload cells))

/-- EXTEST (R512). -/
def execTapExtest (s : State) : Host.Outcome State Fault Refusal :=
  .next (s.onDev tapExtest)

/-- EXTEST_PULSE (R512). -/
def execTapExtestPulse (s : State) : Host.Outcome State Fault Refusal :=
  .next (s.onDev tapExtestPulse)

/-- EXTEST_TRAIN (R512). -/
def execTapExtestTrain (s : State) : Host.Outcome State Fault Refusal :=
  .next (s.onDev tapExtestTrain)

/-- HIGHZ (R512). -/
def execTapHighz (s : State) : Host.Outcome State Fault Refusal :=
  .next (s.onDev tapHighz)

end Sys2Proof.Machine
end

