-- ==== Sys2Proof/Machine/TickCmds.lean ====
section
/-! DEFINITION. Meanings of commands: The survey tick and the step budgets (R100 to R117). Each command moves the device on; none stops. -/

namespace Sys2Proof.Machine

/-- TICK_BOUNDARY (R115). -/
def execTickBoundary (s : State) : Host.Outcome State Fault Refusal :=
  .next (s.onDev tickBoundary)

/-- TICK_MARK_SEND (R103). -/
def execTickMarkSend (s : State) : Host.Outcome State Fault Refusal :=
  .next (s.onDev tickMarkSend)

/-- TICK_MARK (R104). -/
def execTickMark (idx : Nat) (m : Mark) (time : Nat) (s : State) : Host.Outcome State Fault Refusal :=
  .next (s.onDev (tickMark idx m time))

/-- TICK_IN_EDGE (R109). -/
def execTickInEdge (time : Nat) (s : State) : Host.Outcome State Fault Refusal :=
  .next (s.onDev (tickInEdge time))

/-- TICK_IN_MISSED (R109). -/
def execTickInMissed (s : State) : Host.Outcome State Fault Refusal :=
  .next (s.onDev tickInMissed)

/-- DELAY_EXCHANGE (R106). -/
def execDelayExchange (s : State) : Host.Outcome State Fault Refusal :=
  .next (s.onDev delayExchange)

/-- DELAY_REQ (R106). -/
def execDelayReq (idx id time : Nat) (s : State) : Host.Outcome State Fault Refusal :=
  .next (s.onDev (delayReq idx id time))

/-- DELAY_RESP (R106). -/
def execDelayResp (idx id t3t2 time : Nat) (s : State) : Host.Outcome State Fault Refusal :=
  .next (s.onDev (delayResp idx id t3t2 time))

/-- PARENT_CHANGE (R104). -/
def execParentChange (s : State) : Host.Outcome State Fault Refusal :=
  .next (s.onDev parentChange)

/-- ACQUIRING_TIMEOUT (R109). -/
def execAcquiringTimeout (s : State) : Host.Outcome State Fault Refusal :=
  .next (s.onDev acquiringTimeout)

/-- HOLDOVER_TIMEOUT (R109). -/
def execHoldoverTimeout (s : State) : Host.Outcome State Fault Refusal :=
  .next (s.onDev holdoverTimeout)

/-- TICK_NUMBER_LOAD (R108). -/
def execTickNumberLoad (p : CmdPort) (v : DWord) (s : State) : Host.Outcome State Fault Refusal :=
  .next (s.onDev (tickNumberLoad p v))

/-- BUDGET_END (R117). -/
def execBudgetEnd (c : Fin 5) (overrun : Nat) (s : State) : Host.Outcome State Fault Refusal :=
  .next (s.onDev (budgetEnd c overrun))

end Sys2Proof.Machine
end

