-- ==== Sys2Proof/Machine/TravCmds.lean ====
section
/-! DEFINITION. Meanings of commands: Traverse queues and engines (R357 to R371). Each command moves the device on; none stops. -/

namespace Sys2Proof.Machine

/-- QUEUE_ENABLE (R359). -/
def execQueueEnable (n : Fin 4097) (k : Fin 2048) (s : State) : Host.Outcome State Fault Refusal :=
  .next (s.onDev (queueEnableRow n k))

/-- QUEUE_DISABLE (R360). -/
def execQueueDisable (n : Fin 4097) (k : Fin 2048) (s : State) : Host.Outcome State Fault Refusal :=
  .next (s.onDev (queueDisableRow n k))

/-- QUEUE_RESUME (R360). -/
def execQueueResume (n : Fin 4097) (k : Fin 2048) (s : State) : Host.Outcome State Fault Refusal :=
  .next (s.onDev (queueResumeRow n k))

/-- SQ_TAIL (R360). -/
def execSqTail (n : Fin 4097) (k : Fin 2048) (v : Word) (s : State) : Host.Outcome State Fault Refusal :=
  .next (s.onDev (sqTailRow n k v))

/-- CQ_HEAD (R360). -/
def execCqHead (n : Fin 4097) (k : Fin 2048) (v : Word) (s : State) : Host.Outcome State Fault Refusal :=
  .next (s.onDev (cqHeadRow n k v))

/-- QUEUE_BIND (R363). -/
def execQueueBind (s : State) : Host.Outcome State Fault Refusal :=
  .next (s.onDev queueBind)

/-- ENGINE_SEGMENT (R363). -/
def execEngineSegment (e : Fin 8) (s : State) : Host.Outcome State Fault Refusal :=
  .next (s.onDev (engineSegment e))

/-- ENGINE_READ_COMPLETION (R365). -/
def execEngineReadCompletion (slot : Fin 8192) (gen : Nat) (bytes : List Byte) (status : Fin 8) (poisoned : Bool) (s : State) : Host.Outcome State Fault Refusal :=
  .next (s.onDev (engineReadCompletion slot gen bytes status poisoned))

/-- ENGINE_READ_TIMEOUT (R365). -/
def execEngineReadTimeout (slot : Fin 8192) (s : State) : Host.Outcome State Fault Refusal :=
  .next (s.onDev (engineReadTimeout slot))

/-- VECTOR_PENDING_SEND (R371). -/
def execVectorPendingSend (n : Fin 4097) (vec : Fin 2048) (s : State) : Host.Outcome State Fault Refusal :=
  .next (s.onDev (vectorPendingSend n vec))

end Sys2Proof.Machine
end

