-- ==== Sys2Proof/Machine/Dispatch.lean ====
section
/-! DEFINITION. Dispatch: one arm per command. -/

namespace Sys2Proof.Machine

/-- The effect of a command. -/
def exec (i : Instr) (s : State) : Host.Outcome State Fault Refusal :=
  match i with
  | .registerWrite p a size full v => Sys2Proof.Machine.execRegisterWrite p a size full v s
  | .writeLowHalf p a v => Sys2Proof.Machine.execWriteLowHalf p a v s
  | .writeHighHalf p a v => Sys2Proof.Machine.execWriteHighHalf p a v s
  | .readLowHalf p a => Sys2Proof.Machine.execReadLowHalf p a s
  | .rcRead p a => Sys2Proof.Machine.execRcRead p a s
  | .pwrgdRise => Sys2Proof.Machine.execPwrgdRise s
  | .pwrgdFall => Sys2Proof.Machine.execPwrgdFall s
  | .rstNFall => Sys2Proof.Machine.execRstNFall s
  | .rstNRise straps => Sys2Proof.Machine.execRstNRise straps s
  | .perstNFall t => Sys2Proof.Machine.execPerstNFall t s
  | .perstNRise t straps => Sys2Proof.Machine.execPerstNRise t straps s
  | .powerHoldEnd straps => Sys2Proof.Machine.execPowerHoldEnd straps s
  | .deviceReset p v => Sys2Proof.Machine.execDeviceReset p v s
  | .deviceResetEnd straps => Sys2Proof.Machine.execDeviceResetEnd straps s
  | .srBypassOpen => Sys2Proof.Machine.execSrBypassOpen s
  | .m1Entry => Sys2Proof.Machine.execM1Entry s
  | .railLow r => Sys2Proof.Machine.execRailLow r s
  | .bypassSwitched t8 => Sys2Proof.Machine.execBypassSwitched t8 s
  | .t8Close p => Sys2Proof.Machine.execT8Close p s
  | .t8Open p => Sys2Proof.Machine.execT8Open p s
  | .bootIntervalEnd => Sys2Proof.Machine.execBootIntervalEnd s
  | .railReturn r => Sys2Proof.Machine.execRailReturn r s
  | .platStart p => Sys2Proof.Machine.execPlatStart p s
  | .platBufferWrite p off v => Sys2Proof.Machine.execPlatBufferWrite p off v s
  | .chunkHandover p len => Sys2Proof.Machine.execChunkHandover p len s
  | .bufferFree => Sys2Proof.Machine.execBufferFree s
  | .platEnd p => Sys2Proof.Machine.execPlatEnd p s
  | .platAbort p => Sys2Proof.Machine.execPlatAbort p s
  | .platAccepted => Sys2Proof.Machine.execPlatAccepted s
  | .clearingDone => Sys2Proof.Machine.execClearingDone s
  | .claimTimeout => Sys2Proof.Machine.execClaimTimeout s
  | .streamTimeout => Sys2Proof.Machine.execStreamTimeout s
  | .bootPortRelease => Sys2Proof.Machine.execBootPortRelease s
  | .runStateActivate => Sys2Proof.Machine.execRunStateActivate s
  | .coresStart => Sys2Proof.Machine.execCoresStart s
  | .runModeEntered => Sys2Proof.Machine.execRunModeEntered s
  | .needPlatRepeat => Sys2Proof.Machine.execNeedPlatRepeat s
  | .needPlat pair part rev => Sys2Proof.Machine.execNeedPlat pair part rev s
  | .offer pair imageId length target minRev => Sys2Proof.Machine.execOffer pair imageId length target minRev s
  | .accept pair imageId => Sys2Proof.Machine.execAccept pair imageId s
  | .decline pair imageId => Sys2Proof.Machine.execDecline pair imageId s
  | .offerWithdraw side => Sys2Proof.Machine.execOfferWithdraw side s
  | .neighbourData pair offset body => Sys2Proof.Machine.execNeighbourData pair offset body s
  | .chunkAck pair offset => Sys2Proof.Machine.execChunkAck pair offset s
  | .neighbourDone pair offset => Sys2Proof.Machine.execNeighbourDone pair offset s
  | .neighbourResult pair state code sec => Sys2Proof.Machine.execNeighbourResult pair state code sec s
  | .tickBoundary => Sys2Proof.Machine.execTickBoundary s
  | .tickMarkSend => Sys2Proof.Machine.execTickMarkSend s
  | .tickMark idx m time => Sys2Proof.Machine.execTickMark idx m time s
  | .tickInEdge time => Sys2Proof.Machine.execTickInEdge time s
  | .tickInMissed => Sys2Proof.Machine.execTickInMissed s
  | .delayExchange => Sys2Proof.Machine.execDelayExchange s
  | .delayReq idx id time => Sys2Proof.Machine.execDelayReq idx id time s
  | .delayResp idx id t3t2 time => Sys2Proof.Machine.execDelayResp idx id t3t2 time s
  | .parentChange => Sys2Proof.Machine.execParentChange s
  | .acquiringTimeout => Sys2Proof.Machine.execAcquiringTimeout s
  | .holdoverTimeout => Sys2Proof.Machine.execHoldoverTimeout s
  | .tickNumberLoad p v => Sys2Proof.Machine.execTickNumberLoad p v s
  | .budgetEnd c overrun => Sys2Proof.Machine.execBudgetEnd c overrun s
  | .jobStep inp => Sys2Proof.Machine.execJobStep inp s
  | .gazetteerLoad p => Sys2Proof.Machine.execGazetteerLoad p s
  | .bearingLoad p => Sys2Proof.Machine.execBearingLoad p s
  | .boundaryLoad p => Sys2Proof.Machine.execBoundaryLoad p s
  | .functionReset p => Sys2Proof.Machine.execFunctionReset p s
  | .laneSwap p => Sys2Proof.Machine.execLaneSwap p s
  | .pllSwap p => Sys2Proof.Machine.execPllSwap p s
  | .planeSwap p => Sys2Proof.Machine.execPlaneSwap p s
  | .sramRowSwap p => Sys2Proof.Machine.execSramRowSwap p s
  | .scrub p => Sys2Proof.Machine.execScrub p s
  | .linkRetrain p => Sys2Proof.Machine.execLinkRetrain p s
  | .widthSpeedChange p => Sys2Proof.Machine.execWidthSpeedChange p s
  | .jobCancel p k handle => Sys2Proof.Machine.execJobCancel p k handle s
  | .jobRelease p k handle => Sys2Proof.Machine.execJobRelease p k handle s
  | .signalDetect t n => Sys2Proof.Machine.execSignalDetect t n s
  | .cdrLock t n => Sys2Proof.Machine.execCdrLock t n s
  | .blockLock t n heads loads => Sys2Proof.Machine.execBlockLock t n heads loads s
  | .blockLockLoss t x => Sys2Proof.Machine.execBlockLockLoss t x s
  | .trainingTimeout t n => Sys2Proof.Machine.execTrainingTimeout t n s
  | .fomWindowEnd t n eye spacing w => Sys2Proof.Machine.execFomWindowEnd t n eye spacing w s
  | .train t n b => Sys2Proof.Machine.execTrain t n b s
  | .alignBurst p a => Sys2Proof.Machine.execAlignBurst p a s
  | .swapRequest p b => Sys2Proof.Machine.execSwapRequest p b s
  | .swapAcknowledge p b => Sys2Proof.Machine.execSwapAcknowledge p b s
  | .mirrorMatch p offset => Sys2Proof.Machine.execMirrorMatch p offset s
  | .pllLockLoss t pll => Sys2Proof.Machine.execPllLockLoss t pll s
  | .eqCommit p t n => Sys2Proof.Machine.execEqCommit p t n s
  | .loop p t n v => Sys2Proof.Machine.execLoop p t n v s
  | .prbsCtrl p t n v => Sys2Proof.Machine.execPrbsCtrl p t n v s
  | .prbsLock t x => Sys2Proof.Machine.execPrbsLock t x s
  | .prbsLockLoss t n x => Sys2Proof.Machine.execPrbsLockLoss t n x s
  | .marginGo p t n v => Sys2Proof.Machine.execMarginGo p t n v s
  | .marginDone t n errors => Sys2Proof.Machine.execMarginDone t n errors s
  | .pcieMarginCommand t x => Sys2Proof.Machine.execPcieMarginCommand t x s
  | .flitReceive p f => Sys2Proof.Machine.execFlitReceive p f s
  | .flitSend p => Sys2Proof.Machine.execFlitSend p s
  | .ackTimerExpiry p => Sys2Proof.Machine.execAckTimerExpiry p s
  | .creditReturnTimeout p => Sys2Proof.Machine.execCreditReturnTimeout p s
  | .audit p a => Sys2Proof.Machine.execAudit p a s
  | .contain p m => Sys2Proof.Machine.execContain p m s
  | .swapPropose p x spare handle => Sys2Proof.Machine.execSwapPropose p x spare handle s
  | .swapReply p x handle refused => Sys2Proof.Machine.execSwapReply p x handle refused s
  | .swapMatched p x handle => Sys2Proof.Machine.execSwapMatched p x handle s
  | .swapSelected p x spare handle => Sys2Proof.Machine.execSwapSelected p x spare handle s
  | .linkInit p sw port width rate rcvd => Sys2Proof.Machine.execLinkInit p sw port width rate rcvd s
  | .initGrant p half grants => Sys2Proof.Machine.execInitGrant p half grants s
  | .widthReq p width rate handle => Sys2Proof.Machine.execWidthReq p width rate handle s
  | .widthAck p handle refused => Sys2Proof.Machine.execWidthAck p handle refused s
  | .marginRepeat p => Sys2Proof.Machine.execMarginRepeat p s
  | .exchangeTimeout p => Sys2Proof.Machine.execExchangeTimeout p s
  | .initTimeout p => Sys2Proof.Machine.execInitTimeout p s
  | .peerTimeout p => Sys2Proof.Machine.execPeerTimeout p s
  | .adminDown p x b => Sys2Proof.Machine.execAdminDown p x b s
  | .holdDown p x b => Sys2Proof.Machine.execHoldDown p x b s
  | .trainingRetry p => Sys2Proof.Machine.execTrainingRetry p s
  | .tlpReceive p t => Sys2Proof.Machine.execTlpReceive p t s
  | .tlpTransmit x => Sys2Proof.Machine.execTlpTransmit x s
  | .configRequest q t => Sys2Proof.Machine.execConfigRequest q t s
  | .functionLevelReset x => Sys2Proof.Machine.execFunctionLevelReset x s
  | .vfEnable q num en => Sys2Proof.Machine.execVfEnable q num en s
  | .hotReset p => Sys2Proof.Machine.execHotReset p s
  | .dlDown p => Sys2Proof.Machine.execDlDown p s
  | .dlActive p rate width retimers flit scaled => Sys2Proof.Machine.execDlActive p rate width retimers flit scaled s
  | .bmeDrainClear => Sys2Proof.Machine.execBmeDrainClear s
  | .dpcSwTrigger p x => Sys2Proof.Machine.execDpcSwTrigger p x s
  | .dpcRelease p x => Sys2Proof.Machine.execDpcRelease p x s
  | .presenceLost p => Sys2Proof.Machine.execPresenceLost p s
  | .shareAssignCommit p x => Sys2Proof.Machine.execShareAssignCommit p x s
  | .shareWindowsCommit p x => Sys2Proof.Machine.execShareWindowsCommit p x s
  | .pcfgAccess p x v => Sys2Proof.Machine.execPcfgAccess p x v s
  | .pcfgComplete p status data => Sys2Proof.Machine.execPcfgComplete p status data s
  | .pcfgTimeout p => Sys2Proof.Machine.execPcfgTimeout p s
  | .pcieAdminDown p x b => Sys2Proof.Machine.execPcieAdminDown p x b s
  | .pcieHoldDown p x b => Sys2Proof.Machine.execPcieHoldDown p x b s
  | .aerHdrAdvance p x => Sys2Proof.Machine.execAerHdrAdvance p x s
  | .msixPendingSend q vec => Sys2Proof.Machine.execMsixPendingSend q vec s
  | .ptmRequest p t => Sys2Proof.Machine.execPtmRequest p t s
  | .errorMessage p t => Sys2Proof.Machine.execErrorMessage p t s
  | .receiverDetection p => Sys2Proof.Machine.execReceiverDetection p s
  | .cellTime => Sys2Proof.Machine.execCellTime s
  | .cellArrival key seq good => Sys2Proof.Machine.execCellArrival key seq good s
  | .cellConfirm key seq => Sys2Proof.Machine.execCellConfirm key seq s
  | .confirmTimeout key seq => Sys2Proof.Machine.execConfirmTimeout key seq s
  | .planeRemoved k => Sys2Proof.Machine.execPlaneRemoved k s
  | .ageingScan t => Sys2Proof.Machine.execAgeingScan t s
  | .fabricPacketReceive p f => Sys2Proof.Machine.execFabricPacketReceive p f s
  | .flowHoldExpiry sw tc cls => Sys2Proof.Machine.execFlowHoldExpiry sw tc cls s
  | .returnHoldEnd p => Sys2Proof.Machine.execReturnHoldEnd p s
  | .windowsCommit p => Sys2Proof.Machine.execWindowsCommit p s
  | .gazetteerCommit p => Sys2Proof.Machine.execGazetteerCommit p s
  | .bearingCommit p => Sys2Proof.Machine.execBearingCommit p s
  | .routingIdCommit p => Sys2Proof.Machine.execRoutingIdCommit p s
  | .fabricCompletion f => Sys2Proof.Machine.execFabricCompletion f s
  | .bridgeSlotTimeout t k => Sys2Proof.Machine.execBridgeSlotTimeout t k s
  | .bridgeSlotReuse t k => Sys2Proof.Machine.execBridgeSlotReuse t k s
  | .rbRead p wide => Sys2Proof.Machine.execRbRead p wide s
  | .rbWrite p wide => Sys2Proof.Machine.execRbWrite p wide s
  | .regRequest f => Sys2Proof.Machine.execRegRequest f s
  | .regResponse f => Sys2Proof.Machine.execRegResponse f s
  | .rbTimeout p => Sys2Proof.Machine.execRbTimeout p s
  | .tallyContribution n slot off bytes be poisoned => Sys2Proof.Machine.execTallyContribution n slot off bytes be poisoned s
  | .tallyPartial f => Sys2Proof.Machine.execTallyPartial f s
  | .tallyDone f => Sys2Proof.Machine.execTallyDone f s
  | .tallyResult f => Sys2Proof.Machine.execTallyResult f s
  | .tallyAbort f => Sys2Proof.Machine.execTallyAbort f s
  | .roundPacked c => Sys2Proof.Machine.execRoundPacked c s
  | .roundDelivered c => Sys2Proof.Machine.execRoundDelivered c s
  | .roundTimeout c => Sys2Proof.Machine.execRoundTimeout c s
  | .resultTimeout c => Sys2Proof.Machine.execResultTimeout c s
  | .tallyCommit p c => Sys2Proof.Machine.execTallyCommit p c s
  | .ledgerClearDone c => Sys2Proof.Machine.execLedgerClearDone c s
  | .queueEnable n k => Sys2Proof.Machine.execQueueEnable n k s
  | .queueDisable n k => Sys2Proof.Machine.execQueueDisable n k s
  | .queueResume n k => Sys2Proof.Machine.execQueueResume n k s
  | .sqTail n k v => Sys2Proof.Machine.execSqTail n k v s
  | .cqHead n k v => Sys2Proof.Machine.execCqHead n k v s
  | .queueBind => Sys2Proof.Machine.execQueueBind s
  | .engineSegment e => Sys2Proof.Machine.execEngineSegment e s
  | .engineReadCompletion slot gen bytes status poisoned => Sys2Proof.Machine.execEngineReadCompletion slot gen bytes status poisoned s
  | .engineReadTimeout slot => Sys2Proof.Machine.execEngineReadTimeout slot s
  | .vectorPendingSend n vec => Sys2Proof.Machine.execVectorPendingSend n vec s
  | .boundaryCommit p table => Sys2Proof.Machine.execBoundaryCommit p table s
  | .faultDetect f => Sys2Proof.Machine.execFaultDetect f s
  | .containTrigger p kind id => Sys2Proof.Machine.execContainTrigger p kind id s
  | .triggerDelivery stop => Sys2Proof.Machine.execTriggerDelivery stop s
  | .containRestore p k => Sys2Proof.Machine.execContainRestore p k s
  | .transitScan => Sys2Proof.Machine.execTransitScan s
  | .quarantineEnd idx => Sys2Proof.Machine.execQuarantineEnd idx s
  | .spareWindowEnd kind => Sys2Proof.Machine.execSpareWindowEnd kind s
  | .patrolScrub m row bad => Sys2Proof.Machine.execPatrolScrub m row bad s
  | .datapathPllLoss ref => Sys2Proof.Machine.execDatapathPllLoss ref s
  | .regAccessTimeout p a write => Sys2Proof.Machine.execRegAccessTimeout p a write s
  | .watchdogExpiry c => Sys2Proof.Machine.execWatchdogExpiry c s
  | .readyTimeout c => Sys2Proof.Machine.execReadyTimeout c s
  | .coreException c memory => Sys2Proof.Machine.execCoreException c memory s
  | .takeoverImageLoaded => Sys2Proof.Machine.execTakeoverImageLoaded s
  | .coreKick c v => Sys2Proof.Machine.execCoreKick c v s
  | .coreEvent c n => Sys2Proof.Machine.execCoreEvent c n s
  | .coreLog c v => Sys2Proof.Machine.execCoreLog c v s
  | .cairnStore => Sys2Proof.Machine.execCairnStore s
  | .cairnClear p v => Sys2Proof.Machine.execCairnClear p v s
  | .clearDone => Sys2Proof.Machine.execClearDone s
  | .slotLatch p idx => Sys2Proof.Machine.execSlotLatch p idx s
  | .bbRecordLatch p => Sys2Proof.Machine.execBbRecordLatch p s
  | .bbCursorAdvance p => Sys2Proof.Machine.execBbCursorAdvance p s
  | .faultLogAdvance p cor => Sys2Proof.Machine.execFaultLogAdvance p cor s
  | .bbFreeze p => Sys2Proof.Machine.execBbFreeze p s
  | .bbUnfreeze p => Sys2Proof.Machine.execBbUnfreeze p s
  | .eventStatusClear p w v => Sys2Proof.Machine.execEventStatusClear p w v s
  | .evtPulseEnd n => Sys2Proof.Machine.execEvtPulseEnd n s
  | .cntCommit p k => Sys2Proof.Machine.execCntCommit p k s
  | .cntCommitAll p => Sys2Proof.Machine.execCntCommitAll p s
  | .cntHold p => Sys2Proof.Machine.execCntHold p s
  | .cntRelease p => Sys2Proof.Machine.execCntRelease p s
  | .snapHoldExpired p => Sys2Proof.Machine.execSnapHoldExpired p s
  | .counterWrap k => Sys2Proof.Machine.execCounterWrap k s
  | .sbSetOffset pecOk a => Sys2Proof.Machine.execSbSetOffset pecOk a s
  | .sbRead pecOk => Sys2Proof.Machine.execSbRead pecOk s
  | .sbWrite pecOk v => Sys2Proof.Machine.execSbWrite pecOk v s
  | .sbWriteBlock pecOk bs => Sys2Proof.Machine.execSbWriteBlock pecOk bs s
  | .sbGetStatus pecOk => Sys2Proof.Machine.execSbGetStatus pecOk s
  | .setdasa a => Sys2Proof.Machine.execSetdasa a s
  | .entdaa a => Sys2Proof.Machine.execEntdaa a s
  | .rstdaa => Sys2Proof.Machine.execRstdaa s
  | .ringRead32 pair c => Sys2Proof.Machine.execRingRead32 pair c s
  | .ringWrite32 pair c => Sys2Proof.Machine.execRingWrite32 pair c s
  | .ringRead64 pair c => Sys2Proof.Machine.execRingRead64 pair c s
  | .ringWrite64 pair c => Sys2Proof.Machine.execRingWrite64 pair c s
  | .ringWriteBlock pair c => Sys2Proof.Machine.execRingWriteBlock pair c s
  | .ringResponse pair r code => Sys2Proof.Machine.execRingResponse pair r code s
  | .ringAlarm pair crcOk sw source hops => Sys2Proof.Machine.execRingAlarm pair crcOk sw source hops s
  | .sightPoll r => Sys2Proof.Machine.execSightPoll r s
  | .sightIdcode r => Sys2Proof.Machine.execSightIdcode r s
  | .sightCoreStatus r => Sys2Proof.Machine.execSightCoreStatus r s
  | .sightHalt r => Sys2Proof.Machine.execSightHalt r s
  | .sightResume r => Sys2Proof.Machine.execSightResume r s
  | .sightStep r => Sys2Proof.Machine.execSightStep r s
  | .sightRegRead r => Sys2Proof.Machine.execSightRegRead r s
  | .sightRegWrite r => Sys2Proof.Machine.execSightRegWrite r s
  | .sightTcmRead r => Sys2Proof.Machine.execSightTcmRead r s
  | .sightTcmWrite r => Sys2Proof.Machine.execSightTcmWrite r s
  | .sightBreak r => Sys2Proof.Machine.execSightBreak r s
  | .sightWatch r => Sys2Proof.Machine.execSightWatch r s
  | .sightBarRead r => Sys2Proof.Machine.execSightBarRead r s
  | .sightBarWrite r => Sys2Proof.Machine.execSightBarWrite r s
  | .sightMemRead r => Sys2Proof.Machine.execSightMemRead r s
  | .sightMemWrite r => Sys2Proof.Machine.execSightMemWrite r s
  | .breakpointHit c watch idx => Sys2Proof.Machine.execBreakpointHit c watch idx s
  | .tapBypass => Sys2Proof.Machine.execTapBypass s
  | .tapSamplePreload cells => Sys2Proof.Machine.execTapSamplePreload cells s
  | .tapExtest => Sys2Proof.Machine.execTapExtest s
  | .tapExtestPulse => Sys2Proof.Machine.execTapExtestPulse s
  | .tapExtestTrain => Sys2Proof.Machine.execTapExtestTrain s
  | .tapHighz => Sys2Proof.Machine.execTapHighz s

end Sys2Proof.Machine
end

