-- ==== Sys2Proof/Safety.lean ====
section
/-! DEFINITION. What counts as a safe run, in the terms that the statements use. The block has no step that stops: a safe
step answers a next state, and changes only the blocks of the device that the command may change. -/

namespace Sys2Proof.Machine

/-- The blocks of the device, one per field of `Dev` that the spec gives the machine; the clock, the record of what left
the block and the count of free values drawn are the model's own and belong to no block. -/
inductive Block where
  | part | mode | plat | run | nb | tick | jobs | cores | port | sight | bus | pkg | pcie | ln | sw | tally | trav | fab
  | bnd | cont | commits | cairn | evt | cnt
deriving DecidableEq, Repr

/-- Every block. -/
def Block.all : List Block :=
  [.part, .mode, .plat, .run, .nb, .tick, .jobs, .cores, .port, .sight, .bus, .pkg, .pcie, .ln, .sw, .tally, .trav, .fab,
    .bnd, .cont, .commits, .cairn, .evt, .cnt]

/-- Two devices agree on a block. -/
def Block.same (b : Block) (d e : Dev) : Prop :=
  match b with
  | .part => e.part = d.part
  | .mode => e.mode = d.mode
  | .plat => e.plat = d.plat
  | .run => e.run = d.run
  | .nb => e.nb = d.nb
  | .tick => e.tick = d.tick
  | .jobs => e.jobs = d.jobs
  | .cores => e.cores = d.cores
  | .port => e.port = d.port
  | .sight => e.sight = d.sight
  | .bus => e.bus = d.bus
  | .pkg => e.pkg = d.pkg
  | .pcie => e.pcie = d.pcie
  | .ln => e.ln = d.ln
  | .sw => e.sw = d.sw
  | .tally => e.tally = d.tally
  | .trav => e.trav = d.trav
  | .fab => e.fab = d.fab
  | .bnd => e.bnd = d.bnd
  | .cont => e.cont = d.cont
  | .commits => e.commits = d.commits
  | .cairn => e.cairn = d.cairn
  | .evt => e.evt = d.evt
  | .cnt => e.cnt = d.cnt

/-- `e` agrees with `d` on every block but those of `bs`. -/
def SameBut (bs : List Block) (d e : Dev) : Prop := ∀ b : Block, b ∉ bs → b.same d e

/-- The command answers a next state, leaves the queue alone, and the device after it is as `P` says. -/
def Gives (c : Instr) (s : State) (P : Dev → Prop) : Prop := ∃ e : Dev, exec c s = .next { s with dev := e } ∧ P e

/-- A safe step: it answers a next state. -/
def SafeStep (s : State) : Prop := ∃ t : State, step s = .next t

/-! ### Accesses -/

/-- A write of the word `v` at `a` by port `p` passes every check of the register fabric and meets no lock (R8, R13,
R14, R74). -/
abbrev WritePasses (d : Dev) (p : CmdPort) (a v : Nat) : Prop :=
  d.reach p a 4 true (some v) = .ok ∧ d.regLocked (d.regAttr p a) = false

/-- A read of the word at `a` by port `p` passes every check of the register fabric. -/
abbrev ReadPasses (d : Dev) (p : CmdPort) (a : Nat) : Prop := d.reach p a 4 true none = .ok

/-- The blocks that the counting of an access may touch: the counters, and through a wrap the event sources and a pending
message of the anchor endpoint. -/
def accessBlocks : List Block := [.cnt, .evt, .pcie]

/-- The blocks that a Cairn record may touch besides: the log. -/
def recordBlocks : List Block := [.cairn, .cnt, .evt, .pcie]

/-- What arrives on an SRI pair reaches the die: the package switch is in the die position and the bypass is open (R88,
R501, R502). -/
abbrev Hears (d : Dev) : Prop := d.pkg.srDie = true ∧ d.srIsOpen = true

/-- A record of this code and severity is the newest in the writer queue (R425, R431). -/
abbrev Records (e : Dev) (code sev : Nat) : Prop := ∃ r ∈ e.cairn.queue, r.code = code ∧ r.severity = sev

/-- Between `d` and `e` the packet `x` has entered the tail of its VOQ at a tile, with the next packet number, its cells
counted and its time of arrival. -/
def Queues (d e : Dev) (tile : Nat) (x : Pkt) : Prop :=
  e.sw.voq.rd (voqKey tile x.dst x.vc) = d.sw.voq.rd (voqKey tile x.dst x.vc) ++
    [{ x with id := d.sw.nextPkt, time := d.now, cells := x.body.cells, wr := x.body.cells, sent := 0 }]

/-- Between `d` and `e` the packet `x`, of the hub or of the Haldion's own functions, waits last for the engine link of the
tile of its port (R26). -/
def Waits (d e : Dev) (x : Pkt) : Prop :=
  e.sw.eng.rd (voqKey (portTile x.dst) x.dst x.vc) = d.sw.eng.rd (voqKey (portTile x.dst) x.dst x.vc) ++
    [{ x with id := d.sw.nextPkt, ing := 0xFF, time := d.now, cells := x.body.cells, wr := x.body.cells, sent := 0 }]

/-- Everything that M0 loses is at its reset value: every register but RESET_CAUSE, every table, buffer, ledger and core
memory, the stores, the log and every staged half (R78). -/
def Lost (e : Dev) : Prop :=
  e.plat = {} ∧ e.run = {} ∧ e.nb = {} ∧ e.tick = {} ∧ e.jobs = {} ∧ e.cores = {} ∧ e.port = [] ∧ e.sight = {} ∧
  e.bus = {} ∧ e.pcie = {} ∧ e.ln = {} ∧ e.sw = {} ∧ e.tally = {} ∧ e.trav = {} ∧ e.fab = {} ∧ e.bnd = {} ∧
  e.cont = {} ∧ e.commits = [] ∧ e.cairn = {} ∧ e.evt = {} ∧ e.cnt = {}

/-- The device is held in M0 by PWRGD low, and holds nothing: every register but RESET_CAUSE, every table, buffer, ledger
and core memory, the log and every staged half is at its reset value (R76, R78, Table 3.1). -/
def HeldInM0 (d : Dev) : Prop :=
  d.mode.base = .m0 ∧ d.mode.pwrgd = false ∧ d.mode.released = false ∧ d.mode.srOpen = false ∧ d.mode.entry = .none ∧ Lost d

end Sys2Proof.Machine
end

