-- ==== Sys2Proof/WellFormed.lean ====
section
/-! DEFINITION. Which commands are well formed: every operand is one that the packet, frame, block or register of the
command can carry. Operands of a bounded type need no check. The meanings are total; they hold for other operands too. -/

namespace Sys2Proof.Machine

/-- `v` is a field of `w` bits. -/
def fits (w v : Nat) : Bool := decide (v < 2 ^ w)

/-- A packet's bytes. -/
def bytesOk (bs : List Nat) : Bool := bs.all (fits 8)

/-- Field widths of a transaction layer packet; the payload is whole dwords, 4,096 B at most. -/
def Tlp.wf (t : Tlp) : Bool :=
  fits 3 t.tc && fits 3 t.attr && fits 16 t.reqId && fits 14 t.tag && fits 64 t.addr && decide (1 ≤ t.lenDw) && decide (t.lenDw ≤ 1024) &&
    fits 4 t.firstBe && fits 4 t.lastBe && fits 2 t.atomic && bytesOk t.data && t.data.length % 4 == 0 && decide (t.data.length ≤ 4096) &&
    fits 3 t.status && fits 13 t.byteCount && fits 7 t.lowerAddr && fits 16 t.cplId && fits 16 t.target && fits 10 t.reg &&
    fits 8 t.code && fits 3 t.route && bytesOk t.ext && decide (t.ext.length ≤ 16)

/-- Field widths of a fabric packet (Table 9.1), an extension of 16 bytes where FLAGS says so, and CHUNKS that agrees with
its length. -/
def FPkt.wf (f : FPkt) : Bool :=
  fits 8 f.kind && fits 8 f.flags && fits 8 f.chunks && fits 8 f.hops && fits 12 f.dest && fits 12 f.src && fits 16 f.handle && fits 8 f.srcPart &&
    fits 24 f.seq && fits 32 f.inc && fits 24 f.mark && fits 24 f.reqId && fits 64 f.addr && fits 32 f.reqF && fits 32 f.cplF && fits 32 f.crc &&
    bytesOk f.ext && f.ext.length == (if 128 ≤ f.flags then 16 else 0) && bytesOk f.payload && 64 + f.ext.length + f.payload.length == 16 * f.chunks

/-- Field widths of the equalisation fields of a training set. -/
def EqTs.wf (e : EqTs) : Bool :=
  fits 2 e.phase && fits 4 e.preset && fits 6 e.pre && fits 6 e.main && fits 6 e.post && fits 6 e.fs && fits 6 e.lf

/-- Field widths of a TRAIN block (Table 5.2). -/
def TrainBlk.wf (b : TrainBlk) : Bool :=
  fits 5 b.logical && fits 2 b.rate && fits 4 b.state && fits 2 b.preReq && fits 2 b.postReq && fits 8 b.fom && fits 2 b.ack && fits 2 b.spareOk &&
    (b.eq.map EqTs.wf).getD true

/-- Lanes of an ALIGN burst are lanes of the tile. -/
def AlignBurst.wf (a : AlignBurst) : Bool :=
  fits 32 a.seq && fits 3 a.width && a.lanes.all (fun x => decide (x.1 < 18) && fits 5 x.2.1 && fits 32 x.2.2)

/-- Field widths of a SWAP block. -/
def SwapBlk.wf (b : SwapBlk) : Bool := fits 5 b.logical && fits 1 b.spare && fits 12 b.switchId

/-- Field widths of a margin slot (Table 6.7). -/
def Margin.wf (m : Margin) : Bool := fits 8 m.type && fits 2 m.copy && fits 4 m.tag && fits 112 m.body

/-- A flit is 256 bytes; an erasure names a symbol of the codewords. -/
def RawFlit.wf (f : RawFlit) : Bool := f.bytes.length == 256 && bytesOk f.bytes && f.erased.all (fun e => decide (e < 204))

/-- Field widths of a tick mark (Table 4.1). -/
def Mark.wf (m : Mark) : Bool := fits 12 m.sourceId && fits 5 m.depth && fits 3 m.period && fits 56 m.number && fits 24 m.remain

/-- Widths of an audit sample (R185). -/
def AuditSample.wf (a : AuditSample) : Bool := fits 56 a.tick && fits 16 a.s && fits 16 a.rseq && decide (a.avail.length ≤ 8) && a.avail.all (fits 16)

/-- Rows of the errors that a scrub meets. -/
def StepIn.wf (x : StepIn) : Bool := x.found.all (fun e => decide (e.1 < 2097152))

/-- Ports, SRAM macros and rows that a detected fault names. -/
def FaultIn.wf (f : FaultIn) : Bool :=
  match f with
  | .sram mac row => decide (mac < 4096) && decide (row < 512)
  | .buffer port mac row => decide (port < 72) && decide (mac < 4096) && decide (row < 512)
  | .bufferBad port mac row _ => decide (port < 72) && decide (mac < 4096) && decide (row < 512)
  | .tableBad table _ mac row port _ => decide (table < 6) && decide (mac < 4096) && decide (row < 512) && fits 8 port
  | .ledgerBad coll mac row => decide (coll < 4096) && decide (mac < 4096) && decide (row < 512)
  | .core _ => true
  | .coreBad _ => true
  | .pcieLink port unc bit => decide (port < 72) && (if unc then [4, 13, 17].contains bit else [0, 6, 7, 8, 12].contains bit)
  | .thermal => true

/-- Field widths of a service ring frame (Table 15.5). -/
def RingCmd.wf (c : RingCmd) : Bool :=
  fits 16 c.dest && fits 16 c.origin && fits 16 c.hops && fits 16 c.seq && fits 32 c.offset && decide (c.data.length ≤ 256)

/-- Field widths of a request on the Sighting port (R472). -/
def SightReq.wf (r : SightReq) : Bool := fits 64 r.addr && fits 64 r.data

/-- A tick input: one of the two pins, or 16 and a port (R102). -/
def tickInputOk (i : Nat) : Bool := decide (i < 2) || (decide (16 ≤ i) && decide (i < 88))

end Sys2Proof.Machine

namespace Sys2Proof

open Sys2Proof.Machine

/-- The operands of a command are ones that it can carry. -/
def Instr.wf (i : Instr) : Bool :=
  match i with
  | .registerWrite _ _ size _ _ => size == 1 || size == 2 || size == 4 || size == 8
  | .writeLowHalf _ _ _ => true
  | .writeHighHalf _ _ _ => true
  | .readLowHalf _ _ => true
  | .rcRead _ _ => true
  | .pwrgdRise => true
  | .pwrgdFall => true
  | .rstNFall => true
  | .rstNRise _ => true
  | .perstNFall _ => true
  | .perstNRise _ _ => true
  | .powerHoldEnd _ => true
  | .deviceReset _ _ => true
  | .deviceResetEnd _ => true
  | .srBypassOpen => true
  | .m1Entry => true
  | .railLow _ => true
  | .bypassSwitched _ => true
  | .t8Close _ => true
  | .t8Open _ => true
  | .bootIntervalEnd => true
  | .railReturn _ => true
  | .platStart _ => true
  | .platBufferWrite _ _ _ => true
  | .chunkHandover _ _ => true
  | .bufferFree => true
  | .platEnd _ => true
  | .platAbort _ => true
  | .platAccepted => true
  | .clearingDone => true
  | .claimTimeout => true
  | .streamTimeout => true
  | .bootPortRelease => true
  | .runStateActivate => true
  | .coresStart => true
  | .runModeEntered => true
  | .needPlatRepeat => true
  | .needPlat _ part rev => fits 16 part && fits 16 rev
  | .offer _ imageId length target minRev => fits 64 imageId && fits 32 length && fits 16 target && fits 16 minRev
  | .accept _ imageId => fits 64 imageId
  | .decline _ imageId => fits 64 imageId
  | .offerWithdraw _ => true
  | .neighbourData _ offset body => fits 32 offset && decide (body.length ≤ 2048)
  | .chunkAck _ offset => fits 32 offset
  | .neighbourDone _ offset => fits 32 offset
  | .neighbourResult _ state code sec => fits 8 state && fits 8 code && fits 16 sec
  | .tickBoundary => true
  | .tickMarkSend => true
  | .tickMark idx m _ => tickInputOk idx && m.wf
  | .tickInEdge _ => true
  | .tickInMissed => true
  | .delayExchange => true
  | .delayReq idx id _ => tickInputOk idx && fits 4 id
  | .delayResp idx id t3t2 _ => tickInputOk idx && fits 4 id && fits 32 t3t2
  | .parentChange => true
  | .acquiringTimeout => true
  | .holdoverTimeout => true
  | .tickNumberLoad _ _ => true
  | .budgetEnd _ overrun => fits 32 overrun
  | .jobStep inp => inp.wf
  | .gazetteerLoad _ => true
  | .bearingLoad _ => true
  | .boundaryLoad _ => true
  | .functionReset _ => true
  | .laneSwap _ => true
  | .pllSwap _ => true
  | .planeSwap _ => true
  | .sramRowSwap _ => true
  | .scrub _ => true
  | .linkRetrain _ => true
  | .widthSpeedChange _ => true
  | .jobCancel _ _ _ => true
  | .jobRelease _ _ _ => true
  | .signalDetect _ _ => true
  | .cdrLock _ _ => true
  | .blockLock _ _ heads loads => heads.length == 64 && heads.all (fits 2) && loads.length == 64 && loads.all (fits 64)
  | .blockLockLoss _ x => fits 32 x.bad
  | .trainingTimeout _ _ => true
  | .fomWindowEnd _ _ eye spacing w => fits 16 eye && fits 16 spacing && fits 32 w.bad && fits 64 w.bits && fits 64 w.errs
  | .train _ _ b => b.wf
  | .alignBurst _ a => a.wf
  | .swapRequest _ b => b.wf
  | .swapAcknowledge _ b => b.wf
  | .mirrorMatch _ offset => fits 16 offset
  | .pllLockLoss _ _ => true
  | .eqCommit _ _ _ => true
  | .loop _ _ _ _ => true
  | .prbsCtrl _ _ _ _ => true
  | .prbsLock _ x => fits 192 x.bits
  | .prbsLockLoss _ _ x => fits 64 x.bits && fits 64 x.errs
  | .marginGo _ _ _ _ => true
  | .marginDone _ _ errors => fits 32 errors
  | .pcieMarginCommand _ _ => true
  | .flitReceive _ f => f.wf
  | .flitSend _ => true
  | .ackTimerExpiry _ => true
  | .creditReturnTimeout _ => true
  | .audit _ a => a.wf
  | .contain _ m => m.wf
  | .swapPropose _ x spare handle => fits 5 x && fits 1 spare && fits 16 handle
  | .swapReply _ x handle _ => fits 5 x && fits 16 handle
  | .swapMatched _ x handle => fits 5 x && fits 16 handle
  | .swapSelected _ x spare handle => fits 5 x && fits 1 spare && fits 16 handle
  | .linkInit _ sw port width rate rcvd => fits 12 sw && fits 7 port && fits 3 width && fits 2 rate && fits 8 rcvd
  | .initGrant _ _ grants => grants.length == 4 && grants.all (fits 16)
  | .widthReq _ width rate handle => fits 3 width && fits 2 rate && fits 16 handle
  | .widthAck _ handle _ => fits 16 handle
  | .marginRepeat _ => true
  | .exchangeTimeout _ => true
  | .initTimeout _ => true
  | .peerTimeout _ => true
  | .adminDown _ _ _ => true
  | .holdDown _ _ _ => true
  | .trainingRetry _ => true
  | .tlpReceive _ t => t.wf
  | .tlpTransmit x => x.credits.length == 6
  | .configRequest _ t => t.wf
  | .functionLevelReset _ => true
  | .vfEnable _ _ _ => true
  | .hotReset _ => true
  | .dlDown _ => true
  | .dlActive _ rate width retimers _ _ => decide (rate ≤ 5) && (width == 1 || width == 2 || width == 4 || width == 8 || width == 16) && decide (retimers ≤ 2)
  | .bmeDrainClear => true
  | .dpcSwTrigger _ _ => true
  | .dpcRelease _ _ => true
  | .presenceLost _ => true
  | .shareAssignCommit _ _ => true
  | .shareWindowsCommit _ _ => true
  | .pcfgAccess _ _ _ => true
  | .pcfgComplete _ _ _ => true
  | .pcfgTimeout _ => true
  | .pcieAdminDown _ _ _ => true
  | .pcieHoldDown _ _ _ => true
  | .aerHdrAdvance _ _ => true
  | .msixPendingSend _ _ => true
  | .ptmRequest _ t => t.wf
  | .errorMessage _ t => t.wf
  | .receiverDetection _ => true
  | .cellTime => true
  | .cellArrival key seq _ => fits 14 key && fits 16 seq
  | .cellConfirm key seq => fits 14 key && fits 16 seq
  | .confirmTimeout key seq => fits 14 key && fits 16 seq
  | .planeRemoved _ => true
  | .ageingScan _ => true
  | .fabricPacketReceive _ f => f.wf
  | .flowHoldExpiry _ _ _ => true
  | .returnHoldEnd _ => true
  | .windowsCommit _ => true
  | .gazetteerCommit _ => true
  | .bearingCommit _ => true
  | .routingIdCommit _ => true
  | .fabricCompletion f => f.wf
  | .bridgeSlotTimeout _ _ => true
  | .bridgeSlotReuse _ _ => true
  | .rbRead _ _ => true
  | .rbWrite _ _ => true
  | .regRequest f => f.wf
  | .regResponse f => f.wf
  | .rbTimeout _ => true
  | .tallyContribution _ _ off bytes _ _ => fits 64 off && decide (bytes.length ≤ 4096)
  | .tallyPartial f => f.wf
  | .tallyDone f => f.wf
  | .tallyResult f => f.wf
  | .tallyAbort f => f.wf
  | .roundPacked _ => true
  | .roundDelivered _ => true
  | .roundTimeout _ => true
  | .resultTimeout _ => true
  | .tallyCommit _ _ => true
  | .ledgerClearDone _ => true
  | .queueEnable _ _ => true
  | .queueDisable _ _ => true
  | .queueResume _ _ => true
  | .sqTail _ _ _ => true
  | .cqHead _ _ _ => true
  | .queueBind => true
  | .engineSegment _ => true
  | .engineReadCompletion _ _ bytes _ _ => decide (bytes.length ≤ 4096)
  | .engineReadTimeout _ => true
  | .vectorPendingSend _ _ => true
  | .boundaryCommit _ _ => true
  | .faultDetect f => f.wf
  | .containTrigger _ _ _ => true
  | .triggerDelivery _ => true
  | .containRestore _ _ => true
  | .transitScan => true
  | .quarantineEnd _ => true
  | .spareWindowEnd _ => true
  | .patrolScrub m _ _ => decide (m < 4096)
  | .datapathPllLoss _ => true
  | .regAccessTimeout _ _ _ => true
  | .watchdogExpiry _ => true
  | .readyTimeout _ => true
  | .coreException _ _ => true
  | .takeoverImageLoaded => true
  | .coreKick _ _ => true
  | .coreEvent _ _ => true
  | .coreLog _ _ => true
  | .cairnStore => true
  | .cairnClear _ _ => true
  | .clearDone => true
  | .slotLatch _ _ => true
  | .bbRecordLatch _ => true
  | .bbCursorAdvance _ => true
  | .faultLogAdvance _ _ => true
  | .bbFreeze _ => true
  | .bbUnfreeze _ => true
  | .eventStatusClear _ _ _ => true
  | .evtPulseEnd _ => true
  | .cntCommit _ _ => true
  | .cntCommitAll _ => true
  | .cntHold _ => true
  | .cntRelease _ => true
  | .snapHoldExpired _ => true
  | .counterWrap k => decide (k < 1200)
  | .sbSetOffset _ a => fits 32 a
  | .sbRead _ => true
  | .sbWrite _ v => fits 32 v
  | .sbWriteBlock _ bs => bs.length % 4 == 0 && decide (4 ≤ bs.length) && decide (bs.length ≤ 32)
  | .sbGetStatus _ => true
  | .setdasa _ => true
  | .entdaa _ => true
  | .rstdaa => true
  | .ringRead32 _ c => c.wf
  | .ringWrite32 _ c => c.wf
  | .ringRead64 _ c => c.wf
  | .ringWrite64 _ c => c.wf
  | .ringWriteBlock _ c => c.wf
  | .ringResponse _ r _ => r.wf
  | .ringAlarm _ _ sw source hops => fits 16 sw && fits 16 source && fits 16 hops
  | .sightPoll r => r.wf
  | .sightIdcode r => r.wf
  | .sightCoreStatus r => r.wf
  | .sightHalt r => r.wf
  | .sightResume r => r.wf
  | .sightStep r => r.wf
  | .sightRegRead r => r.wf
  | .sightRegWrite r => r.wf
  | .sightTcmRead r => r.wf
  | .sightTcmWrite r => r.wf
  | .sightBreak r => r.wf
  | .sightWatch r => r.wf
  | .sightBarRead r => r.wf
  | .sightBarWrite r => r.wf
  | .sightMemRead r => r.wf
  | .sightMemWrite r => r.wf
  | .breakpointHit _ _ _ => true
  | .tapBypass => true
  | .tapSamplePreload _ => true
  | .tapExtest => true
  | .tapExtestPulse => true
  | .tapExtestTrain => true
  | .tapHighz => true

end Sys2Proof
end

