-- ==== Sys2Proof/Certificates/Slice0/Obligations.lean ====
section
/-! DEFINITION. The statements. `Gives c s P` says that the command answers a next state whose device is as `P` says; the
blocks that a statement does not name in `SameBut` are unchanged. -/

open Sys2Proof Sys2Proof.Machine

/-- A step with a command in front of the queue is that command's effect on everything but the queue, with the rest of the
queue; with nothing waiting one DCLK cycle passes. -/
def Obligations.StepRunsFront : Prop :=
  ∀ s : State,
    (∀ (c : Instr) (r : List Instr), s.pending = c :: r → step s = exec c { s with pending := r }) ∧
    (s.pending = [] → step s = .next { s with dev := s.dev.cycle })

/-! ### Power-up, reset and the mode machine -/

/-- PWRGD: its rise shows POWER alone in RESET_CAUSE and starts the 100 us hold; its fall enters M0, in which everything
but the part itself is lost, from any state, the one after reset among them (R76 to R78, Table 3.5). -/
def Obligations.PwrgdCommands : Prop :=
  ∀ s : State,
    (s.dev.mode.pwrgd = false → Gives .pwrgdRise s (fun e => e.mode.pwrgd = true ∧ e.mode.holdEnded = false ∧
      e.mode.resetCause = 1 ∧ e.mode.base = s.dev.mode.base ∧ e.mode.rstN = s.dev.mode.rstN ∧
      e.mode.perst = s.dev.mode.perst ∧ SameBut [.mode] s.dev e)) ∧
    (s.dev.mode.pwrgd = true → Gives .pwrgdRise s (fun e => e = s.dev)) ∧
    Gives .pwrgdFall s (fun e => e.mode.base = .m0 ∧ e.mode.pwrgd = false ∧ e.mode.released = false ∧
      e.mode.resetCause = 0 ∧ e.mode.rstN = s.dev.mode.rstN ∧ e.mode.perst = s.dev.mode.perst ∧
      e.part = s.dev.part ∧ HeldInM0 e) ∧
    Gives .pwrgdFall State.reset HeldInM0

/-- RST_N: low enters M0 with its cause, from any state that M0 does not hold already; while M0 holds the device its causes
stay, unless both came in one MCLK cycle, and RST_N has not stayed high. Its rise samples AUTH_SEL when the 100 us hold is
over, and releases the device when nothing else holds M0 (R76 to R78). -/
def Obligations.RstNCommands : Prop :=
  ∀ (s : State) (straps : Fin 8),
    (s.dev.mode.pwrgd = true → s.dev.held = false → Gives .rstNFall s (fun e => e.mode.base = .m0 ∧
      e.mode.rstN = false ∧ e.mode.causeRst = true ∧ e.mode.causePower = s.dev.mode.causePower ∧
      e.mode.causePerst = s.dev.mode.causePerst ∧ e.mode.causeDev = s.dev.mode.causeDev ∧
      e.mode.perstM0 = false ∧ e.mode.authSel = s.dev.mode.authSel ∧ e.part = s.dev.part ∧ Lost e)) ∧
    ((s.dev.mode.pwrgd = false ∨ s.dev.held = true) → Gives .rstNFall s (fun e =>
      e.mode = { s.dev.mode with rstN := false, perstM0 := false, causeRst := e.mode.causeRst } ∧
      (e.mode.causeRst = true ↔ s.dev.mode.causeRst = true ∨ (s.dev.mode.pwrgd = true ∧ s.dev.mode.rstN = true ∧
        s.dev.held = true ∧ s.dev.mode.m0Cycle = s.dev.mclk)) ∧ SameBut [.mode] s.dev e)) ∧
    (s.dev.mode.rstN = false → s.dev.held = true → s.dev.mode.pwrgd = true → s.dev.mode.holdEnded = true →
      s.dev.mode.devReset = false → Gives (.rstNRise straps) s (fun e => e.mode.rstN = true ∧
        e.mode.authSel = straps.val ∧ e.mode.base = .m0 ∧
        e.mode.released = !(bitAt straps.val 0 && !bitAt s.dev.mode.perst 0) ∧ SameBut [.mode] s.dev e)) ∧
    (s.dev.mode.rstN = false → s.dev.mode.holdEnded = false → Gives (.rstNRise straps) s (fun e =>
      e = { s.dev with mode.rstN := true })) ∧
    (s.dev.mode.rstN = true → Gives (.rstNRise straps) s (fun e => e = s.dev))

/-- PERST_N: PERST_N_T0 low in M0 to M2 enters M0 when the sampled AUTH_SEL[0] is 1 and is ignored when it is 0; in M6
every PERST_N is ignored; in M3, M4, M5 and M7 it resets the partitions whose upstream port lies in its tile and changes
no mode, and its rise ends that cause (Table 3.1); in M10 it resets the management endpoint of the anchor alone. PERST_N_T0
rises after an M0 that it caused: AUTH_SEL is sampled anew and the device is released (R77).
PERST_STATUS follows the pin. -/
def Obligations.PerstActs : Prop :=
  ∀ (s : State) (t : Fin 9) (straps : Fin 8), t.val < s.dev.tiles →
    let down := bitAt s.dev.mode.perst t.val = true
    (down → (s.dev.mode.base = .m1 ∨ s.dev.mode.base = .m2) → t = 0 → bitAt s.dev.mode.authSel 0 = true →
      Gives (.perstNFall t) s (fun e => e.mode.base = .m0 ∧ e.mode.causePerst = true ∧ e.mode.released = false ∧
        bitAt e.mode.perst 0 = false ∧ e.part = s.dev.part ∧ Lost e)) ∧
    (down → (s.dev.mode.base = .m1 ∨ s.dev.mode.base = .m2) → t = 0 → bitAt s.dev.mode.authSel 0 = false →
      Gives (.perstNFall t) s (fun e => e = { s.dev with mode.perst := clrBit s.dev.mode.perst 0 })) ∧
    (down → s.dev.mode.base = .m6 → Gives (.perstNFall t) s (fun e =>
      e = { s.dev with mode.perst := clrBit s.dev.mode.perst t.val })) ∧
    (down → (s.dev.mode.base = .m3 ∨ s.dev.mode.base = .m4 ∨ s.dev.mode.base = .m5 ∨ s.dev.mode.base = .m7) →
      Gives (.perstNFall t) s (fun e => e.mode = { s.dev.mode with perst := clrBit s.dev.mode.perst t.val } ∧
        e.run = s.dev.run ∧ e.part = s.dev.part ∧
        ∀ q, q < 24 → (s.dev.run.part.rd q).present = true → portTile (s.dev.run.part.rd q).upstream = t.val →
          bitAt (e.pcie.partReset.rd q) 0 = true)) ∧
    (down → s.dev.mode.base = .m10 → Gives (.perstNFall t) s (fun e =>
      e.mode = { s.dev.mode with perst := clrBit s.dev.mode.perst t.val } ∧
      ((s.dev.run.part.rd 0).present = true → portTile (s.dev.run.part.rd 0).upstream = t.val →
        ∀ w, w < 1024 → e.pcie.cfg.rd (cfgKey (fnMgmt 0) w) = 0) ∧ SameBut [.mode, .pcie] s.dev e)) ∧
    (bitAt s.dev.mode.perst t.val = false → (s.dev.mode.base = .m3 ∨ s.dev.mode.base = .m4 ∨ s.dev.mode.base = .m5 ∨ s.dev.mode.base = .m7) →
      Gives (.perstNRise t straps) s (fun e => e.mode = { s.dev.mode with perst := setBit s.dev.mode.perst t.val } ∧
        e.run = s.dev.run ∧ ∀ q, q < 24 → (s.dev.run.part.rd q).present = true →
          portTile (s.dev.run.part.rd q).upstream = t.val → bitAt (e.pcie.partReset.rd q) 0 = false)) ∧
    (bitAt s.dev.mode.perst t.val = false → t = 0 → s.dev.held = true → s.dev.mode.perstM0 = true → s.dev.mode.pwrgd = true →
      s.dev.mode.holdEnded = true → s.dev.mode.rstN = true → s.dev.mode.devReset = false → Gives (.perstNRise t straps) s (fun e =>
        e.mode.released = true ∧ e.mode.authSel = straps.val ∧ bitAt e.mode.perst 0 = true ∧
        e.mode.perstM0 = false ∧ SameBut [.mode] s.dev e)) ∧
    (bitAt s.dev.mode.perst t.val = false → s.dev.mode.base = .m6 → Gives (.perstNRise t straps) s (fun e =>
      e = { s.dev with mode.perst := setBit s.dev.mode.perst t.val }))

/-- The end of the 100 us hold, with RST_N already high, samples AUTH_SEL and releases the device; so does the end of the
20 us of DEVICE_RESET (R77). From the release to M1: the service ring bypass opens, and M1 follows with MODE_CHANGE and a
RESPONDER value of the noise source (Table 3.2, R79); a rail that is low keeps the device where it is (R500). -/
def Obligations.HoldEnds : Prop :=
  ∀ (s : State) (straps : Fin 8),
    (s.dev.mode.pwrgd = true → s.dev.mode.holdEnded = false → s.dev.mode.rstN = true → s.dev.held = true →
      s.dev.mode.devReset = false → Gives (.powerHoldEnd straps) s (fun e => e.mode.holdEnded = true ∧
        e.mode.authSel = straps.val ∧ e.mode.released = !(bitAt straps.val 0 && !bitAt s.dev.mode.perst 0) ∧
        SameBut [.mode] s.dev e)) ∧
    (s.dev.mode.pwrgd = true → s.dev.mode.holdEnded = false → s.dev.mode.rstN = false →
      Gives (.powerHoldEnd straps) s (fun e => e = { s.dev with mode.holdEnded := true })) ∧
    (s.dev.mode.devReset = true → s.dev.held = true → s.dev.mode.pwrgd = true → s.dev.mode.holdEnded = true →
      s.dev.mode.rstN = true → Gives (.deviceResetEnd straps) s (fun e => e.mode.devReset = false ∧
        e.mode.authSel = straps.val ∧ e.mode.released = !(bitAt straps.val 0 && !bitAt s.dev.mode.perst 0) ∧
        SameBut [.mode] s.dev e)) ∧
    (s.dev.mode.base = .m0 → s.dev.mode.railFail = false →
      (s.dev.mode.released = true → Gives .srBypassOpen s (fun e => e = { s.dev with mode.srOpen := true })) ∧
      (s.dev.mode.srOpen = true → Gives .m1Entry s (fun e => e.mode.base = .m1 ∧ e.mode.responder < 4096 ∧
        e.evt.status.getLsbD 0x020 = true ∧ SameBut [.mode, .evt, .pcie] s.dev e)))

/-- DEVICE_RESET: 0x4D30 from a port that may write it enters M0 and names the port in RESET_CAUSE; any other value is
dropped with a Warning (Tables 3.5 and 3.6, R82). -/
def Obligations.DeviceResetWrites : Prop :=
  ∀ (s : State) (p : CmdPort) (v : Word), WritePasses s.dev p 0x10008 v.toNat →
    (fld v.toNat 0 16 = 0x4D30 → Gives (.deviceReset p v) s (fun e => e.mode.base = .m0 ∧ e.mode.devReset = true ∧
      e.mode.causeDev = true ∧ e.mode.resetPort = sourceCode p ∧ e.mode.released = false ∧ e.part = s.dev.part ∧
      Lost e)) ∧
    (fld v.toNat 0 16 ≠ 0x4D30 → Gives (.deviceReset p v) s (fun e => e.mode = s.dev.mode ∧
      SameBut recordBlocks s.dev e))

/-- A rail that falls puts the part into the state in which no command is answered, both bypasses are closed and nothing leaves; only PWRGD low, with every rail back,
leaves it (R500). A package switch reaches the position of its bypass; a move of the service ring's switch is a gap of the
signal, with which a LOCKED follower on the ring enters HOLDOVER and makes its 8 exchanges again (R106, R113, R501, R502). T8_CLOSE on an S tile T8
closes the bypass, and its withdrawal opens it again; before a run mode the write is dropped with a Warning (R89, Table
3.7). An instruction of the test access port is the one in force, and SAMPLE/PRELOAD loads the cells (R512). -/
def Obligations.RailsAndSwitches : Prop :=
  ∀ (s : State) (r : Fin 6) (t8 : Bool) (p : CmdPort) (cells : Nat),
    Gives (.railLow r) s (fun e => e.mode.railFail = true ∧ bitAt e.mode.railsLow r.val = true ∧
      e.mode.base = s.dev.mode.base ∧ e.regOn = false ∧ e.srIsOpen = false ∧ e.t8IsOpen = false ∧
      (∀ o, (e.emit o).out = e.out) ∧ SameBut [.mode] s.dev e) ∧
    Gives (.railReturn r) s (fun e => bitAt e.mode.railsLow r.val = false ∧
      (s.dev.mode.pwrgd = true → e.mode.railFail = s.dev.mode.railFail) ∧
      (e.mode.railsLow = 0 → s.dev.mode.pwrgd = false → e.mode.railFail = false) ∧ SameBut [.mode] s.dev e) ∧
    Gives (.bypassSwitched t8) s (fun e => (t8 = true → e.pkg = { s.dev.pkg with t8Die := s.dev.t8IsOpen } ∧ SameBut [.pkg] s.dev e) ∧
      (t8 = false → e.pkg = { s.dev.pkg with srDie := s.dev.srIsOpen } ∧
        (s.dev.pkg.srDie = s.dev.srIsOpen ∨ s.dev.follows = false ∨ s.dev.run.tickSource ≠ 0 → SameBut [.pkg] s.dev e) ∧
        (s.dev.pkg.srDie ≠ s.dev.srIsOpen → s.dev.follows = true → s.dev.run.tickSource = 0 → e.tick.exchanges = 0 ∧
          (s.dev.tick.state = .locked → e.tick.state = .holdover)) ∧
        SameBut (.pkg :: .tick :: .cont :: recordBlocks) s.dev e)) ∧
    (s.dev.is7144 = true → WritePasses s.dev p 0x10010 1 → s.dev.inRunOrTest = true → s.dev.role 8 = 2 → s.dev.mode.t8Close = false →
      Gives (.t8Close p) s (fun e => e.mode.t8Close = true ∧ e.mode.t8Open = false ∧
        e.mode.base = s.dev.mode.base ∧ e.run = s.dev.run ∧ e.plat = s.dev.plat)) ∧
    (s.dev.is7144 = true → WritePasses s.dev p 0x10010 0 → s.dev.inRunOrTest = true → s.dev.role 8 = 2 → s.dev.mode.t8Close = true →
      Gives (.t8Open p) s (fun e => e.mode.t8Close = false ∧ e.mode.t8Open = true ∧
        e.mode.base = s.dev.mode.base ∧ e.run = s.dev.run ∧ e.plat = s.dev.plat)) ∧
    (s.dev.is7144 = true → WritePasses s.dev p 0x10010 1 → (s.dev.mode.base = .m1 ∨ s.dev.mode.base = .m2) →
      Gives (.t8Close p) s (fun e => SameBut recordBlocks s.dev e)) ∧
    (∀ x ∈ [(Instr.tapBypass, TapInstr.bypass), (.tapExtest, .extest), (.tapExtestPulse, .extestPulse), (.tapExtestTrain, .extestTrain),
      (.tapHighz, .highz)], Gives x.1 s (fun e => e.pkg = { s.dev.pkg with tap := x.2 } ∧ e.out = s.dev.out ∧ SameBut [.pkg] s.dev e)) ∧
    Gives (.tapSamplePreload cells) s (fun e => e.pkg = { s.dev.pkg with tap := .samplePreload, tapCells := cells } ∧
      SameBut [.pkg] s.dev e)

/-- A boot interval stands in for a tick before the first boundary: records dropped since the last one are summed up in
one FLOOD record, and the once-per-tick marks of the event routes clear (R517, R432, R444). -/
def Obligations.BootIntervalEnds : Prop :=
  ∀ s : State, s.dev.mode.base ≠ .m0 → s.dev.tick.started = false →
    (s.dev.cairn.droppedNow = [] → s.dev.evt.vecHeld = [] → Gives .bootIntervalEnd s (fun e => e.cnt.ovfFired = false ∧
      e.evt.vecSent = [] ∧ e.evt.alarmSent = [] ∧ e.cairn = s.dev.cairn ∧ SameBut [.cnt, .evt] s.dev e)) ∧
    (s.dev.cairn.droppedNow ≠ [] → Gives .bootIntervalEnd s (fun e => e.cairn.droppedNow = [] ∧
      e.cairn.flood.isSome = true ∧ e.evt.status.getLsbD 0x3C0 = true ∧ SameBut [.cairn, .cnt, .evt, .pcie] s.dev e))


/-! ### The Plat loader and the neighbour exchange -/

/-- START: accepted, it claims the loader for the port and clears what the last load left; refused, it changes nothing but
the log. It is refused with PORT_NOT_AUTHORISED at severity Audit, then BUSY at Note, then WRONG_MODE at Warning, in this
order; a claim of the same MCLK cycle from a port that ranks below it gives way instead (R66, R67, Tables 2.12 and 2.16). -/
def Obligations.PlatStart : Prop :=
  ∀ (s : State) (p : CmdPort),
    let right := if s.dev.inRunOrTest then s.dev.mayAmend p else s.dev.mayLoadFull p
    (right = false → s.dev.startRefusal p = (0x01, 5)) ∧
    (right = true → s.dev.plat.claim.isSome = true → s.dev.outranks p = false → s.dev.startRefusal p = (0x03, 1)) ∧
    (right = true → s.dev.plat.claim = none → (s.dev.mode.base = .m2 ∨ s.dev.plat.clearing = true ∨ s.dev.mode.base = .m10) →
      s.dev.startRefusal p = (0x02, 2)) ∧
    (right = true → s.dev.plat.claim = none → s.dev.mode.base ≠ .m2 → s.dev.plat.clearing = false → s.dev.mode.base ≠ .m10 →
      s.dev.startRefusal p = (0, 0)) ∧
    (WritePasses s.dev p 0x20000 1 → (s.dev.startRefusal p).1 = 0 → Gives (.platStart p) s (fun e => e.plat.state = .receiving ∧
      e.plat.claim = some p.key ∧ e.plat.source = sourceCode p ∧ e.plat.bytes = 0 ∧ e.plat.reject = {} ∧
      e.plat.bufFree = true ∧ e.plat.handed = false ∧ (s.dev.plat.claim = none → SameBut (.plat :: accessBlocks) s.dev e) ∧
      SameBut (.plat :: .nb :: recordBlocks) s.dev e)) ∧
    (WritePasses s.dev p 0x20000 1 → (s.dev.startRefusal p).1 ≠ 0 → Gives (.platStart p) s (fun e =>
      (s.dev.cairn.minSeverity ≤ (s.dev.startRefusal p).2 → s.dev.cairn.hasEntry (s.dev.startRefusal p).2 = true →
        Records e 0x042 (s.dev.startRefusal p).2) ∧ SameBut recordBlocks s.dev e))

/-- PLAT_BUFFER: a write of the port that holds the claim reaches the four bytes of its word and no other; from another
port it changes nothing (R66). A handover takes the buffer, counts its bytes and enters M2 from M1 (R65). -/
def Obligations.BufferAndHandover : Prop :=
  ∀ (s : State) (p : CmdPort) (off : Fin 65536) (v : Word) (len : Fin 131072),
    (WritePasses s.dev p (0x30000 + off.val / 4 * 4) v.toNat →
      (s.dev.holds p = true → s.dev.plat.bufFree = true → Gives (.platBufferWrite p off v) s (fun e =>
        (∀ a, e.plat.buf.rd a = if off.val / 4 * 4 ≤ a ∧ a < off.val / 4 * 4 + 4
          then v.toNat / 256 ^ (a - off.val / 4 * 4) % 256 else s.dev.plat.buf.rd a) ∧
        e.plat.state = s.dev.plat.state ∧ SameBut (.plat :: accessBlocks) s.dev e)) ∧
      (s.dev.holds p = false → Gives (.platBufferWrite p off v) s (fun e => SameBut accessBlocks s.dev e))) ∧
    (WritePasses s.dev p 0x20008 len.val → s.dev.holds p = true → s.dev.plat.state = .receiving →
      s.dev.plat.bufFree = true → 8 ≤ len.val → len.val ≤ 65536 → len.val % 8 = 0 →
      Gives (.chunkHandover p len) s (fun e => e.plat.bufFree = false ∧ e.plat.handed = true ∧
        e.plat.bytes = s.dev.plat.bytes + len.val ∧
        e.plat.chunk = (List.range len.val).map (fun i => s.dev.plat.buf.rd i) ∧
        e.mode.base = (if s.dev.mode.base = .m1 then .m2 else s.dev.mode.base) ∧
        SameBut (.plat :: .mode :: accessBlocks) s.dev e))

/-- BUFFER_FREE: the checks of the bytes that have arrived pass, the buffer is free, and outside M2 nothing but the loader
has changed; or the first failure is reported, and in M2 the clearing of the destinations begins (R68, R69, R71). -/
def Obligations.BufferChecked : Prop :=
  ∀ s : State, s.dev.plat.bufFree = false →
    let d0 := { s.dev with plat := { s.dev.plat with img := s.dev.plat.img ++ s.dev.plat.chunk, chunk := [] } }
    (d0.checkArrived.2 = none → s.dev.plat.ended = false → s.dev.nb.holder = none → Gives .bufferFree s (fun e =>
      e.plat.bufFree = true ∧ e.plat.img = s.dev.plat.img ++ s.dev.plat.chunk ∧ e.plat.state = s.dev.plat.state ∧
      (s.dev.mode.base ≠ .m2 → SameBut [.plat] s.dev e) ∧ SameBut [.plat, .run, .cores, .nb, .fab, .bnd] s.dev e)) ∧
    (∀ r, d0.checkArrived.2 = some r → s.dev.mode.base = .m2 → Gives .bufferFree s (fun e =>
      e.plat.reject = r ∧ e.plat.clearing = true ∧ e.plat.claim = none ∧ e.plat.state = s.dev.plat.state ∧
      SameBut (.plat :: .run :: .cores :: .nb :: .fab :: .bnd :: recordBlocks) s.dev e))

/-- END waits for the chunk in the buffer, and the end checks follow: a full image that passes them goes to APPLYING (R65,
R68). ABORT and a broken stream end the load with their codes (Table 2.16A). -/
def Obligations.EndOfLoad : Prop :=
  ∀ (s : State) (p : CmdPort),
    (WritePasses s.dev p 0x20000 2 → s.dev.holds p = true → s.dev.plat.state = .receiving →
      (s.dev.plat.bufFree = false → Gives (.platEnd p) s (fun e => e.plat.state = .validating ∧
        e.plat.ended = true ∧ SameBut (.plat :: accessBlocks) s.dev e)) ∧
      (s.dev.plat.bufFree = true → s.dev.plat.headerOk = true → s.dev.plat.isAmend = false →
        s.dev.endFail s.dev.plat.img s.dev.plat.secs s.dev.plat.bytes = none → Gives (.platEnd p) s (fun e =>
          e.plat.state = .applying ∧ e.plat.ended = false ∧ SameBut (.plat :: accessBlocks) s.dev e))) ∧
    (WritePasses s.dev p 0x20000 4 → s.dev.holds p = true → s.dev.plat.state = .receiving →
      Gives (.platAbort p) s (fun e =>
        e.plat.reject = { code := 0x1D, section_ := 0xFFFF, detail := 0, offset := s.dev.plat.bytes } ∧
        e.plat.claim = none ∧ (s.dev.mode.base = .m2 → e.plat.clearing = true ∧ e.plat.state = .receiving) ∧
        (s.dev.mode.base ≠ .m2 → e.plat.state = .rejected) ∧ SameBut (.plat :: .nb :: recordBlocks) s.dev e)) ∧
    (s.dev.plat.claim.isSome = true → s.dev.plat.handed = true → s.dev.plat.state = .receiving →
      Gives .streamTimeout s (fun e =>
        e.plat.reject = { code := 0x1C, section_ := 0xFFFF, detail := 0, offset := s.dev.plat.bytes } ∧
        e.plat.claim = none ∧ SameBut (.plat :: .nb :: recordBlocks) s.dev e)) ∧
    (s.dev.plat.claim.isSome = true → s.dev.plat.handed = false → Gives .claimTimeout s (fun e =>
      e.plat.claim = none ∧ e.plat.state = s.dev.plat.before.1 ∧ e.plat.source = s.dev.plat.before.2.1 ∧
      e.plat.isAmend = s.dev.plat.before.2.2 ∧ e.plat.reject = s.dev.plat.reject ∧ SameBut [.plat, .nb] s.dev e))

/-- Acceptance names the image in force and begins the run-mode entry; at the end of the clearing every table, the
firmware store and the neighbour store are empty, STATE reads REJECTED and M2 has returned to M1 (R69, R71, R84, R91, Table
3.10). -/
def Obligations.AcceptedOrCleared : Prop :=
  ∀ s : State,
    (s.dev.plat.state = .applying → s.dev.plat.isAmend = false → s.dev.mode.base = .m2 →
      Gives .platAccepted s (fun e => e.plat.state = .accepted ∧ e.plat.claim = none ∧
        e.run.imageId = leAt s.dev.plat.img 0x18 8 ∧ e.run.amendSeq = 0 ∧ e.mode.entry = .accepted ∧
        e.mode.base = .m2 ∧ SameBut (.plat :: .run :: .mode :: .nb :: recordBlocks) s.dev e)) ∧
    (s.dev.plat.clearing = true → Gives .clearingDone s (fun e => e.plat.clearing = false ∧
      e.plat.state = .rejected ∧ e.plat.reject = s.dev.plat.reject ∧
      e.mode.base = (if s.dev.mode.base = .m2 then .m1 else s.dev.mode.base) ∧
      e.fab.gaz = [] ∧ e.fab.bearing = [] ∧ e.fab.rid = [] ∧ e.fab.win = [] ∧ e.bnd.rule = [] ∧ e.run.firmware = [] ∧
      e.nb.side0.copy = [] ∧ e.nb.side1.copy = [] ∧
      SameBut [.plat, .mode, .nb, .run, .cores, .fab, .bnd, .evt, .pcie] s.dev e))

/-- Run-mode entry in the order of Table 3.9. BOOT_PORT_RELEASE: the tiles take the roles, rates and cuts of the image, the
lane PLLs lock, planes 0 to 7 are active, the T8 bypass opens unless tile T8 is Off, and the boot port goes to electrical
idle with its configuration space at reset. RUN_STATE_ACTIVATE: what the image holds is the active configuration, with its
RUN_MODE and SWITCH_ID, the levels of R75 without a Debug Ceiling section, and the seal when a Seal section is present;
each neighbour copy is held, INCARNATION is drawn and is not zero, and Boundary epoch 1 begins. CORES_START: FMC, CTC, TLC
and SVC run their firmware and the SPC stands by. RUN_MODE_ENTERED: the base mode is the image's RUN_MODE, the S ports train
and the device joins the survey tick, its first number 0 (R74, R75, R84, R89, R100, R291). -/
def Obligations.RunModeEntry : Prop :=
  ∀ s : State,
    let g := s.dev.plat.staged
    (s.dev.mode.entry = .accepted → Gives .bootPortRelease s (fun e =>
      e.mode = { s.dev.mode with entry := .tilesSet, t8Open := s.dev.is7144 && e.role 8 != 0 } ∧
      e.run = { s.dev.run with tile := g.tile, cut := g.cut } ∧
      (∀ t, t < s.dev.tiles → (e.ln.tile.rd t).pll0 = true ∧ (e.ln.tile.rd t).pll1 = !bitAt s.dev.part.pllOff t) ∧
      (∀ k, k < 8 → (e.sw.plane.rd k).state = 1) ∧ (e.sw.plane.rd 8).state = (if s.dev.part.planeOff then 2 else 0) ∧
      (s.dev.isBoot 0 = true → (s.dev.pport 0).adminDown = false → (s.dev.pport 0).dpcTriggered = false →
        (e.pport 0).dlActive = false ∧ (e.pport 0).width = 0) ∧
      (∀ w, w < 1024 → e.pcie.cfg.rd (cfgKey (fnMgmt 0) w) = 0) ∧ SameBut [.mode, .run, .ln, .sw, .evt, .pcie] s.dev e)) ∧
    (s.dev.mode.entry = .tilesSet → Gives .runStateActivate s (fun e =>
      e.mode = { s.dev.mode with entry := .activated } ∧
      e.run = { g with runMode := leAt s.dev.plat.img 0x12 1, switchId := leAt s.dev.plat.img 0x14 2, imageId := s.dev.run.imageId, amendSeq := s.dev.run.amendSeq, firmware := s.dev.run.firmware, sealed := s.dev.plat.secs.any (fun x => x.type == 0x7FFF), ceiling := e.run.ceiling } ∧
      (s.dev.plat.secs.any (fun x => x.type == 0x0F) = true → e.run.ceiling = g.ceiling) ∧
      (s.dev.plat.secs.any (fun x => x.type == 0x0F) = false → ∀ c, c < 5 → e.run.ceiling.rd c = if e.run.sealed then 0 else 3) ∧
      (∀ k, k < 2 → (e.nb.side k).copy = (s.dev.nb.side k).copy ∧ ((e.nb.side k).copy ≠ [] → (e.nb.side k).state = 1)) ∧
      0 < e.fab.incarnation ∧ e.fab.incarnation < 2 ^ 32 ∧ e.fab.gaz = s.dev.fab.gaz ∧ e.fab.win = s.dev.fab.win ∧
      e.bnd = { s.dev.bnd with epoch := 1 } ∧ (e.run.sealed = true → e.evt.status.getLsbD 0x045 = true) ∧
      SameBut [.mode, .run, .nb, .fab, .bnd, .trav, .evt, .pcie] s.dev e)) ∧
    (s.dev.mode.entry = .activated → Gives .coresStart s (fun e => e.mode = { s.dev.mode with entry := .coresStarted } ∧
      (∀ c, c < 5 → (e.cores.core.rd c).state = (if c = 4 then .standby else .running) ∧ (e.cores.core.rd c).role = some c ∧
        (e.cores.core.rd c).reg.rd 32 = (s.dev.run.firmware.rd c).entry ∧ e.cores.roleMap.rd c = c + 1) ∧
      SameBut [.mode, .cores] s.dev e)) ∧
    (∀ b, s.dev.mode.entry = .coresStarted → Mode.ofNum s.dev.run.runMode = some b → Gives .runModeEntered s (fun e =>
      e.mode = { s.dev.mode with base := b, entry := .none } ∧ e.tick.joined = true ∧ e.tick.next = s.dev.now ∧
      e.tick.nextNumber = 0 ∧ e.tick.state = (if s.dev.run.tickSourceRole then .source else .acquiring) ∧
      (∀ p ∈ e.sPorts, (e.link p).state = 1) ∧ e.run = s.dev.run ∧ e.plat = s.dev.plat ∧ e.part = s.dev.part))

/-- The requester's side of the neighbour exchange (R92, R93, R95, R96): NEED_PLAT goes out on both pairs; the first OFFER
claims the loader with SOURCE 3 and is answered with ACCEPT, every other one with DECLINE, but one on pair 0 of the MCLK
cycle of an accepted one on pair 1 takes its place; DATA in order fills the buffer, and out of order ends the load with
STREAM; DONE ends the stream. With the package switch in its bypass position a message passes through unchanged (R88). -/
def Obligations.NeighbourRequester : Prop :=
  ∀ (s : State) (pair : Fin 2) (id len target rev off : Nat) (body : List Byte),
    let back := 1 - pair.val
    (s.dev.mode.base = .m1 → s.dev.strap 2 = true → s.dev.plat.claim = none → Gives .needPlatRepeat s (fun e =>
      let b := neighbourMsg 0x21 0 (toLe 4 (if s.dev.is7144 then 0x7144 else 0x7080) ++ toLe 4 s.dev.part.siliconRev)
      e.out = s.dev.shown [.neighbour 1 b, .neighbour 0 b] ∧ SameBut [] s.dev e)) ∧
    (s.dev.pkg.srDie = false → Gives (.offer pair id len target rev) s (fun e =>
      e.out = .neighbour pair (neighbourMsg 0x22 0 (toLe 8 id ++ toLe 4 len ++ toLe 2 target ++ toLe 2 rev)) :: s.dev.out ∧
      SameBut [] s.dev e)) ∧
    (Hears s.dev → s.dev.mode.base = .m1 → s.dev.strap 2 = true → s.dev.nb.holder = none → s.dev.plat.claim = none →
      (s.dev.startRefusal .ring).1 = 0 → Gives (.offer pair id len target rev) s (fun e => e.plat.state = .receiving ∧
        e.plat.source = 3 ∧ e.nb.holder = some pair.val ∧ e.nb.length = len ∧
        e.out = s.dev.shown [.neighbour back (neighbourMsg 0x23 0 (toLe 8 id))] ∧ SameBut [.plat, .nb] s.dev e)) ∧
    (∀ held, Hears s.dev → s.dev.mode.base ≠ .m0 → s.dev.nb.holder = some held →
      (pair ≠ 0 ∨ held ≠ 1 ∨ s.dev.nb.offerCycle ≠ s.dev.mclk → Gives (.offer pair id len target rev) s (fun e =>
        e.out = s.dev.shown [.neighbour back (neighbourMsg 0x24 0 (toLe 8 id))] ∧ SameBut [] s.dev e)) ∧
      (pair = 0 → held = 1 → s.dev.nb.offerCycle = s.dev.mclk → s.dev.nb.nextOff = 0 → s.dev.holds .ring = true →
        s.dev.mode.railFail = false → s.dev.out = withLines [] [.neighbour 0 (neighbourMsg 0x23 0 (toLe 8 s.dev.nb.offerId))] →
        Gives (.offer pair id len target rev) s (fun e => e.nb.holder = some 0 ∧ e.nb.length = len ∧
          e.out = withLines [] [.neighbour 1 (neighbourMsg 0x23 0 (toLe 8 id)), .neighbour 0 (neighbourMsg 0x24 0 (toLe 8 s.dev.nb.offerId))] ∧
          SameBut [.nb] s.dev e))) ∧
    (Hears s.dev → s.dev.nb.holder = some pair.val → s.dev.holds .ring = true →
      (body.length ≤ 256 → body.length % 8 = 0 → off ≠ s.dev.nb.nextOff → Gives (.neighbourData pair off body) s (fun e =>
        e.plat.reject.code = 0x1C ∧ e.plat.claim = none ∧ SameBut (.plat :: .nb :: recordBlocks) s.dev e)) ∧
      (body.length ≤ 256 → body.length % 8 = 0 → off = s.dev.nb.nextOff → s.dev.plat.bufFree = true →
        s.dev.nb.filled + body.length < 65536 → s.dev.nb.nextOff + body.length ≠ s.dev.nb.length →
        Gives (.neighbourData pair off body) s (fun e =>
          e.nb.nextOff = s.dev.nb.nextOff + body.length ∧ e.nb.filled = s.dev.nb.filled + body.length ∧
          (∀ k, k < body.length → e.plat.buf.rd (s.dev.nb.filled + k) = (body.getD k 0).toNat) ∧
          SameBut [.plat, .nb] s.dev e)) ∧
      (s.dev.plat.state = .receiving → s.dev.plat.bufFree = false → Gives (.neighbourDone pair off) s (fun e =>
        e.plat.state = .validating ∧ e.plat.ended = true ∧ SameBut [.plat] s.dev e)))

/-- The holder's side (R94 to R96, R98, R99): under the conditions of R94 a NEED_PLAT starts the stream job of its side, QUEUED;
a side that reads 5 answers nothing. The steps of the job send the OFFER, then DATA of at most 256 B, then DONE. ACCEPT
starts the stream; DECLINE and the missing answer withdraw the offer; a CHUNK_ACK of the bytes sent lets the stream go on;
RESULT sets the side to 4 or 5. -/
def Obligations.NeighbourHolder : Prop :=
  ∀ (s : State) (pair : Fin 2) (part rev id off code sec : Nat) (inp : StepIn),
    let side := 1 - pair.val
    let n := s.dev.nb.side side
    let jobAt := fun (k : Nat) (j : Job) => s.dev.svcRuns = true ∧ s.dev.tick.windowOpen.rd 3 = true ∧ s.dev.suspendedJob = none ∧
      s.dev.jobs.slot.rd k = j ∧ j.op = 0x81 ∧ j.arg0 = side ∧ j.cancel = false ∧
      j.abandon = false ∧ inp.held = false
    (Hears s.dev →
      (n.state = 5 → Gives (.needPlat pair part rev) s (fun e => e = s.dev)) ∧
      (∀ k, n.state ≠ 5 → s.dev.inRun = true → n.copy ≠ [] → leAt n.copy 0xE 2 = part → leAt n.copy 0x10 2 ≤ rev →
        s.dev.streamJob side = none → s.dev.freeSlot = some k → Gives (.needPlat pair part rev) s (fun e =>
          (e.jobs.slot.rd k).op = 0x81 ∧ (e.jobs.slot.rd k).arg0 = side ∧ (e.jobs.slot.rd k).state = .queued ∧
          (e.jobs.slot.rd k).internal = true ∧ (e.nb.side side).copy = n.copy ∧
          e.nb.side (1 - side) = s.dev.nb.side (1 - side) ∧ SameBut [.nb, .jobs] s.dev e)) ∧
      (n.state = 2 → leAt n.copy 0x18 8 = id → Gives (.accept pair id) s (fun e => (e.nb.side side).state = 3 ∧
        (e.nb.side side).sent = 0 ∧ (e.nb.side side).copy = n.copy ∧ SameBut [.nb] s.dev e)) ∧
      (n.state = 2 → leAt n.copy 0x18 8 = id → Gives (.decline pair id) s (fun e => (e.nb.side side).state = 1 ∧
        (e.nb.side side).copy = n.copy ∧ SameBut (.nb :: .jobs :: recordBlocks) s.dev e)) ∧
      (n.state = 3 → off = n.sent → 0 < off → (off % 65536 = 0 ∨ off = n.copy.length) → n.acked ≠ off →
        Gives (.chunkAck pair off) s (fun e => (e.nb.side side).acked = off ∧ (e.nb.side side).ready 1 = !n.done ∧
          SameBut [.nb] s.dev e)) ∧
      (n.copy ≠ [] → Gives (.neighbourResult pair 5 code sec) s (fun e => (e.nb.side side).state = 5 ∧
        (e.nb.side side).code = code % 256 ∧ SameBut (.nb :: recordBlocks) s.dev e)) ∧
      (n.copy ≠ [] → Gives (.neighbourResult pair 4 code sec) s (fun e => (e.nb.side side).state = 4 ∧
        (e.nb.side side).code = code % 256 ∧ SameBut [.nb] s.dev e))) ∧
    (n.state = 2 → Gives (.offerWithdraw ⟨side, by omega⟩) s (fun e => (e.nb.side side).state = 1 ∧
      (e.nb.side side).copy = n.copy ∧ SameBut (.nb :: .jobs :: recordBlocks) s.dev e)) ∧
    (∀ k j, s.dev.pickJob = some (k, j) → jobAt k j → j.phase = 0 → Gives (.jobStep inp) s (fun e => (e.jobs.slot.rd k).state = .running ∧
      (e.nb.side side).state = 2 ∧ (e.jobs.slot.rd k).phase = 1 ∧
      e.out = s.dev.shown [.neighbour side (neighbourMsg 0x22 0 (slice n.copy 0x18 8 ++ slice n.copy 8 4 ++ slice n.copy 0xE 2 ++ slice n.copy 0x10 2))] ∧
      SameBut [.nb, .jobs, .evt, .pcie] s.dev e)) ∧
    (∀ k j, s.dev.pickJob = some (k, j) → jobAt k j → j.phase = 1 → n.state = 3 → s.dev.mode.railFail = false →
      (n.sent < n.copy.length → Gives (.jobStep inp) s (fun e =>
        (e.nb.side side).sent = n.sent + min 256 (n.copy.length - n.sent) ∧
        .neighbour side (neighbourMsg 0x25 n.sent (slice n.copy n.sent (min 256 (n.copy.length - n.sent)))) ∈ e.out ∧
        SameBut [.nb, .jobs, .evt, .pcie] s.dev e)) ∧
      (n.copy.length ≤ n.sent → Gives (.jobStep inp) s (fun e => (e.nb.side side).done = true ∧
        .neighbour side (neighbourMsg 0x27 n.copy.length []) ∈ e.out ∧ SameBut [.nb, .jobs, .evt, .pcie] s.dev e)))

/-! ### The survey tick -/

/-- A boundary of a device that has joined the survey tick, with no correction under way: it takes the next number, commits
accepted in the tick MCLK cycle wait for the next boundary, and every step budget opens at the BUDGET in force less its
carry (R32, R100, R115 to R118). A commit that waited for it takes effect: windows, Gazetteer, Bearing and Routing-ID
entries stand in their tables, and Boundary rules in theirs with a new epoch (R305, R387, R391). A boundary that ends a
step adopts the parent's number (R111). Before the device joins there is no boundary (R517). -/
def Obligations.BoundaryWork : Prop :=
  ∀ s : State,
    let due := fun (c : Commit) (P : Dev → Prop) => s.dev.tick.joined = true → s.dev.commits = [(false, c)] →
      s.dev.plat.amendState ≠ 2 → Gives .tickBoundary s P
    (s.dev.tick.joined = true → s.dev.tick.stepLeft = 0 → s.dev.tick.adopt = none →
      Gives .tickBoundary s (fun e => e.tick.started = true ∧ e.tick.number = s.dev.tick.nextNumber % 2 ^ 56 ∧
        e.tick.nextNumber = (s.dev.tick.nextNumber % 2 ^ 56 + 1) % 2 ^ 56 ∧ e.tick.last = s.dev.tick.next ∧
        e.tick.announced = false ∧ e.part = s.dev.part ∧
        (s.dev.commits.all (fun x => x.1) = true → e.commits = s.dev.commits.map (fun x => (false, x.2))) ∧
        ∀ c, c < 5 → e.tick.inForce.rd c = e.run.budget.rd c - s.dev.tick.carry.rd c)) ∧
    (∀ es, due (.windows es) (fun e => e.fab.win = wrAll s.dev.fab.win es ∧ e.fab.winGrp = s.dev.fab.winGrp.effect ∧ e.commits = [])) ∧
    (∀ es, due (.gazetteer es) (fun e => e.fab.gaz = wrAll s.dev.fab.gaz es ∧ e.fab.gazGrp = s.dev.fab.gazGrp.effect ∧ e.commits = [])) ∧
    (∀ es, due (.bearing es) (fun e => e.fab.bearing = wrAll s.dev.fab.bearing es ∧ e.fab.bearingGrp = s.dev.fab.bearingGrp.effect ∧ e.commits = [])) ∧
    (∀ es, due (.rid es) (fun e => e.fab.rid = wrAll s.dev.fab.rid es ∧ e.fab.ridGrp = s.dev.fab.ridGrp.effect ∧ e.commits = [])) ∧
    (∀ table es, due (.rules table es) (fun e => e.bnd.rule = (s.dev.applyRules table es).bnd.rule ∧
      e.bnd.epoch = s.dev.bnd.advance.epoch ∧ e.commits = [])) ∧
    (∀ n, s.dev.tick.joined = true → s.dev.tick.stepLeft = 0 → s.dev.tick.adopt = some n →
      Gives .tickBoundary s (fun e => e.tick.number = n % 2 ^ 56 ∧ e.tick.adopt = none)) ∧
    (s.dev.tick.joined = false → Gives .tickBoundary s (fun e => e = s.dev))

/-- TICK_MARK_SEND puts a mark on both SRO pairs; TICK_IN_MISSED puts a LOCKED follower into HOLDOVER with its Warning;
after 4 ms HOLDOVER, or ACQUIRING without a mark, gives way to FREE_RUN, which has no parent (Table 4.2, R103, R109,
R112, R518). -/
def Obligations.TickStates : Prop :=
  ∀ s : State,
    (s.dev.tick.joined = true → s.dev.run.tickSource = 0 → (s.dev.run.tickSourceRole = true ∨
        (s.dev.tick.state = .locked ∧ s.dev.tick.slew = 0) ∨ s.dev.tick.state = .holdover) →
      Gives .tickMarkSend s (fun e => SameBut [] s.dev e ∧ ∃ m : Mark,
        m = s.dev.ownMark ∧ m.depth = s.dev.tick.depth ∧ m.number = s.dev.tick.nextNumber ∧
        e.out = s.dev.shown [.mark 1 m.sourceId m.depth m.period m.holdover m.number m.remain,
          .mark 0 m.sourceId m.depth m.period m.holdover m.number m.remain])) ∧
    (s.dev.follows = true → s.dev.run.tickSource = 2 → s.dev.tick.state = .locked → Gives .tickInMissed s (fun e =>
      e.tick.state = .holdover ∧ e.tick.run = 0 ∧ e.tick.parent = s.dev.tick.parent ∧
      e.evt.status.getLsbD 0x021 = true ∧ bitAt e.cont.corStatus 4 = true ∧
      SameBut (.tick :: .cont :: recordBlocks) s.dev e)) ∧
    (s.dev.follows = true → s.dev.tick.state = .holdover → Gives .holdoverTimeout s (fun e =>
      e.tick.state = .freeRun ∧ e.tick.parent = none ∧ e.tick.sourceId = 0 ∧ e.tick.depth = 0 ∧
      SameBut (.tick :: recordBlocks) s.dev e)) ∧
    (s.dev.follows = true → s.dev.tick.state = .acquiring → s.dev.run.tickSource ≠ 2 → s.dev.tick.inputs = [] →
      Gives .acquiringTimeout s (fun e => e.tick.state = .freeRun ∧ e.tick.parent = none ∧
        SameBut (.tick :: recordBlocks) s.dev e)) ∧
    (s.dev.follows = true → s.dev.tick.state = .acquiring → s.dev.run.tickSource = 2 → s.dev.tick.run < 4 →
      Gives .acquiringTimeout s (fun e => e.tick.state = .freeRun ∧ SameBut (.tick :: recordBlocks) s.dev e))

/-- TICK_MARK: before run-mode entry a mark heard on an SRI pair is repeated with its DEPTH plus 1, and with the package
switch in its bypass position it passes unchanged (R88, R105). A source records TICK_SOURCE_CONFLICT once per input and does
not follow; a mark of another PERIOD is ignored with TICK_PERIOD_MISMATCH once per input; a mark of DEPTH above 30 does
nothing; an accepted mark of the parent gives its SOURCE_ID and its DEPTH plus 1, and after 8 delay exchanges places the
coming boundary (R104, R106). -/
def Obligations.MarksAccepted : Prop :=
  ∀ (s : State) (k : Nat) (m : Mark) (t : Nat),
    (k < 2 → s.dev.pkg.srDie = false → Gives (.tickMark k m t) s (fun e =>
      e.out = .mark k m.sourceId m.depth m.period m.holdover m.number m.remain :: s.dev.out ∧ SameBut [] s.dev e)) ∧
    (k < 2 → Hears s.dev → s.dev.tick.joined = false → s.dev.mode.base ≠ .m0 → Gives (.tickMark k m t) s (fun e =>
      (∃ r, r ≤ m.remain ∧ e.out = s.dev.shown [.mark k m.sourceId ((m.depth + 1) % 32) m.period m.holdover m.number r]) ∧ SameBut [] s.dev e)) ∧
    (s.dev.tick.joined = true → (2 ≤ k ∨ Hears s.dev) →
    (s.dev.run.tickSourceRole = true → (s.dev.tick.inputs.rd k).conflict = false → Gives (.tickMark k m t) s (fun e =>
      (e.tick.inputs.rd k).conflict = true ∧ e.tick.parent = s.dev.tick.parent ∧ e.tick.next = s.dev.tick.next ∧
      e.evt.status.getLsbD 0x023 = true ∧ SameBut (.tick :: recordBlocks) s.dev e)) ∧
    (s.dev.run.tickSourceRole = true → (s.dev.tick.inputs.rd k).conflict = true →
      Gives (.tickMark k m t) s (fun e => e = s.dev)) ∧
    (s.dev.run.tickSourceRole = false → s.dev.tickInput k = true →
      (m.period ≠ s.dev.run.tickPeriod → (s.dev.tick.inputs.rd k).mismatch = false →
        Gives (.tickMark k m t) s (fun e => (e.tick.inputs.rd k).mismatch = true ∧ e.tick.next = s.dev.tick.next ∧
          e.tick.state = s.dev.tick.state ∧ e.evt.status.getLsbD 0x022 = true ∧
          SameBut (.tick :: recordBlocks) s.dev e)) ∧
      (m.period = s.dev.run.tickPeriod → 30 < m.depth → Gives (.tickMark k m t) s (fun e => e = s.dev)) ∧
      (m.period = s.dev.run.tickPeriod → m.depth ≤ 30 → s.dev.tick.parent = some k → s.dev.tick.exchanges < 8 →
        Gives (.tickMark k m t) s (fun e => e.tick.sourceId = m.sourceId ∧ e.tick.depth = m.depth + 1 ∧
          e.tick.announced = true ∧ e.tick.next = s.dev.tick.next ∧ SameBut [.tick] s.dev e)) ∧
      (m.period = s.dev.run.tickPeriod → m.depth ≤ 30 → s.dev.tick.parent = some k → s.dev.tick.exchanges = 8 →
        s.dev.tick.state = .locked → s.dev.tick.steady = true → s.dev.tick.last < t + m.remain - s.dev.tick.hopDelay →
        Gives (.tickMark k m t) s (fun e => e.tick.next = t + m.remain - s.dev.tick.hopDelay ∧
          e.tick.state = .locked ∧ SameBut [.tick] s.dev e))))

/-- The delay exchange of a follower with a ring parent: the request leaves, a request that arrives is answered, and the
response gives half of (t4 - t1) - (t3 - t2); a parent whose marks have stopped gives way to the input that ranks first
(R104, R106). -/
def Obligations.DelayExchange : Prop :=
  ∀ (s : State) (k id x t : Nat), s.dev.follows = true → k < 2 → Hears s.dev →
    (s.dev.tick.parent = some k → s.dev.tick.exchanges < 8 → Gives .delayExchange s (fun e =>
      e.tick.open_.rd s.dev.tick.nextId = some s.dev.now ∧ e.out = s.dev.shown [.delayReq (1 - k) s.dev.tick.nextId] ∧
      SameBut [.tick] s.dev e)) ∧
    (s.dev.mode.base ≠ .m0 → Gives (.delayReq k id t) s (fun e =>
      e.out = s.dev.shown [.delayResp (1 - k) (id % 16) ((s.dev.now - t) % 2 ^ 32)] ∧ SameBut [] s.dev e)) ∧
    (∀ t1, s.dev.tick.parent = some k → s.dev.tick.open_.rd (id % 16) = some t1 →
      Gives (.delayResp k id x t) s (fun e => e.tick.delays = ((t - t1 - x) / 2 :: s.dev.tick.delays).take 8 ∧
        e.tick.exchanges = min 8 (s.dev.tick.exchanges + 1) ∧ e.tick.open_.rd (id % 16) = none ∧
        SameBut [.tick] s.dev e)) ∧
    (∀ b, s.dev.tick.parent = some k → s.dev.tick.best = some b → b ≠ k →
      (16 ≤ (s.dev.tick.inputs.rd k).age ∨ 1024 ≤ (s.dev.tick.inputs.rd b).first) → Gives .parentChange s (fun e =>
        e.tick.parent = some b ∧ e.tick.exchanges = 0 ∧ e.tick.state = s.dev.tick.state ∧ SameBut [.tick] s.dev e))

/-- TICK_IN: a LOCKED follower takes an edge within 50 ns of one period after the last, which places the next boundary
and takes a loaded number, and ignores any other; the first edge of an acquiring follower starts its run. A Steward's
TICK_NUMBER_LOAD waits for the next edge, and is dropped with a Warning when SOURCE is not 2 (R108, R109, Table 4.3). -/
def Obligations.TickInEdges : Prop :=
  ∀ (s : State) (t : Nat) (p : CmdPort) (v : DWord),
    (s.dev.follows = true → s.dev.run.tickSource = 2 →
      (s.dev.tick.state = .locked → ¬ (t - s.dev.tick.lastEdge.getD 0 ≤ s.dev.period + 800 ∧
          s.dev.period ≤ t - s.dev.tick.lastEdge.getD 0 + 800) → Gives (.tickInEdge t) s (fun e => e = s.dev)) ∧
      (s.dev.tick.state = .locked → t - s.dev.tick.lastEdge.getD 0 ≤ s.dev.period + 800 →
        s.dev.period ≤ t - s.dev.tick.lastEdge.getD 0 + 800 → s.dev.tick.steady = true →
        s.dev.tick.last < s.dev.edgePlace t → 2 * (s.dev.edgePlace t - s.dev.tick.next) ≤ s.dev.period →
        Gives (.tickInEdge t) s (fun e => e.tick.next = t + s.dev.period - s.dev.tick.pinUnits ∧
          e.tick.lastEdge = some t ∧ e.tick.nextNumber = s.dev.tick.numberLoad.getD s.dev.tick.nextNumber ∧
          e.tick.numberLoad = none ∧ SameBut [.tick] s.dev e)) ∧
      (s.dev.tick.state = .acquiring → s.dev.tick.lastEdge = none → Gives (.tickInEdge t) s (fun e =>
        e.tick.run = 1 ∧ e.tick.lastEdge = some t ∧ e.tick.state = .acquiring ∧ SameBut [.tick] s.dev e))) ∧
    (s.dev.reach p 0x10058 8 true (some v.toNat) = .ok → s.dev.regLocked (s.dev.regAttr p 0x10058) = false →
      (s.dev.run.tickSource = 2 → Gives (.tickNumberLoad p v) s (fun e =>
        e.tick.numberLoad = some (v.toNat % 2 ^ 56) ∧ SameBut (.tick :: .port :: accessBlocks) s.dev e)) ∧
      (s.dev.run.tickSource ≠ 2 → Gives (.tickNumberLoad p v) s (fun e => e.tick = s.dev.tick ∧
        e.evt.status.getLsbD 0x04A = true ∧ SameBut (.port :: recordBlocks) s.dev e)))

/-- BUDGET_END closes the window; overrun cycles are carried and counted, and TICK_OVERRUN is recorded with the physical
core (R117). -/
def Obligations.BudgetCloses : Prop :=
  ∀ (s : State) (c : Fin 5) (n : Nat), s.dev.tick.windowOpen.rd c = true →
    Gives (.budgetEnd c 0) s (fun e => e.tick.windowOpen.rd c = false ∧ e.tick.carry = s.dev.tick.carry ∧
      SameBut [.tick] s.dev e) ∧
    (0 < n → s.dev.roleWorks c = true → Gives (.budgetEnd c n) s (fun e => e.tick.windowOpen.rd c = false ∧
      e.tick.carry.rd c = s.dev.tick.carry.rd c + n ∧
      e.tick.overrunTicks.rd c = min 65535 (s.dev.tick.overrunTicks.rd c + 1) ∧
      e.evt.status.getLsbD 0x025 = true ∧ SameBut (.tick :: recordBlocks) s.dev e))

/-! ### Jobs -/

/-- JOB_GO of each operation: an accepted request becomes a QUEUED job with its arguments in the lowest free slot, and
JOB_ISSUED shows its handle; a refused one leaves every job as it is, and JOB_ISSUED shows the code: WRONG_MODE, BAD_OP,
NOT_AUTHORISED, then the arguments and the object, then NO_SLOT (R119 to R122, Table 4.7). -/
def Obligations.JobSubmission : Prop :=
  ∀ (s : State) (p : CmdPort) (op : Nat) (c : Instr) (r : Request),
    (s.dev.inRunOrTest = false → s.dev.submitCode p r = 5) ∧
    (s.dev.inRunOrTest = true → (r.op = 0 ∨ 0xB < r.op) → s.dev.submitCode p r = 3) ∧
    (s.dev.inRunOrTest = true → 1 ≤ r.op → r.op ≤ 0xB → s.dev.isSteward p = false → s.dev.tenantOf p = none →
      s.dev.submitCode p r = 2) ∧
    (s.dev.inRunOrTest = true → 1 ≤ r.op → r.op ≤ 0xB → r.op ≠ 4 → s.dev.isSteward p = false → s.dev.submitCode p r = 2) ∧
    (s.dev.inRunOrTest = true → r.op = 9 → s.dev.isSteward p = true → 2047 < r.a0 → s.dev.submitCode p r = 4) ∧
    (s.dev.inRunOrTest = true → 1 ≤ r.op → r.op ≤ 0xB → s.dev.maySubmit p r = true → s.dev.argCode p r = 0 →
      s.dev.freeSlot = none → s.dev.submitCode p r = 1) ∧
    ((op, c) ∈ [(1, Instr.gazetteerLoad p), (2, Instr.bearingLoad p), (3, Instr.boundaryLoad p),
      (4, Instr.functionReset p), (5, Instr.laneSwap p), (6, Instr.pllSwap p), (7, Instr.planeSwap p),
      (8, Instr.sramRowSwap p), (9, Instr.scrub p), (10, Instr.linkRetrain p), (11, Instr.widthSpeedChange p)] →
      (s.dev.portSt p).jobOp = op → WritePasses s.dev p 0x10128 1 →
      (∀ k, s.dev.submitCode p (s.dev.portSt p).request = 0 → s.dev.freeSlot = some k → Gives c s (fun e =>
        (e.jobs.slot.rd k).state = .queued ∧ (e.jobs.slot.rd k).op = op ∧ (e.jobs.slot.rd k).internal = false ∧
        (e.jobs.slot.rd k).source = sourceCode p ∧ (e.jobs.slot.rd k).arg0 = (s.dev.portSt p).jobArg.rd 0 ∧
        (e.jobs.slot.rd k).arg1 = (s.dev.portSt p).jobArg.rd 1 ∧
        (e.portSt p).jobIssued = 65536 * (64 * (s.dev.jobs.gen.rd k + 1) + k) ∧
        (op ≠ 4 → (∀ n, n ≠ k → e.jobs.slot.rd n = s.dev.jobs.slot.rd n) ∧
          SameBut (.jobs :: .port :: accessBlocks) s.dev e))) ∧
      (s.dev.submitCode p (s.dev.portSt p).request ≠ 0 → Gives c s (fun e =>
        (e.portSt p).jobIssued = s.dev.submitCode p (s.dev.portSt p).request ∧ e.evt.status.getLsbD 0x027 = true ∧
        SameBut (.port :: recordBlocks) s.dev e)))

/-- JOB[s].CTRL: with the slot's handle RELEASE frees an ended job and advances the generation, and CANCEL marks an
active one; a RELEASE of an active job, and a write with another handle, are dropped at severity Note (R119, R124,
R125). -/
def Obligations.JobControl : Prop :=
  ∀ (s : State) (p : CmdPort) (k : Fin 64) (h : Fin 65536),
    (WritePasses s.dev p (jobCtrlAddr k) (2 + 65536 * h) →
      (h.val = s.dev.handle k → (s.dev.job k).ended = true → Gives (.jobRelease p k h) s (fun e =>
        e.jobs.slot.rd k = {} ∧ e.jobs.gen.rd k = (s.dev.jobs.gen.rd k + 1) % 1023 ∧
        (∀ n : Nat, n ≠ k.val → e.jobs.slot.rd n = s.dev.jobs.slot.rd n) ∧ SameBut (.jobs :: accessBlocks) s.dev e)) ∧
      ((h.val ≠ s.dev.handle k ∨ (s.dev.job k).ended = false) → Gives (.jobRelease p k h) s (fun e =>
        e.evt.status.getLsbD 0x04A = true ∧ SameBut recordBlocks s.dev e))) ∧
    (WritePasses s.dev p (jobCtrlAddr k) (1 + 65536 * h) →
      (h.val = s.dev.handle k → (s.dev.job k).state ≠ .free → Gives (.jobCancel p k h) s (fun e =>
        e.jobs.slot.rd k = { s.dev.job k with cancel := true } ∧
        (∀ n : Nat, n ≠ k.val → e.jobs.slot.rd n = s.dev.jobs.slot.rd n) ∧ SameBut (.jobs :: accessBlocks) s.dev e)) ∧
      (h.val ≠ s.dev.handle k → Gives (.jobCancel p k h) s (fun e =>
        e.evt.status.getLsbD 0x04A = true ∧ SameBut recordBlocks s.dev e)))

/-- JOB_STEP: in its window the SVC steps the job whose turn it is. A cancelled job that has reached no commit step ends
CANCELLED with its progress; the first step of a QUEUED job makes it RUNNING; a commit step makes it COMMITTING and puts
its commit into the queue of the boundary, to wait for the next one when it is accepted in the tick MCLK cycle (R32). A
step that the window's end cuts short is suspended, and resumes first (R117). With the window closed, or the SVC not
running, no job moves (R116, R123 to R125). -/
def Obligations.JobSteps : Prop :=
  ∀ (s : State) (inp : StepIn),
    ((s.dev.svcRuns = false ∨ s.dev.tick.windowOpen.rd 3 = false) → Gives (.jobStep inp) s (fun e => e = s.dev)) ∧
    (∀ k j, s.dev.pickJob = some (k, j) → s.dev.svcRuns = true → s.dev.tick.windowOpen.rd 3 = true →
      s.dev.suspendedJob = none → s.dev.jobs.slot.rd k = j → j.op = 9 →
      (j.cancel = true → j.internal = false → (j.state = .queued ∨ j.state = .running) → j.phase ≠ 9 →
        j.abandon = false → Gives (.jobStep inp) s (fun e => (e.jobs.slot.rd k).state = .cancelled ∧
          (e.jobs.slot.rd k).result = 1 ∧ (e.jobs.slot.rd k).detail = j.progress % 2 ^ 24 ∧
          e.cont = s.dev.cont ∧ e.part = s.dev.part)) ∧
      (j.cancel = false → j.abandon = false → inp.held = false → inp.found = [] → j.progress + 8192 < j.total →
        Gives (.jobStep inp) s (fun e => (e.jobs.slot.rd k).state = .running ∧
          (e.jobs.slot.rd k).progress = j.progress + 8192 ∧ (∀ n, n ≠ k → e.jobs.slot.rd n = s.dev.jobs.slot.rd n) ∧
          SameBut [.jobs, .evt, .pcie] s.dev e))) ∧
    (∀ k j, s.dev.pickJob = some (k, j) → s.dev.svcRuns = true → s.dev.tick.windowOpen.rd 3 = true →
      s.dev.suspendedJob = none → s.dev.jobs.slot.rd k = j → j.cancel = false → j.abandon = false →
      (inp.held = true → Gives (.jobStep inp) s (fun e => (e.jobs.slot.rd k).state = .running ∧ e.jobs.suspended = some k ∧
        (e.jobs.slot.rd k).progress = j.progress ∧ SameBut [.jobs, .evt, .pcie] s.dev e)) ∧
      (inp.held = false → j.op = 1 → j.phase = 0 → j.progress = j.total → Gives (.jobStep inp) s (fun e =>
        (e.jobs.slot.rd k).state = .committing ∧ e.commits = s.dev.commits ++ [(s.dev.tickCycleHere, .job k)] ∧
        SameBut [.jobs, .commits, .evt, .pcie] s.dev e))) ∧
    (∀ k j, s.dev.suspendedJob = some (k, j) → s.dev.svcRuns = true → s.dev.tick.windowOpen.rd 3 = true → j.op = 9 →
      j.phase = 0 → inp.held = false → inp.found = [] → j.progress + 8192 < j.total → Gives (.jobStep inp) s (fun e =>
        (e.jobs.slot.rd k).progress = j.progress + 8192 ∧ e.jobs.suspended = none ∧
        (∀ n, n ≠ k → e.jobs.slot.rd n = s.dev.jobs.slot.rd n) ∧ SameBut [.jobs, .evt, .pcie] s.dev e))

/-! ### Lanes -/

/-- Training: signal and clock recovery move a lane from DETECT to CDR and to BLOCK_HUNT, where it sends TRAIN blocks. A run
of 64 control blocks locks it, in CTLE or, with a FIXED receiver, in FFE; a run of data headers inverts the input, which a
run of IDLE and TRAIN blocks must confirm; a mixed run is discarded, and one with an invalid header does nothing. A lane
past BLOCK_HUNT locks again. What arrives at T8 while its bypass is closed passes on unchanged. A lane that exceeds a limit is FAILED, or its spare takes its place without a cut-over. Nothing
but the lane changes while it hunts (R132, R145, Table 5.4). -/
def Obligations.LaneTraining : Prop :=
  ∀ (s : State) (t : Fin 9) (n : Fin 18) (heads loads run : List Nat), run = lineBlocks heads loads →
    (s.dev.atDie t = false → (s.dev.lane t n).loop = 0 → run ≠ [] →
      Gives (.blockLock t n heads loads) s (fun e => e = { s.dev with out := .through [18 * t + t8Mate n] run :: s.dev.out }) ∧
      Gives (.signalDetect t n) s (fun e => e = s.dev) ∧ Gives (.cdrLock t n) s (fun e => e = s.dev)) ∧
    (s.dev.atDie t = true → (s.dev.lane t n).state = 1 → Gives (.signalDetect t n) s (fun e =>
      e = s.dev.setLane t n (fun l => { l with state := 2 }))) ∧
    (s.dev.atDie t = true → (s.dev.lane t n).state = 2 → Gives (.cdrLock t n) s (fun e => (e.lane t n).state = 3 ∧ (e.lane t n).cdr = true ∧
      e = (s.dev.setLane t n (fun l => { l with state := 3, cdr := true })).sendTrain t n ∧ SameBut [.ln] s.dev e)) ∧
    (s.dev.atDie t = true → runValid (s.dev.heard t n run) = false → Gives (.blockLock t n heads loads) s (fun e => e = s.dev)) ∧
    (s.dev.atDie t = true → (s.dev.lane t n).state = 3 → runValid (s.dev.heard t n run) = true →
      ((s.dev.lane t n).confirm = false → runKind ctrlHeader (s.dev.heard t n run) = true →
        Gives (.blockLock t n heads loads) s (fun e => (e.lane t n).lock = true ∧
          (e.lane t n).state = (if bitAt (s.dev.lane t n).rxAcc 31 then 5 else 4) ∧
          (e.lane t n).polInv = (s.dev.lane t n).polInv ∧ SameBut [.ln] s.dev e)) ∧
      ((s.dev.lane t n).confirm = false → runKind dataHeader (s.dev.heard t n run) = true →
        Gives (.blockLock t n heads loads) s (fun e => (e.lane t n).polInv = true ∧ (e.lane t n).confirm = true ∧
          (e.lane t n).state = 3 ∧ (e.lane t n).lock = (s.dev.lane t n).lock ∧ SameBut [.ln] s.dev e)) ∧
      ((s.dev.lane t n).confirm = false → runKind ctrlHeader (s.dev.heard t n run) = false →
        runKind dataHeader (s.dev.heard t n run) = false → Gives (.blockLock t n heads loads) s (fun e =>
          (e.lane t n).state = 3 ∧ (e.lane t n).lock = (s.dev.lane t n).lock ∧
          (e.lane t n).polInv = (s.dev.lane t n).polInv ∧ SameBut [.ln] s.dev e)) ∧
      ((s.dev.lane t n).confirm = true → runKind ctrlHeader (s.dev.heard t n run) = true →
        idleOrTrain (descramBlocks (s.dev.lane t n).descram (s.dev.heard t n run)).2 = true →
        Gives (.blockLock t n heads loads) s (fun e => (e.lane t n).lock = true ∧ (e.lane t n).confirm = false ∧
          (e.lane t n).polInv = (s.dev.lane t n).polInv ∧
          (e.lane t n).state = (if bitAt (s.dev.lane t n).rxAcc 31 then 5 else 4) ∧ SameBut [.ln] s.dev e)) ∧
      ((s.dev.lane t n).confirm = true → (runKind ctrlHeader (s.dev.heard t n run) = false ∨
          idleOrTrain (descramBlocks (s.dev.lane t n).descram (s.dev.heard t n run)).2 = false) →
        Gives (.blockLock t n heads loads) s (fun e => (e.lane t n).polInv = false ∧ (e.lane t n).confirm = false ∧
          (e.lane t n).state = 3 ∧ (e.lane t n).lock = (s.dev.lane t n).lock ∧ SameBut [.ln] s.dev e))) ∧
    (s.dev.atDie t = true → 4 ≤ (s.dev.lane t n).state → (s.dev.lane t n).state ≤ 9 → runValid (s.dev.heard t n run) = true →
      Gives (.blockLock t n heads loads) s (fun e => (e.lane t n).lock = true ∧ (e.lane t n).state = (s.dev.lane t n).state ∧
        SameBut [.ln] s.dev e)) ∧
    (((s.dev.lane t n).state = 2 ∨ (s.dev.lane t n).state = 3 ∨ (s.dev.lane t n).state = 6) →
      ((∀ p, (s.dev.lane t n).port = some p → n.val < 16 → (s.dev.link p).state = 1 → s.dev.spareReady p n = false) →
        Gives (.trainingTimeout t n) s (fun e => (e.lane t n).state = 12 ∧ (e.lane t n).lock = false ∧
          (e.lane t n).cdr = false ∧ SameBut (.ln :: .jobs :: recordBlocks) s.dev e)) ∧
      (∀ p, (s.dev.lane t n).port = some p → n.val < 16 → (s.dev.link p).state = 1 → s.dev.spareReady p n = true →
        Gives (.trainingTimeout t n) s (fun e => (e.lane t n).state = 10 ∧ (e.lane t n).retired = true ∧
          (e.lane t (spareLane n)).state = 9 ∧ (e.lane t (spareLane n)).serves = n.val ∧
          (e.lane t (spareLane n)).logical = (s.dev.lane t n).logical ∧ (e.link p).state = 1 ∧
          bitAt e.cont.corStatus 5 = true ∧ SameBut (.ln :: .jobs :: .cont :: recordBlocks) s.dev e)))

/-- A FOM window of a lane that carries blocks gives its FOM, adds its invalid headers to HDR_ERR, counts HEALTH when the FOM
is below the floor or a header was invalid in lock, and changes no coefficient; a window of CTLE keeps the better setting
and moves on; a lane under a margining measurement keeps its FOM and HEALTH, and its headers count; on an H lane whose
equaliser searches, the window measures the preset in force (R132, R138 to R141, R144). -/
def Obligations.FomWindows : Prop :=
  ∀ (s : State) (t : Fin 9) (n : Fin 18) (eye spacing bad bits errs : Nat), 0 < spacing → s.dev.mode.base ≠ .m0 →
    ((s.dev.lane t n).frozen = true → Gives (.fomWindowEnd t n eye spacing ⟨bad, bits, errs⟩) s (fun e =>
      (e.lane t n).fom = (s.dev.lane t n).fom ∧ (e.lane t n).health = (s.dev.lane t n).health ∧
      (e.lane t n).hdrErr = min (2 ^ 32 - 1) ((s.dev.lane t n).hdrErr + bad) ∧ SameBut [.ln] s.dev e)) ∧
    ((s.dev.lane t n).frozen = false → (s.dev.lane t n).state = 7 → (s.dev.lane t n).sawBad = false →
      (s.dev.lane t n).floor ≤ fomOf eye spacing → (s.dev.lane t n).hEq.on = false →
      Gives (.fomWindowEnd t n eye spacing ⟨0, bits, errs⟩) s (fun e =>
        (e.lane t n).fom = min 255 (256 * eye / spacing) ∧ (e.lane t n).health = (s.dev.lane t n).health ∧
        (e.lane t n).pre = (s.dev.lane t n).pre ∧ (e.lane t n).main = (s.dev.lane t n).main ∧
        (e.lane t n).post = (s.dev.lane t n).post ∧ (e.lane t n).state = 7 ∧ SameBut [.ln] s.dev e)) ∧
    ((s.dev.lane t n).frozen = false → (s.dev.lane t n).state = 7 →
      (fomOf eye spacing < (s.dev.lane t n).floor ∨ (s.dev.lane t n).sawBad = true ∨ 0 < bad) →
      Gives (.fomWindowEnd t n eye spacing ⟨bad, bits, errs⟩) s (fun e =>
        (e.lane t n).fom = min 255 (256 * eye / spacing) ∧
        (e.lane t n).health = min 65535 ((s.dev.lane t n).health + 1) ∧ (e.lane t n).sawBad = false ∧
        (e.lane t n).hdrErr = min (2 ^ 32 - 1) ((s.dev.lane t n).hdrErr + bad) ∧
        SameBut (.ln :: .jobs :: .cont :: recordBlocks) s.dev e)) ∧
    ((s.dev.lane t n).frozen = false → (s.dev.lane t n).state = 4 → (s.dev.lane t n).ctle < 15 →
      (s.dev.lane t n).sawBad = false → (s.dev.lane t n).floor ≤ fomOf eye spacing → (s.dev.lane t n).hEq.on = false →
      Gives (.fomWindowEnd t n eye spacing ⟨0, bits, errs⟩) s (fun e => (e.lane t n).ctle = (s.dev.lane t n).ctle + 1 ∧
        (e.lane t n).state = 4 ∧ SameBut [.ln] s.dev e ∧
        ∀ b, (s.dev.lane t n).ctleBest = some b → (e.lane t n).ctleBest =
          if b.1 < fomOf eye spacing then some (fomOf eye spacing, (s.dev.lane t n).ctle) else some b)) ∧
    ((s.dev.lane t n).frozen = false → (s.dev.lane t n).hEq.on = true →
      Gives (.fomWindowEnd t n eye spacing ⟨bad, bits, errs⟩) s (fun e =>
        (e.lane t n).hEq = (s.dev.lane t n).hEq.measured (fomOf eye spacing) ∧
        (e.lane t n).pre = (s.dev.lane t n).pre ∧ (e.lane t n).fom = min 255 (256 * eye / spacing) ∧
        SameBut (.ln :: .jobs :: .cont :: recordBlocks) s.dev e))

/-- A TRAIN block's request for a step of one tap: applied when the set stays within R135, else answered with COEF_ACK 1
and no change; a FIXED set never moves. On a lane of an H port a training set's request is applied, or rejected when it is
outside FS = 48 and LF = 12, and answered with both; in the phase that this end evaluates the search over the presets
begins (R135, R136, R142, R144). -/
def Obligations.TrainRequests : Prop :=
  ∀ (s : State) (t : Fin 9) (n : Fin 18) (b : TrainBlk), s.dev.atDie t = true →
    (b.eq = none → ((s.dev.lane t n).state = 3 ∨ (s.dev.lane t n).state = 4 ∨ (s.dev.lane t n).state = 6) →
      (s.dev.lane t n).pre ≤ 8 → (s.dev.lane t n).post ≤ 16 →
      (bitAt (s.dev.lane t n).txAcc 31 = false → b.preReq = 0 → b.postReq = 1 → (s.dev.lane t n).post < 16 →
        12 + 2 * ((s.dev.lane t n).pre + (s.dev.lane t n).post + 1) ≤ 48 → Gives (.train t n b) s (fun e =>
          (e.lane t n).post = (s.dev.lane t n).post + 1 ∧ (e.lane t n).pre = (s.dev.lane t n).pre ∧
          (e.lane t n).main + (e.lane t n).pre + (e.lane t n).post = 48 ∧ (e.lane t n).coefAck = 0 ∧
          SameBut [.ln] s.dev e)) ∧
      (bitAt (s.dev.lane t n).txAcc 31 = false → b.preReq = 2 → b.postReq = 0 → 0 < (s.dev.lane t n).pre →
        12 + 2 * ((s.dev.lane t n).pre + (s.dev.lane t n).post) ≤ 48 → Gives (.train t n b) s (fun e =>
          (e.lane t n).pre + 1 = (s.dev.lane t n).pre ∧ (e.lane t n).post = (s.dev.lane t n).post ∧
          (e.lane t n).main + (e.lane t n).pre + (e.lane t n).post = 48 ∧ (e.lane t n).coefAck = 0 ∧
          SameBut [.ln] s.dev e)) ∧
      (((b.preReq = 0 ∧ b.postReq = 1 ∧ ((s.dev.lane t n).post = 16 ∨ bitAt (s.dev.lane t n).txAcc 31 = true ∨
            48 < 12 + 2 * ((s.dev.lane t n).pre + (s.dev.lane t n).post + 1))) ∨
          (b.preReq = 2 ∧ b.postReq = 0 ∧ ((s.dev.lane t n).pre = 0 ∨ bitAt (s.dev.lane t n).txAcc 31 = true))) →
        Gives (.train t n b) s (fun e => (e.lane t n).post = (s.dev.lane t n).post ∧
          (e.lane t n).pre = (s.dev.lane t n).pre ∧ (e.lane t n).main = (s.dev.lane t n).main ∧
          (e.lane t n).coefAck = 1 ∧ SameBut [.ln] s.dev e))) ∧
    (∀ q, b.eq = some q → ∀ p, s.dev.cutPort t n = some p → s.dev.isH p = true → n.val < 16 →
      (q.phase ≠ s.dev.evalPhase p → q.phase ≠ 1 → ∀ c, q.coefs = some c → Gives (.train t n b) s (fun e =>
        (e.lane t n).pre = c.1 ∧ (e.lane t n).post = c.2 ∧ (e.lane t n).main = 48 - c.1 - c.2 ∧
        e.out = s.dev.shown [.eqTs (laneKey t n) { phase := q.phase, usePreset := q.usePreset, preset := q.preset, pre := c.1, main := 48 - c.1 - c.2, post := c.2, fs := 48, lf := 12 }] ∧
        SameBut [.ln, .pcie] s.dev e)) ∧
      (q.phase ≠ s.dev.evalPhase p → q.phase ≠ 1 → q.coefs = none → Gives (.train t n b) s (fun e =>
        (e.lane t n).pre = (s.dev.lane t n).pre ∧ (e.lane t n).post = (s.dev.lane t n).post ∧
        (e.lane t n).main = (s.dev.lane t n).main ∧ e.out = s.dev.shown [.eqTs (laneKey t n) { phase := q.phase, usePreset := q.usePreset, preset := q.preset, pre := (s.dev.lane t n).pre, main := (s.dev.lane t n).main, post := (s.dev.lane t n).post, reject := true, fs := 48, lf := 12 }] ∧ SameBut [.ln, .pcie] s.dev e)) ∧
      (q.phase = s.dev.evalPhase p → (s.dev.lane t n).hEq.on = false → (s.dev.lane t n).hEq.kept = none →
        Gives (.train t n b) s (fun e => (e.lane t n).hEq = { on := true } ∧
          e.out = s.dev.shown [.eqTs (laneKey t n) { phase := q.phase, usePreset := true, preset := 0, fs := 48, lf := 12 }] ∧
          SameBut [.ln, .pcie] s.dev e)))

/-- Spares: a standby spare that loses lock is FAILED with SPARE_FAILED; an active lane of a port in INIT or UP that loses
lock starts a hard cut-over when its spare stands by and the policy enables it, and sends the request; a request moves the
named lane to the spare and is acknowledged; an acknowledgement moves it at the initiator; a refusal ends the pause. The
invalid headers of a lost lock count in HDR_ERR (R132, R148 to R151). -/
def Obligations.SpareLanes : Prop :=
  ∀ (s : State) (t : Fin 9) (n : Fin 18) (p : Fin 72) (b : SwapBlk) (bad : Nat),
    ((s.dev.lane t n).lock = false → Gives (.blockLockLoss t ⟨n, bad⟩) s (fun e => e = s.dev)) ∧
    ((s.dev.lane t n).state = 8 → (s.dev.lane t n).lock = true →
      (∀ q, s.dev.sparePort t n = some q → (s.dev.link q).mirror = none) →
      Gives (.blockLockLoss t ⟨n, bad⟩) s (fun e =>
        (e.lane t n).state = 12 ∧ (e.lane t n).lock = false ∧
        (e.lane t n).hdrErr = min (2 ^ 32 - 1) ((s.dev.lane t n).hdrErr + bad) ∧
        (s.dev.is7144 = true → e.evt.status.getLsbD (srcTile t 1) = true) ∧
        (∀ x : Nat, x ≠ laneKey t n → e.ln.lane.rd x = s.dev.ln.lane.rd x) ∧
        SameBut (.ln :: .jobs :: recordBlocks) s.dev e)) ∧
    (n.val < 16 → (s.dev.lane t n).state = 7 → (s.dev.lane t n).lock = true → (s.dev.lane t n).logical < 16 →
      (s.dev.lane t n).port = some p.val → ((s.dev.link p).state = 2 ∨ (s.dev.link p).state = 3) →
      (s.dev.link p).mirror = none → s.dev.spareReady p n = true → (s.dev.policy 0).enable = true →
      s.dev.portFenced p = false → Gives (.blockLockLoss t ⟨n, bad⟩) s (fun e =>
        (e.link p).state = 4 ∧ (e.link p).pause = .swapWait ∧
        (e.link p).swaps = [((s.dev.lane t n).logical, spareLane n)] ∧ (e.lane t n).lock = false ∧
        (e.lane t n).hdrErr = min (2 ^ 32 - 1) ((s.dev.lane t n).hdrErr + bad) ∧
        e = Dev.sendSwap ((s.dev.setLane t n (fun l => { (l.badHeaders bad) with lock := false })).setLink p (fun l => { l.paused .swapWait with swaps := [((s.dev.lane t n).logical, spareLane n)], swapInit := true })) p false (s.dev.lane t n).logical (spareLane n) false ∧
        SameBut [.ln] s.dev e)) ∧
    (s.dev.atDie (portTile p) = true → s.dev.isS p = true → ((s.dev.link p).state = 2 ∨ (s.dev.link p).state = 3) → (s.dev.link p).pause = .none →
      (s.dev.lane (portTile p) (s.dev.swapSpare p b.spare)).state = 8 →
      s.dev.sparePort (portTile p) (s.dev.swapSpare p b.spare) = some p.val → s.dev.laneNamed p b.logical = some n.val →
      s.dev.laneOf p (s.dev.lane (portTile p) n).logical = some n.val →
      n.val ≠ s.dev.swapSpare p b.spare → Gives (.swapRequest p b) s (fun e =>
        (e.lane (portTile p) n).state = 10 ∧ (e.lane (portTile p) n).retired = true ∧
        (e.lane (portTile p) (s.dev.swapSpare p b.spare)).state = 9 ∧
        (e.lane (portTile p) (s.dev.swapSpare p b.spare)).serves = n.val ∧
        (e.lane (portTile p) (s.dev.swapSpare p b.spare)).logical = (s.dev.lane (portTile p) n).logical ∧
        (e.link p).state = 4 ∧ (e.link p).pause = .swapAlign ∧ SameBut [.ln] s.dev e)) ∧
    (s.dev.atDie (portTile p) = true → (s.dev.link p).state = 4 → (s.dev.link p).pause = .swapWait → b.refused = false →
      (s.dev.link p).swaps = [(b.logical, 17)] → s.dev.laneOf p b.logical = some n.val → n.val ≠ 17 →
      Gives (.swapAcknowledge p b) s (fun e => (e.lane (portTile p) n).state = 10 ∧
        (e.lane (portTile p) 17).state = 9 ∧ (e.lane (portTile p) 17).logical = b.logical ∧
        (e.lane (portTile p) 17).serves = n.val ∧ (e.link p).state = 4 ∧
        (e.link p).pause = .swapAlign ∧ SameBut [.ln] s.dev e)) ∧
    (s.dev.atDie (portTile p) = true → (s.dev.link p).state = 4 → (s.dev.link p).pause = .swapWait → b.refused = true → (s.dev.link p).mirror = none →
      (s.dev.link p).swaps.any (fun x => x.1 == b.logical) = true → (s.dev.link p).swapQueue = [] →
      (s.dev.link p).fromInit = false → (s.dev.link p).a = (s.dev.link p).n →
      (s.dev.activeLanes p).all (fun n => s.dev.hasLock (portTile p) n) = true → Gives (.swapAcknowledge p b) s (fun e =>
        (e.link p).state = 3 ∧ (e.link p).pause = .none ∧ (e.link p).swaps = [] ∧ e.ln.lane = s.dev.ln.lane ∧
        SameBut (.ln :: .jobs :: recordBlocks) s.dev e))

/-- An ALIGN burst on a port that is down changes nothing; one that ends a PLL pause with every active lane in it brings the
port back to UP, or to INIT where the pause began there. A match of 1,024 blocks sends SWAP_MATCHED, and this end selects
the spare when the far end has matched. A lane PLL in use that loses lock without a spare brings PLL_LOCK_LOST; with one,
the tile moves to PLL 1, which is recorded (R150, R153, R156). -/
def Obligations.AlignAndPll : Prop :=
  ∀ (s : State) (p : Fin 72) (t : Fin 9) (a : AlignBurst) (k : Nat),
    (s.dev.atDie (portTile p) = true → (s.dev.link p).state = 0 → Gives (.alignBurst p a) s (fun e => e = s.dev)) ∧
    (s.dev.atDie (portTile p) = true → s.dev.isS p = true → (s.dev.link p).state = 4 → (s.dev.link p).pause = .pll → (s.dev.link p).swapQueue = [] →
      (s.dev.link p).a = (s.dev.link p).n →
      (s.dev.activeLanes p).all (fun n => a.inStep.any (fun x => x.1 == n)) = true →
      (s.dev.activeLanes p).all (fun n => s.dev.hasLock (portTile p) n) = true →
      Gives (.alignBurst p a) s (fun e => (e.link p).state = (if (s.dev.link p).fromInit then 2 else 3) ∧
        (e.link p).pause = .none ∧ (∀ n : Fin 18, (e.lane (portTile p) n).state = (s.dev.lane (portTile p) n).state ∧
          (e.lane (portTile p) n).lock = (s.dev.lane (portTile p) n).lock ∧
          (e.lane (portTile p) n).logical = (s.dev.lane (portTile p) n).logical) ∧ SameBut [.ln] s.dev e)) ∧
    (∀ m, (s.dev.link p).mirror = some m → (s.dev.link p).state = 3 → (s.dev.link p).mirrorOwn = false →
      (s.dev.link p).mirrorPeer = false → Gives (.mirrorMatch p k) s (fun e => (e.link p).mirrorOwn = true ∧
        (e.link p).selOwn = (s.dev.link p).selOwn ∧ e.ln.lane = s.dev.ln.lane ∧ SameBut [.ln] s.dev e ∧
        (e.link p).mq = ((s.dev.link p).pushMargin { type := 0x12, body := pack [(0, m.1), (5, m.2.1 - 16), (16, m.2.2), (32, k % 65536)] }).mq)) ∧
    (∀ m, (s.dev.link p).mirror = some m → (s.dev.link p).state = 3 → (s.dev.link p).mirrorOwn = false →
      (s.dev.link p).mirrorPeer = true → (s.dev.link p).selOwn = false → Gives (.mirrorMatch p k) s (fun e =>
        (e.link p).mirrorOwn = true ∧ (e.link p).selOwn = true ∧ e.ln.lane = s.dev.ln.lane ∧
        SameBut [.ln, .jobs] s.dev e)) ∧
    ((s.dev.ln.tile.rd t).pll0 = true → (s.dev.ln.tile.rd t).onPll1 = true → Gives (.pllLockLoss t 0) s (fun e =>
      (e.ln.tile.rd t).pll0 = false ∧ (e.ln.tile.rd t).onPll1 = true ∧ e.ln.lane = s.dev.ln.lane ∧
      SameBut [.ln] s.dev e)) ∧
    ((s.dev.ln.tile.rd t).pll1 = true → (s.dev.ln.tile.rd t).onPll1 = false → Gives (.pllLockLoss t 1) s (fun e =>
      (e.ln.tile.rd t).pll1 = false ∧ (e.ln.tile.rd t).onPll1 = false ∧ e.ln.lane = s.dev.ln.lane ∧
      SameBut [.ln] s.dev e)) ∧
    ((s.dev.ln.tile.rd t).pll0 = true → (s.dev.ln.tile.rd t).onPll1 = false → (s.dev.ln.tile.rd t).pll1 = false →
      s.dev.mode.base ≠ .m10 → s.dev.is7144 = true → s.dev.role t = 0 → Gives (.pllLockLoss t 0) s (fun e =>
        (e.ln.tile.rd t).pll0 = false ∧ e.evt.status.getLsbD (srcTile t 3) = true ∧
        bitAt e.cont.uncStatus 11 = true ∧ e.ln.lane = s.dev.ln.lane)) ∧
    ((s.dev.ln.tile.rd t).pll0 = true → (s.dev.ln.tile.rd t).onPll1 = false → (s.dev.ln.tile.rd t).pll1 = true →
      (s.dev.policy 1).enable = true → s.dev.tileIsolated t = false → s.dev.role t = 0 → Gives (.pllLockLoss t 0) s (fun e =>
        (e.ln.tile.rd t).pll0 = false ∧ (e.ln.tile.rd t).onPll1 = true ∧ bitAt e.cont.corStatus 5 = true ∧
        e.ln.lane = s.dev.ln.lane ∧ SameBut (.ln :: .jobs :: .cont :: recordBlocks) s.dev e))

/-- The lane registers: loops and PRBS only in M10, where a loop or a generator puts the lane in TEST; PRBS13Q not at an NRZ
rate; the checker locks on a run that holds and loses lock past 64 errors of 128, and counts what it compared; a
measurement starts with GO, is refused while one runs, and ends with its count; a PCI Express margining step pre-empts a
register measurement and runs on; a lane's staged pair is checked against R135 (R157 to R161). -/
def Obligations.LaneRegisters : Prop :=
  ∀ (s : State) (p : CmdPort) (t : Fin 9) (n : Fin 18) (v : Fin 4) (w : Word) (k bits errs : Nat) (m : Fin 129) (c : Fin 65536),
    (WritePasses s.dev p (laneAddr t n 0x40) v → s.dev.mode.base ≠ .m10 → v ≠ 0 → Gives (.loop p t n v) s (fun e =>
      e.ln = s.dev.ln ∧ SameBut recordBlocks s.dev e)) ∧
    (WritePasses s.dev p (laneAddr t n 0x40) v → s.dev.mode.base = .m10 → v ≠ 0 →
      Gives (.loop p t n v) s (fun e => (e.lane t n).loop = v.val ∧ (e.lane t n).state = 11 ∧
        (s.dev.lanePort t n = none → SameBut (.ln :: accessBlocks) s.dev e))) ∧
    (WritePasses s.dev p (laneAddr t n 0x30) w.toNat → s.dev.mode.base ≠ .m10 → fld w.toNat 0 2 ≠ 0 →
      Gives (.prbsCtrl p t n w) s (fun e => e.ln = s.dev.ln ∧ SameBut recordBlocks s.dev e)) ∧
    (WritePasses s.dev p (laneAddr t n 0x30) w.toNat → s.dev.mode.base = .m10 → s.dev.isNrz t n = true →
      (fld w.toNat 0 2 = 2 ∨ fld w.toNat 4 2 = 2) →
      Gives (.prbsCtrl p t n w) s (fun e => e.ln = s.dev.ln ∧ SameBut recordBlocks s.dev e)) ∧
    (WritePasses s.dev p (laneAddr t n 0x30) w.toNat → s.dev.mode.base = .m10 →
      (s.dev.isNrz t n = true → fld w.toNat 0 2 ≠ 2 ∧ fld w.toNat 4 2 ≠ 2) →
      Gives (.prbsCtrl p t n w) s (fun e => (e.lane t n).prbsGen = fld w.toNat 0 2 ∧
        (e.lane t n).prbsChk = fld w.toNat 4 2 ∧ (e.lane t n).prbsErr = 0 ∧ (e.lane t n).prbsBits = 0 ∧
        (e.lane t n).chkLock = false ∧ (fld w.toNat 0 2 ≠ 0 → (e.lane t n).state = 11) ∧
        (s.dev.lanePort t n = none → SameBut (.ln :: accessBlocks) s.dev e))) ∧
    ((s.dev.lane t n).prbsChk ≠ 0 → (s.dev.lane t n).chkLock = false →
      prbsHolds (s.dev.lane t n).prbsChk (s.dev.checkerIn t n bits) = true → Gives (.prbsLock t ⟨n, bits⟩) s (fun e =>
        (e.lane t n).chkLock = true ∧ (e.lane t n).prbsErr = (s.dev.lane t n).prbsErr ∧
        (e.lane t n).prbsBits = ((s.dev.lane t n).prbsBits + 128) % 2 ^ 64 ∧ SameBut [.ln] s.dev e)) ∧
    ((s.dev.lane t n).chkLock = true → 64 < m.val → Gives (.prbsLockLoss t n ⟨m, bits, errs⟩) s (fun e =>
      (e.lane t n).chkLock = false ∧ (e.lane t n).prbsBits = ((s.dev.lane t n).prbsBits + (bits + 128)) % 2 ^ 64 ∧
      (e.lane t n).prbsErr = min (2 ^ 32 - 1) ((s.dev.lane t n).prbsErr + (errs + m.val)) ∧ SameBut [.ln] s.dev e)) ∧
    ((s.dev.lane t n).marginBusy = true → Gives (.marginDone t n k) s (fun e => (e.lane t n).marginDone = true ∧
      (e.lane t n).marginBusy = false ∧ (e.lane t n).marginErrs = min k (2 ^ 29 - 1) ∧ (e.lane t n).frozen = false ∧
      SameBut [.ln, .evt, .pcie] s.dev e)) ∧
    (∀ q, s.dev.cutPort t n = some q → s.dev.role t = 1 → n.val < 16 → fld c.val 0 3 = s.dev.marginReceiver q →
      bitAt c.val 6 = false → fld c.val 3 3 = 3 → fld c.val 8 8 % 64 ≤ 31 → Gives (.pcieMarginCommand t ⟨n, c⟩) s (fun e =>
        (e.lane t n).marginBusy = false ∧ (e.lane t n).pcieStep = true ∧ (e.lane t n).frozen = true ∧
        ((s.dev.lane t n).marginBusy = true → (e.lane t n).preempted = true) ∧
        fld (e.lane t n).pcieMargin 8 8 = 0x80 ∧ SameBut [.ln] s.dev e)) ∧
    (WritePasses s.dev p (laneAddr t n 0x44) (w.toNat % 2 ^ 31 + 2 ^ 31) → s.dev.inRunOrTest = true →
      s.dev.laneUsable t n = true →
      (((s.dev.lane t n).marginBusy = true ∨ (s.dev.lane t n).pcieStep = true) → Gives (.marginGo p t n w) s (fun e =>
        e.ln = s.dev.ln ∧ SameBut recordBlocks s.dev e)) ∧
      ((s.dev.lane t n).marginBusy = false → (s.dev.lane t n).pcieStep = false → marginOk w.toNat = true →
        Gives (.marginGo p t n w) s (fun e =>
          (e.lane t n).marginBusy = true ∧ (e.lane t n).frozen = true ∧ (e.lane t n).marginDone = false ∧
          (e.lane t n).fom = (s.dev.lane t n).fom ∧ SameBut (.ln :: accessBlocks) s.dev e))) ∧
    (WritePasses s.dev p (laneAddr t n 0x24) 1 → (s.dev.lane t n).eqPort = some p.key → s.dev.role t = 2 →
      s.dev.barLocked (laneAddr t n 0x18) 12 = false →
      (eqCode (s.dev.lane t n).txSh = 0 → s.dev.mode.base ≠ .m10 → Gives (.eqCommit p t n) s (fun e =>
        (e.lane t n).eqStatus = 0 ∧ (e.lane t n).eqPend = some ((s.dev.lane t n).txSh, (s.dev.lane t n).rxSh) ∧
        (e.lane t n).pre = (s.dev.lane t n).pre ∧ SameBut (.ln :: accessBlocks) s.dev e)) ∧
      (eqCode (s.dev.lane t n).txSh ≠ 0 →
        (s.dev.lane t n).eqPend.getD ((s.dev.lane t n).txAcc, (s.dev.lane t n).rxAcc) ≠ ((s.dev.lane t n).txSh, (s.dev.lane t n).rxSh) →
        Gives (.eqCommit p t n) s (fun e =>
        (e.lane t n).eqStatus = eqCode (s.dev.lane t n).txSh ∧
        (e.lane t n).eqPend = (s.dev.lane t n).eqPend ∧ SameBut (.ln :: accessBlocks) s.dev e)))

/-! ### The Sherix link layer -/

/-- A received flit is classed by the sequence whose seed makes its CRC match: an uncorrectable one, one without a match
and one ahead of the expected sequence raise NAK and act no further; a SEQ flit already accepted is counted; an accepted
SEQ flit without chunks advances E, clears NAK and credits its return (R167, R171, R172, R174). -/
def Obligations.FlitClasses : Prop :=
  ∀ (s : State) (p : Fin 72) (f : RawFlit), s.dev.atDie (portTile p) = true → s.dev.isS p = true → (s.dev.link p).state = 3 →
    s.dev.sw.regIn = [] → s.dev.sw.hubIn = [] →
    let l := s.dev.link p
    let r := fecDecode (fecWord f.bytes) (if l.rate = 0 then [] else f.erased.take 4)
    (r = none → Gives (.flitReceive p f) s (fun e => (e.link p).nakOut = true ∧ (e.link p).e = l.e ∧
      (e.link p).fecUncorr = min (2 ^ 32 - 1) (l.fecUncorr + 1) ∧ SameBut [.ln] s.dev e)) ∧
    (∀ w n, r = some (w, n) →
      let bs := fecUnmsg w
      let q := crc64Seed (bs.take 232) (leAt bs 0xE8 8)
      let h := FlitHdr.ofWord (leAt bs 0 8)
      (4096 ≤ q → Gives (.flitReceive p f) s (fun e => (e.link p).nakOut = true ∧ (e.link p).e = l.e ∧
        (e.link p).crcErr = min (2 ^ 32 - 1) (l.crcErr + 1) ∧ SameBut (.ln :: accessBlocks) s.dev e)) ∧
      (q < 4096 → l.n = l.a → h.nak = false → (Margin.ofBytes (slice bs 8 16)).type = 0 →
        (1 ≤ seqSub q l.e → seqSub q l.e ≤ 1023 → Gives (.flitReceive p f) s (fun e => (e.link p).nakOut = true ∧
          (e.link p).e = l.e ∧ (e.link p).avail = l.avail ∧ (e.link p).ahead = min 65535 (l.ahead + 1) ∧
          SameBut (.ln :: accessBlocks) s.dev e)) ∧
        (3072 ≤ seqSub q l.e → h.kind = 1 → Gives (.flitReceive p f) s (fun e => (e.link p).nakOut = l.nakOut ∧
          (e.link p).e = l.e ∧ (e.link p).avail = l.avail ∧ (e.link p).dup = min 65535 (l.dup + 1) ∧
          SameBut (.ln :: accessBlocks) s.dev e)) ∧
        (q = l.e → h.kind = 1 → h.fill = 0 → h.chA = 0 → h.chB = 0 → h.ok (slice bs 0x18 208) = true → l.rx = [] →
          l.auditIn = none → 0 < h.crUnits → Gives (.flitReceive p f) s (fun e => (e.link p).nakOut = false ∧
            (e.link p).e = (l.e + 1) % 4096 ∧ (e.link p).avail.rd h.crVc = l.avail.rd h.crVc + h.crUnits ∧
            (∀ v, v ≠ h.crVc → (e.link p).avail.rd v = l.avail.rd v) ∧ SameBut (.ln :: accessBlocks) s.dev e))))

/-- A port with nothing to send sends IDLE flits with its acknowledgement; a replay sends the stored flit again with its
sequence and stored fields, RPL 1 and fresh fields; a debt that waits goes out in an empty SEQ flit, which takes the next
sequence and a replay entry. Word k of a flit leaves on logical lane k mod w as a scrambled data block, in the levels of the
lane's rate (R128 to R130, R162, R168, R173, R177, R183). -/
def Obligations.FlitSending : Prop :=
  ∀ (s : State) (p : Fin 72), s.dev.isS p = true → (s.dev.link p).state = 3 → (s.dev.link p).mq = [] →
    (s.dev.link p).ex = [] → (s.dev.link p).idleOnly = false → s.dev.mode.railFail = false →
    let l := s.dev.link p
    let idle := flitBytes { nak := l.nakOut, ackSeq := seqSub l.e 1 } {} [] l.n
    (l.replay = none → (∀ v, v < 8 → s.dev.canChunk p v = false) → Gives (.flitSend p) s (fun e =>
      .flit p idle ∈ e.out ∧ (e.link p).n = l.n ∧ (e.link p).buf = l.buf ∧
      (l.mirror = none → ∀ n ∈ s.dev.activeLanes p, (s.dev.lane (portTile p) n).sendsOwn = true →
        .lane (laneKey (portTile p) n) (!s.dev.isNrz (portTile p) n) ((scramBlocks (s.dev.scramState (portTile p) n)
          ((laneWords (2 ^ l.width) (s.dev.lane (portTile p) n).logical (flitWords idle)).map dataBlock)).2.map
            (onLine (!s.dev.isNrz (portTile p) n))) ∈ e.out) ∧
      SameBut [.ln] s.dev e)) ∧
    (∀ q, l.replay = some q → ∀ f, l.buf.find? (fun x => x.seq == q) = some f → Gives (.flitSend p) s (fun e =>
      .flit p (flitBytes { kind := 1, rpl := true, nak := l.nakOut, ackSeq := seqSub l.e 1, crVc := f.crVc, crUnits := f.crUnits, vcA := f.vcA, split := f.split, vcB := f.vcB, fill := f.fill, chA := f.chA, chB := f.chB } {} f.chunks f.seq) ∈ e.out ∧
      (e.link p).avail = l.avail ∧ (e.link p).buf = l.buf ∧ (e.link p).n = l.n ∧
      (e.link p).replay = (if (f.seq + 1) % 4096 = l.n then none else some ((f.seq + 1) % 4096)) ∧
      SameBut (.ln :: accessBlocks) s.dev e)) ∧
    (∀ v u t, l.debts = [(v, u, t)] → u ≤ 2047 → 0 < u → l.replay = none → s.dev.stalled p = false →
      (∀ v, v < 8 → s.dev.canChunk p v = false) → Gives (.creditReturnTimeout p) s (fun e =>
        .flit p (flitBytes { kind := 1, crVc := v, crUnits := u, nak := l.nakOut, ackSeq := seqSub l.e 1 } {} [] l.n) ∈ e.out ∧
        (e.link p).n = (l.n + 1) % 4096 ∧ (e.link p).buf.length = l.buf.length + 1 ∧ (e.link p).debts = [] ∧
        (e.link p).held.rd v = l.held.rd v - u ∧ SameBut [.ln] s.dev e))

/-- The acknowledgement timer replays from A, and its third expiry in a row takes the link down; a link that is not UP in
time, and a silent peer, take it down with their causes; N, A, E, the grants and the buffer clear, LINK_DOWN is recorded,
and the port trains again as an internal job (R176, R192, R197 to R200). -/
def Obligations.LinkDownCauses : Prop :=
  ∀ (s : State) (p : Fin 72), s.dev.isS p = true →
    ((s.dev.link p).state = 3 → (s.dev.link p).a ≠ (s.dev.link p).n → (s.dev.link p).expiries < 2 →
      Gives (.ackTimerExpiry p) s (fun e => (e.link p).expiries = (s.dev.link p).expiries + 1 ∧
        (e.link p).replay = some (s.dev.link p).a ∧ (e.link p).state = 3 ∧ (e.link p).avail = (s.dev.link p).avail ∧
        (e.link p).replaysTimer = min 65535 ((s.dev.link p).replaysTimer + 1) ∧
        SameBut (.ln :: .cont :: recordBlocks) s.dev e)) ∧
    (∀ x : Instr × Nat, x ∈ [(Instr.ackTimerExpiry p, 1), (Instr.initTimeout p, 4), (Instr.peerTimeout p, 9)] →
      (x.2 = 1 → (s.dev.link p).state = 3 ∧ (s.dev.link p).a ≠ (s.dev.link p).n ∧ (s.dev.link p).expiries = 2) →
      (x.2 = 4 → (s.dev.link p).state = 2) → (x.2 = 9 → (s.dev.link p).state = 4) →
      s.dev.sw.voq = [] → s.dev.sw.staging = [] → (s.dev.link p).inReplay = [] →
      (s.dev.link p).heldDown x.2 = false → Gives x.1 s (fun e => (e.link p).state = 1 ∧ (e.link p).lastCause = x.2 ∧
        (e.link p).n = 0 ∧ (e.link p).a = 0 ∧ (e.link p).e = 0 ∧ (e.link p).buf = [] ∧ (e.link p).avail = [] ∧
        (e.link p).mq = [] ∧ (s.dev.mode.base ≠ .m10 → bitAt e.cont.uncStatus 15 = true) ∧
        SameBut (.ln :: .jobs :: .cont :: .sw :: .tick :: recordBlocks) s.dev e)) ∧
    ((s.dev.link p).state = 1 → (s.dev.link p).trainFailed = true → Gives (.trainingRetry p) s (fun e =>
      (e.link p).state = 1 ∧ (e.link p).trainFailed = false ∧ (e.link p).n = (s.dev.link p).n ∧
      SameBut [.ln, .jobs] s.dev e))

/-- Bring-up: an INIT with another width or rate takes the link down with cause 4; the last thing that this end needs brings
it UP with LINK_UP; grants set AVAIL, and an INIT_GRANT that comes when the port is UP is answered with its INIT (R192). -/
def Obligations.LinkBringUp : Prop :=
  ∀ (s : State) (p : Fin 72) (sw port : Nat) (half : Fin 2) (gs : List Nat),
    ((s.dev.link p).state = 2 → (s.dev.link p).rcvd = 6 → s.dev.portJobs p 0x0A = [] → p.val < 40 →
      Gives (.linkInit p sw port (s.dev.link p).width (s.dev.link p).rate 7) s (fun e => (e.link p).state = 3 ∧
        (e.link p).farSwitch = sw % 4096 ∧ (e.link p).farPort = port % 128 ∧ (e.link p).avail = (s.dev.link p).avail ∧
        (e.link p).n = (s.dev.link p).n ∧ e.evt.status.getLsbD (srcPort p 0) = true ∧
        SameBut (.ln :: .cont :: recordBlocks) s.dev e)) ∧
    ((s.dev.link p).state = 2 → (s.dev.link p).rcvd = 0 →
      Gives (.linkInit p sw port (s.dev.link p).width (s.dev.link p).rate 0) s (fun e =>
        (e.link p).state = 2 ∧ (e.link p).rcvd = 1 ∧ (e.link p).farSwitch = sw % 4096 ∧ SameBut [.ln] s.dev e)) ∧
    ((s.dev.link p).state = 2 → (s.dev.link p).heldDown 4 = false → s.dev.sw.voq = [] → s.dev.sw.staging = [] →
      (s.dev.link p).inReplay = [] → Gives (.linkInit p sw port ((s.dev.link p).width + 1) (s.dev.link p).rate 7) s (fun e =>
        (e.link p).state = 1 ∧ (e.link p).lastCause = 4 ∧ (e.link p).farSwitch = (s.dev.link p).farSwitch ∧
        SameBut (.ln :: .jobs :: .cont :: .sw :: .tick :: recordBlocks) s.dev e)) ∧
    ((s.dev.link p).state = 2 → (s.dev.link p).rcvd = 0 → Gives (.initGrant p half gs) s (fun e =>
      (e.link p).rcvd = 2 ^ (1 + half.val) ∧
      (∀ k, k < 4 → (e.link p).avail.rd (4 * half + k) = gs.getD k 0 % 65536 ∧
        (e.link p).grantRx.rd (4 * half + k) = gs.getD k 0 % 65536) ∧ (e.link p).state = 2 ∧ SameBut [.ln] s.dev e)) ∧
    ((s.dev.link p).state = 3 → (s.dev.link p).mq = [] → Gives (.initGrant p half gs) s (fun e =>
      (e.link p).state = 3 ∧ (e.link p).avail = (s.dev.link p).avail ∧
      (e.link p).mq.map (fun q => q.msg) = [s.dev.initMsg p] ∧ SameBut [.ln] s.dev e))

/-- The exchanges of the margin slot: a proposal is answered, and refused when no spare stands by; a refusal of a width
request ends its job; a width request within the cut and RATE_MAX is agreed; an unanswered message goes out again after 16
flits, and its exchange ends after 1 ms; an audit that agrees leaves the link up; a CONTAIN seen before does nothing (R185,
R190, R195, R196). -/
def Obligations.MarginExchanges : Prop :=
  ∀ (s : State) (p : Fin 72) (x sp h w r : Nat) (m : Margin) (a : AuditSample), (s.dev.link p).state = 3 →
    (s.dev.link p).mq = [] →
    let l := s.dev.link p
    let t := portTile p.val
    (l.mirror = none → (s.dev.lane t (s.dev.swapSpare p sp)).state ≠ 8 → Gives (.swapPropose p x sp h) s (fun e =>
      (e.link p).mirror = none ∧ (e.link p).mq.map (fun q => (q.msg.type, bitAt q.msg.body 6)) = [(0x11, true)] ∧
      SameBut [.ln] s.dev e)) ∧
    (l.mirror = none → (s.dev.lane t (s.dev.swapSpare p sp)).state = 8 → s.dev.sparePort t (s.dev.swapSpare p sp) = some p.val →
      (s.dev.laneNamed p x).isSome = true → s.dev.portConflict p = false → Gives (.swapPropose p x sp h) s (fun e =>
        (e.link p).mirror = some (x, s.dev.swapSpare p sp, h) ∧ (e.link p).mq.map (fun q => q.msg.type) = [0x11] ∧
        SameBut [.ln] s.dev e)) ∧
    (l.mirrorIs x h = true → l.ex.any (fun q => q.msg.type == 0x10) = true → Gives (.swapReply p x h false) s (fun e =>
      (e.link p).mirror = l.mirror ∧ (e.link p).ex = l.ex.filter (fun q => q.msg.type != 0x10) ∧ SameBut [.ln] s.dev e)) ∧
    (l.mirrorIs x h = true → l.selOwn = false → l.mirrorOwn = false → Gives (.swapMatched p x h) s (fun e =>
      (e.link p).mirrorPeer = true ∧ (e.link p).selOwn = false ∧ SameBut [.ln] s.dev e)) ∧
    (l.mirrorIs x h = true → l.selOwn = false → l.mirrorOwn = false → l.selPeer = false →
      Gives (.swapSelected p x sp h) s (fun e => (e.link p).selPeer = true ∧ (e.link p).mirrorPeer = true ∧
        SameBut [.ln] s.dev e)) ∧
    (s.dev.portConflict p = false → 1 ≤ w → w ≤ widthCode (s.dev.cutWidth p) → r ≤ (s.dev.run.tile.rd t).rateMax →
      Gives (.widthReq p w r h) s (fun e => (e.link p).askWidth = some w ∧ (e.link p).askRate = some r ∧
        (e.link p).width = l.width ∧ (e.link p).mq.map (fun q => q.msg.type) = [0x23] ∧ SameBut [.ln] s.dev e)) ∧
    (l.ex = [{ msg := { type := 0x22, body := 65536 * (h % 65536) }, flits := 16 }] →
      Gives (.widthAck p (h % 65536) false) s (fun e => (e.link p).widthAns = 1 ∧ (e.link p).ex = [] ∧ SameBut [.ln] s.dev e) ∧
      (∀ j ∈ s.dev.portJobs p 0x0B, s.dev.portJobs p 0x0B = [j] → Gives (.widthAck p (h % 65536) true) s (fun e =>
        (e.jobs.slot.rd j.1).state = .failed ∧ (e.link p).ex = [] ∧ (e.link p).width = l.width ∧
        SameBut (.ln :: .jobs :: recordBlocks) s.dev e)) ∧
      Gives (.marginRepeat p) s (fun e => (e.link p).mq.map (fun q => q.msg.type) = [0x22] ∧
        (e.link p).ex.map (fun q => q.flits) = [0] ∧ SameBut [.ln] s.dev e)) ∧
    (l.ex = [{ msg := { type := 0x02, body := x }, flits := 0 }] → Gives (.exchangeTimeout p) s (fun e =>
      (e.link p).ex = [] ∧ (e.link p).state = 3 ∧ SameBut [.ln] s.dev e)) ∧
    (l.auditSeen = false → l.auditIn = none → seqSub (l.e + 4095) a.s < 2048 →
      (∀ v, v < 8 → l.auditExpect a v = a.avail.getD v 0 % 1024) → Gives (.audit p a) s (fun e =>
        (e.link p).auditSeen = true ∧ (e.link p).auditIn = none ∧ (e.link p).state = 3 ∧ SameBut [.ln] s.dev e)) ∧
    (l.recent.any (fun q => q.1 == fld m.body 0 12 && q.2.1 == m.tag) = true → Gives (.contain p m) s (fun e => e = s.dev)) ∧
    (l.recent = [] → fld m.body 32 8 = 1 → fld m.body 12 4 ≠ 0 → s.dev.cont.seen = [] → s.dev.sPorts = [p.val] →
      Gives (.contain p m) s (fun e => e.evt.status.getLsbD 0x3A5 = true ∧ e.cont.seen.length = 1 ∧
        (e.link p).state = 3 ∧ SameBut (.ln :: .cont :: recordBlocks) s.dev e))

/-- ADMIN_DOWN on a training port holds it, HOLD_DOWN alone leaves an UP link up, and clearing what held a HELD port trains
it again as an internal job (R199, R200, Table 6.13). -/
def Obligations.PortHolds : Prop :=
  ∀ (s : State) (p : CmdPort) (x : Fin 72),
    (WritePasses s.dev p (sherixAddr x 0x04) (withBit (s.dev.sxCtrl x) 0 true) → (s.dev.link x).state = 1 →
      (s.dev.link x).adminDown = false → Gives (.adminDown p x true) s (fun e => (e.link x).state = 5 ∧
        (e.link x).lastCause = 7 ∧ (e.link x).adminDown = true ∧ SameBut (.ln :: accessBlocks) s.dev e)) ∧
    (WritePasses s.dev p (sherixAddr x 0x04) (withBit (s.dev.sxCtrl x) 2 true) → (s.dev.link x).state = 3 →
      (s.dev.link x).adminDown = false → Gives (.holdDown p x true) s (fun e => (e.link x).holdDown = true ∧
        (e.link x).state = 3 ∧ (e.link x).autoDegrade = (s.dev.link x).autoDegrade ∧
        SameBut (.ln :: accessBlocks) s.dev e)) ∧
    (WritePasses s.dev p (sherixAddr x 0x04) (withBit (s.dev.sxCtrl x) 2 false) → (s.dev.link x).state = 5 →
      (s.dev.link x).adminDown = false → (s.dev.link x).bypassed = false → (s.dev.link x).fenced = false →
      Gives (.holdDown p x false) s (fun e => (e.link x).holdDown = false ∧ (e.link x).state = 1 ∧
        SameBut (.ln :: .jobs :: accessBlocks) s.dev e))

/-! ### PCI Express ports -/

/-- Links of a PCI Express port: DL_ACTIVE brings a downstream link up and shows the event in the view; a link that falls
without a command reports Surprise Down and triggers DPC when that is enabled; a Hot Reset or a DL_Down on the upstream
port resets the partition's configuration spaces and leaves the Plat-derived state; presence, ADMIN_DOWN and HOLD_DOWN act
on the port alone; a software trigger disables and fences the port, and a release ends it (R210, R227, R228, R231, R232,
R243, R244). -/
def Obligations.PcieLinks : Prop :=
  ∀ (s : State) (c : CmdPort) (p : Fin 72) (q : Fin 24) (rate width ret : Nat) (fl sc : Bool), s.dev.inRunOrTest = true →
    s.dev.isH p = true →
    let pp := s.dev.pport p
    let down := s.dev.upstreamOf p = none ∧ s.dev.sharers p = [q.val]
    (down → pp.dlActive = false → pp.adminDown = false → pp.holdDown = false → pp.fenced = false → pp.dpcTriggered = false →
      s.dev.pcie.partReset.rd q = 0 → 0 < width → width ≤ s.dev.cutWidth p →
      rate ≤ s.dev.rateLimit p → s.dev.atDie (portTile p) = true → Gives (.dlActive p rate width ret fl sc) s (fun e =>
        (e.pport p).dlActive = true ∧ (e.pport p).ltssm = 0x0B ∧ (e.pport p).rate = rate ∧ (e.pport p).width = width ∧
        (e.pport p).flit = fl ∧ (e.pport p).retimers = ret ∧ (e.pport p).present = true ∧ (e.pport p).share = pp.share ∧
        bitAt (e.pcie.cfg.rd (cfgKey (fnDown q p) 30)) 24 = true ∧ SameBut accessBlocks s.dev e)) ∧
    (down → pp.dlActive = true → pp.commanded = false → s.dev.sw.staging = [] → s.dev.dpcEnable p = 0 →
      Gives (.dlDown p) s (fun e => (e.pport p).dlActive = false ∧ (e.pport p).width = 0 ∧
        bitAt (e.pport p).aer.uncSta 5 = true ∧ bitAt (e.viewAer (fnDown q p)).uncSta 5 = true ∧
        (e.pport p).dpcTriggered = pp.dpcTriggered ∧ SameBut (.cont :: recordBlocks) s.dev e)) ∧
    (down → pp.dlActive = true → pp.commanded = false → pp.dpcTriggered = false → s.dev.sw = {} → s.dev.dpcEnable p = 2 →
      Gives (.dlDown p) s (fun e => (e.pport p).dlActive = false ∧ (e.pport p).dpcTriggered = true ∧
        (e.pport p).fenced = true ∧ (e.pport p).ltssm = 0x16 ∧ SameBut (.cont :: recordBlocks) s.dev e)) ∧
    (∀ r : Instr × Nat, r ∈ [(Instr.hotReset p, 1), (Instr.dlDown p, 2)] → s.dev.upstreamOf p = some q.val →
      pp.dlActive = true → s.dev.sw = {} → Gives r.1 s (fun e => bitAt (e.pcie.partReset.rd q) r.2 = true ∧
        (s.dev.pcie.partReset.rd q = 0 → ∀ w, w < 1024 → e.pcie.cfg.rd (cfgKey (fnUp q) w) = 0) ∧
        (∀ x, (e.pport x).share = (s.dev.pport x).share) ∧ e.run = s.dev.run ∧ e.part = s.dev.part)) ∧
    (down → pp.present = false → Gives (.receiverDetection p) s (fun e => (e.pport p).present = true ∧
      e.pcie.viewPresent.rd (fnDown q p) = true ∧ (e.pport p).dlActive = pp.dlActive ∧ SameBut accessBlocks s.dev e)) ∧
    (down → pp.present = true → pp.dlActive = false → Gives (.presenceLost p) s (fun e => (e.pport p).present = false ∧
      e.pcie.viewPresent.rd (fnDown q p) = false ∧ SameBut accessBlocks s.dev e)) ∧
    (WritePasses s.dev c (pcieAddr p 0x04) (withBit (s.dev.pcieCtrl p) 0 true) → pp.adminDown = false → pp.dlActive = false →
      Gives (.pcieAdminDown c p true) s (fun e => (e.pport p).adminDown = true ∧ (e.pport p).ltssm = 0x16 ∧
        (e.pport p).holdDown = pp.holdDown ∧ SameBut accessBlocks s.dev e)) ∧
    (WritePasses s.dev c (pcieAddr p 0x04) (withBit (s.dev.pcieCtrl p) 1 true) → Gives (.pcieHoldDown c p true) s (fun e =>
      (e.pport p).holdDown = true ∧ (e.pport p).dlActive = pp.dlActive ∧ (e.pport p).ltssm = pp.ltssm ∧
      (e.pport p).adminDown = pp.adminDown ∧ SameBut accessBlocks s.dev e)) ∧
    (WritePasses s.dev c (pcieAddr p 0x80) (s.dev.dpcCtrl p + 4) → down → pp.dpcTrigEn < 4 → pp.dpcTriggered = false →
      s.dev.sw = {} → Gives (.dpcSwTrigger c p) s (fun e => (e.pport p).dpcTriggered = true ∧ (e.pport p).dpcReason = 3 ∧
        (e.pport p).dlActive = false ∧ (e.pport p).ltssm = 0x16 ∧ (e.pport p).fenced = true ∧
        SameBut (.cont :: recordBlocks) s.dev e)) ∧
    (WritePasses s.dev c (pcieAddr p 0x80) (s.dev.dpcCtrl p + 2 ^ 31) → pp.dpcTrigEn < 4 → pp.dpcTriggered = true →
      pp.adminDown = false → pp.dlActive = false → s.dev.coveredPort p = false → Gives (.dpcRelease c p) s (fun e => (e.pport p).dpcTriggered = false ∧
        (e.pport p).fenced = false ∧ (e.pport p).ltssm = 0 ∧ SameBut accessBlocks s.dev e)) ∧
    (ReadPasses s.dev c (pcieAddr p 0x74) → Gives (.aerHdrAdvance c p) s (fun e =>
      (e.pport p).aer = { pp.aer with hdrs := pp.aer.hdrs.drop 1 } ∧ SameBut accessBlocks s.dev e))

/-- Traffic of a PCI Express port: a fenced port discards, and the credit returns; a posted write that passes every check
enters the VOQ of its egress port with its cells counted against the ingress share; a request from an unassigned function of
a shared port is discarded and logged as an ACS Violation; a staged TLP leaves whole when the partner's credits cover it, and
else stays; configuration reads of the partition's own functions complete with data, and requests to nothing with
Unsupported Request, over the engine link; a PTM request is answered from the tick time line with Root Select 1, and not in
FREE_RUN; an error message of an assigned function goes to its partition, and of no function to every sharing partition (R26,
R209, R217, R225, R235, R236, R248, R252, R253, R267, R404). -/
def Obligations.PcieTraffic : Prop :=
  ∀ (s : State) (p : Fin 72) (q : Fin 24) (t : Tlp) (x v : Nat) (cr : List Nat), s.dev.inRunOrTest = true → s.dev.isH p = true →
    (s.dev.pport p).dlActive = true → s.dev.sw.regIn = [] → s.dev.sw.hubIn = [] →
    let vc := s.dev.vcOf t.tc
    (s.dev.portFenced p = true → Gives (.tlpReceive p t) s (fun e =>
      e.cont.fenceDiscard = min (2 ^ 32 - 1) (s.dev.cont.fenceDiscard + 1) ∧
      e.out = s.dev.shown [.fc p t.kind.cls 1 ((t.data.length + 15) / 16) []] ∧ SameBut [.cont] s.dev e)) ∧
    (s.dev.portFenced p = false → s.dev.mode.base ≠ .m10 → t.kind = .memWrite → t.ep = false → s.dev.isShared p = false →
      s.dev.tlpPartition p t.reqId = some q.val → t.malformed (s.dev.mpsOf (s.dev.bridgeOf q p)) = false →
      s.dev.routeAddr q p t.addr false t.fabricKind t.translated = .port x → s.dev.bmeStop q p (.port x) = none →
      s.dev.acsBlocks q p t = false → s.dev.egressStop q x t = none → (s.dev.pport x).dpcTriggered = false →
      s.dev.walled x = false → s.dev.bnd.gateMode = true → s.dev.isShared x = false → Gives (.tlpReceive p t) s (fun e =>
        Queues s.dev e (portTile p) { ing := p, dst := x, vc := vc, inVc := vc, tc := t.tc, cls := 0, body := .tlp t, part := q, reqId := t.reqId, tag := t.tag, bridges := s.dev.admitted q p (.port x) } ∧
        (e.ing p).used = (s.dev.ing p).used + (t.size + 63) / 64 ∧ SameBut (.sw :: accessBlocks) s.dev e)) ∧
    (s.dev.portFenced p = false → t.kind = .memWrite → s.dev.isShared p = true → s.dev.tlpPartition p t.reqId = none →
      Gives (.tlpReceive p t) s (fun e => bitAt (e.pport p).aer.uncSta 21 = true ∧ e.sw = s.dev.sw ∧
        SameBut (.cont :: recordBlocks) s.dev e)) ∧
    (∀ y : Staged, y ∈ s.dev.sw.staging.rd (8 * p + v) → s.dev.portFenced p = false → v < 8 →
      (∀ u, u < 8 → s.dev.sw.staging.rd (8 * p + u) = if u = v then [y] else []) →
      y.got = y.pkt.cells → y.pkt.body = .tlp t → y.pkt.epoch = none → y.pkt.cls = 2 → s.dev.isShared p = false →
      (s.dev.sw.drr.rd (64 + p)).cur < 8 →
      (s.dev.fcCovers cr y.pkt = true → Gives (.tlpTransmit ⟨p, cr⟩) s (fun e =>
        (s.dev.mode.railFail = false → Out.tlp p t ∈ e.out) ∧ e.sw.staging.rd (8 * p + v) = [] ∧ e.sw.voq = s.dev.sw.voq ∧
        SameBut (.sw :: accessBlocks) s.dev e)) ∧
      (s.dev.fcCovers cr y.pkt = false → Gives (.tlpTransmit ⟨p, cr⟩) s (fun e => e.out = s.dev.out ∧
        e.sw.staging = s.dev.sw.staging ∧ SameBut [.sw] s.dev e))) ∧
    ((s.dev.run.part.rd q).upstream = p.val → t.kind = .cfgRead →
      (∀ fn, s.dev.cfgTarget q t.target = .fn fn → Gives (.configRequest q t) s (fun e =>
        Waits s.dev e { dst := p, vc := vc, inVc := vc, tc := t.tc, cls := 2, part := 0x1F, body := .tlp { kind := .cplData, tc := t.tc, reqId := t.reqId, tag := t.tag, cplId := t.target, status := 0, byteCount := 4, data := toLe 4 (s.dev.cfgRead fn t.reg) } } ∧
        SameBut [.sw] s.dev e)) ∧
      (s.dev.cfgTarget q t.target = .none → s.dev.upstreamOf p = some q.val → Gives (.configRequest q t) s (fun e =>
        Waits s.dev e { dst := p, vc := vc, inVc := vc, tc := t.tc, cls := 2, part := 0x1F, body := .tlp { kind := .cpl, tc := t.tc, reqId := t.reqId, tag := t.tag, cplId := t.target, status := 1, byteCount := 4 } } ∧
        bitAt (e.viewAer (fnUp q)).uncSta 20 = true))) ∧
    (s.dev.tlpPartition p t.reqId = some q.val → bitAt (s.dev.cfgStored (fnUp q) 170) 1 = true →
      (s.dev.tick.state = .locked ∨ s.dev.tick.state = .source ∨ s.dev.tick.state = .holdover → Gives (.ptmRequest p t) s (fun e =>
        Waits s.dev e { dst := p, vc := s.dev.vcOf 0, inVc := s.dev.vcOf 0, cls := 0, part := 0x1F, body := .tlp (ptmResponse t.reqId t.tag ((s.dev.tick.number * s.dev.period + (s.dev.now - s.dev.tick.last)) / 16 % 2 ^ 64)) } ∧
        SameBut [.sw] s.dev e)) ∧
      (s.dev.tick.state = .acquiring ∨ s.dev.tick.state = .freeRun → Gives (.ptmRequest p t) s (fun e => SameBut [] s.dev e))) ∧
    (s.dev.upstreamOf p = none → s.dev.isShared p = true → (s.dev.pport p).dpcTrigEn = 0 →
      let a := (s.dev.pport p).share.asg.rd (t.reqId % 256)
      (a.valid = true → s.dev.errForward (fnDown a.partition p) = true → Gives (.errorMessage p t) s (fun e =>
        (s.dev.mode.railFail = false → Out.hostMsg a.partition t.code (s.dev.shareRid p (t.reqId % 256) % 65536) ∈ e.out) ∧ SameBut [] s.dev e)) ∧
      (a.valid = false → s.dev.mode.railFail = false → Gives (.errorMessage p t) s (fun e => (∀ r, r ∈ s.dev.sharers p → s.dev.errForward (fnDown r p) = true →
        Out.hostMsg r t.code t.reqId ∈ e.out) ∧ SameBut [] s.dev e)))

/-- Shared endpoint ports and messages: a commit of windows or assignments that passes Table 7.10 waits for its tick and
leaves what is in force, and one that fails gives its code and leaves the pending pair; PCFG sends one request and keeps
its completion, or times out; BME_DRAIN clears where nothing is left inside; a pending MSI-X message leaves when its
conditions hold (R219, R230, R238, R239, R245). -/
def Obligations.SharedPorts : Prop :=
  ∀ (s : State) (c : CmdPort) (p : Fin 72) (q : Fin 24) (vec : Fin 32) (w d : Word) (st : Fin 8), s.dev.isH p = true →
    let pp := s.dev.pport p
    (WritePasses s.dev c (pcieAddr p 0x108) 1 → pp.share.winSh ≠ pp.share.winPend.getD pp.share.win →
      pp.share.winPort = some c.key → s.dev.barLocked (pcieAddr p 0x200) 0x180 = false → s.dev.isShared p = true → Gives (.shareWindowsCommit c p) s (fun e => (e.pport p).share =
        (if (winCode (s.dev.sharers p) pp.share.winSh).1 = 0 then { pp.share with winCode := 0, winPend := some pp.share.winSh }
         else { pp.share with winCode := (winCode (s.dev.sharers p) pp.share.winSh).1, detail := (winCode (s.dev.sharers p) pp.share.winSh).2 }) ∧
        ((winCode (s.dev.sharers p) pp.share.winSh).1 = 0 → (s.dev.tickCycleHere, Commit.shareWin p) ∈ e.commits) ∧
        ((winCode (s.dev.sharers p) pp.share.winSh).1 ≠ 0 → e.commits = s.dev.commits) ∧
        SameBut (.commits :: accessBlocks) s.dev e)) ∧
    (WritePasses s.dev c (pcieAddr p 0x108) 1 → pp.share.winSh ≠ pp.share.winPend.getD pp.share.win →
      pp.share.winPort = some (c.key + 1) → Gives (.shareWindowsCommit c p) s (fun e =>
        (e.pport p).share = { pp.share with winCode := 0xF0, detail := 0 } ∧ SameBut accessBlocks s.dev e)) ∧
    (WritePasses s.dev c (pcieAddr p 0x108) 1 → pp.share.winSh = pp.share.winPend.getD pp.share.win →
      Gives (.shareWindowsCommit c p) s (fun e => (e.pport p).share = { pp.share with winCode := 0, winPend := some pp.share.winSh } ∧
        SameBut (.commits :: accessBlocks) s.dev e)) ∧
    (WritePasses s.dev c (pcieAddr p 0x108) 2 → pp.share.asgSh = pp.share.asgPend.getD pp.share.asg →
      Gives (.shareAssignCommit c p) s (fun e => (e.pport p).share = { pp.share with asgCode := 0, asgPend := some pp.share.asgSh } ∧
        SameBut (.commits :: accessBlocks) s.dev e)) ∧
    (WritePasses s.dev c (pcieAddr p 0x108) 2 → pp.share.asgSh ≠ pp.share.asgPend.getD pp.share.asg →
      pp.share.asgPort = some c.key → s.dev.barLocked (pcieAddr p 0x400) 0x400 = false → s.dev.isShared p = true → Gives (.shareAssignCommit c p) s (fun e => (e.pport p).share =
        (if (asgCode (s.dev.sharers p) pp.share.asgSh).1 = 0 then { pp.share with asgCode := 0, asgPend := some pp.share.asgSh }
         else { pp.share with asgCode := (asgCode (s.dev.sharers p) pp.share.asgSh).1, detail := (asgCode (s.dev.sharers p) pp.share.asgSh).2 }) ∧
        ((asgCode (s.dev.sharers p) pp.share.asgSh).1 = 0 → (s.dev.tickCycleHere, Commit.shareAsg p) ∈ e.commits) ∧
        ((asgCode (s.dev.sharers p) pp.share.asgSh).1 ≠ 0 → e.commits = s.dev.commits) ∧
        SameBut (.commits :: accessBlocks) s.dev e)) ∧
    (WritePasses s.dev c (pcieAddr p 0x1F0) (w.toNat % 2 ^ 31 + 2 ^ 31) → s.dev.isShared p = true → s.dev.inRunOrTest = true →
      fld w.toNat 30 1 = 0 → Gives (.pcfgAccess c p w) s (fun e => (e.pport p).pcfg.busy = true ∧
        (e.pport p).pcfg.func = fld w.toNat 16 8 ∧ (e.pport p).pcfg.reg = fld w.toNat 2 10 ∧
        Waits s.dev e { dst := p, vc := s.dev.vcOf 0, inVc := s.dev.vcOf 0, cls := 1, part := 0x1F, body := .tlp { kind := .cfgRead, reqId := 0xFFFF, tag := 0x3FFF, target := 256 * pp.share.pbus.getD p + fld w.toNat 16 8, reg := fld w.toNat 2 10 } } ∧
        SameBut (.sw :: accessBlocks) s.dev e)) ∧
    (WritePasses s.dev c (pcieAddr p 0x1F0) (w.toNat % 2 ^ 31 + 2 ^ 31) → s.dev.isShared p = false →
      s.dev.cairn.queue = [] → Gives (.pcfgAccess c p w) s (fun e => (e.pport p).pcfg = pp.pcfg ∧ Records e 0x04A 2 ∧
        SameBut recordBlocks s.dev e)) ∧
    (pp.pcfg.busy = true → Gives (.pcfgComplete p st d) s (fun e => (e.pport p).pcfg = { pp.pcfg with busy := false, done := true, timeout := false, status := st, data := if pp.pcfg.write = false ∧ st.val = 0 then d.toNat else pp.pcfg.data } ∧ SameBut [.pcie] s.dev e) ∧
      Gives (.pcfgTimeout p) s (fun e => (e.pport p).pcfg = { pp.pcfg with busy := false, done := true, timeout := true } ∧ SameBut [.pcie] s.dev e)) ∧
    (pp.pcfg.busy = false → Gives (.pcfgComplete p st d) s (fun e => e = s.dev) ∧ Gives (.pcfgTimeout p) s (fun e => e = s.dev)) ∧
    Gives .bmeDrainClear s (fun e => (∀ x, x ∈ e.pcie.bmeDrain ↔ x ∈ s.dev.pcie.bmeDrain ∧ s.dev.inside x.1 (x.2 - 1) = true) ∧
      SameBut [.pcie] s.dev e) ∧
    (s.dev.pcie.msixPend.rd (msixKey (fnMgmt q) vec) = true → s.dev.msixOpen (fnMgmt q) vec = true →
      Gives (.msixPendingSend q vec) s (fun e => e.pcie.msixPend.rd (msixKey (fnMgmt q) vec) = false ∧
        e.out = s.dev.shown [.msix (fnMgmt q) vec (s.dev.msixWord (fnMgmt q) vec 0 + 2 ^ 32 * s.dev.msixWord (fnMgmt q) vec 1)
          (s.dev.msixWord (fnMgmt q) vec 2)] ∧ SameBut [.pcie] s.dev e)) ∧
    (s.dev.msixOpen (fnMgmt q) vec = false → Gives (.msixPendingSend q vec) s (fun e => e = s.dev))

/-! ### The switch core -/

/-- Cells between the tiles: an arriving cell is dropped and counted against its plane, delivered in sequence and to be
confirmed, kept by the resequencer while one before it lacks, or discarded as a duplicate and confirmed again, also after its
confirmation; a confirmation frees the slot and its credit; 32 cycles without one send the cell again; a plane at its
threshold leaves the active set (R248, R257, R258). -/
def Obligations.CellRecovery : Prop :=
  ∀ (s : State) (key seq : Nat) (k : Fin 9) (c : Cell), s.dev.sw.regIn = [] → s.dev.sw.hubIn = [] →
    (s.dev.sw.unconf = [c] → c.voq = key → c.seq = seq →
      Gives (.cellArrival key seq false) s (fun e => e.sw.unconf = [c] ∧ e.sw.staging = s.dev.sw.staging ∧
        e.sw.confirming = s.dev.sw.confirming ∧ (e.planeSt c.plane).errors = (s.dev.planeSt c.plane).errors + 1 ∧
        (e.planeSt c.plane).crcErr = min (2 ^ 32 - 1) ((s.dev.planeSt c.plane).crcErr + 1) ∧
        SameBut (.sw :: .cont :: recordBlocks) s.dev e) ∧
      (seq = s.dev.sw.exp.rd key → s.dev.sw.rsq = [] → s.dev.sw.dead = [] → s.dev.isS c.pkt.dst = false →
        s.dev.sw.staging.rd (8 * c.pkt.dst + c.pkt.vc) = [] → Gives (.cellArrival key seq true) s (fun e =>
          e.sw.unconf = [c] ∧ e.sw.confirming = s.dev.sw.confirming ++ [(key, seq)] ∧ e.sw.exp.rd key = (seq + 1) % 65536 ∧
          e.sw.rsq = [] ∧ (e.sw.staging.rd (8 * c.pkt.dst + c.pkt.vc)).map (fun x => (x.pkt.id, x.got)) = [(c.pkt.id, 1)] ∧
          SameBut [.sw] s.dev e)) ∧
      (0 < (seq + 65536 - s.dev.sw.exp.rd key) % 65536 → (seq + 65536 - s.dev.sw.exp.rd key) % 65536 < 32768 →
        s.dev.sw.rsq = [] → Gives (.cellArrival key seq true) s (fun e => e.sw.rsq = [c] ∧
          e.sw.confirming = s.dev.sw.confirming ++ [(key, seq)] ∧ e.sw.exp = s.dev.sw.exp ∧
          e.sw.staging = s.dev.sw.staging ∧ SameBut [.sw] s.dev e)) ∧
      (32768 ≤ (seq + 65536 - s.dev.sw.exp.rd key) % 65536 → Gives (.cellArrival key seq true) s (fun e =>
        e.sw.confirming = s.dev.sw.confirming ++ [(key, seq)] ∧ e.sw.staging = s.dev.sw.staging ∧
        e.sw.dupDiscard.rd c.etile = min (2 ^ 32 - 1) (s.dev.sw.dupDiscard.rd c.etile + 1) ∧ SameBut [.sw] s.dev e)) ∧
      (c.resend = false → Gives (.confirmTimeout key seq) s (fun e => e.sw.unconf = [{ c with resend := true }] ∧
        (e.planeSt c.plane).timeouts = min (2 ^ 32 - 1) ((s.dev.planeSt c.plane).timeouts + 1) ∧
        e.sw.voq = s.dev.sw.voq ∧ SameBut [.sw] s.dev e))) ∧
    (s.dev.inRunOrTest = true → s.dev.sw.unconf = [] → 1 ≤ (s.dev.sw.exp.rd key + 65536 - seq) % 65536 → (s.dev.sw.exp.rd key + 65536 - seq) % 65536 ≤ 64 →
      Gives (.cellArrival key seq true) s (fun e => e.sw.confirming = s.dev.sw.confirming ++ [(key, seq)] ∧
        e.sw.staging = s.dev.sw.staging ∧ e.sw.dupDiscard.rd (portTile (key % 1024 / 8)) =
          min (2 ^ 32 - 1) (s.dev.sw.dupDiscard.rd (portTile (key % 1024 / 8)) + 1) ∧ SameBut [.sw] s.dev e)) ∧
    (s.dev.sw.unconf = [c] → c.voq = key → c.seq = seq → s.dev.sw.confirming = [(key, seq)] → s.dev.isS c.pkt.ing = true →
      c.pkt.ing < 72 → c.pkt.pushable = false → Gives (.cellConfirm key seq) s (fun e => e.sw.unconf = [] ∧ e.sw.confirming = [] ∧
        (e.ing c.pkt.ing).used = (s.dev.ing c.pkt.ing).used - 1 ∧
        (e.link c.pkt.ing).debts = (s.dev.link c.pkt.ing).debts ++ [(c.pkt.inVc, 1, s.dev.now)] ∧ SameBut [.sw, .ln] s.dev e)) ∧
    ((s.dev.planeSt k).state = 1 → s.dev.spareThreshold 2 ≤ (s.dev.planeSt k).errors → (s.dev.policy 2).enable = false →
      Gives (.planeRemoved k) s (fun e => (e.planeSt k).state = 2 ∧ (s.dev.mode.base ≠ .m10 → bitAt e.cont.uncStatus 10 = true) ∧
        (∀ x ∈ e.sw.unconf, x.plane = k → x.resend = true) ∧ (∀ j, j ≠ k.val → e.planeSt j = s.dev.planeSt j) ∧
        e.sw.voq = s.dev.sw.voq ∧ SameBut (.ln :: .sw :: .cont :: recordBlocks) s.dev e)) ∧
    ((s.dev.planeSt k).errors < s.dev.spareThreshold 2 → Gives (.planeRemoved k) s (fun e => e = s.dev))

/-- A cell time: cells that wait to be sent again go first, on an active plane; a single head crosses the Graticule to a port
with a free staging cell, with its first and last flags, its timestamp and a sequence number; an engine link takes two cells
of its tile, and gives two to a port's staging. The scan for aged packets removes one past its limit, owes its slots back and
records it, and leaves a younger one (R26, R246, R254, R257, R264, R265). -/
def Obligations.CellTimes : Prop :=
  ∀ (s : State) (t : Fin 9) (p : Fin 72) (v : Fin 8) (c : Cell) (k : Pkt) (key : Nat),
    (s.dev.sw.voq = [] → s.dev.sw.eng = [] → s.dev.sw.unconf = [c] → c.resend = true → s.dev.activePlanes ≠ [] →
      s.dev.sw.regIn = [] → s.dev.sw.hubIn = [] → Gives .cellTime s (fun e =>
        e.sw.unconf = [{ c with resend := false, time := s.dev.now, plane := s.dev.activePlanes.headD 0 }] ∧
        e.sw.retransmit.rd c.tile = min (2 ^ 32 - 1) (s.dev.sw.retransmit.rd c.tile + 1) ∧ e.sw.voq = [] ∧
        SameBut (.sw :: recordBlocks) s.dev e)) ∧
    (s.dev.sw = { voq := [(voqKey t p v, [k])], plane := (List.range 8).map (fun j => (j, ({ state := 1 } : Plane))) } →
      s.dev.isH p = true → t.val < s.dev.tiles → k.dst = p.val → k.vc = v.val → k.cls ≤ 2 → k.cells = 1 → k.sent = 0 →
      k.needTransit = false → (∀ f, k.body ≠ .fab f) → Gives .cellTime s (fun e => e.sw.voq.rd (voqKey t p v) = [] ∧
        e.sw.unconf = [{ tile := t, etile := portTile p, voq := voqKey t p v, seq := 0, first := true, last := true, stamp := k.time / usUnits % 2 ^ 21, plane := 0, time := s.dev.now, pkt := { k with sent := 1 } }] ∧
        e.sw.seq.rd (voqKey t p v) = 1 ∧ SameBut (.sw :: accessBlocks) s.dev e)) ∧
    (s.dev.sw.voq = [(voqKey t 73 v, [k])] → s.dev.sw.eng = [] → s.dev.sw.unconf = [] → s.dev.sw.regIn = [] →
      s.dev.sw.hubIn = [] → t.val < s.dev.tiles → k.cls ≤ 2 → k.sent = 0 → 3 ≤ k.cells → k.needTransit = false → k.dst = 73 →
      k.ing = 0xFF → Gives .cellTime s (fun e => e.sw.voq.rd (voqKey t 73 v) = [{ k with sent := 2 }] ∧ e.sw.hubIn = [] ∧
        e.sw.unconf = [] ∧ SameBut (.sw :: recordBlocks) s.dev e)) ∧
    (s.dev.sw = { eng := [(voqKey (portTile p) p v, [k])] } → s.dev.isH p = true → portTile p < s.dev.tiles → k.dst = p.val →
      k.vc = v.val → k.cls ≤ 2 → k.sent = 0 → 3 ≤ k.cells → 2 ≤ s.dev.stagingCap p → Gives .cellTime s (fun e =>
        e.sw.eng.rd (voqKey (portTile p) p v) = [{ k with sent := 2 }] ∧ e.sw.unconf = [] ∧
        (e.sw.staging.rd (8 * p + v)).map (fun x => (x.pkt.id, x.got)) = [(k.id, 2)] ∧ SameBut [.sw] s.dev e)) ∧
    (s.dev.sw.voq = [(key, [k])] → key / 1024 = t.val → s.dev.sw.eng = [] → s.dev.sw.staging = [] → s.dev.sw.held = [] →
      s.dev.isS (key % 1024 / 8) = false → s.dev.isS k.dst = false → k.sent = 0 → k.ing < 72 → k.cls = 0 →
      k.pushable = false → k.epoch = none → k.wr = k.cells →
      ((s.dev.ageingUs k.tc - 2) * usUnits < s.dev.now - k.time → Gives (.ageingScan t) s (fun e => e.sw.voq.rd key = [] ∧
        (e.ing k.ing).agedLossless = min 65535 ((s.dev.ing k.ing).agedLossless + 1) ∧
        (e.ing k.ing).used = (s.dev.ing k.ing).used - k.cells ∧
        (s.dev.mode.base ≠ .m10 → bitAt e.cont.uncStatus 7 = true) ∧
        SameBut (.sw :: .ln :: .cont :: recordBlocks) s.dev e)) ∧
      (s.dev.now - k.time ≤ (s.dev.ageingUs k.tc - 2) * usUnits → Gives (.ageingScan t) s (fun e => e.sw.voq = s.dev.sw.voq ∧
        SameBut [] s.dev e)))

/-! ### The fabric -/

/-- A fabric packet that arrives: an aborted one and one of a reserved kind are discarded and their credit is owed back;
one for another switch goes to its way with one hop less, or is HOP_EXPIRED; at its destination a bad PACKET_CRC, a
duplicate and a packet ahead of its sequence are discarded, counted or held; in M10 only register packets go on (R85, R183,
R283, R284, R288, R289, R292). -/
def Obligations.FabricArrival : Prop :=
  ∀ (s : State) (p : Fin 72) (f : FPkt) (x : Nat), s.dev.isS p = true → (s.dev.link p).state = 3 → s.dev.sw.regIn = [] →
    s.dev.sw.hubIn = [] →
    let vc := s.dev.fabVc f
    let r := s.dev.sw.rx.rd (flowKey f.src f.tc)
    let back := sub24 (r.get f.order).e f.seq
    let owed := fun (e : Dev) => (e.link p).debts = (s.dev.link p).debts ++ [(vc, f.units, s.dev.now)]
    let live := f.abort = false ∧ f.known = true ∧ s.dev.portFenced p = false ∧ s.dev.mode.base ≠ .m10
    let mine := live ∧ f.dest = s.dev.run.switchId
    (f.abort = true → Gives (.fabricPacketReceive p f) s (fun e => owed e ∧ SameBut (.ln :: accessBlocks) s.dev e)) ∧
    (f.abort = false → f.known = false → Gives (.fabricPacketReceive p f) s (fun e => owed e ∧
      e.fab = { s.dev.fab with badKind := min (2 ^ 32 - 1) (s.dev.fab.badKind + 1) } ∧
      SameBut (.ln :: .fab :: recordBlocks) s.dev e)) ∧
    (f.abort = false → f.known = true → s.dev.portFenced p = false → s.dev.mode.base = .m10 → f.isReg = false →
      Gives (.fabricPacketReceive p f) s (fun e => owed e ∧ SameBut (.ln :: accessBlocks) s.dev e)) ∧
    (live → f.dest ≠ s.dev.run.switchId → 0 < f.hops → s.dev.wayOf f.src f.dest f.tc = .port x → s.dev.mode.base ≠ .m7 →
      f.pushable = false → Gives (.fabricPacketReceive p f) s (fun e =>
        Queues s.dev e (portTile p) { ing := p, dst := x, vc := vc, inVc := vc, tc := f.tc, cls := f.order, body := .fab { f with hops := f.hops - 1 }, part := f.srcPart, sequenced := f.src != s.dev.run.switchId } ∧
        SameBut (.sw :: accessBlocks) s.dev e)) ∧
    (live → f.dest ≠ s.dev.run.switchId → f.hops = 0 → f.order ≠ 1 → f.kind ≠ 0x10 →
      Gives (.fabricPacketReceive p f) s (fun e => owed e ∧ e.sw.voq = s.dev.sw.voq ∧
        e.fab = { s.dev.fab with hopExpired := min (2 ^ 32 - 1) (s.dev.fab.hopExpired + 1) } ∧
        SameBut (.ln :: .fab :: .sw :: recordBlocks) s.dev e)) ∧
    (mine → f.crc ≠ f.crcOf → Gives (.fabricPacketReceive p f) s (fun e => owed e ∧ e.sw = s.dev.sw ∧
      e.fab = { s.dev.fab with pktCrcErr := min (2 ^ 32 - 1) (s.dev.fab.pktCrcErr + 1) } ∧ bitAt e.cont.uncStatus 6 = true ∧
      SameBut (.ln :: .fab :: .cont :: recordBlocks) s.dev e)) ∧
    (mine → f.crc = f.crcOf → f.sequenced = true → r.inc = f.inc → (r.get f.order).known = true → 1 ≤ back → back ≤ 2 ^ 23 →
      Gives (.fabricPacketReceive p f) s (fun e => owed e ∧ e.sw.voq = s.dev.sw.voq ∧ e.sw.held = s.dev.sw.held ∧
        e.fab = { s.dev.fab with flowDup := min (2 ^ 32 - 1) (s.dev.fab.flowDup + 1) } ∧
        SameBut (.ln :: .fab :: .sw :: accessBlocks) s.dev e)) ∧
    (mine → f.crc = f.crcOf → f.sequenced = true → r.inc = f.inc → (r.get f.order).known = true → 2 ^ 23 < back →
      Gives (.fabricPacketReceive p f) s (fun e => e.sw.held = s.dev.sw.held ++ [{ port := p, vc := vc, time := s.dev.now, pkt := f }] ∧
        e.sw.voq = s.dev.sw.voq ∧ (e.link p).debts = (s.dev.link p).debts ∧ e.fab = s.dev.fab ∧
        (e.ing p).used = (s.dev.ing p).used + f.units ∧ SameBut (.sw :: accessBlocks) s.dev e))

/-- The ends of what the fabric waits for: a completion of the entry's generation retires it and answers the requester with
its own ID and tag, and any other is late; an expired hold skips the gap; a return slot without a completion is retired,
then free again; the return hold of a port ends at its boundary (R293, R298, R308, R310, R412). -/
def Obligations.FabricWaits : Prop :=
  ∀ (s : State) (p : Fin 72) (f : FPkt) (sw : Fin 4096) (tc : Fin 8) (h : Held) (t : Fin 9) (k : Fin 16384),
    let e0 := s.dev.trEntry (f.reqId % 65536)
    let sl := s.dev.sw.bslot.rd (16384 * t + k)
    (f.kind = 4 → e0.state = 1 → e0.gen = f.reqId / 65536 → e0.engine = false → s.dev.inRunOrTest = true →
      Gives (.fabricCompletion f) s (fun e => (e.trEntry (f.reqId % 65536)).state = 0 ∧
        (e.trEntry (f.reqId % 65536)).gen = nextGen 255 e0.gen ∧
        Waits s.dev e { dst := e0.port, vc := s.dev.vcOf e0.tc, inVc := s.dev.vcOf e0.tc, tc := e0.tc, cls := 2, part := 0x1F, body := .tlp { kind := .cpl, tc := e0.tc, ep := f.poisoned, reqId := e0.reqId, tag := e0.tag, cplId := s.dev.upBridgeId e0.part, status := f.status, byteCount := f.byteCount, lowerAddr := f.lowerAddr } } ∧
        SameBut [.sw] s.dev e)) ∧
    (s.dev.inRunOrTest = true → (f.kind = 4 ∨ f.kind = 5) → (e0.state ≠ 1 ∨ e0.gen ≠ f.reqId / 65536) → Gives (.fabricCompletion f) s (fun e =>
      e.sw = { s.dev.sw with late := min (2 ^ 32 - 1) (s.dev.sw.late + 1) } ∧ e.pcie.port = s.dev.pcie.port ∧ e.pcie.cfg = s.dev.pcie.cfg ∧
      e.pcie.aer = s.dev.pcie.aer ∧ e.evt.status.getLsbD 0x3A7 = true ∧ (s.dev.cairn.queue = [] → s.dev.cairn.minSeverity ≤ 1 → Records e 0x3A7 1) ∧ SameBut (.sw :: recordBlocks) s.dev e)) ∧
    (s.dev.sw.held = [h] → h.pkt.src = sw.val → h.pkt.tc = tc.val → h.pkt.kind = 4 → h.pkt.order = 2 → s.dev.sw.regIn = [] →
      s.dev.sw.hubIn = [] → (s.dev.sw.rx.rd (flowKey sw tc)).c0.known = false → 0 < sub24 h.pkt.seq (s.dev.sw.rx.rd (flowKey sw tc)).c2.e →
      h.pkt.seq < 2 ^ 24 → (s.dev.trEntry (h.pkt.reqId % 65536)).state = 0 → Gives (.flowHoldExpiry sw tc 2) s (fun e =>
        e.sw.held = [] ∧ (e.sw.rx.rd (flowKey sw tc)).c2 = { e := (h.pkt.seq + 1) % 2 ^ 24, known := true } ∧
        e.fab.flowGap = min (2 ^ 32 - 1) (s.dev.fab.flowGap + 1) ∧ bitAt e.cont.uncStatus 9 = true)) ∧
    (s.dev.sw.held = [] → s.dev.sw.regIn = [] → s.dev.sw.hubIn = [] → Gives (.flowHoldExpiry sw tc 1) s (fun e => e = s.dev)) ∧
    (sl.state = 1 → Gives (.bridgeSlotTimeout t k) s (fun e => e.sw.bslot.rd (16384 * t + k) = { sl with state := 2, time := s.dev.now } ∧
      (∀ j, j ≠ 16384 * t.val + k.val → e.sw.bslot.rd j = s.dev.sw.bslot.rd j) ∧ SameBut [.sw] s.dev e)) ∧
    (sl.state ≠ 1 → Gives (.bridgeSlotTimeout t k) s (fun e => e = s.dev)) ∧
    (sl.state = 2 → Gives (.bridgeSlotReuse t k) s (fun e => (e.sw.bslot.rd (16384 * t + k)).state = 0 ∧
      (∀ j, j ≠ 16384 * t.val + k.val → e.sw.bslot.rd j = s.dev.sw.bslot.rd j) ∧ SameBut [.sw] s.dev e)) ∧
    (sl.state ≠ 2 → Gives (.bridgeSlotReuse t k) s (fun e => e = s.dev)) ∧
    ((s.dev.link p).hold = some 0 → Gives (.returnHoldEnd p) s (fun e => (e.link p).hold = none ∧
      e = s.dev.setLink p (fun l => { l with hold := none }))) ∧
    ((s.dev.link p).hold ≠ some 0 → Gives (.returnHoldEnd p) s (fun e => e = s.dev))

/-- The groups of the fabric tables and the remote register bridge: a commit takes the changed entries as pending or gives
the first failure with its index, and the table in force stays; one access a port goes out on TC 7 with its sequence, ends at
once for the own switch, and is answered, late or timed out; a request is applied and answered (R239, R305, R315 to R318). -/
def Obligations.FabricRegisters : Prop :=
  ∀ (s : State) (c : CmdPort) (wide : Bool) (f : FPkt) (x : Nat),
    let b := s.dev.fab
    let st := s.dev.portSt c
    let clear : FabSt := { b with rejected := 0, code := 0, detail := 0 }
    let done := fun (i : Instr) (n : Nat) (r : Nat × Nat) (acc : FabSt) => WritePasses s.dev c 0xC00014 (2 ^ n) →
      Gives i s (fun e => (r.1 = 0 → e.fab = acc) ∧
        (r.1 ≠ 0 → e.fab = { clear with rejected := 2 ^ n, code := r.1, detail := r.2 } ∧ e.commits = s.dev.commits) ∧
        SameBut (.fab :: .commits :: accessBlocks) s.dev e)
    done (.windowsCommit c) 0 (groupResult b.winGrp c.key (s.dev.winCode b.winGrp.changes)) { clear with winGrp := b.winGrp.accept } ∧
    done (.gazetteerCommit c) 1 (groupResult b.gazGrp c.key s.dev.gazCode) { clear with gazGrp := b.gazGrp.accept } ∧
    done (.bearingCommit c) 2 (groupResult b.bearingGrp c.key s.dev.bearingCode) { clear with bearingGrp := b.bearingGrp.accept } ∧
    done (.routingIdCommit c) 3 (groupResult b.ridGrp c.key s.dev.ridCode) { clear with ridGrp := b.ridGrp.accept } ∧
    (WritePasses s.dev c 0xC02004 (2 ^ 31 + b2n wide) → st.rbBusy = false → st.rbSwitch = s.dev.run.switchId →
      Gives (.rbRead c wide) s (fun e => e.portSt c = { st with rbDone := true, rbCode := 7, rbSeq := (st.rbSeq + 1) % 256 } ∧
        SameBut (.port :: accessBlocks) s.dev e)) ∧
    (WritePasses s.dev c 0xC02004 (2 ^ 31 + b2n wide) → st.rbBusy = false → st.rbSwitch ≠ s.dev.run.switchId → s.dev.level c ≤ 3 →
      s.dev.wayOf s.dev.run.switchId st.rbSwitch 7 = .port x → Gives (.rbRead c wide) s (fun e =>
        (e.portSt c).rbBusy = true ∧ (e.portSt c).rbSeq = (st.rbSeq + 1) % 256 ∧ (e.portSt c).rbDest = st.rbSwitch ∧
        Waits s.dev e { dst := x, vc := s.dev.vcOf 7, inVc := s.dev.vcOf 7, tc := 7, cls := 1, part := 0x1F, body := .fab (FPkt.seal { kind := 0x10, flags := 15, hops := b.hopLimit, dest := st.rbSwitch, src := s.dev.run.switchId, srcPart := 0x1F, addr := st.rbOffset, reqF := pack [(1, b2n wide), (2, s.dev.level c), (8, (st.rbSeq + 1) % 256), (16, portTag c)], payload := List.replicate 16 0 }) } ∧
        SameBut (.port :: .sw :: accessBlocks) s.dev e)) ∧
    (WritePasses s.dev c 0xC02004 (2 ^ 31 + 2 + b2n wide) → s.dev.level c = 3 → st.rbBusy = false →
      st.rbSwitch ≠ s.dev.run.switchId → s.dev.wayOf s.dev.run.switchId st.rbSwitch 7 = .port x → st.rbWdata < 2 ^ 64 →
      Gives (.rbWrite c wide) s (fun e => (e.portSt c).rbBusy = true ∧
        Waits s.dev e { dst := x, vc := s.dev.vcOf 7, inVc := s.dev.vcOf 7, tc := 7, cls := 1, part := 0x1F, body := .fab (FPkt.seal { kind := 0x10, flags := 15, hops := b.hopLimit, dest := st.rbSwitch, src := s.dev.run.switchId, srcPart := 0x1F, addr := st.rbOffset, reqF := pack [(0, 1), (1, b2n wide), (2, 3), (8, (st.rbSeq + 1) % 256), (16, portTag c)], payload := toLe 8 (if wide then st.rbWdata else st.rbWdata % 2 ^ 32) ++ List.replicate 8 0 }) } ∧
        SameBut (.port :: .sw :: accessBlocks) s.dev e)) ∧
    (st.rbBusy = true → Gives (.rbTimeout c) s (fun e => e.portSt c = { st with rbBusy := false, rbDone := true, rbCode := 1 } ∧
      SameBut [.port] s.dev e)) ∧
    (st.rbBusy = false → Gives (.rbTimeout c) s (fun e => e = s.dev)) ∧
    (∀ k, s.dev.inRunOrTest = true → f.kind = 0x11 → s.dev.rbMatch f = some k → Gives (.regResponse f) s (fun e => (e.port.rd k).rbBusy = false ∧
      (e.port.rd k).rbDone = true ∧ (e.port.rd k).rbCode = fld f.cplF 24 8 ∧
      (fld f.cplF 24 8 = 0 → bitAt f.reqF 0 = false → (e.port.rd k).rbRdata = leAt f.payload 0 8) ∧ SameBut [.port] s.dev e)) ∧
    (s.dev.inRunOrTest = true → f.kind = 0x11 → s.dev.rbMatch f = none → Gives (.regResponse f) s (fun e => e.port = s.dev.port ∧
      SameBut recordBlocks s.dev e)) ∧
    (∀ q : CmdPort, q = .far ⟨f.src % 4096, Nat.mod_lt _ (by decide)⟩ → f.kind = 0x10 → s.dev.regOn = true → s.dev.inRunOrTest = true →
      s.dev.sw.regIn = [] → s.dev.sw.hubIn = [] → f.addr % 2 ^ 27 = 0xC00004 → fld f.reqF 0 2 = 0 →
      ReadPasses (s.dev.setPort q (fun y => { y with farLevel := fld f.reqF 2 2 })) q 0xC00004 → f.src ≠ s.dev.run.switchId →
      s.dev.wayOf s.dev.run.switchId f.src 7 = .port x → Gives (.regRequest f) s (fun e =>
        Waits s.dev e { dst := x, vc := s.dev.vcOf 7, inVc := s.dev.vcOf 7, tc := 7, cls := 2, part := 0x1F, body := .fab (FPkt.seal { kind := 0x11, flags := 23, hops := b.hopLimit, dest := f.src, src := s.dev.run.switchId, srcPart := 0x1F, addr := f.addr, reqF := f.reqF, payload := toLe 8 s.dev.run.switchId ++ List.replicate 8 0 }) } ∧
        SameBut (.port :: .sw :: accessBlocks) s.dev e))

/-! ### Tally -/

/-- Rounds of a collective: an accepted write and a canonical partial are added exactly to their elements and counted, a write
to no member is discarded; a child's DONE and the parent's DONE advance the round, and a RESULT goes on to the children; a
timeout, a partial out of order and an ABORT end the round and open the next; packing and delivery open it too; a commit is
taken or gives its code; merges do not depend on their order (R325, R331, R333, R334, R337, R338, R340, R342 to R345, R347). -/
def Obligations.TallyRounds : Prop :=
  ∀ (s : State) (n : Fin 4097) (slot : Fin 16) (c : Fin 4096) (i j x : Nat) (bytes : List Byte) (f : FPkt) (p : CmdPort),
    let k := s.dev.coll c
    let r := s.dev.collSt c
    let es := elemSize k.format
    let v := leAt (bytes.map BitVec.toNat) 0 es
    let ended := fun (e : Dev) (why : Nat) => (e.collSt c).state = 1 ∧ (e.collSt c).round = (r.round + 1) % 256 ∧
      (e.collSt c).lastStatus = why ∧ (e.collSt c).led = [] ∧ e.tally.aborts = min (2 ^ 32 - 1) (s.dev.tally.aborts + 1)
    let dropped := fun (e : Dev) => e.tally = { s.dev.tally with discard := min (2 ^ 32 - 1) (s.dev.tally.discard + 1) } ∧ SameBut [.tally] s.dev e
    let child := s.dev.inRunOrTest = true ∧ s.dev.childOf c f.src = some i ∧ f.coll = c.val ∧ r.state = 1 ∧ f.round = r.round ∧
      f.poisoned = false ∧
      f.fmtOp = (k.format, k.op) ∧ r.childDone.rd i = false
    (s.dev.fnMse (fnKeyOf n) = true → s.dev.memberOf n slot = none → Gives (.tallyContribution n slot x bytes true false) s dropped) ∧
    (s.dev.fnMse (fnKeyOf n) = true → s.dev.memberOf n slot = some (c.val, i) → r.state = 1 → k.op = 0 → 0 < es →
      bytes.length = es → j < k.elems → r.count.rd i + 1 < k.elems → i < k.memCount →
      Gives (.tallyContribution n slot (es * j) bytes true false) s (fun e =>
        ((e.collSt c).led.rd j).acc = (r.led.rd j).acc + (contribute k.format k.span v).1 ∧
        ((e.collSt c).led.rd j).flags = Nat.lor (r.led.rd j).flags (contribute k.format k.span v).2 ∧
        (∀ m, m ≠ j → (e.collSt c).led.rd m = r.led.rd m) ∧ (e.collSt c).count.rd i = r.count.rd i + 1 ∧
        (e.collSt c).state = 1 ∧ (∀ m, m ≠ c.val → e.collSt m = s.dev.collSt m) ∧ SameBut (.tally :: accessBlocks) s.dev e)) ∧
    (∀ u : Unpacked, unpackAll k.format 0 1 f.payload = some [u] → child → f.kind = 8 → k.op = 0 → f.elemCount = 1 →
      f.first = r.childNext.rd i → f.first < k.elems → Gives (.tallyPartial f) s (fun e =>
        ((e.collSt c).led.rd f.first).acc = (r.led.rd f.first).acc + u.acc ∧ (e.collSt c).childNext.rd i = f.first + 1 ∧
        (e.collSt c).childPkts.rd i = r.childPkts.rd i + 1 ∧ (e.collSt c).round = r.round ∧
        SameBut (.tally :: accessBlocks) s.dev e)) ∧
    (child → f.kind = 8 → r.ending = false → f.first ≠ r.childNext.rd i → Gives (.tallyPartial f) s (fun e => ended e 6)) ∧
    (s.dev.inRunOrTest = true → f.kind = 8 → f.coll = c.val → r.state = 0 → Gives (.tallyPartial f) s dropped) ∧
    (child → f.kind = 0x0B → (k.root = true ∨ f.src ≠ k.parentSwitch) → r.childPkts.rd i = leAt f.payload 0 4 →
      r.childNext.rd i = k.elems → k.memCount + (r.contributions + leAt f.payload 4 4) ≤ 2 ^ 31 → Gives (.tallyDone f) s (fun e =>
        (e.collSt c).childDone.rd i = true ∧ (e.collSt c).contributions = r.contributions + leAt f.payload 4 4 ∧
        (e.collSt c).flagsOr = Nat.lor r.flagsOr (leAt f.payload 8 1) ∧ (e.collSt c).round = r.round ∧ SameBut [.tally] s.dev e)) ∧
    (s.dev.inRunOrTest = true → f.coll = c.val → f.kind = 0x0B → k.root = false → f.src = k.parentSwitch → r.state ≠ 0 → r.awaiting = true →
      f.round = r.awaitRound → f.poisoned = false → Gives (.tallyDone f) s (fun e => (e.collSt c).awaiting = false ∧
        (e.collSt c).lastStatus = 0 ∧ (e.collSt c).round = r.round ∧ (e.collSt c).state = r.state ∧
        e.tally.rounds = (s.dev.tally.rounds + 1) % 2 ^ 64)) ∧
    (s.dev.inRunOrTest = true → f.coll = c.val → f.kind = 9 → k.root = false → f.src = k.parentSwitch → r.state ≠ 0 → f.round = r.awaitRound →
      f.poisoned = false → (r.awaiting = false → Gives (.tallyResult f) s dropped) ∧
      (r.awaiting = true → k.memCount = 0 → k.kidCount = 1 →
        let ch := s.dev.tally.child.rd k.kidFirst
        s.dev.wayOf s.dev.run.switchId (childSwitch ch) k.tc = .port x → Gives (.tallyResult f) s (fun e =>
          let g := FPkt.seal { kind := 9, flags := k.tc, hops := s.dev.fab.hopLimit, dest := childSwitch ch, src := s.dev.run.switchId, handle := childHandle ch, srcPart := 0x1F, inc := s.dev.fab.incarnation, addr := pack [(0, childColl ch), (12, f.round), (20, f.first), (40, k.format), (43, k.op)], reqF := f.elemCount % 512, payload := f.payload.take (f.elemCount * es) }
          Waits s.dev e { dst := x, vc := s.dev.fabVc g, inVc := s.dev.fabVc g, tc := g.tc, cls := g.order, part := 0x1F, body := .fab g } ∧
          SameBut (.sw :: accessBlocks) s.dev e))) ∧
    (s.dev.inRunOrTest = true → f.coll = c.val → f.kind = 0x0A → k.root = false → f.src = k.parentSwitch → r.state = 1 → f.round = r.round →
      r.ending = false → s.dev.tally.hold = [] → Gives (.tallyAbort f) s (fun e => ended e (leAt f.payload 0 1))) ∧
    (r.state = 3 → r.ending = false → s.dev.tally.hold = [] → Gives (.roundPacked c) s (fun e => e.collSt c = r.openNext ∧
      e.tally.aborts = s.dev.tally.aborts)) ∧
    (r.state ≠ 3 → Gives (.roundPacked c) s (fun e => e = s.dev)) ∧
    (r.state = 4 → r.ending = false → s.dev.tally.hold = [] → Gives (.roundDelivered c) s (fun e => (e.collSt c).state = 1 ∧
      (e.collSt c).round = (r.round + 1) % 256 ∧ (e.collSt c).lastStatus = 0 ∧ (e.collSt c).led = [] ∧
      e.tally.rounds = (s.dev.tally.rounds + 1) % 2 ^ 64)) ∧
    (r.state = 1 → r.ending = false → k.timeout ≤ r.ticksOpen → Gives (.roundTimeout c) s (fun e => ended e 1)) ∧
    (r.ticksOpen < k.timeout → Gives (.roundTimeout c) s (fun e => e = s.dev)) ∧
    (r.awaiting = true → r.state = 1 → k.timeout ≤ r.ticksWait → Gives (.resultTimeout c) s (fun e => (e.collSt c).awaiting = false ∧
      (e.collSt c).lastStatus = 9 ∧ (e.collSt c).round = r.round ∧ (e.collSt c).led = r.led ∧
      e.tally.aborts = min (2 ^ 32 - 1) (s.dev.tally.aborts + 1))) ∧
    (r.awaiting = false → Gives (.resultTimeout c) s (fun e => e = s.dev)) ∧
    (WritePasses s.dev p 0x3400008 (2 ^ 31 + c) →
      let q := s.dev.tallyCommitResult p c
      (q.1 ≠ 0 → Gives (.tallyCommit p c) s (fun e => e.tally = { s.dev.tally with code := q.1, detail := q.2 } ∧
        SameBut (.tally :: accessBlocks) s.dev e)) ∧
      (q.1 = 0 → (s.dev.tally.collSh.rd c).valid = true → r.state = 0 → Gives (.tallyCommit p c) s (fun e =>
        e.tally.coll.rd c = s.dev.tally.collSh.rd c ∧ e.collSt c = { state := 6 } ∧ e.tally.code = 0 ∧
        SameBut (.tally :: accessBlocks) s.dev e)) ∧
      (q.1 = 0 → (s.dev.tally.collSh.rd c).valid = false → r.state ≠ 0 → Gives (.tallyCommit p c) s (fun e =>
        e.collSt c = { r with retire := true } ∧ e.tally.coll = s.dev.tally.coll ∧ SameBut (.tally :: accessBlocks) s.dev e))) ∧
    (r.state = 6 → Gives (.ledgerClearDone c) s (fun e => e.collSt c = { r with cleared := true } ∧ SameBut [.tally] s.dev e)) ∧
    (r.state ≠ 6 → Gives (.ledgerClearDone c) s (fun e => e = s.dev)) ∧
    (∀ (a b : Int) (fa fb m : Nat), ((r.merge k.format 0 i a 0 fa).merge k.format 0 j b 0 fb).led.rd m =
      ((r.merge k.format 0 j b 0 fb).merge k.format 0 i a 0 fa).led.rd m)

/-! ### Traverse engines and functions -/

/-- Queues of a function whose BAR0 answers: ENABLE commits the staged group of a DISABLED queue and starts its rings at
zero, or gives the code of Table 11.7; in another state it changes nothing; ENABLE = 0 disables an idle queue, and drains
one with a descriptor in progress; RESUME goes on at SQ_HEAD; a doorbell in range moves the queue between IDLE and ACTIVE,
and one out of range puts it in ERROR; a CQ_HEAD out of range is dropped and recorded (R358 to R360, R363). -/
def Obligations.TraverseQueues : Prop :=
  ∀ (s : State) (n : Fin 4097) (k : Fin 2048) (v : Word), s.dev.inRunOrTest = true → s.dev.fnMse (fnKeyOf n) = true →
    s.dev.fnOn n = true → k.val < s.dev.fnQueues n → (s.dev.queue (s.dev.qKey n k)).weight < 16 →
    let key := s.dev.qKey n k
    let q := s.dev.queue key
    let x := v.toNat % 65536
    let others := fun (e : Dev) => ∀ m, m ≠ key → e.queue m = s.dev.queue m
    let open_ := q.cqFull = false ∧ q.waiting = []
    (q.state = 0 → q.commitCode = 0 → Gives (.queueEnable n k) s (fun e => (e.queue key).state = 1 ∧ (e.queue key).sq = q.sqSh ∧
      (e.queue key).cq = q.cqSh ∧ (e.queue key).sizes = q.szSh ∧ (e.queue key).sqHead = 0 ∧ (e.queue key).sqTail = 0 ∧
      (e.queue key).cqHead = 0 ∧ (e.queue key).cqTail = 0 ∧ (e.queue key).phase = true ∧ (e.queue key).code = 0 ∧
      others e ∧ SameBut [.trav] s.dev e)) ∧
    (q.state = 0 → q.commitCode ≠ 0 → Gives (.queueEnable n k) s (fun e => (e.queue key).state = 0 ∧ (e.queue key).code = q.commitCode ∧
      (e.queue key).sq = q.sq ∧ (e.queue key).sizes = q.sizes ∧ others e ∧ SameBut [.trav] s.dev e)) ∧
    (q.state ≠ 0 → Gives (.queueEnable n k) s (fun e => e.queue key = { q with weight := (e.queue key).weight } ∧ others e ∧
      SameBut [.trav] s.dev e)) ∧
    ((q.state = 1 ∨ q.state = 2) → q.run.phase = .idle → q.run.prefetched = [] → q.ahead = [] → q.waiting = [] → Gives (.queueDisable n k) s (fun e =>
      (e.queue key).state = 0 ∧ (e.queue key).engine = none ∧ key ∉ e.trav.waiting ∧ others e ∧ SameBut [.trav] s.dev e)) ∧
    (q.state = 2 → q.run.phase ≠ .idle → open_ → q.ahead = [] → Gives (.queueDisable n k) s (fun e => (e.queue key).state = 5 ∧
      (e.queue key).run = q.run ∧ (e.queue key).sqHead = q.sqHead ∧ others e ∧ SameBut [.trav] s.dev e)) ∧
    (q.state = 4 → Gives (.queueResume n k) s (fun e => (e.queue key).sqHead = q.sqHead ∧ (e.queue key).code = 0 ∧
      (e.queue key).state = (if q.cqFull ∨ q.waiting ≠ [] then 3 else if q.sqTail ≠ q.sqHead then 2 else 1) ∧ others e ∧
      SameBut [.trav] s.dev e)) ∧
    ((q.state = 1 ∨ q.state = 2) → open_ → x < 2 ^ q.sqLog → Gives (.sqTail n k v) s (fun e => (e.queue key).sqTail = x ∧
      (e.queue key).state = (if x ≠ q.sqHead then 2 else 1) ∧ (e.queue key).sqHead = q.sqHead ∧
      (x ≠ q.sqHead → q.engine = none → key ∈ e.trav.waiting) ∧ others e ∧ SameBut [.trav] s.dev e)) ∧
    ((q.state = 1 ∨ q.state = 2) → 2 ^ q.sqLog ≤ x → Gives (.sqTail n k v) s (fun e => (e.queue key).state = 4 ∧
      (e.queue key).code = 0x20 ∧ (e.queue key).sqTail = q.sqTail ∧ (e.queue key).sqHead = q.sqHead)) ∧
    ((q.state = 1 ∨ q.state = 2) → 2 ^ q.cqLog ≤ x → s.dev.cairn.queue = [] → Gives (.cqHead n k v) s (fun e => e.trav = s.dev.trav ∧
      Records e 0x04A 2 ∧ SameBut recordBlocks s.dev e)) ∧
    (q.state = 4 → x < 2 ^ q.cqLog → q.waiting = [] → Gives (.cqHead n k v) s (fun e => e.queue key = { q with cqHead := x } ∧
      others e ∧ SameBut [.trav] s.dev e)) ∧
    (q.state = 0 → Gives (.sqTail n k v) s (fun e => e = s.dev) ∧ Gives (.cqHead n k v) s (fun e => e = s.dev) ∧
      Gives (.queueDisable n k) s (fun e => e.queue key = { q with weight := (e.queue key).weight } ∧ SameBut [.trav] s.dev e))

/-- The engines: a waiting queue is bound to the engine with the fewest bound queues; a fetched descriptor that is well
formed becomes the one in progress; a descriptor whose ring has no room keeps its completion entry, whose bytes are those
of R362, and the queue is CQ_FULL; an engine with nothing to do does nothing; the completion of an open read slot feeds the
run that issued it, and any other is counted and recorded as late; a read outside Transit times out; a pending vector of a
function is sent when its conditions hold (R360 to R363, R365, R371). -/
def Obligations.TraverseEngines : Prop :=
  ∀ (s : State) (e : Fin 8) (key j : Nat) (q : Queue) (slot : Fin 8192) (gen : Nat) (bytes : List Byte) (n : Fin 4097) (vec : Fin 2048),
    let one := s.dev.sw.regIn = [] ∧ s.dev.sw.hubIn = [] ∧ s.dev.trav.q = [(key, q)] ∧ s.dev.canStep e key = true ∧
      s.dev.runReads key q.run.serial = 0 ∧ s.dev.fnPart (s.dev.poolFn key) < 24
    let b := (List.range 64).map q.run.byte
    let c := s.dev.trav.slot.rd slot
    let r := (s.dev.queue c.queue).run
    (s.dev.trav.waiting = [] → Gives .queueBind s (fun e => e = s.dev)) ∧
    (∀ rest, s.dev.trav.waiting = key :: rest → (∃ a, a < 8 ∧ s.dev.boundQueues a < 64) → Gives .queueBind s (fun e =>
      (∃ a, a < 8 ∧ (e.queue key).engine = some a ∧ (∀ m, m < 8 → s.dev.boundQueues a ≤ s.dev.boundQueues m) ∧
        (∀ m, m < a → s.dev.boundQueues a < s.dev.boundQueues m)) ∧ e.trav.waiting = rest ∧ SameBut [.trav] s.dev e)) ∧
    ((∀ x, x ∈ s.dev.trav.q → s.dev.canStep e x.1 = false) → s.dev.sw.regIn = [] → s.dev.sw.hubIn = [] →
      Gives (.engineSegment e) s (fun d => d = s.dev)) ∧
    (one → q.run.phase = .fetch → q.run.status = 0 → descCode b = 0 → descFence b = false → (descOp b = 0 ∨ descOp b = 1 ∨ descOp b = 4) →
      Gives (.engineSegment e) s (fun d => (d.queue key).run.phase = .ready ∧ (d.queue key).run.desc = b ∧
        (d.queue key).run.done = 0 ∧ (d.queue key).sqHead = q.sqHead ∧ SameBut [.trav] s.dev d)) ∧
    (one → q.run.phase = .fence → q.run.status = 0 → q.state = 2 → q.cqFull = true → q.waiting = [] → Gives (.engineSegment e) s (fun d =>
      (d.queue key).sqHead = (q.sqHead + 1) % 2 ^ q.sqLog ∧ (d.queue key).cqTail = q.cqTail ∧ (d.queue key).state = 3 ∧
      (d.queue key).waiting.map Prod.fst = [slice q.run.desc 0x24 4 ++ toLe 4 q.run.done ++ toLe 2 ((q.sqHead + 1) % 2 ^ q.sqLog) ++
        [0, 0] ++ toLe 2 (s.dev.trav.fn.rd (s.dev.poolFn key)).gen ++ [0, 0]] ∧ d.trav.descErrors = s.dev.trav.descErrors ∧
      SameBut (.trav :: accessBlocks) s.dev d)) ∧
    (s.dev.inRunOrTest = true → slot.val < 4096 → c.used = true → c.gen = gen → (s.dev.trav.fn.rd c.fn).gen = c.fnGen → r.serial = c.serial → bytes.length = c.bytes →
      (Gives (.engineReadCompletion slot gen bytes 0 false) s (fun d => d.trav.slot.rd slot = { gen := c.gen + 1 } ∧
        (j < bytes.length → (d.queue c.queue).run.byte (c.off + j) = ((bytes.map BitVec.toNat).getD j 0)) ∧
        (d.queue c.queue).run.status = r.status ∧ (d.queue c.queue).run.todo = r.todo ∧ SameBut [.trav] s.dev d)) ∧
      (c.kind = 0 → r.status = 0 → Gives (.engineReadCompletion slot gen bytes 0 true) s (fun d =>
        (d.queue c.queue).run.status = 0x06 ∧ (d.queue c.queue).run.todo = [] ∧ SameBut [.trav] s.dev d))) ∧
    (s.dev.inRunOrTest = true → (c.used = false ∨ c.gen ≠ gen) → s.dev.cairn.queue = [] → Gives (.engineReadCompletion slot gen bytes 0 false) s (fun d =>
      d.trav = { s.dev.trav with lateCpl := min (2 ^ 32 - 1) (s.dev.trav.lateCpl + 1) } ∧ Records d 0x362 1 ∧
      SameBut (.trav :: recordBlocks) s.dev d)) ∧
    (slot.val < 4096 → c.used = true → c.transit = none → c.kind = 0 → (s.dev.trav.fn.rd c.fn).gen = c.fnGen → r.serial = c.serial →
      r.status = 0 → Gives (.engineReadTimeout slot) s (fun d => d.trav.slot.rd slot = { gen := c.gen + 1 } ∧
        (d.queue c.queue).run.status = 0x05 ∧ SameBut [.trav] s.dev d)) ∧
    ((c.used = false ∨ c.transit.isSome = true) → Gives (.engineReadTimeout slot) s (fun d => d = s.dev)) ∧
    (s.dev.pcie.msixPend.rd (msixKey (fnKeyOf n) vec) = true → s.dev.msixOpen (fnKeyOf n) vec = true → s.dev.fnBme n = true →
      Gives (.vectorPendingSend n vec) s (fun d => d.pcie.msixPend.rd (msixKey (fnKeyOf n) vec) = false ∧ d.trav.q = s.dev.trav.q)) ∧
    ((s.dev.msixOpen (fnKeyOf n) vec = false ∨ s.dev.fnBme n = false) → Gives (.vectorPendingSend n vec) s (fun d => d = s.dev))

/-- Functions: a reset advances the generation, disables every queue without a completion entry, clears the pending
messages and starts the one job that returns the function to service; VF Enable asks for the VFs, which become ENABLED on
the next tick; with NumVFs above TotalVFs it is ignored and recorded; VF Enable = 0 removes the VFs under a new generation
(R355 to R357, R372 to R374). -/
def Obligations.Functions : Prop :=
  ∀ (s : State) (n : Fin 4097) (q : Fin 24) (num : Fin 65536) (m : Nat),
    let quiet := s.dev.sw.tr = [] ∧ s.dev.sw.voq = [] ∧ s.dev.tally.st = []
    let f := s.dev.trav.fn.rd n
    let w := cfgKey (parentKey q) 92
    let reset := fun (e : Dev) (x : Nat) (gone : Bool) => (e.trav.fn.rd x).state = 2 ∧
      (e.trav.fn.rd x).gen = (if 4095 ≤ (s.dev.trav.fn.rd x).gen then 1 else (s.dev.trav.fn.rd x).gen + 1) ∧
      (gone = true → (e.trav.fn.rd x).removed = true)
    (quiet → n.val ≠ 0 → f.state = 1 → Gives (.functionLevelReset (.vf n)) s (fun e => reset e n false ∧
      (∀ k, k < s.dev.fnQueues n → (e.queue (s.dev.qKey n k)).state = 0 ∧ (e.queue (s.dev.qKey n k)).waiting = []) ∧
      (∀ k, k < 2048 → e.pcie.msixPend.rd (msixKey (fnKeyOf n) k) = false) ∧
      (∃ k, (e.trav.fn.rd n).job = k + 1 ∧ (e.jobs.slot.rd k).op = 4 ∧ (e.jobs.slot.rd k).internal = true ∧
        (e.jobs.slot.rd k).total = s.dev.fnQueues n) ∧
      (∀ x, x ≠ n.val → e.trav.fn.rd x = s.dev.trav.fn.rd x) ∧ SameBut (.trav :: .jobs :: .bnd :: .sw :: recordBlocks) s.dev e)) ∧
    (f.state = 0 → n.val ≠ 0 → Gives (.functionLevelReset (.vf n)) s (fun e => e = s.dev)) ∧
    (s.dev.hasEngine q = true → bitAt (s.dev.pcie.cfg.rd w) 0 = false →
      (num.val ≤ s.dev.totalVfs q → Gives (.vfEnable q num true) s (fun e => bitAt (e.pcie.cfg.rd w) 0 = true ∧
        (m < num.val → (e.trav.fn.rd (s.dev.vfBase q + m)).wanted = true) ∧
        (∀ x, (e.trav.fn.rd x).state = (s.dev.trav.fn.rd x).state ∧ (e.trav.fn.rd x).gen = (s.dev.trav.fn.rd x).gen) ∧
        SameBut [.pcie, .trav] s.dev e)) ∧
      (s.dev.totalVfs q < num.val → s.dev.cairn.queue = [] → Gives (.vfEnable q num true) s (fun e => e.pcie.cfg = s.dev.pcie.cfg ∧
        Records e 0x363 2 ∧ SameBut recordBlocks s.dev e)) ∧
      Gives (.vfEnable q num false) s (fun e => e = s.dev)) ∧
    (s.dev.hasEngine q = true → bitAt (s.dev.pcie.cfg.rd w) 0 = true → quiet → m < s.dev.totalVfs q →
      (s.dev.trav.fn.rd (s.dev.vfBase q + m)).state = 1 → Gives (.vfEnable q num false) s (fun e =>
        bitAt (e.pcie.cfg.rd w) 0 = false ∧ reset e (s.dev.vfBase q + m) true)) ∧
    (s.dev.hasEngine q = false → Gives (.vfEnable q num true) s (fun e => e = s.dev)) ∧
    (∀ d : Dev, (d.trav.fn.rd n).wanted = true → (d.trav.fn.rd n).state = 0 → (d.fnBoundary.trav.fn.rd n).state = 1 ∧
      (d.fnBoundary.trav.fn.rd n).gen = (d.trav.fn.rd n).gen)

/-! ### Containment, spares and cores -/

/-- Containment: a Boundary commit is accepted whole or gives its code; a software trigger and a thermal trip set their bits
and form a trigger; a delivered trigger isolates its domain in an entry, takes the link of a LINK domain down as CONTAINED
and leaves the state of the others, while a domain inside an isolated one makes no entry; a restoration is accepted or
gives its code; the Transit scan retires what is overdue into quarantine, which ends; corrected and uncorrectable rows
count, and a window's end restarts its counts; without the DCLK PLL a DCLK access reads zero (R387, R399 to R420, R466). -/
def Obligations.Containment : Prop :=
  ∀ (s : State) (p : CmdPort) (table : Fin 256) (kind : Fin 16) (id : Fin 65536) (stop : Fin 10) (t : Trigger) (r : List Trigger)
    (k : Fin 64) (idx : Fin 65536) (x : TEntry) (sk : Fin 5) (m n : Nat) (row : Fin 512) (ref : Bool) (a : Word),
    let first := s.dev.cont.domain = [] ∧ s.dev.cont.extra = [] ∧ s.dev.sw = {} ∧ s.dev.jobs = {}
    let live := s.dev.mode.base ≠ .m0 ∧ s.dev.mode.base ≠ .m10
    let q9 := s.dev.cont.stop.rd 9
    (WritePasses s.dev p 0x300000C (2 ^ 31 + table) →
      let c := s.dev.bndCommitResult p table
      Gives (.boundaryCommit p table) s (fun e => e.bnd.code = c.1 ∧ e.bnd.detail = c.2 ∧ e.bnd.gate = table ∧
        e.bnd.rule = s.dev.bnd.rule ∧ e.bnd.epoch = s.dev.bnd.epoch ∧
        e.commits = s.dev.commits ++ (if c.1 = 0 then [(s.dev.tickCycleHere, .rules table (s.dev.bnd.grp.rd table).changes)] else []) ∧
        SameBut (.bnd :: .commits :: accessBlocks) s.dev e)) ∧
    (WritePasses s.dev p 0x11088 (2 ^ 31 + 65536 * kind + id) → s.dev.mode.base ≠ .m10 →
      (s.dev.domainExists kind id = true → q9.length ≤ 32 → Gives (.containTrigger p kind id) s (fun e =>
        bitAt e.cont.uncStatus 17 = true ∧ (∃ t ∈ e.cont.stop.rd 9, t.bit = 17 ∧ t.kind = kind.val ∧ t.id = id.val) ∧
        e.cont.domain = s.dev.cont.domain ∧ SameBut (.cont :: accessBlocks) s.dev e)) ∧
      (s.dev.domainExists kind id = false → Gives (.containTrigger p kind id) s (fun e => e.evt.status.getLsbD 0x04A = true ∧
        SameBut recordBlocks s.dev e))) ∧
    (live → q9.length ≤ 32 → Gives (.faultDetect .thermal) s (fun e => bitAt e.cont.uncStatus 14 = true ∧
      (∃ t ∈ e.cont.stop.rd 9, t.bit = 14 ∧ t.kind = 0) ∧ e.cont.domain = s.dev.cont.domain ∧ SameBut [.cont] s.dev e)) ∧
    (s.dev.mode.base = .m0 → Gives (.faultDetect .thermal) s (fun e => e = s.dev)) ∧
    (s.dev.cont.stop.rd stop = [] → Gives (.triggerDelivery stop) s (fun e => e = s.dev)) ∧
    (s.dev.cont.stop.rd stop = t :: r → t.kind = 2 → s.dev.isS t.id = true → t.id < s.dev.ports → (s.dev.link t.id).state = 3 → first →
      Gives (.triggerDelivery stop) s (fun e => (e.cont.domain.rd 0).valid = true ∧ (e.cont.domain.rd 0).kind = 2 ∧
        (e.cont.domain.rd 0).id = t.id ∧ (e.cont.domain.rd 0).cause = t.bit ∧ (e.link t.id).fenced = true ∧
        (e.link t.id).state = 5 ∧ (e.link t.id).lastCause = 10 ∧ e.cont.stop.rd stop = r ∧
        (∀ y, y ≠ t.id → (e.link y).state = (s.dev.link y).state) ∧ e.run = s.dev.run ∧ e.part = s.dev.part)) ∧
    (s.dev.cont.stop.rd stop = t :: r → t.kind = 2 → (1, portTile t.id) ∈ s.dev.isolated → (∀ y ∈ s.dev.cont.domain, y.2.restoring = false) →
      Gives (.triggerDelivery stop) s (fun e => e.cont.domain = s.dev.cont.domain ∧ e.cont.stop.rd stop = r ∧
        e.cont.classify = s.dev.cont.classify ++ [(t, false)] ∧ SameBut [.cont] s.dev e)) ∧
    (WritePasses s.dev p 0x11080 (2 ^ 31 + k) →
      let d := s.dev.cont.domain.rd k
      let c := s.dev.restoreCode k
      (d.valid = false → c = 1) ∧ (d.valid = true → bitAt s.dev.cont.uncStatus d.cause = true → c = 2) ∧ (d.kind = 0 → c ≠ 0) ∧
      Gives (.containRestore p k) s (fun e => e.cont.restoreCode = c ∧ (e.cont.domain.rd k) = (if c = 0 then { d with restoring := true } else d) ∧
        (∀ y, y ≠ k.val → e.cont.domain.rd y = s.dev.cont.domain.rd y) ∧ SameBut (.cont :: accessBlocks) s.dev e)) ∧
    ((∀ y ∈ s.dev.sw.tr, y.2.state = 1 → s.dev.now < y.2.time + s.dev.trTimeoutOf y.2.part) → Gives .transitScan s (fun e => e = s.dev)) ∧
    (s.dev.sw.tr = [(idx.val, x)] → x.state = 1 → x.time + s.dev.trTimeoutOf x.part ≤ s.dev.now → Gives .transitScan s (fun e =>
      (e.trEntry idx).state = 2 ∧ (e.trEntry idx).gen = (if 255 ≤ x.gen then 1 else x.gen + 1) ∧ bitAt e.cont.uncStatus 8 = true ∧
      e.sw.timeouts = min (2 ^ 32 - 1) (s.dev.sw.timeouts + 1))) ∧
    ((s.dev.trEntry idx).state = 2 → Gives (.quarantineEnd idx) s (fun e => e.trEntry idx = { gen := (s.dev.trEntry idx).gen } ∧
      (∀ y, y ≠ idx.val → e.trEntry y = s.dev.trEntry y) ∧ SameBut [.sw] s.dev e)) ∧
    ((s.dev.trEntry idx).state ≠ 2 → Gives (.quarantineEnd idx) s (fun e => e = s.dev)) ∧
    (s.dev.spareWindow sk ≠ 0 → n < 2 ^ 20 → Gives (.spareWindowEnd sk) s (fun e => e.cont.count.rd (spareKey sk n) = 0 ∧
      (∀ y, y ≠ sk.val → e.cont.count.rd (spareKey y n) = s.dev.cont.count.rd (spareKey y n)) ∧ SameBut [.cont, .sw] s.dev e)) ∧
    (s.dev.spareWindow sk = 0 → Gives (.spareWindowEnd sk) s (fun e => e = s.dev)) ∧
    (s.dev.mode.base ≠ .m0 → m < s.dev.macroCount → s.dev.spareThreshold 3 = 0 → Gives (.patrolScrub m row false) s (fun e =>
      (e.cont.macros.rd m).corrected = min (2 ^ 16 - 1) ((s.dev.cont.macros.rd m).corrected + 1) ∧
      (e.cont.macros.rd m).uncorrectable = (s.dev.cont.macros.rd m).uncorrectable ∧ bitAt e.cont.corStatus 0 = true ∧
      e.cont.uncStatus = s.dev.cont.uncStatus ∧ SameBut (.cont :: recordBlocks) s.dev e)) ∧
    (s.dev.mode.base ≠ .m0 → m < s.dev.macroCount → (s.dev.policy 3).enable = false → Gives (.patrolScrub m row true) s (fun e =>
      (e.cont.macros.rd m).uncorrectable = min (2 ^ 16 - 1) ((s.dev.cont.macros.rd m).uncorrectable + 1) ∧
      (e.cont.macros.rd m).corrected = (s.dev.cont.macros.rd m).corrected ∧ SameBut (.cont :: recordBlocks) s.dev e)) ∧
    (s.dev.macroCount ≤ m → Gives (.patrolScrub m row true) s (fun e => e = s.dev)) ∧
    (live → s.dev.bus.pllFallback = false → q9.length ≤ 32 → Gives (.datapathPllLoss ref) s (fun e => e.bus.pllFallback = true ∧
      e.bus.refLost = !ref ∧ (s.dev.inRunOrTest = true → bitAt e.cont.uncStatus 13 = true ∧ ∃ t ∈ e.cont.stop.rd 9, t.bit = 13 ∧ t.kind = 0) ∧
      SameBut [.bus, .cont] s.dev e)) ∧
    (s.dev.bus.pllFallback = true → Gives (.datapathPllLoss ref) s (fun e => e = s.dev)) ∧
    (s.dev.bus.pllFallback = true → dclkBlock a.toNat = true → s.dev.reach p (a.toNat / 4 * 4) 4 true none ≠ .dead →
      Gives (.regAccessTimeout p a false) s (fun e => e.bus.regTimeouts = min (2 ^ 32 - 1) (s.dev.bus.regTimeouts + 1) ∧
        e.out = s.dev.shown [.readData p.key 0] ∧ SameBut [.bus] s.dev e) ∧
      Gives (.regAccessTimeout p a true) s (fun e => e.bus.regTimeouts = min (2 ^ 32 - 1) (s.dev.bus.regTimeouts + 1) ∧
        e.out = s.dev.out ∧ SameBut [.bus] s.dev e)) ∧
    (s.dev.bus.pllFallback = false → Gives (.regAccessTimeout p a false) s (fun e => e = s.dev))

/-- The management cores: a watchdog, a missing READY, an exception and an uncorrectable memory error fail the core, which
loses its role for good; with kind 4 of the policy enabled and the SPC in STANDBY a takeover starts, the role's image
starts the SPC, and SPARE_USED is set; KICK restarts the watchdog and takes READY; EVENT fires its firmware source; the last
LOG word queues a record with the writer of the role (R467 to R471, R478). -/
def Obligations.CoreRows : Prop :=
  ∀ (s : State) (c : Fin 5) (v : Word) (n : Fin 32),
    let k := s.dev.core c
    let fails := fun (e : Dev) (cause : Nat) => (e.core c).state = .failed ∧ (e.core c).role = none ∧ (e.core c).failCause = cause ∧
      (∀ r, e.cores.roleMap.rd r ≠ c.val + 1) ∧ bitAt e.cont.uncStatus 12 = true ∧ e.part = s.dev.part ∧ e.run = s.dev.run
    (k.state = .running → k.ready = true → k.watchdog ≤ k.wdCount → Gives (.watchdogExpiry c) s (fun e => fails e 1)) ∧
    ((k.state ≠ .running ∨ k.ready = false ∨ k.wdCount < k.watchdog) → Gives (.watchdogExpiry c) s (fun e => e = s.dev)) ∧
    (∀ r, c.val < 4 → r < 4 → k.state = .running → k.ready = true → k.watchdog ≤ k.wdCount → k.role = some r →
      (s.dev.core 4).state = .standby → (s.dev.policy 4).enable = true → Gives (.watchdogExpiry c) s (fun e => fails e 1 ∧
        e.cores.takeover = true ∧ e.cores.takeRole = r ∧ (e.core 4).state = .reset ∧
        (∀ x, x ≠ 4 → x ≠ c.val → e.core x = s.dev.core x))) ∧
    (∀ r, c.val < 4 → r < 4 → k.state = .running → k.ready = true → k.watchdog ≤ k.wdCount → k.role = some r →
      (s.dev.core 4).state = .standby → (s.dev.policy 4).enable = false → Gives (.watchdogExpiry c) s (fun e => fails e 1 ∧
        e.cores.takeover = s.dev.cores.takeover ∧ (∀ x, x ≠ c.val → e.core x = s.dev.core x) ∧
        SameBut (.cores :: .cont :: recordBlocks) s.dev e)) ∧
    (k.active = true → k.ready = false → Gives (.readyTimeout c) s (fun e => fails e 5)) ∧
    ((k.active = false ∨ k.ready = true) → Gives (.readyTimeout c) s (fun e => e = s.dev)) ∧
    (k.active = true → Gives (.coreException c false) s (fun e => fails e 2) ∧
      Gives (.coreException c true) s (fun e => fails e 3 ∧ bitAt e.cont.uncStatus 3 = true)) ∧
    (k.state = .failed → Gives (.coreException c true) s (fun e => e = s.dev)) ∧
    (s.dev.cores.takeover = true → s.dev.cores.takeLoaded = false → s.dev.cores.takeRole < 4 → Gives .takeoverImageLoaded s (fun e =>
      (e.core 4).state = .running ∧ (e.core 4).role = some s.dev.cores.takeRole ∧ (e.core 4).ready = false ∧
      (e.core 4).mem = (s.dev.run.firmware.rd s.dev.cores.takeRole).memory ∧
      (e.core 4).reg.rd 32 = (s.dev.run.firmware.rd s.dev.cores.takeRole).entry ∧ e.cores.roleMap.rd s.dev.cores.takeRole = 5 ∧
      bitAt e.cont.corStatus 5 = true ∧ (∀ x, x ≠ 4 → e.core x = s.dev.core x) ∧ SameBut (.cores :: .cont :: recordBlocks) s.dev e)) ∧
    (s.dev.cores.takeover = false → Gives .takeoverImageLoaded s (fun e => e = s.dev)) ∧
    (WritePasses s.dev (.core c) (coreAddr c 0x08) v.toNat → Gives (.coreKick c v) s (fun e =>
      e.core c = { k with wdCount := 0, ready := k.ready || bitAt v.toNat 0 } ∧ (∀ x, x ≠ c.val → e.core x = s.dev.core x) ∧
      SameBut (.cores :: accessBlocks) s.dev e)) ∧
    (WritePasses s.dev (.core c) (coreAddr c 0x0C) n → Gives (.coreEvent c n) s (fun e => e.evt.status.getLsbD (0x3E0 + n) = true ∧
      SameBut accessBlocks s.dev e)) ∧
    (WritePasses s.dev (.core c) (coreAddr c 0x7C) v.toNat → s.dev.cairn.queue = [] → s.dev.cairn.minSeverity ≤ fld (k.log.rd 5) 16 3 →
      Gives (.coreLog c v) s (fun e => (∃ r, e.cairn.queue = [r] ∧ r.writer = s.dev.roleOf c + 1 ∧ r.code = fld (k.log.rd 5) 0 10 ∧
        r.severity = fld (k.log.rd 5) 16 3) ∧ SameBut (.cores :: recordBlocks) s.dev e))

/-! ### The Cairn log, event sources and counters -/

/-- The log: the writer stores the oldest record, or FLOOD before it, under the next SEQ in the next slot of its ring, and
copies Errors and Fatals into the Black Box unless it is frozen; a clear removes the rings that SCOPE names, or is refused
with the first code that applies, and ends with its Audit record; a slot, a Black Box record and a fault log are latched and
advanced for the reading port alone; a DEVICE freeze ends only in M0 (R423, R425, R428 to R439). -/
def Obligations.CairnLog : Prop :=
  ∀ (s : State) (p : CmdPort) (r : CairnRec) (rest : List CairnRec) (v : Word) (idx : Fin 16384) (x : Nat),
    let c := s.dev.cairn
    let w := { r with seq := c.lastSeq + 1 }
    let stored := fun (e : Dev) => e.cairn.lastSeq = c.lastSeq + 1 ∧ e.cairn.slots.rd (c.slotFor r.severity) = w ∧
      (∀ y, y ≠ c.slotFor r.severity → e.cairn.slots.rd y = c.slots.rd y) ∧
      (r.severity = 3 ∨ r.severity = 4 → c.bbFrozen = false → e.cairn.bb.rd (c.nBb % 4096) = w ∧ e.cairn.nBb = c.nBb + 1) ∧
      ((r.severity ≠ 3 ∧ r.severity ≠ 4) ∨ c.bbFrozen = true → e.cairn.bb = c.bb ∧ e.cairn.nBb = c.nBb) ∧
      (4 ≤ r.severity → c.nHigh = 4095 → e.evt.status.getLsbD 0x3C1 = true) ∧ SameBut recordBlocks s.dev e
    (c.slotFor r.severity = if r.severity ≤ 1 then c.nLow % 32768 else if r.severity ≤ 3 then 32768 + c.nMid % 24576
      else if c.nHigh < 4096 then 57344 + c.nHigh else 61440 + (c.nHigh - 4096) % 4096) ∧
    (c.flood = none → c.queue = r :: rest → Gives .cairnStore s (fun e => stored e ∧ e.cairn.queue = rest)) ∧
    (c.flood = some r → Gives .cairnStore s (fun e => stored e ∧ e.cairn.flood = none ∧ e.cairn.queue = c.queue)) ∧
    (c.flood = none → c.queue = [] → Gives .cairnStore s (fun e => e = s.dev)) ∧
    (s.dev.clearCode v.toNat = if fld v.toNat 16 16 ≠ 0x434C then 1 else if fld v.toNat 0 4 = 0 then 4 else if c.clearBusy then 3
      else if s.dev.run.sealed && (bitAt v.toNat 2 || bitAt v.toNat 3) then 2 else 0) ∧
    (WritePasses s.dev p 0x3C00040 v.toNat →
      (s.dev.clearCode v.toNat = 0 → Gives (.cairnClear p v) s (fun e => e.cairn.clearBusy = true ∧ e.cairn.clearSeq = c.lastSeq ∧
        e.cairn.slots.rd x = (if bitAt v.toNat (ringOf x) then {} else c.slots.rd x) ∧
        e.cairn.bb = (if bitAt v.toNat 3 then [] else c.bb) ∧ e.cairn.nHigh = (if bitAt v.toNat 2 then 0 else c.nHigh) ∧
        e.cairn.lastSeq = c.lastSeq ∧ SameBut recordBlocks s.dev e)) ∧
      (s.dev.clearCode v.toNat ≠ 0 → Gives (.cairnClear p v) s (fun e => e.cairn.clearCode = s.dev.clearCode v.toNat ∧
        e.cairn.slots = c.slots ∧ e.cairn.bb = c.bb ∧ e.cairn.clearBusy = c.clearBusy ∧ e.evt.status.getLsbD 0x04A = true ∧
        SameBut recordBlocks s.dev e))) ∧
    (c.clearBusy = true → c.queue = [] → Gives .clearDone s (fun e => e.cairn.clearBusy = false ∧ Records e 0x04B 5 ∧
      e.cairn.slots = c.slots ∧ SameBut recordBlocks s.dev e)) ∧
    (c.clearBusy = false → Gives .clearDone s (fun e => e = s.dev)) ∧
    (ReadPasses s.dev p (0x3D00000 + 64 * idx) → Gives (.slotLatch p idx) s (fun e =>
      (e.portSt p).slotLatch = some (16384 * (s.dev.portSt p).cairnPage + idx, (c.slots.rd (16384 * (s.dev.portSt p).cairnPage + idx)).words) ∧
      (∀ q, q.key ≠ p.key → e.portSt q = s.dev.portSt q) ∧ SameBut (.port :: accessBlocks) s.dev e)) ∧
    (ReadPasses s.dev p 0x3C01040 → Gives (.bbRecordLatch p) s (fun e =>
      (e.portSt p).bbLatch = some (c.bb.rd (s.dev.portSt p).bbCursor).words ∧ (e.portSt p).bbCursor = (s.dev.portSt p).bbCursor ∧
      SameBut (.port :: accessBlocks) s.dev e)) ∧
    (ReadPasses s.dev p 0x3C0107C → Gives (.bbCursorAdvance p) s (fun e => (e.portSt p).bbCursor = ((s.dev.portSt p).bbCursor + 1) % 4096 ∧
      (e.portSt p).bbLatch = none ∧ SameBut (.port :: accessBlocks) s.dev e)) ∧
    (ReadPasses s.dev p 0x1103C → Gives (.faultLogAdvance p false) s (fun e => e.cont.uncLog = s.dev.cont.uncLog.drop 1 ∧
      e.cont.corLog = s.dev.cont.corLog ∧ SameBut (.cont :: accessBlocks) s.dev e)) ∧
    (ReadPasses s.dev p 0x1105C → Gives (.faultLogAdvance p true) s (fun e => e.cont.corLog = s.dev.cont.corLog.drop 1 ∧
      e.cont.uncLog = s.dev.cont.uncLog ∧ SameBut (.cont :: accessBlocks) s.dev e)) ∧
    (WritePasses s.dev p 0x3C01004 1 → Gives (.bbFreeze p) s (fun e => e.cairn = { c with bbFrozen := true } ∧
      (c.bbFrozen = false → e.evt.status.getLsbD 0x3C3 = true) ∧ SameBut recordBlocks s.dev e)) ∧
    (WritePasses s.dev p 0x3C01004 0 → Gives (.bbUnfreeze p) s (fun e => (c.bbDevice = true → e.cairn = c) ∧
      (c.bbDevice = false → e.cairn = { c with bbFrozen := false }) ∧ SameBut recordBlocks s.dev e))

/-- Event status and counters: ones written to EVENT_STATUS clear their bits and no others; a pulse ends on its pin alone; a
commit of a counter waits for its boundary or gives its code; a hold freezes the bank written last, so that boundaries write
the other, until the last holder releases it or 100 ms have passed; a counter that wraps restarts from zero and sets its
OVF (R442, R445, R450 to R453). -/
def Obligations.EventsAndCounters : Prop :=
  ∀ (s : State) (p : CmdPort) (w : Fin 32) (v : Word) (x : Nat) (n : Fin 4) (k : Fin 1200),
    let c := s.dev.cnt.tab.rd k
    let t := s.dev.cnt
    (WritePasses s.dev p (0x3C04000 + 4 * w) v.toNat → x < 1024 → Gives (.eventStatusClear p w v) s (fun e =>
      (x / 32 = w.val → bitAt v.toNat (x % 32) = true → e.evt.status.getLsbD x = false) ∧
      ((x / 32 ≠ w.val ∨ bitAt v.toNat (x % 32) = false) → s.dev.evt.status.getLsbD x = true → e.evt.status.getLsbD x = true) ∧
      e.evt.route = s.dev.evt.route ∧ SameBut accessBlocks s.dev e)) ∧
    Gives (.evtPulseEnd n) s (fun e => bitAt e.evt.pulseLow n = false ∧ (∀ m : Nat, m ≠ n.val → bitAt e.evt.pulseLow m = bitAt s.dev.evt.pulseLow m) ∧
      e.evt.status = s.dev.evt.status ∧ SameBut [.evt] s.dev e) ∧
    (WritePasses s.dev p 0x3E00020 (2 ^ 31 + k) → s.dev.cntAbsent k = false →
      let code := s.dev.cntCommitCode p k
      Gives (.cntCommit p k) s (fun e => e.cnt.commitCode = code ∧ e.cnt.commitDetail = k ∧ (e.cnt.tab.rd k).sel = c.sel ∧
        (e.cnt.tab.rd k).pend = (if code = 0 then some (c.selSh, c.qualSh) else c.pend) ∧ SameBut accessBlocks s.dev e)) ∧
    (WritePasses s.dev p 0x3E00020 (2 ^ 30) → (∀ m ∈ s.dev.cntChanged, s.dev.cntCommitCode p m = 0) → k.val ∈ s.dev.cntChanged →
      Gives (.cntCommitAll p) s (fun e => e.cnt.commitCode = 0 ∧ (e.cnt.tab.rd k).pend = some (c.selSh, c.qualSh) ∧
        SameBut accessBlocks s.dev e)) ∧
    (∀ (d : Dev) (y : Nat × Nat), (d.cnt.tab.rd k).pend = some y → bitAt y.1 30 = (d.cnt.tab.rd k).chained →
      ((d.cntEffect k).cnt.tab.rd k).sel = y.1 ∧ ((d.cntEffect k).cnt.tab.rd k).qual = y.2 ∧ ((d.cntEffect k).cnt.tab.rd k).value = 0 ∧
      ((d.cntEffect k).cnt.tab.rd k).ovf = (d.cnt.tab.rd k).ovf) ∧
    (WritePasses s.dev p 0x3E00018 1 → Gives (.cntHold p) s (fun e => e.cnt.holders.any (fun h => h.1 == p.key) = true ∧
      (t.holders = [] → e.cnt.holdBank = t.lastBank) ∧ (t.holders ≠ [] → e.cnt.holdBank = t.holdBank) ∧
      e.cnt.nextBank = !e.cnt.holdBank ∧ (e.portSt p).cntHold = true ∧ SameBut (.port :: accessBlocks) s.dev e)) ∧
    (WritePasses s.dev p 0x3E00018 0 → Gives (.cntRelease p) s (fun e => e.cnt.holders = t.holders.filter (fun h => h.1 != p.key) ∧
      (e.cnt.holders = [] → t.banked = true → e.cnt.nextBank = !t.lastBank) ∧ (e.portSt p).cntHold = false ∧
      SameBut (.port :: accessBlocks) s.dev e)) ∧
    (t.holders.any (fun h => h.1 == p.key) = true → s.dev.cairn.queue = [] → s.dev.cairn.minSeverity ≤ 1 → Gives (.snapHoldExpired p) s (fun e =>
      e.cnt.holders = t.holders.filter (fun h => h.1 != p.key) ∧ (e.portSt p).cntHold = false ∧ Records e 0x3C4 1 ∧
      SameBut (.port :: recordBlocks) s.dev e)) ∧
    (t.holders.any (fun h => h.1 == p.key) = false → Gives (.snapHoldExpired p) s (fun e => e = s.dev)) ∧
    (c.enabled = true → c.value = 2 ^ 48 - 1 → (c.chained = false ∨ k.val % 2 = 0) → Gives (.counterWrap k) s (fun e =>
      (e.cnt.tab.rd k).value = 0 ∧ (s.dev.pairChained k = false → (e.cnt.tab.rd k).ovf = true ∧
        (t.ovfFired = false → e.evt.status.getLsbD 0x3C2 = true)) ∧
      (s.dev.pairChained k = true → (s.dev.cnt.tab.rd (k + 1)).enabled = true → (e.cnt.tab.rd k).ovf = c.ovf ∧
        (e.cnt.tab.rd (k + 1)).value = ((s.dev.cnt.tab.rd (k + 1)).value + 1) % 2 ^ 48) ∧ SameBut accessBlocks s.dev e)) ∧
    ((c.enabled = false ∨ c.value ≠ 2 ^ 48 - 1) → Gives (.counterWrap k) s (fun e => e = s.dev))

/-! ### The sideband, the service ring, the Sighting port, the test access port, and plain register accesses -/

/-- The sideband: with the register fabric off no command is answered; one with a wrong PEC has no effect and status 8;
SET_OFFSET sets the offset, READ and WRITE make one access there and advance it by 4, WRITE_BLOCK makes an access for each
of its words and advances it past them, GET_STATUS answers the status of the last command; a dynamic address goes to a
target that has none, and RSTDAA takes it away (R460, Table 15.3). -/
def Obligations.Sideband : Prop :=
  ∀ (s : State) (a v : Nat) (bs : List Byte) (pec : Bool) (h : Fin 128),
    let d := s.dev
    let off := (d.portSt .sideband).offset
    let cmds := fun (ok : Bool) => [Instr.sbSetOffset ok a, .sbRead ok, .sbWrite ok v, .sbWriteBlock ok bs, .sbGetStatus ok]
    let answered := fun (x e : Dev) (o st : Nat) (data : List Nat) => e.portSt .sideband = { x.portSt .sideband with offset := o } ∧ e.bus = { x.bus with sbStatus := st } ∧
      e.out = x.shown [.response CmdPort.sideband.key st data] ∧ (∀ q : CmdPort, q.key ≠ CmdPort.sideband.key → e.portSt q = x.portSt q) ∧
      SameBut [.bus, .port] x e
    (d.regOn = false → ∀ c ∈ cmds pec ++ [.setdasa h, .entdaa h, .rstdaa], Gives c s (fun e => e = d)) ∧
    (d.regOn = true →
      (∀ c ∈ cmds false, Gives c s (fun e => answered d e off 8 [])) ∧
      Gives (.sbSetOffset true a) s (fun e => answered d e (a % 2 ^ 32) 0 []) ∧
      Gives (.sbRead true) s (fun e => let x := d.busRead .sideband off 4
        answered x.1 e ((off + 4) % 2 ^ 32) (sbCode x.2.2) (toLe 4 x.2.1)) ∧
      Gives (.sbWrite true v) s (fun e => let x := d.busWrite .sideband off 4 v
        answered x.1 e ((off + 4) % 2 ^ 32) (sbCode x.2) []) ∧
      (bs.length % 4 = 0 → 4 ≤ bs.length → bs.length ≤ 32 → Gives (.sbWriteBlock true bs) s (fun e =>
        let x := d.writeWords .sideband off (dwordsOf (bs.length / 4) (bs.map BitVec.toNat))
        answered x.1 e ((off + bs.length) % 2 ^ 32) (sbCode x.2) [])) ∧
      Gives (.sbGetStatus true) s (fun e => e.out = d.shown [.response CmdPort.sideband.key d.bus.sbStatus [0]] ∧ SameBut [] d e) ∧
      (∀ c ∈ [Instr.setdasa h, .entdaa h], Gives c s (fun e =>
        e.bus = { d.bus with sbDynamic := some (d.bus.sbDynamic.getD h) } ∧ SameBut [.bus] d e)) ∧
      Gives .rstdaa s (fun e => e.bus = { d.bus with sbDynamic := none } ∧ SameBut [.bus] d e))

/-- The service ring: with the package switch in its bypass position every frame leaves as it came, on the pair of its
number; a die that hears the ring but whose management fabric is off does nothing with it. Otherwise a frame with a wrong
CRC-32 is discarded and counted for its pair; a COMMAND for this Haldion, or for all, makes its access at service ring
authority and a RESPONSE goes out in its place, unless the command has reset the device; any other frame is forwarded with
HOPS one less, or discarded at HOPS 1; a RESPONSE of the Haldion's own is discarded; every ALARM is counted, and forwarded
unless it is the Haldion's own (R78, R88, R461 to R464, R501, R502). -/
def Obligations.ServiceRing : Prop :=
  ∀ (s : State) (pair : Fin 2) (c : RingCmd) (code : Fin 256) (ok : Bool) (sw source hops : Nat),
    let d := s.dev
    let access := fun (op : Nat) => if op = 0 then d.ringRead c 4 else if op = 1 then d.ringWrite c 4 else if op = 2 then d.ringRead c 8
      else if op = 3 then d.ringWrite c 8 else
        let x := d.writeWords .ring c.offset (dwordsOf (c.data.length / 4) (c.data.map BitVec.toNat))
        (x.1, [], x.2)
    let cmds := [(0, Instr.ringRead32 pair c), (1, .ringWrite32 pair c), (2, .ringRead64 pair c), (3, .ringWrite64 pair c), (4, .ringWriteBlock pair c)]
    let bad := fun (e : Dev) => (if pair.val = 0 then e.bus = { d.bus with ringErr0 := satAdd 16 d.bus.ringErr0 1 }
      else e.bus = { d.bus with ringErr1 := satAdd 16 d.bus.ringErr1 1 }) ∧ SameBut [.bus] d e
    let passes := fun (e : Dev) (type n : Nat) (body : Nat → List Nat) => (2 ≤ n → e.out = d.shown [.ring pair (ringFrame type (body (n - 1)))]) ∧
      (n ≤ 1 → e.out = d.out)
    (d.pkg.srDie = false →
      (∀ x ∈ cmds, Gives x.2 s (fun e => e.out = .ring pair (ringFrame 0x10 (ringBody c.dest c.origin c.hops c.seq x.1 c.offset (c.data.map BitVec.toNat))) :: d.out ∧
        SameBut [] d e)) ∧
      Gives (.ringResponse pair c code) s (fun e => e.out = .ring pair (ringFrame 0x11 (ringBody c.dest c.origin c.hops c.seq code c.offset (c.data.map BitVec.toNat))) :: d.out ∧
        SameBut [] d e) ∧
      Gives (.ringAlarm pair ok sw source hops) s (fun e => e.out = .ring pair (ringFrame 0x18 (toLe 2 sw ++ toLe 2 source ++ toLe 2 hops ++ [0, 0])) :: d.out ∧
        SameBut [] d e)) ∧
    (d.pkg.srDie = true → d.ringOn = false → ∀ i ∈ (cmds.map Prod.snd) ++ [.ringResponse pair c code, .ringAlarm pair ok sw source hops], Gives i s (fun e => e = d)) ∧
    (d.pkg.srDie = true → d.ringOn = true →
      (c.crcOk = false → ∀ i ∈ .ringResponse pair c code :: cmds.map Prod.snd, Gives i s bad) ∧
      Gives (.ringAlarm pair false sw source hops) s bad ∧
      (c.crcOk = true → d.ringMine c.dest = true → ∀ x ∈ cmds, (x.1 = 4 → c.data.length % 4 = 0 ∧ c.data.length ≤ 256) →
        Gives x.2 s (fun e => e = let y := access x.1
          if y.1.regOn then y.1.emit (.ring pair (ringFrame 0x11 (ringBody y.1.ringId c.origin 4095 c.seq y.2.2 c.offset y.2.1))) else y.1)) ∧
      (c.crcOk = true → d.ringMine c.dest = false → ∀ x ∈ cmds, Gives x.2 s (fun e =>
        passes e 0x10 c.hops (fun h => ringBody c.dest c.origin h c.seq x.1 c.offset (c.data.map BitVec.toNat)) ∧ SameBut [] d e)) ∧
      (c.crcOk = true → c.dest ≠ d.ringId → Gives (.ringResponse pair c code) s (fun e =>
        passes e 0x11 c.hops (fun h => ringBody c.dest c.origin h c.seq code c.offset (c.data.map BitVec.toNat)) ∧ SameBut [] d e)) ∧
      (c.crcOk = true → c.dest = d.ringId → Gives (.ringResponse pair c code) s (fun e => e = d)) ∧
      Gives (.ringAlarm pair true sw source hops) s (fun e => e.bus = { d.bus with ringAlarms := satAdd 32 d.bus.ringAlarms 1 } ∧
        (d.inRunOrTest = true → sw = d.run.switchId → e.out = d.out) ∧
        ((d.inRunOrTest = false ∨ sw ≠ d.run.switchId) → passes e 0x18 hops (fun h => toLe 2 sw ++ toLe 2 source ++ toLe 2 h ++ [0, 0])) ∧
        SameBut [.bus] d e))

/-- The Sighting port: with the register fabric off nothing is answered; then in turn a wrong CRC-8, a read that is still
pending, a command that M1 and M2 do not serve and one above the debug level of its core are answered CRC_ERR, BUSY, MODE
and DENIED, the last with its Audit record and DEBUG_DENIED; a command that passes has the effect of Table 15.9. A
breakpoint halts a running core at level 2 or above, and no other (R472 to R476, R397). -/
def Obligations.Sighting : Prop :=
  ∀ (s : State) (r : SightReq) (bp : Fin 8) (watch : Bool) (c5 : Fin 5) (y : Nat),
    let d := s.dev
    let c := r.core.val
    let k := d.core c
    let halted := fun (e : Dev) => if (e.core c).state = .halted then 64 else 0
    let all := [(0, 0, true, Instr.sightPoll r), (1, 0, true, .sightIdcode r), (2, 0, true, .sightCoreStatus r), (3, 2, false, .sightHalt r),
      (4, 2, false, .sightResume r), (5, 2, false, .sightStep r), (6, 1, false, .sightRegRead r), (7, 3, false, .sightRegWrite r),
      (8, 1, false, .sightTcmRead r), (9, 3, false, .sightTcmWrite r), (10, 2, false, .sightBreak r), (11, 2, false, .sightWatch r),
      (12, 1, bootBlock r.addr, .sightBarRead r), (13, 3, false, .sightBarWrite r), (14, 1, false, .sightMemRead r), (15, 3, false, .sightMemWrite r)]
    let ans := fun (x e : Dev) (cmd st data : Nat) => e.out = x.shown [.response CmdPort.sighting.key (st + halted e) (toLe 8 data)] ∧
      e.sight = { x.sight with lastCmd := cmd, lastStatus := st + halted e } ∧ SameBut [.sight] x e
    let taken := fun (cmd lvl : Nat) (boot : Bool) => d.regOn = true ∧ r.crcOk = true ∧ (d.sight.pending = false ∨ cmd = 0) ∧
      (d.inRunOrTest = true → lvl ≤ d.sightLevel c) ∧ (d.inRunOrTest = false → boot = true)
    let modes := [Block.sight, .mode, .cores, .evt, .pcie, .cnt]
    let same := fun (e : Dev) (cmd st data : Nat) => ans d e cmd st data
    let waiting := d.trav.slot.upd sightSlot (fun t => { used := true, gen := t.gen, kind := 6, bytes := 8, time := d.now })
    (d.regOn = false → ∀ x ∈ all, Gives x.2.2.2 s (fun e => e = d)) ∧
    (d.regOn = true → ∀ x ∈ all,
      (r.crcOk = false → Gives x.2.2.2 s (fun e => same e x.1 16 0)) ∧
      (r.crcOk = true → d.sight.pending = true → x.1 ≠ 0 → Gives x.2.2.2 s (fun e => same e x.1 4 0)) ∧
      (r.crcOk = true → (d.sight.pending = false ∨ x.1 = 0) → d.inRunOrTest = false → x.2.2.1 = false → Gives x.2.2.2 s (fun e => same e x.1 8 0)) ∧
      (r.crcOk = true → (d.sight.pending = false ∨ x.1 = 0) → d.inRunOrTest = true → d.sightLevel c < x.2.1 → Gives x.2.2.2 s (fun e =>
        e.bnd = { d.bnd with debugDenied := satAdd 32 d.bnd.debugDenied 1 } ∧ e.evt.status.getLsbD 0x382 = true ∧
        (d.cairn.queue = [] → d.cairn.minSeverity ≤ 5 → Records e 0x382 5) ∧ e.cores = d.cores ∧
        e.out.head? = some (.response CmdPort.sighting.key (1 + halted d) (toLe 8 0)) ∧ SameBut (.sight :: .bnd :: recordBlocks) d e))) ∧
    (taken 0 0 true →
      (d.sight.pending = false → Gives (.sightPoll r) s (fun e => same e 0 0 0)) ∧
      (∀ t, d.trav.slot.rd sightSlot = t → d.sight.pending = true →
        (t.used = true → t.bytes ≠ 0 → Gives (.sightPoll r) s (fun e => same e 0 2 0)) ∧
        ((t.used = false ∨ t.bytes = 0) → Gives (.sightPoll r) s (fun e => e.sight.pending = false ∧ (e.trav.slot.rd sightSlot).used = false ∧
          e.out = d.shown [.response CmdPort.sighting.key ((if t.used = false ∨ t.kind = 5 then 32 else 0) + halted d)
            (toLe 8 (if t.used = false ∨ t.kind = 5 then 0 else leAt t.got 0 8))] ∧ SameBut [.sight, .trav] d e))) ∧
      (d.sight.pending = false → Gives (.sightIdcode r) s (fun e =>
        same e 1 0 ((if d.is7144 then 0x7144 else 0x7080) + 2 ^ 32 * (d.part.siliconRev % 65536)))) ∧
      (d.sight.pending = false → Gives (.sightCoreStatus r) s (fun e => same e 2 0 k.status))) ∧
    (taken 3 2 false →
      (k.active = true → Gives (.sightHalt r) s (fun e => (e.core c).state = .halted ∧ (e.core c).haltReason = 1 ∧ (e.core c).role = k.role ∧
        (e.core c).mem = k.mem ∧ (e.core c).reg = k.reg ∧ (∀ n, n ≠ c → e.core n = d.core n) ∧
        e.out.head? = some (.response CmdPort.sighting.key 64 (toLe 8 0)) ∧ SameBut modes d e)) ∧
      (k.active = false → Gives (.sightHalt r) s (fun e => same e 3 0 0)) ∧
      (k.state = .halted → d.cores.waiting = [] → Gives (.sightResume r) s (fun e =>
        (e.core c).state = (if k.wasStandby then .standby else .running) ∧ (e.core c).haltReason = 0 ∧ (e.core c).bp = k.bp ∧ (e.core c).wp = k.wp ∧
        (∀ n, n ≠ c → e.core n = d.core n) ∧ e.out.head? = some (.response CmdPort.sighting.key 0 (toLe 8 0)) ∧ SameBut modes d e)) ∧
      (k.state ≠ .halted → Gives (.sightResume r) s (fun e => same e 4 0 0)) ∧
      (k.state = .halted → Gives (.sightStep r) s (fun e => (e.core c).state = .halted ∧ (e.core c).haltReason = 2 ∧ (e.core c).ran = true ∧
        (∀ n, n ≠ c → e.core n = d.core n) ∧ SameBut [.sight, .cores] d e)) ∧
      (k.state ≠ .halted → Gives (.sightStep r) s (fun e => same e 5 0 0)) ∧
      (r.index.val < 8 → Gives (.sightBreak r) s (fun e => e.core c = { k with bp := k.bp.wr r.index (if bitAt r.data 0 then { enable := true, addr := r.addr } else {}) } ∧
        (∀ n, n ≠ c → e.core n = d.core n) ∧ SameBut [.sight, .cores] d e)) ∧
      (8 ≤ r.index.val → Gives (.sightBreak r) s (fun e => same e 10 32 0)) ∧
      (r.index.val < 4 → Gives (.sightWatch r) s (fun e => e.core c = { k with wp := k.wp.wr r.index (if bitAt r.data 34 then
          { enable := true, addr := r.addr, mask := fld r.data 0 32, read := bitAt r.data 32, write := bitAt r.data 33 } else {}) } ∧
        (∀ n, n ≠ c → e.core n = d.core n) ∧ SameBut [.sight, .cores] d e)) ∧
      (4 ≤ r.index.val → Gives (.sightWatch r) s (fun e => same e 11 32 0))) ∧
    (taken 6 1 false →
      (r.addr % 64 < 34 → (k.ran = false ∨ k.poked.rd (2 ^ 20 + r.addr % 64) = true) → Gives (.sightRegRead r) s (fun e => same e 6 0 (k.reg.rd (r.addr % 64)))) ∧
      (r.addr % 64 < 34 → Gives (.sightRegRead r) s (fun e => SameBut [.sight] d e)) ∧
      (34 ≤ r.addr % 64 → Gives (.sightRegRead r) s (fun e => same e 6 32 0)) ∧
      (tcmOk r.addr = true → k.ran = false → Gives (.sightTcmRead r) s (fun e => same e 8 0 (leAt ((List.range 8).map (fun j => k.mem.rd (r.addr + j))) 0 8))) ∧
      (tcmOk r.addr = true → Gives (.sightTcmRead r) s (fun e => SameBut [.sight] d e)) ∧
      (tcmOk r.addr = false → Gives (.sightTcmRead r) s (fun e => same e 8 32 0)) ∧
      (d.sightSpaceOk r = false → Gives (.sightMemRead r) s (fun e => same e 14 32 0))) ∧
    (taken 12 1 (bootBlock r.addr) → Gives (.sightBarRead r) s (fun e =>
      ans (d.busRead .sighting r.addr r.size).1 e 12 (if d.reach .sighting r.addr r.size true none = .timeout then 32 else 0) (d.busRead .sighting r.addr r.size).2.1)) ∧
    (taken 7 3 false →
      (r.addr % 64 < 34 → k.state = .halted → Gives (.sightRegWrite r) s (fun e =>
        (e.core c).reg.rd y = (if y = r.addr % 64 then r.data % 2 ^ 64 else k.reg.rd y) ∧ (e.core c).mem = k.mem ∧ (e.core c).state = .halted ∧
        (∀ n, n ≠ c → e.core n = d.core n) ∧ SameBut [.sight, .cores] d e)) ∧
      ((34 ≤ r.addr % 64 ∨ k.state ≠ .halted) → Gives (.sightRegWrite r) s (fun e => same e 7 (if 34 ≤ r.addr % 64 then 32 else 0) 0)) ∧
      (tcmOk r.addr = true → Gives (.sightTcmWrite r) s (fun e =>
        (e.core c).mem.rd y = (if r.addr ≤ y ∧ y < r.addr + 8 then r.data / 256 ^ (y - r.addr) % 256 else k.mem.rd y) ∧ (e.core c).reg = k.reg ∧
        (∀ n, n ≠ c → e.core n = d.core n) ∧ SameBut [.sight, .cores] d e)) ∧
      (tcmOk r.addr = false → Gives (.sightTcmWrite r) s (fun e => same e 9 32 0)) ∧
      (d.reach .sighting r.addr r.size true (some r.data) = .ok → d.sightLocked r.addr = false → Gives (.sightBarWrite r) s (fun e =>
        ans (d.busWrite .sighting r.addr r.size r.data).1 e 13 0 0)) ∧
      (d.reach .sighting r.addr r.size true (some r.data) = .ok → d.sightLocked r.addr = true → Gives (.sightBarWrite r) s (fun e =>
        e.bnd = { d.bnd with debugDenied := satAdd 32 d.bnd.debugDenied 1 } ∧ SameBut (.sight :: .bnd :: recordBlocks) d e)) ∧
      (d.reach .sighting r.addr r.size true (some r.data) = .denied → Gives (.sightBarWrite r) s (fun e => e.evt.status.getLsbD 0x046 = true ∧
        SameBut (.sight :: recordBlocks) d e)) ∧
      (d.sightSpaceOk r = false → Gives (.sightMemWrite r) s (fun e => same e 15 32 0))) ∧
    (∀ v, d.verdict (d.checkTable 73) { kind := 3, sw := d.run.switchId, host := r.space.val != 0, space := r.space.val - 1, addr := r.addr } = v →
      v.locked = none → d.sightSpaceOk r = true →
      (taken 14 1 false → v.allows 0 = true → let x := Dev.sightIssue { d with trav.slot := waiting } r false
        x.2 = true →
        Gives (.sightMemRead r) s (fun e => e.sight.pending = true ∧ e.sw = x.1.sw ∧ e.trav = x.1.trav ∧
          e.out = x.1.shown [.response CmdPort.sighting.key (2 + halted e) (toLe 8 0)] ∧ SameBut [.sight] x.1 e)) ∧
      (taken 15 3 false → v.allows 1 = true → let x := d.sightIssue r true
        x.2 = true → Gives (.sightMemWrite r) s (fun e => ans x.1 e 15 0 0))) ∧
    (∀ b, b ∈ [(14, Instr.sightMemRead r), (15, .sightMemWrite r)] → taken b.1 (if b.1 = 14 then 1 else 3) false → d.sightSpaceOk r = true →
      (d.verdict (d.checkTable 73) { kind := 3, sw := d.run.switchId, host := r.space.val != 0, space := r.space.val - 1, addr := r.addr }).locked.isSome = true →
      Gives b.2 s (fun e => e.bnd.debugDenied = satAdd 32 d.bnd.debugDenied 1 ∧ e.evt.status.getLsbD 0x382 = true ∧ e.sight.pending = d.sight.pending ∧
        e.sw = d.sw ∧ e.trav = d.trav)) ∧
    (∀ m, m = d.core c5 → let on := if watch then (m.wp.rd bp).enable else (m.bp.rd bp).enable
      (m.active = true → on = true → 2 ≤ d.debugLevel c5 → Gives (.breakpointHit c5 watch bp) s (fun e => (e.core c5).state = .halted ∧
        (e.core c5).haltReason = (if watch then 4 else 3) ∧ (e.core c5).hitIndex = bp.val ∧ (∀ n : Nat, n ≠ c5.val → e.core n = d.core n) ∧
        SameBut [.mode, .cores, .evt, .pcie, .cnt] d e)) ∧
      ((m.active = false ∨ on = false ∨ d.debugLevel c5 < 2) → Gives (.breakpointHit c5 watch bp) s (fun e => e = d)))

/-- One register access: the fate of an access in the order of its checks, and what each fate does. One that is not answered
changes nothing; one to a register that the part or the mode does not show reads zero and drops its write; a refused one
leaves its record and changes nothing else; a write of a locked register is dropped with LOCKED_WRITE. A write of 4 bytes
writes a 32-bit register; that of a low half is staged, and that of a high half writes the whole register with the staged
low half or, with none staged, the current one; a write of 8 bytes is both. A read returns the value, and that of a low half latches the high half for its port (R8 to R11, R13, R14,
R74, R81, R466). -/
def Obligations.Accesses : Prop :=
  ∀ (s : State) (p : CmdPort) (a v : Word) (w : DWord) (size : Nat) (full : Bool) (x : Attr) (lo : Nat),
    let d := s.dev
    let n := d.countMgmt 0x74 p.code 1
    let base := wideBase a.toNat
    let word := a.toNat / 4 * 4
    let refused := fun (e : Dev) (r : Reach) => (r = .badAccess → e.evt.status.getLsbD 0x048 = true) ∧ (r = .noRegister → e.evt.status.getLsbD 0x049 = true) ∧
      (r = .denied → e.evt.status.getLsbD 0x046 = true) ∧ (r = .timeout → e.bus = { d.bus with regTimeouts := satAdd 32 d.bus.regTimeouts 1 }) ∧
      (r ≠ .timeout → e.bus = d.bus) ∧
      (d.cairn.queue = [] → (r = .badAccess → d.cairn.minSeverity ≤ 2 → Records e 0x048 2) ∧ (r = .noRegister → d.cairn.minSeverity ≤ 1 → Records e 0x049 1) ∧
        (r = .denied → Records e 0x046 5)) ∧ SameBut (.bus :: recordBlocks) d e
    (d.regAttr p word = x → ∀ (val : Option Nat), let r := d.reach p a.toNat size full val
      ((d.regOn = false ∨ d.portLive p = false) → r = .dead) ∧
      (d.regOn = true → d.portLive p = true → (d.inRunOrTest = false ∧ bootBlock a.toNat = false ∨ x.form = .silent) → r = .silent) ∧
      (d.regOn = true → d.portLive p = true → (d.inRunOrTest = true ∨ bootBlock a.toNat = true) → x.form ≠ .silent →
        ((full = false ∨ (size ≠ 4 ∧ size ≠ 8) ∨ a.toNat % size ≠ 0 ∨ (size = 8 ∧ x.form ≠ .wide)) → r = .badAccess) ∧
        (full = true → (size = 4 ∨ size = 8 ∧ x.form = .wide) → a.toNat % size = 0 →
          (x.form = .none → r = .noRegister) ∧
          (x.form ≠ .none → val = none → r = if d.mayRead p x = false then .denied else if d.bus.pllFallback && dclkBlock a.toNat then .timeout else .ok) ∧
          (x.form ≠ .none → slotWindow a.toNat = false → val = some lo → r = if d.mayWrite p x lo = false then .denied
            else if d.bus.pllFallback && dclkBlock a.toNat then .timeout else .ok)))) ∧
    (∀ r ∈ [Reach.dead, .silent, .badAccess, .noRegister, .denied, .timeout],
      (d.reach p a.toNat size full (some w.toNat) = r → Gives (.registerWrite p a size full w) s (fun e => if r = .dead ∨ r = .silent then e = d else refused e r)) ∧
      (d.reach p base 4 true (some v.toNat) = r → Gives (.writeLowHalf p a v) s (fun e => if r = .dead ∨ r = .silent then e = d else refused e r)) ∧
      (d.reach p (base + 4) 4 true (some v.toNat) = r → Gives (.writeHighHalf p a v) s (fun e => if r = .dead ∨ r = .silent then e = d else refused e r)) ∧
      (d.reach p base 4 true none = r → Gives (.readLowHalf p a) s (fun e => if r = .dead then e = d else if r = .silent then
        e.out = d.shown [.readData p.key 0] ∧ SameBut [] d e else refused e r ∧ Out.readData p.key 0 ∈ e.out ∧ (d.evt.route = [] → e.out = d.shown [.readData p.key 0]))) ∧
      (d.reach p word 4 true none = r → Gives (.rcRead p a) s (fun e => if r = .dead then e = d else if r = .silent then
        e.out = d.shown [.readData p.key 0] ∧ SameBut [] d e else refused e r ∧ Out.readData p.key 0 ∈ e.out ∧ (d.evt.route = [] → e.out = d.shown [.readData p.key 0])))) ∧
    (d.reach p a.toNat size full (some w.toNat) = .ok → d.regLocked (d.regAttr p a.toNat) = true →
      Gives (.registerWrite p a size full w) s (fun e => e.evt.status.getLsbD 0x047 = true ∧ SameBut recordBlocks d e)) ∧
    (d.regAttr p a.toNat = x → d.regLocked x = false → d.reach p a.toNat size full (some w.toNat) = .ok →
      (size = 4 → x.form = .word → Gives (.registerWrite p a size full w) s (fun e => e = n.regWrite p a.toNat (w.toNat % 2 ^ 32))) ∧
      (size = 8 → x.base = a.toNat → Gives (.registerWrite p a size full w) s (fun e => ∃ y, SameBut [.port] n y ∧
        (∀ b, (y.portSt p).staged.rd b = if b = x.base then none else (d.portSt p).staged.rd b) ∧ e = y.regWrite p x.base w.toNat))) ∧
    (WritePasses d p base v.toNat → d.regAttr p base = x → x.form = .wide → x.base = base →
      Gives (.writeLowHalf p a v) s (fun e => (∀ b, (e.portSt p).staged.rd b = if b = base then some v.toNat else (d.portSt p).staged.rd b) ∧
        (e.portSt p).latch = (d.portSt p).latch ∧ (∀ q : CmdPort, q.key ≠ p.key → e.portSt q = d.portSt q) ∧ SameBut (.port :: accessBlocks) d e)) ∧
    (WritePasses d p (base + 4) v.toNat → d.regAttr p (base + 4) = x → x.form = .wide → x.base = base →
      ((d.portSt p).staged.rd base = some lo ∨ (d.portSt p).staged.rd base = none ∧
        lo = (if x.rw = 0 then (if base = 0x10058 then d.tick.numberReg else 0) else (n.regRead p base).2) % 2 ^ 32) →
      Gives (.writeHighHalf p a v) s (fun e => ∃ y, SameBut [.port] n y ∧
        (∀ b, (y.portSt p).staged.rd b = if b = base then none else (d.portSt p).staged.rd b) ∧ e = y.regWrite p base (lo + 2 ^ 32 * v.toNat))) ∧
    (ReadPasses d p base → d.regAttr p base = x → x.form = .wide → x.base = base → Gives (.readLowHalf p a) s (fun e =>
      let y := n.regRead p base
      e.out = y.1.shown [.readData p.key (y.2 % 2 ^ 32)] ∧ (e.portSt p).latch.rd base = y.2 / 2 ^ 32 % 2 ^ 32 ∧ SameBut [.port] y.1 e)) ∧
    (ReadPasses d p word → d.regAttr p word = x → x.form = .word → Gives (.rcRead p a) s (fun e =>
      let y := n.regRead p word
      e.out = y.1.shown [.readData p.key (y.2 % 2 ^ 32)] ∧ SameBut [] y.1 e))

/-! ### Codes, and two results over the whole model -/

/-- The CRC-64 gives the results of Table 6.4, and with s = 0 it is the common CRC-64 of the same polynomial, with seed and
final XOR all ones (R169). -/
def Obligations.Crc64Vectors : Prop :=
  crc64 0 [0x31, 0x32, 0x33, 0x34, 0x35, 0x36, 0x37, 0x38, 0x39] = 0x995DC9BBDF1939FA ∧ crc64 0x5A3 [] = 0x5A3 ∧
    crc64 0 [0xFF] = 0xFF00000000000000 ∧ crc64 0x5A3 [0x5C] = 0xFF00000000000005 ∧ crc64 0x5A3 [0x5C, 0xFA] = 0xFFFF000000000000 ∧
    ∀ bs : List Nat, crc64 0 bs = Nat.xor (bs.foldl crc64Byte (2 ^ 64 - 1)) (2 ^ 64 - 1)

/-- Every fabric packet, flit header and margin message whose fields are within their widths is the one that its bytes
spell: no bit of the encodings is dropped (R165, R187, R282, R284, Tables 6.2, 6.3, 6.7 and 9.1). -/
def Obligations.EncodingsRoundTrip : Prop :=
  (∀ f : FPkt, f.wf = true → f.bytes.length = 16 * f.chunks ∧ FPkt.ofBytes f.bytes = f) ∧
  (∀ h : FlitHdr, h.kind < 2 ^ 4 → h.ackSeq < 2 ^ 12 → h.crVc < 2 ^ 3 → h.crUnits < 2 ^ 11 → h.vcA < 2 ^ 3 → h.split < 2 ^ 4 →
    h.vcB < 2 ^ 3 → h.fill < 2 ^ 4 → h.chA < 2 ^ 7 → h.chB < 2 ^ 7 → h.rsvd < 2 ^ 4 → h.word < 2 ^ 64 ∧ FlitHdr.ofWord h.word = h) ∧
  (∀ m : Margin, m.wf = true → m.bytes.length = 16 ∧ Margin.ofBytes m.bytes = m)

/-- While PWRGD is low nothing reaches the device: every step but that of PWRGD_RISE, an idle one included, leaves it held
in M0 with everything lost, answers nothing and sends nothing but a sample of the boundary cells and, with the package
switch in its bypass position, what that passes on (R76 to R79, R88, R501, R512). -/
def Obligations.HeldStaysHeld : Prop :=
  ∀ s : State, HeldInM0 s.dev → s.pending.head? ≠ some .pwrgdRise →
    ∃ t : State, step s = .next t ∧ HeldInM0 t.dev ∧ t.dev.part = s.dev.part ∧
      (s.dev.pkg.srDie = true → (∀ n, s.pending.head? ≠ some (.tapSamplePreload n)) → t.dev.out = s.dev.out)
end

