-- ==== Sys2Proof/Laws/State.lean ====
section
/-! SUPPORT. The fields of `State` under its updates, and the fields of `Dev` under the updates that touch only the
model's own records. -/

namespace Sys2Proof.Machine

variable (s : State) (d : Dev)

@[simp] theorem State.onDev_dev (f : Dev → Dev) : (s.onDev f).dev = f s.dev := rfl
@[simp] theorem State.onDev_pending (f : Dev → Dev) : (s.onDev f).pending = s.pending := rfl
@[simp] theorem State.reset_pending : State.reset.pending = [] := rfl
@[simp] theorem State.reset_dev : State.reset.dev = {} := rfl
@[simp] theorem State.withDev_dev (e : Dev) : ({ s with dev := e } : State).dev = e := rfl
@[simp] theorem State.withDev_pending (e : Dev) : ({ s with dev := e } : State).pending = s.pending := rfl
@[simp] theorem State.withQueue_dev (r : List Instr) : ({ s with pending := r } : State).dev = s.dev := rfl
@[simp] theorem State.withQueue_pending (r : List Instr) : ({ s with pending := r } : State).pending = r := rfl

@[simp] theorem Dev.emit_now (o : Out) : (d.emit o).now = d.now := rfl
@[simp] theorem Dev.emit_out (o : Out) : (d.emit o).out = d.shown [o] := rfl
theorem Dev.shown_on (os : List Out) (h : d.mode.railFail = false) : d.shown os = withLines d.out os := by simp [Dev.shown, h]
@[simp] theorem withLines_nil (old : List Out) : withLines old [] = old := rfl
theorem withLines_cons (old : List Out) (o : Out) (os : List Out) :
    withLines old (o :: os) = o :: (o.onLine (withLines old os).length ++ withLines old os) := rfl

/-- Things that do not leave on a serial pin have no line form. -/
theorem withLines_plain (old os : List Out) (h : ∀ o ∈ os, ∀ n, o.onLine n = []) : withLines old os = os ++ old := by
  induction os with
  | nil => rfl
  | cons o os ih => simp [withLines_cons, h o (by simp), ih (fun x hx => h x (by simp [hx]))]
@[simp] theorem Dev.emit_freeCtr (o : Out) : (d.emit o).freeCtr = d.freeCtr := rfl
@[simp] theorem Dev.tickFree_now : d.tickFree.now = d.now := rfl
@[simp] theorem Dev.tickFree_out : d.tickFree.out = d.out := rfl
@[simp] theorem Dev.tickFree_freeCtr : d.tickFree.freeCtr = d.freeCtr + 1 := rfl

/-- The step of a state with a command in front. -/
theorem step_cons (c : Instr) (r : List Instr) (h : s.pending = c :: r) : step s = exec c { s with pending := r } := by
  simp [step, h]

/-- The step of an idle block. -/
theorem step_idle (h : s.pending = []) : step s = .next { s with dev := s.dev.cycle } := by
  simp [step, h, State.onDev]

end Sys2Proof.Machine
end

