-- ==== Sys2Proof/Laws/Frames.lean ====
section
/-! SUPPORT. Frames: which blocks of the device an operation can change. -/

namespace Sys2Proof.Machine

/-! ### Agreement of two devices -/

theorem Block.same_refl (b : Block) (d : Dev) : b.same d d := by cases b <;> rfl

theorem Block.same_trans {b : Block} {d e f : Dev} (h : b.same d e) (k : b.same e f) : b.same d f := by
  cases b <;> exact k.trans h

theorem SameBut.refl (bs : List Block) (d : Dev) : SameBut bs d d := fun b _ => b.same_refl d

theorem SameBut.trans {bs : List Block} {d e f : Dev} (h : SameBut bs d e) (k : SameBut bs e f) : SameBut bs d f :=
  fun b hb => Block.same_trans (h b hb) (k b hb)

theorem SameBut.mono {as bs : List Block} {d e : Dev} (h : SameBut as d e) (hs : as ⊆ bs) : SameBut bs d e :=
  fun b hb => h b (fun m => hb (hs m))

theorem SameBut.ite {bs : List Block} {d e f : Dev} {c : Prop} [Decidable c] (h : SameBut bs d e) (k : SameBut bs d f) :
    SameBut bs d (if c then e else f) := by
  split
  · exact h
  · exact k

theorem SameBut.foldl {α : Type} {bs : List Block} (f : Dev → α → Dev) (h : ∀ d x, SameBut bs d (f d x)) (l : List α)
    (d : Dev) : SameBut bs d (l.foldl f d) := by
  induction l generalizing d with
  | nil => exact SameBut.refl bs d
  | cons x l ih => exact (h d x).trans (ih (f d x))

/-- What agreement says of the single blocks. -/
theorem SameBut.block {bs : List Block} {d e : Dev} (h : SameBut bs d e) (b : Block) (hb : b ∉ bs) : b.same d e := h b hb

/-! ### Records, events and counters -/

theorem Dev.emit_same (d : Dev) (o : Out) : SameBut [] d (d.emit o) := fun b _ => by cases b <;> rfl
theorem Dev.tickFree_same (d : Dev) : SameBut [] d d.tickFree := fun b _ => by cases b <;> rfl

theorem Dev.msixSend_same (d : Dev) (fn vec : Nat) : SameBut [.pcie] d (d.msixSend fn vec) := by
  unfold Dev.msixSend
  exact SameBut.ite ((d.emit_same _).mono (by simp)) (fun b hb => by cases b <;> simp_all [Block.same])

theorem Dev.msixRetry_same (d : Dev) (fn vec : Nat) : SameBut [.pcie] d (d.msixRetry fn vec) := by
  unfold Dev.msixRetry
  refine SameBut.ite (SameBut.trans (e := { d with pcie.msixPend := _ }) ?_ (Dev.msixSend_same _ fn vec)) (SameBut.refl _ d)
  exact fun b hb => by cases b <;> simp_all [Block.same]

theorem Dev.signalVector_same (d : Dev) (q vec : Nat) : SameBut [.evt, .pcie] d (d.signalVector q vec) := by
  unfold Dev.signalVector
  refine SameBut.ite (SameBut.refl _ d) (SameBut.ite ?_ (SameBut.trans (e := { d with evt.vecSent := _ }) ?_ ((Dev.msixSend_same _ _ vec).mono (by simp))))
  all_goals exact fun b hb => by cases b <;> simp_all [Block.same]

theorem Dev.signalAlarm_same (d : Dev) (k : Nat) : SameBut [.evt] d (d.signalAlarm k) := by
  unfold Dev.signalAlarm
  refine SameBut.ite (SameBut.refl _ d) ?_
  exact fun b hb => by cases b <;> simp_all [Block.same, Dev.emit]

/-- A source that fires touches the event block, and a pending message of an endpoint (R442 to R446). -/
theorem Dev.fire_same (d : Dev) (k : Nat) : SameBut [.evt, .pcie] d (d.fire k) := by
  unfold Dev.fire
  have h : SameBut [.evt, .pcie] d { d with evt := d.evt.set k } := fun b hb => by cases b <;> simp_all [Block.same]
  refine SameBut.ite (SameBut.ite ?_ ?_) (SameBut.refl _ d)
  · exact (SameBut.ite (h.trans (Dev.signalVector_same _ _ _)) h).trans ((Dev.signalAlarm_same _ k).mono (by simp))
  · exact SameBut.ite (h.trans (Dev.signalVector_same _ _ _)) h

theorem Dev.fireAll_same (d : Dev) (ks : List Nat) : SameBut [.evt, .pcie] d (d.fireAll ks) :=
  SameBut.foldl _ (fun e k => e.fire_same k) ks d

theorem Dev.setOvf_same (d : Dev) (k : Nat) : SameBut accessBlocks d (d.setOvf k) := by
  unfold Dev.setOvf
  have h : SameBut accessBlocks d { d with cnt.tab := d.cnt.tab.upd k (fun c => { c with ovf := true }) } :=
    fun b hb => by cases b <;> simp_all [Block.same, accessBlocks]
  refine SameBut.ite h (h.trans (SameBut.trans (e := { ({ d with cnt.tab := d.cnt.tab.upd k (fun c => { c with ovf := true }) } : Dev) with cnt.ovfFired := true }) ?_ ((Dev.fire_same _ _).mono (by simp [accessBlocks]))))
  exact fun b hb => by cases b <;> simp_all [Block.same, accessBlocks]

theorem Dev.cntTab_same (d : Dev) (t : Tab Cnt) : SameBut accessBlocks d { d with cnt.tab := t } :=
  fun b hb => by cases b <;> simp_all [Block.same, accessBlocks]

theorem Dev.cntWrap_same (d : Dev) (k : Nat) : SameBut accessBlocks d (d.cntWrap k) := by
  unfold Dev.cntWrap
  refine SameBut.ite (SameBut.ite (SameBut.ite ?_ ?_) (SameBut.refl _ d)) (Dev.setOvf_same d k)
  · exact (Dev.cntTab_same d _).trans (Dev.setOvf_same _ _)
  · exact Dev.cntTab_same d _

theorem Dev.cntBump_same (d : Dev) (k v : Nat) : SameBut accessBlocks d (d.cntBump k v) := by
  unfold Dev.cntBump
  exact SameBut.ite (SameBut.refl _ d) (SameBut.ite ((Dev.cntTab_same d _).trans (Dev.cntWrap_same _ k)) (Dev.cntTab_same d _))

/-- Counting touches the counters, and through a wrap the event sources (R448 to R451). -/
theorem Dev.count_same (d : Dev) (lo hi ev : Nat) (f : Nat → Nat) : SameBut accessBlocks d (d.count lo hi ev f) :=
  SameBut.foldl (fun (e : Dev) (kc : Nat × Cnt) => e.cntBump kc.1 (f kc.2.qual)) (fun e kc => e.cntBump_same kc.1 _) _ d

theorem Dev.countTile_same (d : Dev) (t ev slot vc v : Nat) : SameBut accessBlocks d (d.countTile t ev slot vc v) := d.count_same _ _ _ _
theorem Dev.countGrat_same (d : Dev) (ev n v : Nat) : SameBut accessBlocks d (d.countGrat ev n v) := d.count_same _ _ _ _
theorem Dev.countTable_same (d : Dev) (ev q v : Nat) : SameBut accessBlocks d (d.countTable ev q v) := d.count_same _ _ _ _
theorem Dev.countHub_same (d : Dev) (ev n v : Nat) : SameBut accessBlocks d (d.countHub ev n v) := d.count_same _ _ _ _
theorem Dev.countMgmt_same (d : Dev) (ev n v : Nat) : SameBut accessBlocks d (d.countMgmt ev n v) := d.count_same _ _ _ _

theorem Dev.enqueue_same (d : Dev) (r : CairnRec) : SameBut recordBlocks d (d.enqueue r) := by
  unfold Dev.enqueue
  refine SameBut.ite (SameBut.trans (e := { d with cairn.filtered := _ }) ?_ ((Dev.countMgmt_same _ _ _ _).mono (by simp [accessBlocks, recordBlocks])))
    (SameBut.ite ?_ (SameBut.trans (e := { d with cairn.dropped := _, cairn.droppedNow := _ }) ?_ ((Dev.countMgmt_same _ _ _ _).mono (by simp [accessBlocks, recordBlocks]))))
  all_goals exact fun b hb => by cases b <;> simp_all [Block.same, recordBlocks]

/-- A record touches the log, the counters, the event sources and a pending message (R425 to R432). -/
theorem Dev.log_same (d : Dev) (code sev : Nat) (a : RecArgs) : SameBut recordBlocks d (d.log code sev a) :=
  (Dev.enqueue_same d _).trans ((Dev.fire_same _ code).mono (by simp [recordBlocks]))

theorem Dev.dropped_same (d : Dev) (p : CmdPort) (a v sev : Nat) : SameBut recordBlocks d (d.dropped p a v sev) := d.log_same _ _ _
theorem Dev.dropped64_same (d : Dev) (p : CmdPort) (a v sev : Nat) : SameBut recordBlocks d (d.dropped64 p a v sev) := d.log_same _ _ _

theorem Dev.setPort_same (d : Dev) (p : CmdPort) (f : PortSt → PortSt) : SameBut [.port] d (d.setPort p f) :=
  fun b hb => by cases b <;> simp_all [Block.same, Dev.setPort]

/-! ### Faults and jobs -/

theorem Dev.faultLog_same (d : Dev) (code sev : Nat) (m : Bool) (r : FaultRec) : SameBut recordBlocks d (d.faultLog code sev m r) := by
  unfold Dev.faultLog
  exact SameBut.ite (Dev.enqueue_same d _) ((Dev.enqueue_same d _).trans ((Dev.fire_same _ code).mono (by simp [recordBlocks])))

/-- A correctable fault touches the fault block and writes a record (R399, R402). -/
theorem Dev.corFault_same (d : Dev) (bit source detail sev : Nat) :
    SameBut (.cont :: recordBlocks) d (d.corFault bit source detail sev) := by
  unfold Dev.corFault
  refine SameBut.trans (e := { d with cont := _ }) ?_ ((Dev.faultLog_same _ _ _ _ _).mono (by simp))
  exact fun b hb => by cases b <;> simp_all [Block.same]

/-- Stopping the tests of a tile touches its lanes (R86). -/
theorem Dev.stopTests_same (d : Dev) (t : Nat) : SameBut [.ln] d (d.stopTests t) :=
  fun b hb => by cases b <;> simp_all [Block.same, Dev.stopTests]

theorem Dev.haltTests_same (d : Dev) (t : Option Nat) : SameBut [.ln] d (d.haltTests t) := by
  cases t
  · exact SameBut.refl _ d
  · exact Dev.stopTests_same d _

/-- An uncorrectable fault touches the fault block, its record the log, and a fatal one in M10 the lanes of its tile (R86,
R399, R402, R405). -/
theorem Dev.uncFault_same (d : Dev) (bit source stop kind id detail sev : Nat) :
    SameBut (.cont :: .ln :: recordBlocks) d (d.uncFault bit source stop kind id detail sev) := by
  have h (c : ContSt) : SameBut (.cont :: .ln :: recordBlocks) d { d with cont := c } := fun b hb => by
    cases b <;> simp_all [Block.same]
  unfold Dev.uncFault
  refine SameBut.ite (h _) (SameBut.trans ?_ (SameBut.mono (Dev.faultLog_same _ _ _ _ _) (by simp)))
  exact SameBut.trans (h _) (SameBut.mono (Dev.haltTests_same _ _) (by simp))

theorem Dev.spareExhausted_same (d : Dev) (kind elem : Nat) : SameBut (.cont :: recordBlocks) d (d.spareExhausted kind elem) := by
  unfold Dev.spareExhausted
  refine SameBut.ite (SameBut.refl _ d) (SameBut.trans (e := { d with cont.exhausted := _ }) ?_ ((Dev.log_same _ _ _ _).mono (by simp)))
  exact fun b hb => by cases b <;> simp_all [Block.same]

theorem Dev.releaseSlot_same (d : Dev) (k : Nat) : SameBut [.jobs] d (d.releaseSlot k) :=
  fun b hb => by cases b <;> simp_all [Block.same, Dev.releaseSlot]

theorem Dev.putJob_same (d : Dev) (k : Nat) (j : Job) : SameBut [.jobs] d (d.putJob k j) :=
  fun b hb => by cases b <;> simp_all [Block.same, Dev.putJob]

theorem Dev.setJob_same (d : Dev) (k : Nat) (f : Job → Job) : SameBut [.jobs] d (d.setJob k f) :=
  fun b hb => by cases b <;> simp_all [Block.same, Dev.setJob]

theorem Dev.startInternal_same (d : Dev) (j : Job) : SameBut [.jobs] d (d.startInternal j).1 := by
  intro b hb
  cases hf : d.freeSlot <;> cases b <;> simp_all [Block.same, Dev.startInternal, Dev.putJob]

/-- The end of a job touches the job block, and its record or source the log and the events (R124, R125). -/
theorem Dev.endJob_same (d : Dev) (k : Nat) (st : JobState) (result detail : Nat) :
    SameBut (.jobs :: recordBlocks) d (d.endJob k st result detail) := by
  unfold Dev.endJob
  refine SameBut.ite ((Dev.releaseSlot_same d k).mono (by simp) |>.trans ((Dev.log_same _ _ _ _).mono (by simp))) ?_
  refine SameBut.trans (e := { d with jobs.slot := _ }) ?_ ((Dev.fire_same _ _).mono (by simp [recordBlocks]))
  exact fun b hb => by cases b <;> simp_all [Block.same]

/-- A watched operation touches what it touches, and the event block (R85). -/
theorem Dev.watchMode_same {bs : List Block} (d : Dev) (f : Dev → Dev) (h : SameBut bs d (f d)) (he : Block.evt ∈ bs)
    (hp : Block.pcie ∈ bs) : SameBut bs d (d.watchMode f) := by
  unfold Dev.watchMode
  exact SameBut.ite h (h.trans ((Dev.fire_same _ _).mono (by simp [he, hp])))

/-! ### Links and ports -/

theorem Dev.setLink_same (d : Dev) (p : Nat) (f : Link → Link) : SameBut [.ln] d (d.setLink p f) :=
  fun b hb => by cases b <;> simp_all [Block.same, Dev.setLink]

theorem Dev.setPport_same (d : Dev) (p : Nat) (f : PciePort → PciePort) : SameBut [.pcie] d (d.setPport p f) :=
  fun b hb => by cases b <;> simp_all [Block.same, Dev.setPport]

end Sys2Proof.Machine
end

