-- ==== Sys2Proof/Laws/Fields.lean ====
section
/-! SUPPORT. The blocks that the shared operations leave unchanged, as equations that simplification uses. -/

namespace Sys2Proof.Machine

variable (d : Dev)

@[simp] theorem Dev.emit_part (o : Out) : (d.emit o).part = d.part := d.emit_same o .part (by decide)
@[simp] theorem Dev.emit_mode (o : Out) : (d.emit o).mode = d.mode := d.emit_same o .mode (by decide)
@[simp] theorem Dev.emit_plat (o : Out) : (d.emit o).plat = d.plat := d.emit_same o .plat (by decide)
@[simp] theorem Dev.emit_run (o : Out) : (d.emit o).run = d.run := d.emit_same o .run (by decide)
@[simp] theorem Dev.emit_nb (o : Out) : (d.emit o).nb = d.nb := d.emit_same o .nb (by decide)
@[simp] theorem Dev.emit_tick (o : Out) : (d.emit o).tick = d.tick := d.emit_same o .tick (by decide)
@[simp] theorem Dev.emit_jobs (o : Out) : (d.emit o).jobs = d.jobs := d.emit_same o .jobs (by decide)
@[simp] theorem Dev.emit_cores (o : Out) : (d.emit o).cores = d.cores := d.emit_same o .cores (by decide)
@[simp] theorem Dev.emit_port (o : Out) : (d.emit o).port = d.port := d.emit_same o .port (by decide)
@[simp] theorem Dev.emit_sight (o : Out) : (d.emit o).sight = d.sight := d.emit_same o .sight (by decide)
@[simp] theorem Dev.emit_bus (o : Out) : (d.emit o).bus = d.bus := d.emit_same o .bus (by decide)
@[simp] theorem Dev.emit_pkg (o : Out) : (d.emit o).pkg = d.pkg := d.emit_same o .pkg (by decide)
@[simp] theorem Dev.emit_pcie (o : Out) : (d.emit o).pcie = d.pcie := d.emit_same o .pcie (by decide)
@[simp] theorem Dev.emit_ln (o : Out) : (d.emit o).ln = d.ln := d.emit_same o .ln (by decide)
@[simp] theorem Dev.emit_sw (o : Out) : (d.emit o).sw = d.sw := d.emit_same o .sw (by decide)
@[simp] theorem Dev.emit_tally (o : Out) : (d.emit o).tally = d.tally := d.emit_same o .tally (by decide)
@[simp] theorem Dev.emit_trav (o : Out) : (d.emit o).trav = d.trav := d.emit_same o .trav (by decide)
@[simp] theorem Dev.emit_fab (o : Out) : (d.emit o).fab = d.fab := d.emit_same o .fab (by decide)
@[simp] theorem Dev.emit_bnd (o : Out) : (d.emit o).bnd = d.bnd := d.emit_same o .bnd (by decide)
@[simp] theorem Dev.emit_cont (o : Out) : (d.emit o).cont = d.cont := d.emit_same o .cont (by decide)
@[simp] theorem Dev.emit_commits (o : Out) : (d.emit o).commits = d.commits := d.emit_same o .commits (by decide)
@[simp] theorem Dev.emit_cairn (o : Out) : (d.emit o).cairn = d.cairn := d.emit_same o .cairn (by decide)
@[simp] theorem Dev.emit_evt (o : Out) : (d.emit o).evt = d.evt := d.emit_same o .evt (by decide)
@[simp] theorem Dev.emit_cnt (o : Out) : (d.emit o).cnt = d.cnt := d.emit_same o .cnt (by decide)

@[simp] theorem Dev.tickFree_part : (d.tickFree).part = d.part := d.tickFree_same .part (by decide)
@[simp] theorem Dev.tickFree_mode : (d.tickFree).mode = d.mode := d.tickFree_same .mode (by decide)
@[simp] theorem Dev.tickFree_plat : (d.tickFree).plat = d.plat := d.tickFree_same .plat (by decide)
@[simp] theorem Dev.tickFree_run : (d.tickFree).run = d.run := d.tickFree_same .run (by decide)
@[simp] theorem Dev.tickFree_nb : (d.tickFree).nb = d.nb := d.tickFree_same .nb (by decide)
@[simp] theorem Dev.tickFree_tick : (d.tickFree).tick = d.tick := d.tickFree_same .tick (by decide)
@[simp] theorem Dev.tickFree_jobs : (d.tickFree).jobs = d.jobs := d.tickFree_same .jobs (by decide)
@[simp] theorem Dev.tickFree_cores : (d.tickFree).cores = d.cores := d.tickFree_same .cores (by decide)
@[simp] theorem Dev.tickFree_port : (d.tickFree).port = d.port := d.tickFree_same .port (by decide)
@[simp] theorem Dev.tickFree_sight : (d.tickFree).sight = d.sight := d.tickFree_same .sight (by decide)
@[simp] theorem Dev.tickFree_bus : (d.tickFree).bus = d.bus := d.tickFree_same .bus (by decide)
@[simp] theorem Dev.tickFree_pkg : (d.tickFree).pkg = d.pkg := d.tickFree_same .pkg (by decide)
@[simp] theorem Dev.tickFree_pcie : (d.tickFree).pcie = d.pcie := d.tickFree_same .pcie (by decide)
@[simp] theorem Dev.tickFree_ln : (d.tickFree).ln = d.ln := d.tickFree_same .ln (by decide)
@[simp] theorem Dev.tickFree_sw : (d.tickFree).sw = d.sw := d.tickFree_same .sw (by decide)
@[simp] theorem Dev.tickFree_tally : (d.tickFree).tally = d.tally := d.tickFree_same .tally (by decide)
@[simp] theorem Dev.tickFree_trav : (d.tickFree).trav = d.trav := d.tickFree_same .trav (by decide)
@[simp] theorem Dev.tickFree_fab : (d.tickFree).fab = d.fab := d.tickFree_same .fab (by decide)
@[simp] theorem Dev.tickFree_bnd : (d.tickFree).bnd = d.bnd := d.tickFree_same .bnd (by decide)
@[simp] theorem Dev.tickFree_cont : (d.tickFree).cont = d.cont := d.tickFree_same .cont (by decide)
@[simp] theorem Dev.tickFree_commits : (d.tickFree).commits = d.commits := d.tickFree_same .commits (by decide)
@[simp] theorem Dev.tickFree_cairn : (d.tickFree).cairn = d.cairn := d.tickFree_same .cairn (by decide)
@[simp] theorem Dev.tickFree_evt : (d.tickFree).evt = d.evt := d.tickFree_same .evt (by decide)
@[simp] theorem Dev.tickFree_cnt : (d.tickFree).cnt = d.cnt := d.tickFree_same .cnt (by decide)

@[simp] theorem Dev.msixSend_part (fn vec : Nat) : (d.msixSend fn vec).part = d.part := d.msixSend_same fn vec .part (by decide)
@[simp] theorem Dev.msixSend_mode (fn vec : Nat) : (d.msixSend fn vec).mode = d.mode := d.msixSend_same fn vec .mode (by decide)
@[simp] theorem Dev.msixSend_plat (fn vec : Nat) : (d.msixSend fn vec).plat = d.plat := d.msixSend_same fn vec .plat (by decide)
@[simp] theorem Dev.msixSend_run (fn vec : Nat) : (d.msixSend fn vec).run = d.run := d.msixSend_same fn vec .run (by decide)
@[simp] theorem Dev.msixSend_nb (fn vec : Nat) : (d.msixSend fn vec).nb = d.nb := d.msixSend_same fn vec .nb (by decide)
@[simp] theorem Dev.msixSend_tick (fn vec : Nat) : (d.msixSend fn vec).tick = d.tick := d.msixSend_same fn vec .tick (by decide)
@[simp] theorem Dev.msixSend_jobs (fn vec : Nat) : (d.msixSend fn vec).jobs = d.jobs := d.msixSend_same fn vec .jobs (by decide)
@[simp] theorem Dev.msixSend_cores (fn vec : Nat) : (d.msixSend fn vec).cores = d.cores := d.msixSend_same fn vec .cores (by decide)
@[simp] theorem Dev.msixSend_port (fn vec : Nat) : (d.msixSend fn vec).port = d.port := d.msixSend_same fn vec .port (by decide)
@[simp] theorem Dev.msixSend_sight (fn vec : Nat) : (d.msixSend fn vec).sight = d.sight := d.msixSend_same fn vec .sight (by decide)
@[simp] theorem Dev.msixSend_bus (fn vec : Nat) : (d.msixSend fn vec).bus = d.bus := d.msixSend_same fn vec .bus (by decide)
@[simp] theorem Dev.msixSend_pkg (fn vec : Nat) : (d.msixSend fn vec).pkg = d.pkg := d.msixSend_same fn vec .pkg (by decide)
@[simp] theorem Dev.msixSend_ln (fn vec : Nat) : (d.msixSend fn vec).ln = d.ln := d.msixSend_same fn vec .ln (by decide)
@[simp] theorem Dev.msixSend_sw (fn vec : Nat) : (d.msixSend fn vec).sw = d.sw := d.msixSend_same fn vec .sw (by decide)
@[simp] theorem Dev.msixSend_tally (fn vec : Nat) : (d.msixSend fn vec).tally = d.tally := d.msixSend_same fn vec .tally (by decide)
@[simp] theorem Dev.msixSend_trav (fn vec : Nat) : (d.msixSend fn vec).trav = d.trav := d.msixSend_same fn vec .trav (by decide)
@[simp] theorem Dev.msixSend_fab (fn vec : Nat) : (d.msixSend fn vec).fab = d.fab := d.msixSend_same fn vec .fab (by decide)
@[simp] theorem Dev.msixSend_bnd (fn vec : Nat) : (d.msixSend fn vec).bnd = d.bnd := d.msixSend_same fn vec .bnd (by decide)
@[simp] theorem Dev.msixSend_cont (fn vec : Nat) : (d.msixSend fn vec).cont = d.cont := d.msixSend_same fn vec .cont (by decide)
@[simp] theorem Dev.msixSend_commits (fn vec : Nat) : (d.msixSend fn vec).commits = d.commits := d.msixSend_same fn vec .commits (by decide)
@[simp] theorem Dev.msixSend_cairn (fn vec : Nat) : (d.msixSend fn vec).cairn = d.cairn := d.msixSend_same fn vec .cairn (by decide)
@[simp] theorem Dev.msixSend_evt (fn vec : Nat) : (d.msixSend fn vec).evt = d.evt := d.msixSend_same fn vec .evt (by decide)
@[simp] theorem Dev.msixSend_cnt (fn vec : Nat) : (d.msixSend fn vec).cnt = d.cnt := d.msixSend_same fn vec .cnt (by decide)

@[simp] theorem Dev.msixRetry_part (fn vec : Nat) : (d.msixRetry fn vec).part = d.part := d.msixRetry_same fn vec .part (by decide)
@[simp] theorem Dev.msixRetry_mode (fn vec : Nat) : (d.msixRetry fn vec).mode = d.mode := d.msixRetry_same fn vec .mode (by decide)
@[simp] theorem Dev.msixRetry_plat (fn vec : Nat) : (d.msixRetry fn vec).plat = d.plat := d.msixRetry_same fn vec .plat (by decide)
@[simp] theorem Dev.msixRetry_run (fn vec : Nat) : (d.msixRetry fn vec).run = d.run := d.msixRetry_same fn vec .run (by decide)
@[simp] theorem Dev.msixRetry_nb (fn vec : Nat) : (d.msixRetry fn vec).nb = d.nb := d.msixRetry_same fn vec .nb (by decide)
@[simp] theorem Dev.msixRetry_tick (fn vec : Nat) : (d.msixRetry fn vec).tick = d.tick := d.msixRetry_same fn vec .tick (by decide)
@[simp] theorem Dev.msixRetry_jobs (fn vec : Nat) : (d.msixRetry fn vec).jobs = d.jobs := d.msixRetry_same fn vec .jobs (by decide)
@[simp] theorem Dev.msixRetry_cores (fn vec : Nat) : (d.msixRetry fn vec).cores = d.cores := d.msixRetry_same fn vec .cores (by decide)
@[simp] theorem Dev.msixRetry_port (fn vec : Nat) : (d.msixRetry fn vec).port = d.port := d.msixRetry_same fn vec .port (by decide)
@[simp] theorem Dev.msixRetry_sight (fn vec : Nat) : (d.msixRetry fn vec).sight = d.sight := d.msixRetry_same fn vec .sight (by decide)
@[simp] theorem Dev.msixRetry_bus (fn vec : Nat) : (d.msixRetry fn vec).bus = d.bus := d.msixRetry_same fn vec .bus (by decide)
@[simp] theorem Dev.msixRetry_pkg (fn vec : Nat) : (d.msixRetry fn vec).pkg = d.pkg := d.msixRetry_same fn vec .pkg (by decide)
@[simp] theorem Dev.msixRetry_ln (fn vec : Nat) : (d.msixRetry fn vec).ln = d.ln := d.msixRetry_same fn vec .ln (by decide)
@[simp] theorem Dev.msixRetry_sw (fn vec : Nat) : (d.msixRetry fn vec).sw = d.sw := d.msixRetry_same fn vec .sw (by decide)
@[simp] theorem Dev.msixRetry_tally (fn vec : Nat) : (d.msixRetry fn vec).tally = d.tally := d.msixRetry_same fn vec .tally (by decide)
@[simp] theorem Dev.msixRetry_trav (fn vec : Nat) : (d.msixRetry fn vec).trav = d.trav := d.msixRetry_same fn vec .trav (by decide)
@[simp] theorem Dev.msixRetry_fab (fn vec : Nat) : (d.msixRetry fn vec).fab = d.fab := d.msixRetry_same fn vec .fab (by decide)
@[simp] theorem Dev.msixRetry_bnd (fn vec : Nat) : (d.msixRetry fn vec).bnd = d.bnd := d.msixRetry_same fn vec .bnd (by decide)
@[simp] theorem Dev.msixRetry_cont (fn vec : Nat) : (d.msixRetry fn vec).cont = d.cont := d.msixRetry_same fn vec .cont (by decide)
@[simp] theorem Dev.msixRetry_commits (fn vec : Nat) : (d.msixRetry fn vec).commits = d.commits := d.msixRetry_same fn vec .commits (by decide)
@[simp] theorem Dev.msixRetry_cairn (fn vec : Nat) : (d.msixRetry fn vec).cairn = d.cairn := d.msixRetry_same fn vec .cairn (by decide)
@[simp] theorem Dev.msixRetry_evt (fn vec : Nat) : (d.msixRetry fn vec).evt = d.evt := d.msixRetry_same fn vec .evt (by decide)
@[simp] theorem Dev.msixRetry_cnt (fn vec : Nat) : (d.msixRetry fn vec).cnt = d.cnt := d.msixRetry_same fn vec .cnt (by decide)

@[simp] theorem Dev.fire_part (k : Nat) : (d.fire k).part = d.part := d.fire_same k .part (by decide)
@[simp] theorem Dev.fire_mode (k : Nat) : (d.fire k).mode = d.mode := d.fire_same k .mode (by decide)
@[simp] theorem Dev.fire_plat (k : Nat) : (d.fire k).plat = d.plat := d.fire_same k .plat (by decide)
@[simp] theorem Dev.fire_run (k : Nat) : (d.fire k).run = d.run := d.fire_same k .run (by decide)
@[simp] theorem Dev.fire_nb (k : Nat) : (d.fire k).nb = d.nb := d.fire_same k .nb (by decide)
@[simp] theorem Dev.fire_tick (k : Nat) : (d.fire k).tick = d.tick := d.fire_same k .tick (by decide)
@[simp] theorem Dev.fire_jobs (k : Nat) : (d.fire k).jobs = d.jobs := d.fire_same k .jobs (by decide)
@[simp] theorem Dev.fire_cores (k : Nat) : (d.fire k).cores = d.cores := d.fire_same k .cores (by decide)
@[simp] theorem Dev.fire_port (k : Nat) : (d.fire k).port = d.port := d.fire_same k .port (by decide)
@[simp] theorem Dev.fire_sight (k : Nat) : (d.fire k).sight = d.sight := d.fire_same k .sight (by decide)
@[simp] theorem Dev.fire_bus (k : Nat) : (d.fire k).bus = d.bus := d.fire_same k .bus (by decide)
@[simp] theorem Dev.fire_pkg (k : Nat) : (d.fire k).pkg = d.pkg := d.fire_same k .pkg (by decide)
@[simp] theorem Dev.fire_ln (k : Nat) : (d.fire k).ln = d.ln := d.fire_same k .ln (by decide)
@[simp] theorem Dev.fire_sw (k : Nat) : (d.fire k).sw = d.sw := d.fire_same k .sw (by decide)
@[simp] theorem Dev.fire_tally (k : Nat) : (d.fire k).tally = d.tally := d.fire_same k .tally (by decide)
@[simp] theorem Dev.fire_trav (k : Nat) : (d.fire k).trav = d.trav := d.fire_same k .trav (by decide)
@[simp] theorem Dev.fire_fab (k : Nat) : (d.fire k).fab = d.fab := d.fire_same k .fab (by decide)
@[simp] theorem Dev.fire_bnd (k : Nat) : (d.fire k).bnd = d.bnd := d.fire_same k .bnd (by decide)
@[simp] theorem Dev.fire_cont (k : Nat) : (d.fire k).cont = d.cont := d.fire_same k .cont (by decide)
@[simp] theorem Dev.fire_commits (k : Nat) : (d.fire k).commits = d.commits := d.fire_same k .commits (by decide)
@[simp] theorem Dev.fire_cairn (k : Nat) : (d.fire k).cairn = d.cairn := d.fire_same k .cairn (by decide)
@[simp] theorem Dev.fire_cnt (k : Nat) : (d.fire k).cnt = d.cnt := d.fire_same k .cnt (by decide)

@[simp] theorem Dev.countTile_part (t ev slot vc v : Nat) : (d.countTile t ev slot vc v).part = d.part := d.countTile_same t ev slot vc v .part (by decide)
@[simp] theorem Dev.countTile_mode (t ev slot vc v : Nat) : (d.countTile t ev slot vc v).mode = d.mode := d.countTile_same t ev slot vc v .mode (by decide)
@[simp] theorem Dev.countTile_plat (t ev slot vc v : Nat) : (d.countTile t ev slot vc v).plat = d.plat := d.countTile_same t ev slot vc v .plat (by decide)
@[simp] theorem Dev.countTile_run (t ev slot vc v : Nat) : (d.countTile t ev slot vc v).run = d.run := d.countTile_same t ev slot vc v .run (by decide)
@[simp] theorem Dev.countTile_nb (t ev slot vc v : Nat) : (d.countTile t ev slot vc v).nb = d.nb := d.countTile_same t ev slot vc v .nb (by decide)
@[simp] theorem Dev.countTile_tick (t ev slot vc v : Nat) : (d.countTile t ev slot vc v).tick = d.tick := d.countTile_same t ev slot vc v .tick (by decide)
@[simp] theorem Dev.countTile_jobs (t ev slot vc v : Nat) : (d.countTile t ev slot vc v).jobs = d.jobs := d.countTile_same t ev slot vc v .jobs (by decide)
@[simp] theorem Dev.countTile_cores (t ev slot vc v : Nat) : (d.countTile t ev slot vc v).cores = d.cores := d.countTile_same t ev slot vc v .cores (by decide)
@[simp] theorem Dev.countTile_port (t ev slot vc v : Nat) : (d.countTile t ev slot vc v).port = d.port := d.countTile_same t ev slot vc v .port (by decide)
@[simp] theorem Dev.countTile_sight (t ev slot vc v : Nat) : (d.countTile t ev slot vc v).sight = d.sight := d.countTile_same t ev slot vc v .sight (by decide)
@[simp] theorem Dev.countTile_bus (t ev slot vc v : Nat) : (d.countTile t ev slot vc v).bus = d.bus := d.countTile_same t ev slot vc v .bus (by decide)
@[simp] theorem Dev.countTile_pkg (t ev slot vc v : Nat) : (d.countTile t ev slot vc v).pkg = d.pkg := d.countTile_same t ev slot vc v .pkg (by decide)
@[simp] theorem Dev.countTile_ln (t ev slot vc v : Nat) : (d.countTile t ev slot vc v).ln = d.ln := d.countTile_same t ev slot vc v .ln (by decide)
@[simp] theorem Dev.countTile_sw (t ev slot vc v : Nat) : (d.countTile t ev slot vc v).sw = d.sw := d.countTile_same t ev slot vc v .sw (by decide)
@[simp] theorem Dev.countTile_tally (t ev slot vc v : Nat) : (d.countTile t ev slot vc v).tally = d.tally := d.countTile_same t ev slot vc v .tally (by decide)
@[simp] theorem Dev.countTile_trav (t ev slot vc v : Nat) : (d.countTile t ev slot vc v).trav = d.trav := d.countTile_same t ev slot vc v .trav (by decide)
@[simp] theorem Dev.countTile_fab (t ev slot vc v : Nat) : (d.countTile t ev slot vc v).fab = d.fab := d.countTile_same t ev slot vc v .fab (by decide)
@[simp] theorem Dev.countTile_bnd (t ev slot vc v : Nat) : (d.countTile t ev slot vc v).bnd = d.bnd := d.countTile_same t ev slot vc v .bnd (by decide)
@[simp] theorem Dev.countTile_cont (t ev slot vc v : Nat) : (d.countTile t ev slot vc v).cont = d.cont := d.countTile_same t ev slot vc v .cont (by decide)
@[simp] theorem Dev.countTile_commits (t ev slot vc v : Nat) : (d.countTile t ev slot vc v).commits = d.commits := d.countTile_same t ev slot vc v .commits (by decide)
@[simp] theorem Dev.countTile_cairn (t ev slot vc v : Nat) : (d.countTile t ev slot vc v).cairn = d.cairn := d.countTile_same t ev slot vc v .cairn (by decide)

@[simp] theorem Dev.countGrat_part (ev n v : Nat) : (d.countGrat ev n v).part = d.part := d.countGrat_same ev n v .part (by decide)
@[simp] theorem Dev.countGrat_mode (ev n v : Nat) : (d.countGrat ev n v).mode = d.mode := d.countGrat_same ev n v .mode (by decide)
@[simp] theorem Dev.countGrat_plat (ev n v : Nat) : (d.countGrat ev n v).plat = d.plat := d.countGrat_same ev n v .plat (by decide)
@[simp] theorem Dev.countGrat_run (ev n v : Nat) : (d.countGrat ev n v).run = d.run := d.countGrat_same ev n v .run (by decide)
@[simp] theorem Dev.countGrat_nb (ev n v : Nat) : (d.countGrat ev n v).nb = d.nb := d.countGrat_same ev n v .nb (by decide)
@[simp] theorem Dev.countGrat_tick (ev n v : Nat) : (d.countGrat ev n v).tick = d.tick := d.countGrat_same ev n v .tick (by decide)
@[simp] theorem Dev.countGrat_jobs (ev n v : Nat) : (d.countGrat ev n v).jobs = d.jobs := d.countGrat_same ev n v .jobs (by decide)
@[simp] theorem Dev.countGrat_cores (ev n v : Nat) : (d.countGrat ev n v).cores = d.cores := d.countGrat_same ev n v .cores (by decide)
@[simp] theorem Dev.countGrat_port (ev n v : Nat) : (d.countGrat ev n v).port = d.port := d.countGrat_same ev n v .port (by decide)
@[simp] theorem Dev.countGrat_sight (ev n v : Nat) : (d.countGrat ev n v).sight = d.sight := d.countGrat_same ev n v .sight (by decide)
@[simp] theorem Dev.countGrat_bus (ev n v : Nat) : (d.countGrat ev n v).bus = d.bus := d.countGrat_same ev n v .bus (by decide)
@[simp] theorem Dev.countGrat_pkg (ev n v : Nat) : (d.countGrat ev n v).pkg = d.pkg := d.countGrat_same ev n v .pkg (by decide)
@[simp] theorem Dev.countGrat_ln (ev n v : Nat) : (d.countGrat ev n v).ln = d.ln := d.countGrat_same ev n v .ln (by decide)
@[simp] theorem Dev.countGrat_sw (ev n v : Nat) : (d.countGrat ev n v).sw = d.sw := d.countGrat_same ev n v .sw (by decide)
@[simp] theorem Dev.countGrat_tally (ev n v : Nat) : (d.countGrat ev n v).tally = d.tally := d.countGrat_same ev n v .tally (by decide)
@[simp] theorem Dev.countGrat_trav (ev n v : Nat) : (d.countGrat ev n v).trav = d.trav := d.countGrat_same ev n v .trav (by decide)
@[simp] theorem Dev.countGrat_fab (ev n v : Nat) : (d.countGrat ev n v).fab = d.fab := d.countGrat_same ev n v .fab (by decide)
@[simp] theorem Dev.countGrat_bnd (ev n v : Nat) : (d.countGrat ev n v).bnd = d.bnd := d.countGrat_same ev n v .bnd (by decide)
@[simp] theorem Dev.countGrat_cont (ev n v : Nat) : (d.countGrat ev n v).cont = d.cont := d.countGrat_same ev n v .cont (by decide)
@[simp] theorem Dev.countGrat_commits (ev n v : Nat) : (d.countGrat ev n v).commits = d.commits := d.countGrat_same ev n v .commits (by decide)
@[simp] theorem Dev.countGrat_cairn (ev n v : Nat) : (d.countGrat ev n v).cairn = d.cairn := d.countGrat_same ev n v .cairn (by decide)

@[simp] theorem Dev.countTable_part (ev q v : Nat) : (d.countTable ev q v).part = d.part := d.countTable_same ev q v .part (by decide)
@[simp] theorem Dev.countTable_mode (ev q v : Nat) : (d.countTable ev q v).mode = d.mode := d.countTable_same ev q v .mode (by decide)
@[simp] theorem Dev.countTable_plat (ev q v : Nat) : (d.countTable ev q v).plat = d.plat := d.countTable_same ev q v .plat (by decide)
@[simp] theorem Dev.countTable_run (ev q v : Nat) : (d.countTable ev q v).run = d.run := d.countTable_same ev q v .run (by decide)
@[simp] theorem Dev.countTable_nb (ev q v : Nat) : (d.countTable ev q v).nb = d.nb := d.countTable_same ev q v .nb (by decide)
@[simp] theorem Dev.countTable_tick (ev q v : Nat) : (d.countTable ev q v).tick = d.tick := d.countTable_same ev q v .tick (by decide)
@[simp] theorem Dev.countTable_jobs (ev q v : Nat) : (d.countTable ev q v).jobs = d.jobs := d.countTable_same ev q v .jobs (by decide)
@[simp] theorem Dev.countTable_cores (ev q v : Nat) : (d.countTable ev q v).cores = d.cores := d.countTable_same ev q v .cores (by decide)
@[simp] theorem Dev.countTable_port (ev q v : Nat) : (d.countTable ev q v).port = d.port := d.countTable_same ev q v .port (by decide)
@[simp] theorem Dev.countTable_sight (ev q v : Nat) : (d.countTable ev q v).sight = d.sight := d.countTable_same ev q v .sight (by decide)
@[simp] theorem Dev.countTable_bus (ev q v : Nat) : (d.countTable ev q v).bus = d.bus := d.countTable_same ev q v .bus (by decide)
@[simp] theorem Dev.countTable_pkg (ev q v : Nat) : (d.countTable ev q v).pkg = d.pkg := d.countTable_same ev q v .pkg (by decide)
@[simp] theorem Dev.countTable_ln (ev q v : Nat) : (d.countTable ev q v).ln = d.ln := d.countTable_same ev q v .ln (by decide)
@[simp] theorem Dev.countTable_sw (ev q v : Nat) : (d.countTable ev q v).sw = d.sw := d.countTable_same ev q v .sw (by decide)
@[simp] theorem Dev.countTable_tally (ev q v : Nat) : (d.countTable ev q v).tally = d.tally := d.countTable_same ev q v .tally (by decide)
@[simp] theorem Dev.countTable_trav (ev q v : Nat) : (d.countTable ev q v).trav = d.trav := d.countTable_same ev q v .trav (by decide)
@[simp] theorem Dev.countTable_fab (ev q v : Nat) : (d.countTable ev q v).fab = d.fab := d.countTable_same ev q v .fab (by decide)
@[simp] theorem Dev.countTable_bnd (ev q v : Nat) : (d.countTable ev q v).bnd = d.bnd := d.countTable_same ev q v .bnd (by decide)
@[simp] theorem Dev.countTable_cont (ev q v : Nat) : (d.countTable ev q v).cont = d.cont := d.countTable_same ev q v .cont (by decide)
@[simp] theorem Dev.countTable_commits (ev q v : Nat) : (d.countTable ev q v).commits = d.commits := d.countTable_same ev q v .commits (by decide)
@[simp] theorem Dev.countTable_cairn (ev q v : Nat) : (d.countTable ev q v).cairn = d.cairn := d.countTable_same ev q v .cairn (by decide)

@[simp] theorem Dev.countHub_part (ev n v : Nat) : (d.countHub ev n v).part = d.part := d.countHub_same ev n v .part (by decide)
@[simp] theorem Dev.countHub_mode (ev n v : Nat) : (d.countHub ev n v).mode = d.mode := d.countHub_same ev n v .mode (by decide)
@[simp] theorem Dev.countHub_plat (ev n v : Nat) : (d.countHub ev n v).plat = d.plat := d.countHub_same ev n v .plat (by decide)
@[simp] theorem Dev.countHub_run (ev n v : Nat) : (d.countHub ev n v).run = d.run := d.countHub_same ev n v .run (by decide)
@[simp] theorem Dev.countHub_nb (ev n v : Nat) : (d.countHub ev n v).nb = d.nb := d.countHub_same ev n v .nb (by decide)
@[simp] theorem Dev.countHub_tick (ev n v : Nat) : (d.countHub ev n v).tick = d.tick := d.countHub_same ev n v .tick (by decide)
@[simp] theorem Dev.countHub_jobs (ev n v : Nat) : (d.countHub ev n v).jobs = d.jobs := d.countHub_same ev n v .jobs (by decide)
@[simp] theorem Dev.countHub_cores (ev n v : Nat) : (d.countHub ev n v).cores = d.cores := d.countHub_same ev n v .cores (by decide)
@[simp] theorem Dev.countHub_port (ev n v : Nat) : (d.countHub ev n v).port = d.port := d.countHub_same ev n v .port (by decide)
@[simp] theorem Dev.countHub_sight (ev n v : Nat) : (d.countHub ev n v).sight = d.sight := d.countHub_same ev n v .sight (by decide)
@[simp] theorem Dev.countHub_bus (ev n v : Nat) : (d.countHub ev n v).bus = d.bus := d.countHub_same ev n v .bus (by decide)
@[simp] theorem Dev.countHub_pkg (ev n v : Nat) : (d.countHub ev n v).pkg = d.pkg := d.countHub_same ev n v .pkg (by decide)
@[simp] theorem Dev.countHub_ln (ev n v : Nat) : (d.countHub ev n v).ln = d.ln := d.countHub_same ev n v .ln (by decide)
@[simp] theorem Dev.countHub_sw (ev n v : Nat) : (d.countHub ev n v).sw = d.sw := d.countHub_same ev n v .sw (by decide)
@[simp] theorem Dev.countHub_tally (ev n v : Nat) : (d.countHub ev n v).tally = d.tally := d.countHub_same ev n v .tally (by decide)
@[simp] theorem Dev.countHub_trav (ev n v : Nat) : (d.countHub ev n v).trav = d.trav := d.countHub_same ev n v .trav (by decide)
@[simp] theorem Dev.countHub_fab (ev n v : Nat) : (d.countHub ev n v).fab = d.fab := d.countHub_same ev n v .fab (by decide)
@[simp] theorem Dev.countHub_bnd (ev n v : Nat) : (d.countHub ev n v).bnd = d.bnd := d.countHub_same ev n v .bnd (by decide)
@[simp] theorem Dev.countHub_cont (ev n v : Nat) : (d.countHub ev n v).cont = d.cont := d.countHub_same ev n v .cont (by decide)
@[simp] theorem Dev.countHub_commits (ev n v : Nat) : (d.countHub ev n v).commits = d.commits := d.countHub_same ev n v .commits (by decide)
@[simp] theorem Dev.countHub_cairn (ev n v : Nat) : (d.countHub ev n v).cairn = d.cairn := d.countHub_same ev n v .cairn (by decide)

@[simp] theorem Dev.countMgmt_part (ev n v : Nat) : (d.countMgmt ev n v).part = d.part := d.countMgmt_same ev n v .part (by decide)
@[simp] theorem Dev.countMgmt_mode (ev n v : Nat) : (d.countMgmt ev n v).mode = d.mode := d.countMgmt_same ev n v .mode (by decide)
@[simp] theorem Dev.countMgmt_plat (ev n v : Nat) : (d.countMgmt ev n v).plat = d.plat := d.countMgmt_same ev n v .plat (by decide)
@[simp] theorem Dev.countMgmt_run (ev n v : Nat) : (d.countMgmt ev n v).run = d.run := d.countMgmt_same ev n v .run (by decide)
@[simp] theorem Dev.countMgmt_nb (ev n v : Nat) : (d.countMgmt ev n v).nb = d.nb := d.countMgmt_same ev n v .nb (by decide)
@[simp] theorem Dev.countMgmt_tick (ev n v : Nat) : (d.countMgmt ev n v).tick = d.tick := d.countMgmt_same ev n v .tick (by decide)
@[simp] theorem Dev.countMgmt_jobs (ev n v : Nat) : (d.countMgmt ev n v).jobs = d.jobs := d.countMgmt_same ev n v .jobs (by decide)
@[simp] theorem Dev.countMgmt_cores (ev n v : Nat) : (d.countMgmt ev n v).cores = d.cores := d.countMgmt_same ev n v .cores (by decide)
@[simp] theorem Dev.countMgmt_port (ev n v : Nat) : (d.countMgmt ev n v).port = d.port := d.countMgmt_same ev n v .port (by decide)
@[simp] theorem Dev.countMgmt_sight (ev n v : Nat) : (d.countMgmt ev n v).sight = d.sight := d.countMgmt_same ev n v .sight (by decide)
@[simp] theorem Dev.countMgmt_bus (ev n v : Nat) : (d.countMgmt ev n v).bus = d.bus := d.countMgmt_same ev n v .bus (by decide)
@[simp] theorem Dev.countMgmt_pkg (ev n v : Nat) : (d.countMgmt ev n v).pkg = d.pkg := d.countMgmt_same ev n v .pkg (by decide)
@[simp] theorem Dev.countMgmt_ln (ev n v : Nat) : (d.countMgmt ev n v).ln = d.ln := d.countMgmt_same ev n v .ln (by decide)
@[simp] theorem Dev.countMgmt_sw (ev n v : Nat) : (d.countMgmt ev n v).sw = d.sw := d.countMgmt_same ev n v .sw (by decide)
@[simp] theorem Dev.countMgmt_tally (ev n v : Nat) : (d.countMgmt ev n v).tally = d.tally := d.countMgmt_same ev n v .tally (by decide)
@[simp] theorem Dev.countMgmt_trav (ev n v : Nat) : (d.countMgmt ev n v).trav = d.trav := d.countMgmt_same ev n v .trav (by decide)
@[simp] theorem Dev.countMgmt_fab (ev n v : Nat) : (d.countMgmt ev n v).fab = d.fab := d.countMgmt_same ev n v .fab (by decide)
@[simp] theorem Dev.countMgmt_bnd (ev n v : Nat) : (d.countMgmt ev n v).bnd = d.bnd := d.countMgmt_same ev n v .bnd (by decide)
@[simp] theorem Dev.countMgmt_cont (ev n v : Nat) : (d.countMgmt ev n v).cont = d.cont := d.countMgmt_same ev n v .cont (by decide)
@[simp] theorem Dev.countMgmt_commits (ev n v : Nat) : (d.countMgmt ev n v).commits = d.commits := d.countMgmt_same ev n v .commits (by decide)
@[simp] theorem Dev.countMgmt_cairn (ev n v : Nat) : (d.countMgmt ev n v).cairn = d.cairn := d.countMgmt_same ev n v .cairn (by decide)

@[simp] theorem Dev.log_part (code sev : Nat) (a : RecArgs) : (d.log code sev a).part = d.part := d.log_same code sev a .part (by decide)
@[simp] theorem Dev.log_mode (code sev : Nat) (a : RecArgs) : (d.log code sev a).mode = d.mode := d.log_same code sev a .mode (by decide)
@[simp] theorem Dev.log_plat (code sev : Nat) (a : RecArgs) : (d.log code sev a).plat = d.plat := d.log_same code sev a .plat (by decide)
@[simp] theorem Dev.log_run (code sev : Nat) (a : RecArgs) : (d.log code sev a).run = d.run := d.log_same code sev a .run (by decide)
@[simp] theorem Dev.log_nb (code sev : Nat) (a : RecArgs) : (d.log code sev a).nb = d.nb := d.log_same code sev a .nb (by decide)
@[simp] theorem Dev.log_tick (code sev : Nat) (a : RecArgs) : (d.log code sev a).tick = d.tick := d.log_same code sev a .tick (by decide)
@[simp] theorem Dev.log_jobs (code sev : Nat) (a : RecArgs) : (d.log code sev a).jobs = d.jobs := d.log_same code sev a .jobs (by decide)
@[simp] theorem Dev.log_cores (code sev : Nat) (a : RecArgs) : (d.log code sev a).cores = d.cores := d.log_same code sev a .cores (by decide)
@[simp] theorem Dev.log_port (code sev : Nat) (a : RecArgs) : (d.log code sev a).port = d.port := d.log_same code sev a .port (by decide)
@[simp] theorem Dev.log_sight (code sev : Nat) (a : RecArgs) : (d.log code sev a).sight = d.sight := d.log_same code sev a .sight (by decide)
@[simp] theorem Dev.log_bus (code sev : Nat) (a : RecArgs) : (d.log code sev a).bus = d.bus := d.log_same code sev a .bus (by decide)
@[simp] theorem Dev.log_pkg (code sev : Nat) (a : RecArgs) : (d.log code sev a).pkg = d.pkg := d.log_same code sev a .pkg (by decide)
@[simp] theorem Dev.log_ln (code sev : Nat) (a : RecArgs) : (d.log code sev a).ln = d.ln := d.log_same code sev a .ln (by decide)
@[simp] theorem Dev.log_sw (code sev : Nat) (a : RecArgs) : (d.log code sev a).sw = d.sw := d.log_same code sev a .sw (by decide)
@[simp] theorem Dev.log_tally (code sev : Nat) (a : RecArgs) : (d.log code sev a).tally = d.tally := d.log_same code sev a .tally (by decide)
@[simp] theorem Dev.log_trav (code sev : Nat) (a : RecArgs) : (d.log code sev a).trav = d.trav := d.log_same code sev a .trav (by decide)
@[simp] theorem Dev.log_fab (code sev : Nat) (a : RecArgs) : (d.log code sev a).fab = d.fab := d.log_same code sev a .fab (by decide)
@[simp] theorem Dev.log_bnd (code sev : Nat) (a : RecArgs) : (d.log code sev a).bnd = d.bnd := d.log_same code sev a .bnd (by decide)
@[simp] theorem Dev.log_cont (code sev : Nat) (a : RecArgs) : (d.log code sev a).cont = d.cont := d.log_same code sev a .cont (by decide)
@[simp] theorem Dev.log_commits (code sev : Nat) (a : RecArgs) : (d.log code sev a).commits = d.commits := d.log_same code sev a .commits (by decide)

@[simp] theorem Dev.dropped_part (p : CmdPort) (a v sev : Nat) : (d.dropped p a v sev).part = d.part := d.dropped_same p a v sev .part (by decide)
@[simp] theorem Dev.dropped_mode (p : CmdPort) (a v sev : Nat) : (d.dropped p a v sev).mode = d.mode := d.dropped_same p a v sev .mode (by decide)
@[simp] theorem Dev.dropped_plat (p : CmdPort) (a v sev : Nat) : (d.dropped p a v sev).plat = d.plat := d.dropped_same p a v sev .plat (by decide)
@[simp] theorem Dev.dropped_run (p : CmdPort) (a v sev : Nat) : (d.dropped p a v sev).run = d.run := d.dropped_same p a v sev .run (by decide)
@[simp] theorem Dev.dropped_nb (p : CmdPort) (a v sev : Nat) : (d.dropped p a v sev).nb = d.nb := d.dropped_same p a v sev .nb (by decide)
@[simp] theorem Dev.dropped_tick (p : CmdPort) (a v sev : Nat) : (d.dropped p a v sev).tick = d.tick := d.dropped_same p a v sev .tick (by decide)
@[simp] theorem Dev.dropped_jobs (p : CmdPort) (a v sev : Nat) : (d.dropped p a v sev).jobs = d.jobs := d.dropped_same p a v sev .jobs (by decide)
@[simp] theorem Dev.dropped_cores (p : CmdPort) (a v sev : Nat) : (d.dropped p a v sev).cores = d.cores := d.dropped_same p a v sev .cores (by decide)
@[simp] theorem Dev.dropped_port (p : CmdPort) (a v sev : Nat) : (d.dropped p a v sev).port = d.port := d.dropped_same p a v sev .port (by decide)
@[simp] theorem Dev.dropped_sight (p : CmdPort) (a v sev : Nat) : (d.dropped p a v sev).sight = d.sight := d.dropped_same p a v sev .sight (by decide)
@[simp] theorem Dev.dropped_bus (p : CmdPort) (a v sev : Nat) : (d.dropped p a v sev).bus = d.bus := d.dropped_same p a v sev .bus (by decide)
@[simp] theorem Dev.dropped_pkg (p : CmdPort) (a v sev : Nat) : (d.dropped p a v sev).pkg = d.pkg := d.dropped_same p a v sev .pkg (by decide)
@[simp] theorem Dev.dropped_ln (p : CmdPort) (a v sev : Nat) : (d.dropped p a v sev).ln = d.ln := d.dropped_same p a v sev .ln (by decide)
@[simp] theorem Dev.dropped_sw (p : CmdPort) (a v sev : Nat) : (d.dropped p a v sev).sw = d.sw := d.dropped_same p a v sev .sw (by decide)
@[simp] theorem Dev.dropped_tally (p : CmdPort) (a v sev : Nat) : (d.dropped p a v sev).tally = d.tally := d.dropped_same p a v sev .tally (by decide)
@[simp] theorem Dev.dropped_trav (p : CmdPort) (a v sev : Nat) : (d.dropped p a v sev).trav = d.trav := d.dropped_same p a v sev .trav (by decide)
@[simp] theorem Dev.dropped_fab (p : CmdPort) (a v sev : Nat) : (d.dropped p a v sev).fab = d.fab := d.dropped_same p a v sev .fab (by decide)
@[simp] theorem Dev.dropped_bnd (p : CmdPort) (a v sev : Nat) : (d.dropped p a v sev).bnd = d.bnd := d.dropped_same p a v sev .bnd (by decide)
@[simp] theorem Dev.dropped_cont (p : CmdPort) (a v sev : Nat) : (d.dropped p a v sev).cont = d.cont := d.dropped_same p a v sev .cont (by decide)
@[simp] theorem Dev.dropped_commits (p : CmdPort) (a v sev : Nat) : (d.dropped p a v sev).commits = d.commits := d.dropped_same p a v sev .commits (by decide)

@[simp] theorem Dev.dropped64_part (p : CmdPort) (a v sev : Nat) : (d.dropped64 p a v sev).part = d.part := d.dropped64_same p a v sev .part (by decide)
@[simp] theorem Dev.dropped64_mode (p : CmdPort) (a v sev : Nat) : (d.dropped64 p a v sev).mode = d.mode := d.dropped64_same p a v sev .mode (by decide)
@[simp] theorem Dev.dropped64_plat (p : CmdPort) (a v sev : Nat) : (d.dropped64 p a v sev).plat = d.plat := d.dropped64_same p a v sev .plat (by decide)
@[simp] theorem Dev.dropped64_run (p : CmdPort) (a v sev : Nat) : (d.dropped64 p a v sev).run = d.run := d.dropped64_same p a v sev .run (by decide)
@[simp] theorem Dev.dropped64_nb (p : CmdPort) (a v sev : Nat) : (d.dropped64 p a v sev).nb = d.nb := d.dropped64_same p a v sev .nb (by decide)
@[simp] theorem Dev.dropped64_tick (p : CmdPort) (a v sev : Nat) : (d.dropped64 p a v sev).tick = d.tick := d.dropped64_same p a v sev .tick (by decide)
@[simp] theorem Dev.dropped64_jobs (p : CmdPort) (a v sev : Nat) : (d.dropped64 p a v sev).jobs = d.jobs := d.dropped64_same p a v sev .jobs (by decide)
@[simp] theorem Dev.dropped64_cores (p : CmdPort) (a v sev : Nat) : (d.dropped64 p a v sev).cores = d.cores := d.dropped64_same p a v sev .cores (by decide)
@[simp] theorem Dev.dropped64_port (p : CmdPort) (a v sev : Nat) : (d.dropped64 p a v sev).port = d.port := d.dropped64_same p a v sev .port (by decide)
@[simp] theorem Dev.dropped64_sight (p : CmdPort) (a v sev : Nat) : (d.dropped64 p a v sev).sight = d.sight := d.dropped64_same p a v sev .sight (by decide)
@[simp] theorem Dev.dropped64_bus (p : CmdPort) (a v sev : Nat) : (d.dropped64 p a v sev).bus = d.bus := d.dropped64_same p a v sev .bus (by decide)
@[simp] theorem Dev.dropped64_pkg (p : CmdPort) (a v sev : Nat) : (d.dropped64 p a v sev).pkg = d.pkg := d.dropped64_same p a v sev .pkg (by decide)
@[simp] theorem Dev.dropped64_ln (p : CmdPort) (a v sev : Nat) : (d.dropped64 p a v sev).ln = d.ln := d.dropped64_same p a v sev .ln (by decide)
@[simp] theorem Dev.dropped64_sw (p : CmdPort) (a v sev : Nat) : (d.dropped64 p a v sev).sw = d.sw := d.dropped64_same p a v sev .sw (by decide)
@[simp] theorem Dev.dropped64_tally (p : CmdPort) (a v sev : Nat) : (d.dropped64 p a v sev).tally = d.tally := d.dropped64_same p a v sev .tally (by decide)
@[simp] theorem Dev.dropped64_trav (p : CmdPort) (a v sev : Nat) : (d.dropped64 p a v sev).trav = d.trav := d.dropped64_same p a v sev .trav (by decide)
@[simp] theorem Dev.dropped64_fab (p : CmdPort) (a v sev : Nat) : (d.dropped64 p a v sev).fab = d.fab := d.dropped64_same p a v sev .fab (by decide)
@[simp] theorem Dev.dropped64_bnd (p : CmdPort) (a v sev : Nat) : (d.dropped64 p a v sev).bnd = d.bnd := d.dropped64_same p a v sev .bnd (by decide)
@[simp] theorem Dev.dropped64_cont (p : CmdPort) (a v sev : Nat) : (d.dropped64 p a v sev).cont = d.cont := d.dropped64_same p a v sev .cont (by decide)
@[simp] theorem Dev.dropped64_commits (p : CmdPort) (a v sev : Nat) : (d.dropped64 p a v sev).commits = d.commits := d.dropped64_same p a v sev .commits (by decide)

@[simp] theorem Dev.setPort_part (p : CmdPort) (f : PortSt → PortSt) : (d.setPort p f).part = d.part := d.setPort_same p f .part (by decide)
@[simp] theorem Dev.setPort_mode (p : CmdPort) (f : PortSt → PortSt) : (d.setPort p f).mode = d.mode := d.setPort_same p f .mode (by decide)
@[simp] theorem Dev.setPort_plat (p : CmdPort) (f : PortSt → PortSt) : (d.setPort p f).plat = d.plat := d.setPort_same p f .plat (by decide)
@[simp] theorem Dev.setPort_run (p : CmdPort) (f : PortSt → PortSt) : (d.setPort p f).run = d.run := d.setPort_same p f .run (by decide)
@[simp] theorem Dev.setPort_nb (p : CmdPort) (f : PortSt → PortSt) : (d.setPort p f).nb = d.nb := d.setPort_same p f .nb (by decide)
@[simp] theorem Dev.setPort_tick (p : CmdPort) (f : PortSt → PortSt) : (d.setPort p f).tick = d.tick := d.setPort_same p f .tick (by decide)
@[simp] theorem Dev.setPort_jobs (p : CmdPort) (f : PortSt → PortSt) : (d.setPort p f).jobs = d.jobs := d.setPort_same p f .jobs (by decide)
@[simp] theorem Dev.setPort_cores (p : CmdPort) (f : PortSt → PortSt) : (d.setPort p f).cores = d.cores := d.setPort_same p f .cores (by decide)
@[simp] theorem Dev.setPort_sight (p : CmdPort) (f : PortSt → PortSt) : (d.setPort p f).sight = d.sight := d.setPort_same p f .sight (by decide)
@[simp] theorem Dev.setPort_bus (p : CmdPort) (f : PortSt → PortSt) : (d.setPort p f).bus = d.bus := d.setPort_same p f .bus (by decide)
@[simp] theorem Dev.setPort_pkg (p : CmdPort) (f : PortSt → PortSt) : (d.setPort p f).pkg = d.pkg := d.setPort_same p f .pkg (by decide)
@[simp] theorem Dev.setPort_pcie (p : CmdPort) (f : PortSt → PortSt) : (d.setPort p f).pcie = d.pcie := d.setPort_same p f .pcie (by decide)
@[simp] theorem Dev.setPort_ln (p : CmdPort) (f : PortSt → PortSt) : (d.setPort p f).ln = d.ln := d.setPort_same p f .ln (by decide)
@[simp] theorem Dev.setPort_sw (p : CmdPort) (f : PortSt → PortSt) : (d.setPort p f).sw = d.sw := d.setPort_same p f .sw (by decide)
@[simp] theorem Dev.setPort_tally (p : CmdPort) (f : PortSt → PortSt) : (d.setPort p f).tally = d.tally := d.setPort_same p f .tally (by decide)
@[simp] theorem Dev.setPort_trav (p : CmdPort) (f : PortSt → PortSt) : (d.setPort p f).trav = d.trav := d.setPort_same p f .trav (by decide)
@[simp] theorem Dev.setPort_fab (p : CmdPort) (f : PortSt → PortSt) : (d.setPort p f).fab = d.fab := d.setPort_same p f .fab (by decide)
@[simp] theorem Dev.setPort_bnd (p : CmdPort) (f : PortSt → PortSt) : (d.setPort p f).bnd = d.bnd := d.setPort_same p f .bnd (by decide)
@[simp] theorem Dev.setPort_cont (p : CmdPort) (f : PortSt → PortSt) : (d.setPort p f).cont = d.cont := d.setPort_same p f .cont (by decide)
@[simp] theorem Dev.setPort_commits (p : CmdPort) (f : PortSt → PortSt) : (d.setPort p f).commits = d.commits := d.setPort_same p f .commits (by decide)
@[simp] theorem Dev.setPort_cairn (p : CmdPort) (f : PortSt → PortSt) : (d.setPort p f).cairn = d.cairn := d.setPort_same p f .cairn (by decide)
@[simp] theorem Dev.setPort_evt (p : CmdPort) (f : PortSt → PortSt) : (d.setPort p f).evt = d.evt := d.setPort_same p f .evt (by decide)
@[simp] theorem Dev.setPort_cnt (p : CmdPort) (f : PortSt → PortSt) : (d.setPort p f).cnt = d.cnt := d.setPort_same p f .cnt (by decide)

@[simp] theorem Dev.corFault_part (bit source detail sev : Nat) : (d.corFault bit source detail sev).part = d.part := d.corFault_same bit source detail sev .part (by decide)
@[simp] theorem Dev.corFault_mode (bit source detail sev : Nat) : (d.corFault bit source detail sev).mode = d.mode := d.corFault_same bit source detail sev .mode (by decide)
@[simp] theorem Dev.corFault_plat (bit source detail sev : Nat) : (d.corFault bit source detail sev).plat = d.plat := d.corFault_same bit source detail sev .plat (by decide)
@[simp] theorem Dev.corFault_run (bit source detail sev : Nat) : (d.corFault bit source detail sev).run = d.run := d.corFault_same bit source detail sev .run (by decide)
@[simp] theorem Dev.corFault_nb (bit source detail sev : Nat) : (d.corFault bit source detail sev).nb = d.nb := d.corFault_same bit source detail sev .nb (by decide)
@[simp] theorem Dev.corFault_tick (bit source detail sev : Nat) : (d.corFault bit source detail sev).tick = d.tick := d.corFault_same bit source detail sev .tick (by decide)
@[simp] theorem Dev.corFault_jobs (bit source detail sev : Nat) : (d.corFault bit source detail sev).jobs = d.jobs := d.corFault_same bit source detail sev .jobs (by decide)
@[simp] theorem Dev.corFault_cores (bit source detail sev : Nat) : (d.corFault bit source detail sev).cores = d.cores := d.corFault_same bit source detail sev .cores (by decide)
@[simp] theorem Dev.corFault_port (bit source detail sev : Nat) : (d.corFault bit source detail sev).port = d.port := d.corFault_same bit source detail sev .port (by decide)
@[simp] theorem Dev.corFault_sight (bit source detail sev : Nat) : (d.corFault bit source detail sev).sight = d.sight := d.corFault_same bit source detail sev .sight (by decide)
@[simp] theorem Dev.corFault_bus (bit source detail sev : Nat) : (d.corFault bit source detail sev).bus = d.bus := d.corFault_same bit source detail sev .bus (by decide)
@[simp] theorem Dev.corFault_pkg (bit source detail sev : Nat) : (d.corFault bit source detail sev).pkg = d.pkg := d.corFault_same bit source detail sev .pkg (by decide)
@[simp] theorem Dev.corFault_ln (bit source detail sev : Nat) : (d.corFault bit source detail sev).ln = d.ln := d.corFault_same bit source detail sev .ln (by decide)
@[simp] theorem Dev.corFault_sw (bit source detail sev : Nat) : (d.corFault bit source detail sev).sw = d.sw := d.corFault_same bit source detail sev .sw (by decide)
@[simp] theorem Dev.corFault_tally (bit source detail sev : Nat) : (d.corFault bit source detail sev).tally = d.tally := d.corFault_same bit source detail sev .tally (by decide)
@[simp] theorem Dev.corFault_trav (bit source detail sev : Nat) : (d.corFault bit source detail sev).trav = d.trav := d.corFault_same bit source detail sev .trav (by decide)
@[simp] theorem Dev.corFault_fab (bit source detail sev : Nat) : (d.corFault bit source detail sev).fab = d.fab := d.corFault_same bit source detail sev .fab (by decide)
@[simp] theorem Dev.corFault_bnd (bit source detail sev : Nat) : (d.corFault bit source detail sev).bnd = d.bnd := d.corFault_same bit source detail sev .bnd (by decide)
@[simp] theorem Dev.corFault_commits (bit source detail sev : Nat) : (d.corFault bit source detail sev).commits = d.commits := d.corFault_same bit source detail sev .commits (by decide)

@[simp] theorem Dev.uncFault_part (bit source stop kind id detail sev : Nat) : (d.uncFault bit source stop kind id detail sev).part = d.part := d.uncFault_same bit source stop kind id detail sev .part (by decide)
@[simp] theorem Dev.uncFault_mode (bit source stop kind id detail sev : Nat) : (d.uncFault bit source stop kind id detail sev).mode = d.mode := d.uncFault_same bit source stop kind id detail sev .mode (by decide)
@[simp] theorem Dev.uncFault_plat (bit source stop kind id detail sev : Nat) : (d.uncFault bit source stop kind id detail sev).plat = d.plat := d.uncFault_same bit source stop kind id detail sev .plat (by decide)
@[simp] theorem Dev.uncFault_run (bit source stop kind id detail sev : Nat) : (d.uncFault bit source stop kind id detail sev).run = d.run := d.uncFault_same bit source stop kind id detail sev .run (by decide)
@[simp] theorem Dev.uncFault_nb (bit source stop kind id detail sev : Nat) : (d.uncFault bit source stop kind id detail sev).nb = d.nb := d.uncFault_same bit source stop kind id detail sev .nb (by decide)
@[simp] theorem Dev.uncFault_tick (bit source stop kind id detail sev : Nat) : (d.uncFault bit source stop kind id detail sev).tick = d.tick := d.uncFault_same bit source stop kind id detail sev .tick (by decide)
@[simp] theorem Dev.uncFault_jobs (bit source stop kind id detail sev : Nat) : (d.uncFault bit source stop kind id detail sev).jobs = d.jobs := d.uncFault_same bit source stop kind id detail sev .jobs (by decide)
@[simp] theorem Dev.uncFault_cores (bit source stop kind id detail sev : Nat) : (d.uncFault bit source stop kind id detail sev).cores = d.cores := d.uncFault_same bit source stop kind id detail sev .cores (by decide)
@[simp] theorem Dev.uncFault_port (bit source stop kind id detail sev : Nat) : (d.uncFault bit source stop kind id detail sev).port = d.port := d.uncFault_same bit source stop kind id detail sev .port (by decide)
@[simp] theorem Dev.uncFault_sight (bit source stop kind id detail sev : Nat) : (d.uncFault bit source stop kind id detail sev).sight = d.sight := d.uncFault_same bit source stop kind id detail sev .sight (by decide)
@[simp] theorem Dev.uncFault_bus (bit source stop kind id detail sev : Nat) : (d.uncFault bit source stop kind id detail sev).bus = d.bus := d.uncFault_same bit source stop kind id detail sev .bus (by decide)
@[simp] theorem Dev.uncFault_pkg (bit source stop kind id detail sev : Nat) : (d.uncFault bit source stop kind id detail sev).pkg = d.pkg := d.uncFault_same bit source stop kind id detail sev .pkg (by decide)
@[simp] theorem Dev.uncFault_sw (bit source stop kind id detail sev : Nat) : (d.uncFault bit source stop kind id detail sev).sw = d.sw := d.uncFault_same bit source stop kind id detail sev .sw (by decide)
@[simp] theorem Dev.uncFault_tally (bit source stop kind id detail sev : Nat) : (d.uncFault bit source stop kind id detail sev).tally = d.tally := d.uncFault_same bit source stop kind id detail sev .tally (by decide)
@[simp] theorem Dev.uncFault_trav (bit source stop kind id detail sev : Nat) : (d.uncFault bit source stop kind id detail sev).trav = d.trav := d.uncFault_same bit source stop kind id detail sev .trav (by decide)
@[simp] theorem Dev.uncFault_fab (bit source stop kind id detail sev : Nat) : (d.uncFault bit source stop kind id detail sev).fab = d.fab := d.uncFault_same bit source stop kind id detail sev .fab (by decide)
@[simp] theorem Dev.uncFault_bnd (bit source stop kind id detail sev : Nat) : (d.uncFault bit source stop kind id detail sev).bnd = d.bnd := d.uncFault_same bit source stop kind id detail sev .bnd (by decide)
@[simp] theorem Dev.uncFault_commits (bit source stop kind id detail sev : Nat) : (d.uncFault bit source stop kind id detail sev).commits = d.commits := d.uncFault_same bit source stop kind id detail sev .commits (by decide)

@[simp] theorem Dev.releaseSlot_part (k : Nat) : (d.releaseSlot k).part = d.part := d.releaseSlot_same k .part (by decide)
@[simp] theorem Dev.releaseSlot_mode (k : Nat) : (d.releaseSlot k).mode = d.mode := d.releaseSlot_same k .mode (by decide)
@[simp] theorem Dev.releaseSlot_plat (k : Nat) : (d.releaseSlot k).plat = d.plat := d.releaseSlot_same k .plat (by decide)
@[simp] theorem Dev.releaseSlot_run (k : Nat) : (d.releaseSlot k).run = d.run := d.releaseSlot_same k .run (by decide)
@[simp] theorem Dev.releaseSlot_nb (k : Nat) : (d.releaseSlot k).nb = d.nb := d.releaseSlot_same k .nb (by decide)
@[simp] theorem Dev.releaseSlot_tick (k : Nat) : (d.releaseSlot k).tick = d.tick := d.releaseSlot_same k .tick (by decide)
@[simp] theorem Dev.releaseSlot_cores (k : Nat) : (d.releaseSlot k).cores = d.cores := d.releaseSlot_same k .cores (by decide)
@[simp] theorem Dev.releaseSlot_port (k : Nat) : (d.releaseSlot k).port = d.port := d.releaseSlot_same k .port (by decide)
@[simp] theorem Dev.releaseSlot_sight (k : Nat) : (d.releaseSlot k).sight = d.sight := d.releaseSlot_same k .sight (by decide)
@[simp] theorem Dev.releaseSlot_bus (k : Nat) : (d.releaseSlot k).bus = d.bus := d.releaseSlot_same k .bus (by decide)
@[simp] theorem Dev.releaseSlot_pkg (k : Nat) : (d.releaseSlot k).pkg = d.pkg := d.releaseSlot_same k .pkg (by decide)
@[simp] theorem Dev.releaseSlot_pcie (k : Nat) : (d.releaseSlot k).pcie = d.pcie := d.releaseSlot_same k .pcie (by decide)
@[simp] theorem Dev.releaseSlot_ln (k : Nat) : (d.releaseSlot k).ln = d.ln := d.releaseSlot_same k .ln (by decide)
@[simp] theorem Dev.releaseSlot_sw (k : Nat) : (d.releaseSlot k).sw = d.sw := d.releaseSlot_same k .sw (by decide)
@[simp] theorem Dev.releaseSlot_tally (k : Nat) : (d.releaseSlot k).tally = d.tally := d.releaseSlot_same k .tally (by decide)
@[simp] theorem Dev.releaseSlot_trav (k : Nat) : (d.releaseSlot k).trav = d.trav := d.releaseSlot_same k .trav (by decide)
@[simp] theorem Dev.releaseSlot_fab (k : Nat) : (d.releaseSlot k).fab = d.fab := d.releaseSlot_same k .fab (by decide)
@[simp] theorem Dev.releaseSlot_bnd (k : Nat) : (d.releaseSlot k).bnd = d.bnd := d.releaseSlot_same k .bnd (by decide)
@[simp] theorem Dev.releaseSlot_cont (k : Nat) : (d.releaseSlot k).cont = d.cont := d.releaseSlot_same k .cont (by decide)
@[simp] theorem Dev.releaseSlot_commits (k : Nat) : (d.releaseSlot k).commits = d.commits := d.releaseSlot_same k .commits (by decide)
@[simp] theorem Dev.releaseSlot_cairn (k : Nat) : (d.releaseSlot k).cairn = d.cairn := d.releaseSlot_same k .cairn (by decide)
@[simp] theorem Dev.releaseSlot_evt (k : Nat) : (d.releaseSlot k).evt = d.evt := d.releaseSlot_same k .evt (by decide)
@[simp] theorem Dev.releaseSlot_cnt (k : Nat) : (d.releaseSlot k).cnt = d.cnt := d.releaseSlot_same k .cnt (by decide)

@[simp] theorem Dev.putJob_part (k : Nat) (j : Job) : (d.putJob k j).part = d.part := d.putJob_same k j .part (by decide)
@[simp] theorem Dev.putJob_mode (k : Nat) (j : Job) : (d.putJob k j).mode = d.mode := d.putJob_same k j .mode (by decide)
@[simp] theorem Dev.putJob_plat (k : Nat) (j : Job) : (d.putJob k j).plat = d.plat := d.putJob_same k j .plat (by decide)
@[simp] theorem Dev.putJob_run (k : Nat) (j : Job) : (d.putJob k j).run = d.run := d.putJob_same k j .run (by decide)
@[simp] theorem Dev.putJob_nb (k : Nat) (j : Job) : (d.putJob k j).nb = d.nb := d.putJob_same k j .nb (by decide)
@[simp] theorem Dev.putJob_tick (k : Nat) (j : Job) : (d.putJob k j).tick = d.tick := d.putJob_same k j .tick (by decide)
@[simp] theorem Dev.putJob_cores (k : Nat) (j : Job) : (d.putJob k j).cores = d.cores := d.putJob_same k j .cores (by decide)
@[simp] theorem Dev.putJob_port (k : Nat) (j : Job) : (d.putJob k j).port = d.port := d.putJob_same k j .port (by decide)
@[simp] theorem Dev.putJob_sight (k : Nat) (j : Job) : (d.putJob k j).sight = d.sight := d.putJob_same k j .sight (by decide)
@[simp] theorem Dev.putJob_bus (k : Nat) (j : Job) : (d.putJob k j).bus = d.bus := d.putJob_same k j .bus (by decide)
@[simp] theorem Dev.putJob_pkg (k : Nat) (j : Job) : (d.putJob k j).pkg = d.pkg := d.putJob_same k j .pkg (by decide)
@[simp] theorem Dev.putJob_pcie (k : Nat) (j : Job) : (d.putJob k j).pcie = d.pcie := d.putJob_same k j .pcie (by decide)
@[simp] theorem Dev.putJob_ln (k : Nat) (j : Job) : (d.putJob k j).ln = d.ln := d.putJob_same k j .ln (by decide)
@[simp] theorem Dev.putJob_sw (k : Nat) (j : Job) : (d.putJob k j).sw = d.sw := d.putJob_same k j .sw (by decide)
@[simp] theorem Dev.putJob_tally (k : Nat) (j : Job) : (d.putJob k j).tally = d.tally := d.putJob_same k j .tally (by decide)
@[simp] theorem Dev.putJob_trav (k : Nat) (j : Job) : (d.putJob k j).trav = d.trav := d.putJob_same k j .trav (by decide)
@[simp] theorem Dev.putJob_fab (k : Nat) (j : Job) : (d.putJob k j).fab = d.fab := d.putJob_same k j .fab (by decide)
@[simp] theorem Dev.putJob_bnd (k : Nat) (j : Job) : (d.putJob k j).bnd = d.bnd := d.putJob_same k j .bnd (by decide)
@[simp] theorem Dev.putJob_cont (k : Nat) (j : Job) : (d.putJob k j).cont = d.cont := d.putJob_same k j .cont (by decide)
@[simp] theorem Dev.putJob_commits (k : Nat) (j : Job) : (d.putJob k j).commits = d.commits := d.putJob_same k j .commits (by decide)
@[simp] theorem Dev.putJob_cairn (k : Nat) (j : Job) : (d.putJob k j).cairn = d.cairn := d.putJob_same k j .cairn (by decide)
@[simp] theorem Dev.putJob_evt (k : Nat) (j : Job) : (d.putJob k j).evt = d.evt := d.putJob_same k j .evt (by decide)
@[simp] theorem Dev.putJob_cnt (k : Nat) (j : Job) : (d.putJob k j).cnt = d.cnt := d.putJob_same k j .cnt (by decide)

@[simp] theorem Dev.setJob_part (k : Nat) (f : Job → Job) : (d.setJob k f).part = d.part := d.setJob_same k f .part (by decide)
@[simp] theorem Dev.setJob_mode (k : Nat) (f : Job → Job) : (d.setJob k f).mode = d.mode := d.setJob_same k f .mode (by decide)
@[simp] theorem Dev.setJob_plat (k : Nat) (f : Job → Job) : (d.setJob k f).plat = d.plat := d.setJob_same k f .plat (by decide)
@[simp] theorem Dev.setJob_run (k : Nat) (f : Job → Job) : (d.setJob k f).run = d.run := d.setJob_same k f .run (by decide)
@[simp] theorem Dev.setJob_nb (k : Nat) (f : Job → Job) : (d.setJob k f).nb = d.nb := d.setJob_same k f .nb (by decide)
@[simp] theorem Dev.setJob_tick (k : Nat) (f : Job → Job) : (d.setJob k f).tick = d.tick := d.setJob_same k f .tick (by decide)
@[simp] theorem Dev.setJob_cores (k : Nat) (f : Job → Job) : (d.setJob k f).cores = d.cores := d.setJob_same k f .cores (by decide)
@[simp] theorem Dev.setJob_port (k : Nat) (f : Job → Job) : (d.setJob k f).port = d.port := d.setJob_same k f .port (by decide)
@[simp] theorem Dev.setJob_sight (k : Nat) (f : Job → Job) : (d.setJob k f).sight = d.sight := d.setJob_same k f .sight (by decide)
@[simp] theorem Dev.setJob_bus (k : Nat) (f : Job → Job) : (d.setJob k f).bus = d.bus := d.setJob_same k f .bus (by decide)
@[simp] theorem Dev.setJob_pkg (k : Nat) (f : Job → Job) : (d.setJob k f).pkg = d.pkg := d.setJob_same k f .pkg (by decide)
@[simp] theorem Dev.setJob_pcie (k : Nat) (f : Job → Job) : (d.setJob k f).pcie = d.pcie := d.setJob_same k f .pcie (by decide)
@[simp] theorem Dev.setJob_ln (k : Nat) (f : Job → Job) : (d.setJob k f).ln = d.ln := d.setJob_same k f .ln (by decide)
@[simp] theorem Dev.setJob_sw (k : Nat) (f : Job → Job) : (d.setJob k f).sw = d.sw := d.setJob_same k f .sw (by decide)
@[simp] theorem Dev.setJob_tally (k : Nat) (f : Job → Job) : (d.setJob k f).tally = d.tally := d.setJob_same k f .tally (by decide)
@[simp] theorem Dev.setJob_trav (k : Nat) (f : Job → Job) : (d.setJob k f).trav = d.trav := d.setJob_same k f .trav (by decide)
@[simp] theorem Dev.setJob_fab (k : Nat) (f : Job → Job) : (d.setJob k f).fab = d.fab := d.setJob_same k f .fab (by decide)
@[simp] theorem Dev.setJob_bnd (k : Nat) (f : Job → Job) : (d.setJob k f).bnd = d.bnd := d.setJob_same k f .bnd (by decide)
@[simp] theorem Dev.setJob_cont (k : Nat) (f : Job → Job) : (d.setJob k f).cont = d.cont := d.setJob_same k f .cont (by decide)
@[simp] theorem Dev.setJob_commits (k : Nat) (f : Job → Job) : (d.setJob k f).commits = d.commits := d.setJob_same k f .commits (by decide)
@[simp] theorem Dev.setJob_cairn (k : Nat) (f : Job → Job) : (d.setJob k f).cairn = d.cairn := d.setJob_same k f .cairn (by decide)
@[simp] theorem Dev.setJob_evt (k : Nat) (f : Job → Job) : (d.setJob k f).evt = d.evt := d.setJob_same k f .evt (by decide)
@[simp] theorem Dev.setJob_cnt (k : Nat) (f : Job → Job) : (d.setJob k f).cnt = d.cnt := d.setJob_same k f .cnt (by decide)

@[simp] theorem Dev.endJob_part (k : Nat) (st : JobState) (result detail : Nat) : (d.endJob k st result detail).part = d.part := d.endJob_same k st result detail .part (by decide)
@[simp] theorem Dev.endJob_mode (k : Nat) (st : JobState) (result detail : Nat) : (d.endJob k st result detail).mode = d.mode := d.endJob_same k st result detail .mode (by decide)
@[simp] theorem Dev.endJob_plat (k : Nat) (st : JobState) (result detail : Nat) : (d.endJob k st result detail).plat = d.plat := d.endJob_same k st result detail .plat (by decide)
@[simp] theorem Dev.endJob_run (k : Nat) (st : JobState) (result detail : Nat) : (d.endJob k st result detail).run = d.run := d.endJob_same k st result detail .run (by decide)
@[simp] theorem Dev.endJob_nb (k : Nat) (st : JobState) (result detail : Nat) : (d.endJob k st result detail).nb = d.nb := d.endJob_same k st result detail .nb (by decide)
@[simp] theorem Dev.endJob_tick (k : Nat) (st : JobState) (result detail : Nat) : (d.endJob k st result detail).tick = d.tick := d.endJob_same k st result detail .tick (by decide)
@[simp] theorem Dev.endJob_cores (k : Nat) (st : JobState) (result detail : Nat) : (d.endJob k st result detail).cores = d.cores := d.endJob_same k st result detail .cores (by decide)
@[simp] theorem Dev.endJob_port (k : Nat) (st : JobState) (result detail : Nat) : (d.endJob k st result detail).port = d.port := d.endJob_same k st result detail .port (by decide)
@[simp] theorem Dev.endJob_sight (k : Nat) (st : JobState) (result detail : Nat) : (d.endJob k st result detail).sight = d.sight := d.endJob_same k st result detail .sight (by decide)
@[simp] theorem Dev.endJob_bus (k : Nat) (st : JobState) (result detail : Nat) : (d.endJob k st result detail).bus = d.bus := d.endJob_same k st result detail .bus (by decide)
@[simp] theorem Dev.endJob_pkg (k : Nat) (st : JobState) (result detail : Nat) : (d.endJob k st result detail).pkg = d.pkg := d.endJob_same k st result detail .pkg (by decide)
@[simp] theorem Dev.endJob_ln (k : Nat) (st : JobState) (result detail : Nat) : (d.endJob k st result detail).ln = d.ln := d.endJob_same k st result detail .ln (by decide)
@[simp] theorem Dev.endJob_sw (k : Nat) (st : JobState) (result detail : Nat) : (d.endJob k st result detail).sw = d.sw := d.endJob_same k st result detail .sw (by decide)
@[simp] theorem Dev.endJob_tally (k : Nat) (st : JobState) (result detail : Nat) : (d.endJob k st result detail).tally = d.tally := d.endJob_same k st result detail .tally (by decide)
@[simp] theorem Dev.endJob_trav (k : Nat) (st : JobState) (result detail : Nat) : (d.endJob k st result detail).trav = d.trav := d.endJob_same k st result detail .trav (by decide)
@[simp] theorem Dev.endJob_fab (k : Nat) (st : JobState) (result detail : Nat) : (d.endJob k st result detail).fab = d.fab := d.endJob_same k st result detail .fab (by decide)
@[simp] theorem Dev.endJob_bnd (k : Nat) (st : JobState) (result detail : Nat) : (d.endJob k st result detail).bnd = d.bnd := d.endJob_same k st result detail .bnd (by decide)
@[simp] theorem Dev.endJob_cont (k : Nat) (st : JobState) (result detail : Nat) : (d.endJob k st result detail).cont = d.cont := d.endJob_same k st result detail .cont (by decide)
@[simp] theorem Dev.endJob_commits (k : Nat) (st : JobState) (result detail : Nat) : (d.endJob k st result detail).commits = d.commits := d.endJob_same k st result detail .commits (by decide)

@[simp] theorem Dev.setLink_part (p : Nat) (f : Link → Link) : (d.setLink p f).part = d.part := d.setLink_same p f .part (by decide)
@[simp] theorem Dev.setLink_mode (p : Nat) (f : Link → Link) : (d.setLink p f).mode = d.mode := d.setLink_same p f .mode (by decide)
@[simp] theorem Dev.setLink_plat (p : Nat) (f : Link → Link) : (d.setLink p f).plat = d.plat := d.setLink_same p f .plat (by decide)
@[simp] theorem Dev.setLink_run (p : Nat) (f : Link → Link) : (d.setLink p f).run = d.run := d.setLink_same p f .run (by decide)
@[simp] theorem Dev.setLink_nb (p : Nat) (f : Link → Link) : (d.setLink p f).nb = d.nb := d.setLink_same p f .nb (by decide)
@[simp] theorem Dev.setLink_tick (p : Nat) (f : Link → Link) : (d.setLink p f).tick = d.tick := d.setLink_same p f .tick (by decide)
@[simp] theorem Dev.setLink_jobs (p : Nat) (f : Link → Link) : (d.setLink p f).jobs = d.jobs := d.setLink_same p f .jobs (by decide)
@[simp] theorem Dev.setLink_cores (p : Nat) (f : Link → Link) : (d.setLink p f).cores = d.cores := d.setLink_same p f .cores (by decide)
@[simp] theorem Dev.setLink_port (p : Nat) (f : Link → Link) : (d.setLink p f).port = d.port := d.setLink_same p f .port (by decide)
@[simp] theorem Dev.setLink_sight (p : Nat) (f : Link → Link) : (d.setLink p f).sight = d.sight := d.setLink_same p f .sight (by decide)
@[simp] theorem Dev.setLink_bus (p : Nat) (f : Link → Link) : (d.setLink p f).bus = d.bus := d.setLink_same p f .bus (by decide)
@[simp] theorem Dev.setLink_pkg (p : Nat) (f : Link → Link) : (d.setLink p f).pkg = d.pkg := d.setLink_same p f .pkg (by decide)
@[simp] theorem Dev.setLink_pcie (p : Nat) (f : Link → Link) : (d.setLink p f).pcie = d.pcie := d.setLink_same p f .pcie (by decide)
@[simp] theorem Dev.setLink_sw (p : Nat) (f : Link → Link) : (d.setLink p f).sw = d.sw := d.setLink_same p f .sw (by decide)
@[simp] theorem Dev.setLink_tally (p : Nat) (f : Link → Link) : (d.setLink p f).tally = d.tally := d.setLink_same p f .tally (by decide)
@[simp] theorem Dev.setLink_trav (p : Nat) (f : Link → Link) : (d.setLink p f).trav = d.trav := d.setLink_same p f .trav (by decide)
@[simp] theorem Dev.setLink_fab (p : Nat) (f : Link → Link) : (d.setLink p f).fab = d.fab := d.setLink_same p f .fab (by decide)
@[simp] theorem Dev.setLink_bnd (p : Nat) (f : Link → Link) : (d.setLink p f).bnd = d.bnd := d.setLink_same p f .bnd (by decide)
@[simp] theorem Dev.setLink_cont (p : Nat) (f : Link → Link) : (d.setLink p f).cont = d.cont := d.setLink_same p f .cont (by decide)
@[simp] theorem Dev.setLink_commits (p : Nat) (f : Link → Link) : (d.setLink p f).commits = d.commits := d.setLink_same p f .commits (by decide)
@[simp] theorem Dev.setLink_cairn (p : Nat) (f : Link → Link) : (d.setLink p f).cairn = d.cairn := d.setLink_same p f .cairn (by decide)
@[simp] theorem Dev.setLink_evt (p : Nat) (f : Link → Link) : (d.setLink p f).evt = d.evt := d.setLink_same p f .evt (by decide)
@[simp] theorem Dev.setLink_cnt (p : Nat) (f : Link → Link) : (d.setLink p f).cnt = d.cnt := d.setLink_same p f .cnt (by decide)

@[simp] theorem Dev.setPport_part (p : Nat) (f : PciePort → PciePort) : (d.setPport p f).part = d.part := d.setPport_same p f .part (by decide)
@[simp] theorem Dev.setPport_mode (p : Nat) (f : PciePort → PciePort) : (d.setPport p f).mode = d.mode := d.setPport_same p f .mode (by decide)
@[simp] theorem Dev.setPport_plat (p : Nat) (f : PciePort → PciePort) : (d.setPport p f).plat = d.plat := d.setPport_same p f .plat (by decide)
@[simp] theorem Dev.setPport_run (p : Nat) (f : PciePort → PciePort) : (d.setPport p f).run = d.run := d.setPport_same p f .run (by decide)
@[simp] theorem Dev.setPport_nb (p : Nat) (f : PciePort → PciePort) : (d.setPport p f).nb = d.nb := d.setPport_same p f .nb (by decide)
@[simp] theorem Dev.setPport_tick (p : Nat) (f : PciePort → PciePort) : (d.setPport p f).tick = d.tick := d.setPport_same p f .tick (by decide)
@[simp] theorem Dev.setPport_jobs (p : Nat) (f : PciePort → PciePort) : (d.setPport p f).jobs = d.jobs := d.setPport_same p f .jobs (by decide)
@[simp] theorem Dev.setPport_cores (p : Nat) (f : PciePort → PciePort) : (d.setPport p f).cores = d.cores := d.setPport_same p f .cores (by decide)
@[simp] theorem Dev.setPport_port (p : Nat) (f : PciePort → PciePort) : (d.setPport p f).port = d.port := d.setPport_same p f .port (by decide)
@[simp] theorem Dev.setPport_sight (p : Nat) (f : PciePort → PciePort) : (d.setPport p f).sight = d.sight := d.setPport_same p f .sight (by decide)
@[simp] theorem Dev.setPport_bus (p : Nat) (f : PciePort → PciePort) : (d.setPport p f).bus = d.bus := d.setPport_same p f .bus (by decide)
@[simp] theorem Dev.setPport_pkg (p : Nat) (f : PciePort → PciePort) : (d.setPport p f).pkg = d.pkg := d.setPport_same p f .pkg (by decide)
@[simp] theorem Dev.setPport_ln (p : Nat) (f : PciePort → PciePort) : (d.setPport p f).ln = d.ln := d.setPport_same p f .ln (by decide)
@[simp] theorem Dev.setPport_sw (p : Nat) (f : PciePort → PciePort) : (d.setPport p f).sw = d.sw := d.setPport_same p f .sw (by decide)
@[simp] theorem Dev.setPport_tally (p : Nat) (f : PciePort → PciePort) : (d.setPport p f).tally = d.tally := d.setPport_same p f .tally (by decide)
@[simp] theorem Dev.setPport_trav (p : Nat) (f : PciePort → PciePort) : (d.setPport p f).trav = d.trav := d.setPport_same p f .trav (by decide)
@[simp] theorem Dev.setPport_fab (p : Nat) (f : PciePort → PciePort) : (d.setPport p f).fab = d.fab := d.setPport_same p f .fab (by decide)
@[simp] theorem Dev.setPport_bnd (p : Nat) (f : PciePort → PciePort) : (d.setPport p f).bnd = d.bnd := d.setPport_same p f .bnd (by decide)
@[simp] theorem Dev.setPport_cont (p : Nat) (f : PciePort → PciePort) : (d.setPport p f).cont = d.cont := d.setPport_same p f .cont (by decide)
@[simp] theorem Dev.setPport_commits (p : Nat) (f : PciePort → PciePort) : (d.setPport p f).commits = d.commits := d.setPport_same p f .commits (by decide)
@[simp] theorem Dev.setPport_cairn (p : Nat) (f : PciePort → PciePort) : (d.setPport p f).cairn = d.cairn := d.setPport_same p f .cairn (by decide)
@[simp] theorem Dev.setPport_evt (p : Nat) (f : PciePort → PciePort) : (d.setPport p f).evt = d.evt := d.setPport_same p f .evt (by decide)
@[simp] theorem Dev.setPport_cnt (p : Nat) (f : PciePort → PciePort) : (d.setPport p f).cnt = d.cnt := d.setPport_same p f .cnt (by decide)

end Sys2Proof.Machine
end

