-- ==== Sys2Proof/Laws/Access.lean ====
section
/-! SUPPORT. Register accesses: what a write or a read that passes every check does, and the frame of the counting that
each access brings. -/

namespace Sys2Proof.Machine

theorem Dev.countAccess_same (d : Dev) (p : CmdPort) (r : Reach) : SameBut accessBlocks d (d.countAccess p r) := by
  cases r <;> first
    | exact SameBut.refl _ d
    | exact d.countMgmt_same _ _ _

theorem Dev.countAccess_ok (d : Dev) (p : CmdPort) : d.countAccess p .ok = d.countMgmt 0x74 p.code 1 := rfl

/-- A refused access writes its record, or counts a timeout. -/
theorem Dev.refuse_same (d : Dev) (p : CmdPort) (r : Reach) : SameBut (.bus :: recordBlocks) d (d.refuse p r) := by
  cases r <;> first
    | exact SameBut.refl _ d
    | exact (Dev.log_same _ _ _ _).mono (by simp)
    | exact fun b hb => by cases b <;> simp_all [Block.same, Dev.refuse]

/-- A 4-byte write that passes every check writes the register, after the count of the access. -/
theorem Dev.write4_ok {d : Dev} {p : CmdPort} {a v : Nat} (h : WritePasses d p a v)
    (hw : ((d.regAttr p a).form == .wide) = false) :
    d.write4 p a v = (d.countMgmt 0x74 p.code 1).regWrite p a (v % 2 ^ 32) := by
  obtain ⟨h1, h2⟩ := h
  simp only [beq_eq_false_iff_ne, ne_eq] at hw
  simp [Dev.write4, Dev.busWrite, h1, h2, hw, Dev.countAccess]

/-- A 4-byte write to a locked register writes the LOCKED_WRITE record alone (R74). -/
theorem Dev.write4_locked {d : Dev} {p : CmdPort} {a v : Nat} (h : d.reach p a 4 true (some v) = .ok)
    (hl : d.regLocked (d.regAttr p a) = true) :
    d.write4 p a v = (d.countMgmt 0x74 p.code 1).lockedWrite p := by
  simp [Dev.write4, Dev.busWrite, h, hl, Dev.countAccess]

/-- A 4-byte read that passes every check returns the register's value to its port. -/
theorem Dev.readOut_ok {d : Dev} {p : CmdPort} {a : Nat} (h : ReadPasses d p a) :
    d.readOut p a 4 = ((d.countMgmt 0x74 p.code 1).wordRead p a (d.regAttr p a)).1.emit
      (.readData p.key ((d.countMgmt 0x74 p.code 1).wordRead p a (d.regAttr p a)).2) := by
  have h0 : d.reach p a 4 true none = .ok := h
  simp [Dev.readOut, Dev.busRead, h0, Dev.countAccess]

/-- `Gives` of a command whose meaning is a change of the device. -/
theorem Gives.of_onDev {c : Instr} {s : State} {f : Dev → Dev} {P : Dev → Prop} (hc : exec c s = .next (s.onDev f))
    (hp : P (f s.dev)) : Gives c s P := ⟨f s.dev, hc, hp⟩

end Sys2Proof.Machine
end

