-- ==== Sys2Proof/Laws/Eqs.lean ====
section
/-! SUPPORT. The shared operations as updates of a few fields: the time and the free values do not move, and the rest of
the device is literally the same, so that a function that reads none of the fields gives the same value by unfolding. -/

namespace Sys2Proof.Machine

/-- Same time and same count of free values. -/
def SameClock (d e : Dev) : Prop := e.now = d.now ∧ e.freeCtr = d.freeCtr

theorem SameClock.refl (d : Dev) : SameClock d d := ⟨rfl, rfl⟩
theorem SameClock.trans {d e f : Dev} (h : SameClock d e) (k : SameClock e f) : SameClock d f :=
  ⟨k.1.trans h.1, k.2.trans h.2⟩
theorem SameClock.ite {d e f : Dev} {c : Prop} [Decidable c] (h : SameClock d e) (k : SameClock d f) :
    SameClock d (if c then e else f) := by
  split
  · exact h
  · exact k
theorem SameClock.foldl {α : Type} (f : Dev → α → Dev) (h : ∀ d x, SameClock d (f d x)) (l : List α) (d : Dev) :
    SameClock d (l.foldl f d) := by
  induction l generalizing d with
  | nil => exact SameClock.refl d
  | cons x l ih => exact (h d x).trans (ih (f d x))

theorem Dev.msixSend_clock (d : Dev) (fn vec : Nat) : SameClock d (d.msixSend fn vec) := by
  unfold Dev.msixSend
  exact SameClock.ite ⟨rfl, rfl⟩ ⟨rfl, rfl⟩

theorem Dev.signalVector_clock (d : Dev) (q vec : Nat) : SameClock d (d.signalVector q vec) := by
  unfold Dev.signalVector
  exact SameClock.ite ⟨rfl, rfl⟩ (SameClock.ite ⟨rfl, rfl⟩ (SameClock.trans (e := { d with evt.vecSent := _ }) ⟨rfl, rfl⟩ (Dev.msixSend_clock _ _ _)))

theorem Dev.signalAlarm_clock (d : Dev) (k : Nat) : SameClock d (d.signalAlarm k) := by
  unfold Dev.signalAlarm
  exact SameClock.ite ⟨rfl, rfl⟩ ⟨rfl, rfl⟩

theorem Dev.fire_clock (d : Dev) (k : Nat) : SameClock d (d.fire k) := by
  unfold Dev.fire
  have h : SameClock d { d with evt := d.evt.set k } := ⟨rfl, rfl⟩
  refine SameClock.ite (SameClock.ite ?_ ?_) (SameClock.refl d)
  · exact (SameClock.ite (h.trans (Dev.signalVector_clock _ _ _)) h).trans (Dev.signalAlarm_clock _ k)
  · exact SameClock.ite (h.trans (Dev.signalVector_clock _ _ _)) h

theorem Dev.cntAny_clock (d : Dev) (c : CounterSt) : SameClock d { d with cnt := c } := ⟨rfl, rfl⟩

theorem Dev.setOvf_clock (d : Dev) (k : Nat) : SameClock d (d.setOvf k) := by
  unfold Dev.setOvf
  exact SameClock.ite (d.cntAny_clock _) ((d.cntAny_clock _).trans ((Dev.cntAny_clock _ _).trans (Dev.fire_clock _ _)))

theorem Dev.cntWrap_clock (d : Dev) (k : Nat) : SameClock d (d.cntWrap k) := by
  unfold Dev.cntWrap
  exact SameClock.ite (SameClock.ite (SameClock.ite ((d.cntAny_clock _).trans (Dev.setOvf_clock _ _)) (d.cntAny_clock _))
    (SameClock.refl d)) (Dev.setOvf_clock d k)

theorem Dev.cntBump_clock (d : Dev) (k v : Nat) : SameClock d (d.cntBump k v) := by
  unfold Dev.cntBump
  exact SameClock.ite (SameClock.refl d)
    (SameClock.ite ((d.cntAny_clock _).trans (Dev.cntWrap_clock _ k)) (d.cntAny_clock _))

theorem Dev.count_clock (d : Dev) (lo hi ev : Nat) (f : Nat → Nat) : SameClock d (d.count lo hi ev f) :=
  SameClock.foldl (fun (e : Dev) (kc : Nat × Cnt) => e.cntBump kc.1 (f kc.2.qual)) (fun e kc => e.cntBump_clock kc.1 _) _ d

theorem Dev.countMgmt_clock (d : Dev) (ev n v : Nat) : SameClock d (d.countMgmt ev n v) := d.count_clock _ _ _ _

theorem Dev.enqueue_clock (d : Dev) (r : CairnRec) : SameClock d (d.enqueue r) := by
  unfold Dev.enqueue
  exact SameClock.ite (SameClock.trans (e := { d with cairn := _ }) ⟨rfl, rfl⟩ (Dev.countMgmt_clock _ _ _ _))
    (SameClock.ite ⟨rfl, rfl⟩ (SameClock.trans (e := { d with cairn := _ }) ⟨rfl, rfl⟩ (Dev.countMgmt_clock _ _ _ _)))

theorem Dev.log_clock (d : Dev) (code sev : Nat) (a : RecArgs) : SameClock d (d.log code sev a) :=
  (Dev.enqueue_clock d _).trans (Dev.fire_clock _ code)

/-! ### The operations as updates -/

/-- A device that agrees but for three blocks is that update of the first. -/
theorem Dev.eq_access {d e : Dev} (h : SameBut accessBlocks d e) (k : SameClock d e) :
    e = { d with cnt := e.cnt, evt := e.evt, pcie := e.pcie, out := e.out } := by
  have hb := fun b hb => h b hb
  cases e
  simp only [Dev.mk.injEq, true_and]
  refine ⟨k.1, hb .part (by decide), hb .mode (by decide), hb .plat (by decide), hb .run (by decide), hb .nb (by decide),
    hb .tick (by decide), hb .jobs (by decide), hb .cores (by decide), hb .port (by decide), hb .sight (by decide),
    hb .bus (by decide), hb .pkg (by decide), hb .ln (by decide), hb .sw (by decide), hb .tally (by decide),
    hb .trav (by decide), hb .fab (by decide), hb .bnd (by decide), hb .cont (by decide), hb .commits (by decide),
    hb .cairn (by decide), k.2⟩

/-- The count of an access as an update. -/
theorem Dev.countMgmt_eq (d : Dev) (ev n v : Nat) :
    let e := d.countMgmt ev n v
    d.countMgmt ev n v = { d with cnt := e.cnt, evt := e.evt, pcie := e.pcie, out := e.out } :=
  Dev.eq_access (d.countMgmt_same _ _ _) (d.countMgmt_clock _ _ _)

/-- A function that reads neither counters, events, PCIe state nor the outputs gives the same value after an access is
counted. -/
theorem Dev.countMgmt_fun {α : Type} (f : Dev → α) (d : Dev) (ev n v : Nat)
    (h : ∀ (c : CounterSt) (e : EventSt) (p : PcieSt) (o : List Out), f { d with cnt := c, evt := e, pcie := p, out := o } = f d) :
    f (d.countMgmt ev n v) = f d := by
  rw [Dev.countMgmt_eq]
  exact h _ _ _ _

/-! ### Status bits of the event sources (R442) -/

theorem EventSt.startPulses_status (o n : EventSt) : (o.startPulses n).status = n.status := by
  unfold EventSt.startPulses
  have h : ∀ (l : List Nat) (m : EventSt), (l.foldl (fun (e : EventSt) k =>
      if bitAt e.pulse k && !o.pinCond k && n.pinCond k then { e with pulseLow := setBit e.pulseLow k } else e) m).status = m.status := by
    intro l
    induction l with
    | nil => exact fun m => rfl
    | cons x l ih =>
      intro m
      simp only [List.foldl_cons]
      rw [ih]
      split <;> rfl
  exact h _ n

@[simp] theorem EventSt.set_status (e : EventSt) (k : Nat) : (e.set k).status = e.status ||| (1#1024 <<< k) :=
  EventSt.startPulses_status _ _

@[simp] theorem Dev.msixSend_evt' (d : Dev) (fn vec : Nat) : (d.msixSend fn vec).evt.status = d.evt.status := by simp

theorem Dev.signalVector_status (d : Dev) (q vec : Nat) : (d.signalVector q vec).evt.status = d.evt.status := by
  unfold Dev.signalVector
  split
  · rfl
  · split <;> simp

theorem Dev.signalAlarm_status (d : Dev) (k : Nat) : (d.signalAlarm k).evt.status = d.evt.status := by
  unfold Dev.signalAlarm
  split <;> rfl

/-- A source that is present sets its bit of EVENT_STATUS and no other (R442). -/
theorem Dev.fire_status (d : Dev) (k : Nat) :
    (d.fire k).evt.status = if d.sourcePresent k then d.evt.status ||| (1#1024 <<< k) else d.evt.status := by
  unfold Dev.fire
  split
  · simp only
    split <;> (try rw [Dev.signalAlarm_status]) <;> split <;> simp [Dev.signalVector_status]
  · rfl

/-- EVENT_STATUS bits that are set stay set. -/
def Grows (d e : Dev) : Prop := ∀ k : Nat, d.evt.status.getLsbD k = true → e.evt.status.getLsbD k = true

theorem Grows.refl (d : Dev) : Grows d d := fun _ h => h
theorem Grows.trans {d e f : Dev} (h : Grows d e) (k : Grows e f) : Grows d f := fun n m => k n (h n m)
theorem Grows.of_eq {d e : Dev} (h : e.evt.status = d.evt.status) : Grows d e := fun _ m => by rw [h]; exact m

theorem Dev.fire_grows (d : Dev) (k : Nat) : Grows d (d.fire k) := by
  intro n h
  rw [Dev.fire_status]
  split <;> simp [h]

/-- A source that is present and fires has its bit set. -/
theorem Dev.fire_sets (d : Dev) (k : Nat) (hp : d.sourcePresent k = true) (hk : k < 1024) :
    (d.fire k).evt.status.getLsbD k = true := by
  rw [Dev.fire_status]
  simp [hp, hk]

/-- A record fires its code's source. -/
theorem Dev.log_sets (d : Dev) (code sev : Nat) (a : RecArgs) (hp : d.sourcePresent code = true) (hk : code < 1024) :
    (d.log code sev a).evt.status.getLsbD code = true := by
  unfold Dev.log
  refine Dev.fire_sets _ code ?_ hk
  have h := (Dev.enqueue_same d { tick := d.stampTick, offset := d.stampOffset, code := code, severity := sev, writer := a.writer, partition := a.part, cmdPort := a.port, inst := a.inst % 2 ^ 16, detail := a.detail }) .part (by decide)
  simp only [Block.same] at h
  simp only [Dev.sourcePresent, Dev.is7144, h] at hp ⊢
  exact hp

theorem Grows.ite {d e f : Dev} {c : Prop} [Decidable c] (h : Grows d e) (k : Grows d f) : Grows d (if c then e else f) := by
  split
  · exact h
  · exact k

theorem Grows.foldl {α : Type} (f : Dev → α → Dev) (h : ∀ d x, Grows d (f d x)) (l : List α) (d : Dev) :
    Grows d (l.foldl f d) := by
  induction l generalizing d with
  | nil => exact Grows.refl d
  | cons x l ih => exact (h d x).trans (ih (f d x))

theorem Dev.cntAny_grows (d : Dev) (c : CounterSt) : Grows d { d with cnt := c } := Grows.of_eq rfl
theorem Dev.cairnAny_grows (d : Dev) (c : CairnSt) : Grows d { d with cairn := c } := Grows.of_eq rfl
theorem Dev.contAny_grows (d : Dev) (c : ContSt) : Grows d { d with cont := c } := Grows.of_eq rfl

theorem Dev.setOvf_grows (d : Dev) (k : Nat) : Grows d (d.setOvf k) := by
  unfold Dev.setOvf
  exact Grows.ite (d.cntAny_grows _) ((d.cntAny_grows _).trans ((Dev.cntAny_grows _ _).trans (Dev.fire_grows _ _)))

theorem Dev.cntWrap_grows (d : Dev) (k : Nat) : Grows d (d.cntWrap k) := by
  unfold Dev.cntWrap
  exact Grows.ite (Grows.ite (Grows.ite ((d.cntAny_grows _).trans (Dev.setOvf_grows _ _)) (d.cntAny_grows _)) (Grows.refl d))
    (Dev.setOvf_grows d k)

theorem Dev.cntBump_grows (d : Dev) (k v : Nat) : Grows d (d.cntBump k v) := by
  unfold Dev.cntBump
  exact Grows.ite (Grows.refl d) (Grows.ite ((d.cntAny_grows _).trans (Dev.cntWrap_grows _ k)) (d.cntAny_grows _))

theorem Dev.count_grows (d : Dev) (lo hi ev : Nat) (f : Nat → Nat) : Grows d (d.count lo hi ev f) :=
  Grows.foldl (fun (e : Dev) (kc : Nat × Cnt) => e.cntBump kc.1 (f kc.2.qual)) (fun e kc => e.cntBump_grows kc.1 _) _ d

theorem Dev.countMgmt_grows (d : Dev) (ev n v : Nat) : Grows d (d.countMgmt ev n v) := d.count_grows _ _ _ _

theorem Dev.enqueue_grows (d : Dev) (r : CairnRec) : Grows d (d.enqueue r) := by
  unfold Dev.enqueue
  exact Grows.ite ((d.cairnAny_grows _).trans (Dev.countMgmt_grows _ _ _ _))
    (Grows.ite (d.cairnAny_grows _) ((d.cairnAny_grows _).trans (Dev.countMgmt_grows _ _ _ _)))

theorem Dev.log_grows (d : Dev) (code sev : Nat) (a : RecArgs) : Grows d (d.log code sev a) :=
  (Dev.enqueue_grows d _).trans (Dev.fire_grows _ code)

theorem Dev.faultLog_grows (d : Dev) (code sev : Nat) (m : Bool) (r : FaultRec) : Grows d (d.faultLog code sev m r) := by
  unfold Dev.faultLog
  exact Grows.ite (Dev.enqueue_grows d _) ((Dev.enqueue_grows d _).trans (Dev.fire_grows _ code))

theorem Dev.corFault_grows (d : Dev) (bit source detail sev : Nat) : Grows d (d.corFault bit source detail sev) := by
  unfold Dev.corFault
  exact (d.contAny_grows _).trans (Dev.faultLog_grows _ _ _ _ _)

theorem Dev.haltTests_grows (d : Dev) (t : Option Nat) : Grows d (d.haltTests t) := by
  cases t
  · exact Grows.refl d
  · exact Grows.of_eq rfl

theorem Dev.uncFault_grows (d : Dev) (bit source stop kind id detail sev : Nat) :
    Grows d (d.uncFault bit source stop kind id detail sev) := by
  unfold Dev.uncFault
  exact Grows.ite ((d.contAny_grows _).trans (Dev.contAny_grows _ _)) (((d.contAny_grows _).trans (Dev.haltTests_grows _ _)).trans (Dev.faultLog_grows _ _ _ _ _))

/-- The status bit of a correctable fault is set (R399). -/
theorem Dev.corFault_sets (d : Dev) (bit source detail sev : Nat) :
    (d.corFault bit source detail sev).cont.corStatus = setBit d.cont.corStatus bit := by
  unfold Dev.corFault
  exact congrArg ContSt.corStatus ((Dev.faultLog_same _ _ _ _ _) .cont (by decide))

end Sys2Proof.Machine
end

