-- ==== Sys2Proof/Laws/Tab.lean ====
section
/-! SUPPORT. Sparse arrays: a read after a write gives the value written, a write leaves every other index alone, and
every operation keeps the canonical form. -/

namespace Sys2Proof.Machine

variable {α : Type}

@[simp] theorem Tab.rdD_nil (i : Nat) (d : α) : Tab.rdD ([] : Tab α) i d = d := rfl
@[simp] theorem Tab.rd_nil [Inhabited α] (i : Nat) : Tab.rd ([] : Tab α) i = default := rfl

theorem Tab.rdD_ins_same (t : Tab α) (i : Nat) (v d : α) : (t.ins i v).rdD i d = v := by
  induction t with
  | nil => simp [Tab.ins, Tab.rdD]
  | cons x r ih =>
    simp only [Tab.ins]
    split
    · rename_i h
      simp [Tab.rdD, Nat.ne_of_lt h, ih]
    · split <;> simp [Tab.rdD]

theorem Tab.rdD_ins_other (t : Tab α) (i j : Nat) (v d : α) (h : j ≠ i) : (t.ins i v).rdD j d = t.rdD j d := by
  induction t with
  | nil => simp [Tab.ins, Tab.rdD, Ne.symm h]
  | cons x r ih =>
    simp only [Tab.ins]
    split
    · simp [Tab.rdD, ih]
    · split
      · rename_i h2
        simp [Tab.rdD, h2, Ne.symm h]
      · simp [Tab.rdD, Ne.symm h]

theorem Tab.rdD_del_same (t : Tab α) (i : Nat) (d : α) : (t.del i).rdD i d = d := by
  induction t with
  | nil => rfl
  | cons x r ih =>
    simp only [Tab.del]
    split
    · exact ih
    · rename_i h
      simp [Tab.rdD, h, ih]

theorem Tab.rdD_del_other (t : Tab α) (i j : Nat) (d : α) (h : j ≠ i) : (t.del i).rdD j d = t.rdD j d := by
  induction t with
  | nil => rfl
  | cons x r ih =>
    simp only [Tab.del]
    split
    · rename_i h2
      simp [Tab.rdD, h2, Ne.symm h, ih]
    · simp [Tab.rdD, ih]

section
variable [DecidableEq α]

@[simp] theorem Tab.rdD_wrD_same (t : Tab α) (i : Nat) (v d : α) : (t.wrD i v d).rdD i d = v := by
  unfold Tab.wrD
  split
  · rename_i h
    rw [Tab.rdD_del_same, h]
  · exact Tab.rdD_ins_same t i v d

theorem Tab.rdD_wrD_other (t : Tab α) (i j : Nat) (v d : α) (h : j ≠ i) : (t.wrD i v d).rdD j d = t.rdD j d := by
  unfold Tab.wrD
  split
  · exact Tab.rdD_del_other t i j d h
  · exact Tab.rdD_ins_other t i j v d h

/-! ### Rising indices -/

theorem Tab.wfFrom_mono (d : α) (t : Tab α) {lo hi : Nat} (h : hi ≤ lo) (w : t.wfFrom d lo = true) :
    t.wfFrom d hi = true := by
  cases t with
  | nil => rfl
  | cons x r =>
    simp only [Tab.wfFrom, Bool.and_eq_true, decide_eq_true_eq] at w ⊢
    exact ⟨⟨Nat.le_trans h w.1.1, w.1.2⟩, w.2⟩

theorem Tab.wfFrom_ins (d : α) (t : Tab α) (lo i : Nat) (v : α) (hi : lo ≤ i) (hv : v ≠ d) (w : t.wfFrom d lo = true) :
    (t.ins i v).wfFrom d lo = true := by
  induction t generalizing lo with
  | nil => simp [Tab.ins, Tab.wfFrom, hi, hv]
  | cons x r ih =>
    simp only [Tab.wfFrom, Bool.and_eq_true, decide_eq_true_eq] at w
    simp only [Tab.ins]
    split
    · rename_i h
      simp only [Tab.wfFrom, Bool.and_eq_true, decide_eq_true_eq]
      exact ⟨w.1, ih (x.1 + 1) h w.2⟩
    · split
      · rename_i h
        simp only [Tab.wfFrom, Bool.and_eq_true, decide_eq_true_eq]
        exact ⟨⟨hi, hv⟩, h ▸ w.2⟩
      · rename_i h1 h2
        simp only [Tab.wfFrom, Bool.and_eq_true, decide_eq_true_eq]
        exact ⟨⟨hi, hv⟩, ⟨by omega, w.1.2⟩, w.2⟩

theorem Tab.wfFrom_del (d : α) (t : Tab α) (lo i : Nat) (w : t.wfFrom d lo = true) : (t.del i).wfFrom d lo = true := by
  induction t generalizing lo with
  | nil => rfl
  | cons x r ih =>
    simp only [Tab.wfFrom, Bool.and_eq_true, decide_eq_true_eq] at w
    simp only [Tab.del]
    split
    · exact ih lo (Tab.wfFrom_mono d r (by omega) w.2)
    · simp only [Tab.wfFrom, Bool.and_eq_true, decide_eq_true_eq]
      exact ⟨w.1, ih (x.1 + 1) w.2⟩

variable [Inhabited α]

/-- A read after a write to the same index gives the value written. -/
@[simp] theorem Tab.rd_wr_same (t : Tab α) (i : Nat) (v : α) : (t.wr i v).rd i = v := Tab.rdD_wrD_same t i v default

/-- A write leaves every other index alone. -/
theorem Tab.rd_wr_other (t : Tab α) (i j : Nat) (v : α) (h : j ≠ i) : (t.wr i v).rd j = t.rd j :=
  Tab.rdD_wrD_other t i j v default h

@[simp] theorem Tab.rd_upd_same (t : Tab α) (i : Nat) (f : α → α) : (t.upd i f).rd i = f (t.rd i) := Tab.rd_wr_same t i _

theorem Tab.rd_upd_other (t : Tab α) (i j : Nat) (f : α → α) (h : j ≠ i) : (t.upd i f).rd j = t.rd j :=
  Tab.rd_wr_other t i j _ h

/-! ### The canonical form -/

/-- A write keeps the canonical form. -/
theorem Tab.wf_wr (t : Tab α) (i : Nat) (v : α) (w : t.wf = true) : (t.wr i v).wf = true := by
  unfold Tab.wr Tab.wrD Tab.wf
  split
  · exact Tab.wfFrom_del _ t 0 i w
  · rename_i h
    exact Tab.wfFrom_ins _ t 0 i v (Nat.zero_le i) h w

theorem Tab.wf_upd (t : Tab α) (i : Nat) (f : α → α) (w : t.wf = true) : (t.upd i f).wf = true := Tab.wf_wr t i _ w

theorem Tab.wf_del (t : Tab α) (i : Nat) (w : t.wf = true) : (t.del i).wf = true := Tab.wfFrom_del _ t 0 i w

theorem Tab.wfFrom_mapAll (f : Nat → α → α) (t : Tab α) (lo : Nat) (w : t.wfFrom default lo = true) :
    (t.mapAll f).wfFrom default lo = true := by
  induction t generalizing lo with
  | nil => rfl
  | cons x r ih =>
    simp only [Tab.wfFrom, Bool.and_eq_true, decide_eq_true_eq] at w
    simp only [Tab.mapAll]
    split
    · exact ih lo (Tab.wfFrom_mono _ r (by omega) w.2)
    · rename_i h
      simp only [Tab.wfFrom, Bool.and_eq_true, decide_eq_true_eq]
      exact ⟨⟨w.1.1, h⟩, ih (x.1 + 1) w.2⟩

theorem Tab.wf_mapAll (f : Nat → α → α) (t : Tab α) (w : t.wf = true) : (t.mapAll f).wf = true := Tab.wfFrom_mapAll f t 0 w

theorem Tab.wf_nil : Tab.wf ([] : Tab α) = true := rfl

end

end Sys2Proof.Machine
end

