-- ==== Sys2Proof/Tests/Slice0.lean ====
section
/-! SUPPORT. The tests of the model: ill-formed operands that `Instr.wf` refuses, check values that the spec gives for its
codes, one or two small steps per family, and for every statement witnesses that meet the hypotheses of its clauses. -/

namespace Sys2Proof.Machine.Tests

-- One theorem at a time: many kernel evaluations at once would ask for more threads than the sandbox gives.
set_option Elab.async false

open Sys2Proof Sys2Proof.Machine

/-! ### Devices -/

/-- The device that a command leaves. -/
def after (c : Instr) (d : Dev) : Dev :=
  match exec c { dev := d, pending := [] } with
  | .next t => t.dev
  | _ => {}

/-- Held in M0 by PWRGD low. -/
def dM0 : Dev := { mode := { base := .m0, pwrgd := false, holdEnded := false, released := false, srOpen := false } }
/-- In M1 after power-up, with every boot source allowed. -/
def dM1 : Dev := { mode := { authSel := 7 } }
/-- An HL-7144 in M3, the tick source, with partition 0 on H port 0 and S tiles 1 and 8. -/
def dRun : Dev :=
  { mode := { base := .m3, authSel := 4 }
    run := { runMode := 3, switchId := 5, tile := [(0, { role := 1, rateMax := 4 }), (1, { role := 2, rateMax := 1 }), (8, { role := 2, rateMax := 1 })], cut := [(0, 4), (8, 4), (12, 3), (64, 4)], part := [(0, { present := true, upstream := 0, down := 0 })], budget := [(0, 500), (1, 500), (2, 500), (3, 500), (4, 100)], tickSourceRole := true }
    tick := { joined := true, started := true, state := .source, next := 16384 }
    pkg.t8Die := true
    cores := { roleMap := [(0, 1), (1, 2), (2, 3), (3, 4), (4, 5)], core := [(0, { state := .running, role := some 0 }), (1, { state := .running, role := some 1 }), (2, { state := .running, role := some 2 }), (3, { state := .running, role := some 3 }), (4, { state := .standby, role := some 4 })] } }

/-! ### Ill-formed operands -/

theorem test_wf_registerWrite_size : (Instr.registerWrite .sideband 0 3 true 0).wf = false := by decide
theorem test_wf_needPlat_part : (Instr.needPlat 0 0x10000 0).wf = false := by decide
theorem test_wf_offer_id : (Instr.offer 0 (2 ^ 64) 64 0 0).wf = false := by decide
theorem test_wf_accept_id : (Instr.accept 0 (2 ^ 64)).wf = false := by decide
theorem test_wf_decline_id : (Instr.decline 0 (2 ^ 64)).wf = false := by decide
theorem test_wf_neighbourData_offset : (Instr.neighbourData 0 (2 ^ 32) []).wf = false := by decide
theorem test_wf_chunkAck_offset : (Instr.chunkAck 0 (2 ^ 32)).wf = false := by decide
theorem test_wf_neighbourDone_offset : (Instr.neighbourDone 0 (2 ^ 32)).wf = false := by decide
theorem test_wf_neighbourResult_code : (Instr.neighbourResult 0 5 256 0).wf = false := by decide
theorem test_wf_tickMark_input : (Instr.tickMark 2 {} 0).wf = false := by decide
theorem test_wf_tickMark_period : (Instr.tickMark 0 { period := 8 } 0).wf = false := by decide
theorem test_wf_delayReq_id : (Instr.delayReq 0 16 0).wf = false := by decide
theorem test_wf_delayResp_time : (Instr.delayResp 0 0 (2 ^ 32) 0).wf = false := by decide
theorem test_wf_budgetEnd_overrun : (Instr.budgetEnd 0 (2 ^ 32)).wf = false := by decide
theorem test_wf_jobStep_row : (Instr.jobStep { found := [(2097152, true)] }).wf = false := by decide
theorem test_wf_fomWindowEnd_eye : (Instr.fomWindowEnd 0 0 65536 1 ⟨0, 0, 0⟩).wf = false := by decide
theorem test_wf_train_logical : (Instr.train 0 0 { logical := 32 }).wf = false := by decide
theorem test_wf_alignBurst_lane : (Instr.alignBurst 8 { lanes := [(18, 0, 0)] }).wf = false := by decide
theorem test_wf_swapRequest_switch : (Instr.swapRequest 8 { switchId := 4096 }).wf = false := by decide
theorem test_wf_swapAcknowledge_spare : (Instr.swapAcknowledge 8 { spare := 32 }).wf = false := by decide
theorem test_wf_mirrorMatch_offset : (Instr.mirrorMatch 8 65536).wf = false := by decide
theorem test_wf_marginDone_errors : (Instr.marginDone 0 0 (2 ^ 32)).wf = false := by decide
theorem test_wf_flitReceive_length : (Instr.flitReceive 8 { bytes := [0] }).wf = false := by decide
theorem test_wf_audit_tick : (Instr.audit 8 { tick := 2 ^ 56 }).wf = false := by decide
theorem test_wf_contain_tag : (Instr.contain 8 { tag := 16 }).wf = false := by decide
theorem test_wf_swapPropose_spare : (Instr.swapPropose 8 0 2 0).wf = false := by decide
theorem test_wf_swapReply_lane : (Instr.swapReply 8 32 0 false).wf = false := by decide
theorem test_wf_swapMatched_handle : (Instr.swapMatched 8 0 65536).wf = false := by decide
theorem test_wf_swapSelected_spare : (Instr.swapSelected 8 0 2 0).wf = false := by decide
theorem test_wf_linkInit_port : (Instr.linkInit 8 0 128 0 0 0).wf = false := by decide
theorem test_wf_initGrant_count : (Instr.initGrant 8 0 [0]).wf = false := by decide
theorem test_wf_widthReq_width : (Instr.widthReq 8 8 0 0).wf = false := by decide
theorem test_wf_widthAck_handle : (Instr.widthAck 8 65536 false).wf = false := by decide
theorem test_wf_tlpReceive_tc : (Instr.tlpReceive 0 { kind := .memRead, tc := 8 }).wf = false := by decide
theorem test_wf_configRequest_reg : (Instr.configRequest 0 { kind := .cfgRead, reg := 1024 }).wf = false := by decide
theorem test_wf_dlActive_width : (Instr.dlActive 0 1 3 0 false false).wf = false := by decide
theorem test_wf_ptmRequest_tag : (Instr.ptmRequest 0 { kind := .msg, tag := 16384 }).wf = false := by decide
theorem test_wf_errorMessage_code : (Instr.errorMessage 0 { kind := .msg, code := 256 }).wf = false := by decide
theorem test_wf_cellArrival_seq : (Instr.cellArrival 0 65536 true).wf = false := by decide
theorem test_wf_cellConfirm_key : (Instr.cellConfirm 16384 0).wf = false := by decide
theorem test_wf_confirmTimeout_key : (Instr.confirmTimeout 16384 0).wf = false := by decide
theorem test_wf_fabricPacketReceive_dest : (Instr.fabricPacketReceive 8 { dest := 4096 }).wf = false := by decide
theorem test_wf_fabricCompletion_chunks : (Instr.fabricCompletion { kind := 4, chunks := 5 }).wf = false := by decide
theorem test_wf_regRequest_ext : (Instr.regRequest { kind := 0x10, flags := 128 }).wf = false := by decide
theorem test_wf_regResponse_src : (Instr.regResponse { kind := 0x11, src := 4096 }).wf = false := by decide
theorem test_wf_tallyContribution_offset : (Instr.tallyContribution 0 0 (2 ^ 64) [] true false).wf = false := by decide
theorem test_wf_tallyPartial_seq : (Instr.tallyPartial { kind := 8, seq := 2 ^ 24 }).wf = false := by decide
theorem test_wf_tallyDone_mark : (Instr.tallyDone { kind := 0x0B, mark := 2 ^ 24 }).wf = false := by decide
theorem test_wf_tallyResult_payload : (Instr.tallyResult { kind := 9, payload := [256] }).wf = false := by decide
theorem test_wf_tallyAbort_kind : (Instr.tallyAbort { kind := 256 }).wf = false := by decide
theorem test_wf_engineReadCompletion_length : (Instr.engineReadCompletion 0 0 (List.replicate 4097 0) 0 false).wf = false := by decide +kernel
theorem test_wf_faultDetect_row : (Instr.faultDetect (.sram 0 512)).wf = false := by decide
theorem test_wf_patrolScrub_macro : (Instr.patrolScrub 4096 0 false).wf = false := by decide
theorem test_wf_counterWrap_number : (Instr.counterWrap 1200).wf = false := by decide
theorem test_wf_sbSetOffset : (Instr.sbSetOffset true (2 ^ 32)).wf = false := by decide
theorem test_wf_sbWrite : (Instr.sbWrite true (2 ^ 32)).wf = false := by decide
theorem test_wf_sbWriteBlock_length : (Instr.sbWriteBlock true [0, 0]).wf = false := by decide
theorem test_wf_ringRead32_offset : (Instr.ringRead32 0 { offset := 2 ^ 32 }).wf = false := by decide
theorem test_wf_ringWriteBlock_length : (Instr.ringWriteBlock 0 { data := List.replicate 260 0 }).wf = false := by decide +kernel
theorem test_wf_ringAlarm_hops : (Instr.ringAlarm 0 true 0 0 65536).wf = false := by decide
theorem test_wf_sightPoll_addr : (Instr.sightPoll { addr := 2 ^ 64 }).wf = false := by decide
/-- The offset of a register is a whole operand: a well-formed term. -/
theorem test_wf_accepts : (Instr.registerWrite .sideband 0x10008 4 true 0x4D30).wf = true ∧
    (Instr.fabricPacketReceive 8 { kind := 1, payload := List.replicate 16 7, chunks := 5 }).wf = true := by decide

/-! ### Codes -/

/-- CRC-32C of the digits 1 to 9 (R42). -/
theorem test_crc32c : crc32c [0x31, 0x32, 0x33, 0x34, 0x35, 0x36, 0x37, 0x38, 0x39] = 0xE3069283 := by decide +kernel

/-- The vectors of Table 6.4 (R169). -/
theorem test_crc64_digits : crc64 0 [0x31, 0x32, 0x33, 0x34, 0x35, 0x36, 0x37, 0x38, 0x39] = 0x995DC9BBDF1939FA := by decide +kernel
theorem test_crc64_pair : crc64 0x5A3 [0x5C, 0xFA] = 0xFFFF000000000000 := by decide +kernel

/-! ### Power-up, reset and the mode machine -/

theorem wit_PwrgdCommands : dM0.mode.pwrgd = false ∧ dRun.mode.pwrgd = true := by decide
/-- RESET_CAUSE of Table 3.5 after power-up: POWER alone. -/
theorem test_pwrgdRise : (after .pwrgdRise dM0).mode.resetCause = 1 := by decide
theorem test_pwrgdFall_loses : (after .pwrgdFall dRun).run = {} := by decide +kernel
theorem wit_RstNCommands :
    (dRun.mode.pwrgd = true ∧ dRun.held = false) ∧ (dM0.mode.pwrgd = false ∧ dM0.held = true) ∧
    (let m := { dM0 with mode.pwrgd := true, mode.holdEnded := true, mode.rstN := false }
     m.mode.rstN = false ∧ m.held = true ∧ m.mode.pwrgd = true ∧ m.mode.holdEnded = true ∧ m.mode.devReset = false) ∧
    (let m := { dM0 with mode.rstN := false }
     m.mode.rstN = false ∧ m.mode.holdEnded = false) ∧ dRun.mode.rstN = true := by decide
theorem wit_PerstActs :
    (0 < dM1.tiles ∧ bitAt dM1.mode.perst 0 = true ∧ dM1.mode.base = .m1 ∧ bitAt dM1.mode.authSel 0 = true) ∧
    (bitAt (State.reset.dev).mode.perst 0 = true ∧ (State.reset.dev).mode.base = .m1 ∧ bitAt (State.reset.dev).mode.authSel 0 = false) ∧
    (let m := { dRun with mode.base := .m6 }
     8 < m.tiles ∧ bitAt m.mode.perst 8 = true ∧ m.mode.base = .m6) ∧
    (0 < dRun.tiles ∧ bitAt dRun.mode.perst 0 = true ∧ dRun.mode.base = .m3 ∧ (dRun.run.part.rd 0).present = true ∧
      portTile (dRun.run.part.rd 0).upstream = 0) ∧
    (let m := { dM0 with mode.pwrgd := true, mode.holdEnded := true, mode.perst := 0x1FE, mode.perstM0 := true }
     bitAt m.mode.perst 0 = false ∧ m.held = true ∧ m.mode.perstM0 = true ∧ m.mode.pwrgd = true ∧ m.mode.holdEnded = true ∧
       m.mode.rstN = true ∧ m.mode.devReset = false) ∧
    (let m := { dRun with mode.base := .m6, mode.perst := 0x0FF }
     bitAt m.mode.perst 8 = false ∧ m.mode.base = .m6) ∧
    (let m := { dRun with mode.base := .m10 }
     0 < m.tiles ∧ bitAt m.mode.perst 0 = true ∧ m.mode.base = .m10 ∧ (m.run.part.rd 0).present = true ∧ portTile (m.run.part.rd 0).upstream = 0) ∧
    (let m := { dRun with mode.perst := 0x1FE }
     0 < m.tiles ∧ bitAt m.mode.perst 0 = false ∧ m.mode.base = .m3 ∧ (m.run.part.rd 0).present = true) := by decide
/-- PERST_N_T0 low in M3 changes no mode, and resets partition 0 (Table 3.1). -/
theorem test_perst_run : (after (.perstNFall 0) dRun).mode.base = .m3 := by decide +kernel
theorem wit_HoldEnds :
    (let m := { dM0 with mode.pwrgd := true }
     m.mode.pwrgd = true ∧ m.mode.holdEnded = false ∧ m.mode.rstN = true ∧ m.held = true ∧ m.mode.devReset = false) ∧
    (let m := { dM0 with mode.pwrgd := true, mode.rstN := false }
     m.mode.pwrgd = true ∧ m.mode.holdEnded = false ∧ m.mode.rstN = false) ∧
    (let m := { dM0 with mode.pwrgd := true, mode.holdEnded := true, mode.devReset := true }
     m.mode.devReset = true ∧ m.held = true ∧ m.mode.pwrgd = true ∧ m.mode.holdEnded = true ∧ m.mode.rstN = true) ∧
    (let m := { dM0 with mode.pwrgd := true, mode.released := true, mode.srOpen := true }
     m.mode.base = .m0 ∧ m.mode.railFail = false ∧ m.mode.released = true ∧ m.mode.srOpen = true) := by decide
theorem wit_DeviceResetWrites : WritePasses dM1 .ring 0x10008 0x4D30 ∧ fld 0x4D30 0 16 = 0x4D30 ∧
    WritePasses dM1 .ring 0x10008 0x4D31 ∧ fld 0x4D31 0 16 ≠ 0x4D30 := by decide +kernel
theorem test_deviceReset : (after (.deviceReset .ring 0x4D30) dM1).mode.base = .m0 := by decide +kernel
theorem wit_RailsAndSwitches :
    (let m := { dM0 with mode.railsLow := 1, mode.railFail := true }
     (after (.railReturn 0) m).mode.railsLow = 0 ∧ m.mode.pwrgd = false) ∧ dRun.mode.pwrgd = true ∧
    (dRun.is7144 = true ∧ WritePasses dRun .ring 0x10010 1 ∧ dRun.inRunOrTest = true ∧ dRun.role 8 = 2 ∧ dRun.mode.t8Close = false) ∧
    (let m := { dRun with mode.t8Close := true }
     WritePasses m .ring 0x10010 0 ∧ m.role 8 = 2 ∧ m.mode.t8Close = true) ∧
    (dM1.is7144 = true ∧ WritePasses dM1 .ring 0x10010 1 ∧ dM1.mode.base = .m1) := by decide +kernel
/-- While a rail is low no command is answered (R500). -/
theorem test_railLow_silent : after (.sbRead true) (after (.railLow 5) dRun) = after (.railLow 5) dRun := by decide +kernel
theorem wit_BootIntervalEnds :
    (dM1.mode.base ≠ .m0 ∧ dM1.tick.started = false ∧ dM1.cairn.droppedNow = [] ∧ dM1.evt.vecHeld = []) ∧
    (let m := { dM1 with cairn.droppedNow := [(3, 1)] }
     m.mode.base ≠ .m0 ∧ m.tick.started = false ∧ m.cairn.droppedNow ≠ []) := by decide
theorem wit_Held : HeldInM0 dM0 ∧ ([] : List Instr).head? ≠ some .pwrgdRise ∧ dM0.pkg.srDie = true ∧
    ∀ n, ([] : List Instr).head? ≠ some (.tapSamplePreload n) := by
  refine ⟨⟨rfl, rfl, rfl, rfl, rfl, ?_⟩, by decide, by decide, fun n => nofun⟩
  exact ⟨rfl, rfl, rfl, rfl, rfl, rfl, rfl, rfl, rfl, rfl, rfl, rfl, rfl, rfl, rfl, rfl, rfl, rfl, rfl, rfl, rfl⟩

/-! ### The Plat loader and the neighbour exchange -/

/-- A port that holds the claim, with a buffer in use. -/
def dLoad (st : PlatState) : Dev := { dM1 with plat := { state := st, claim := some 2, source := 3, bytes := 64, bufFree := true } }

theorem wit_PlatStart :
    dM1.mayLoadFull .sighting = false ∧ (dM1.mayLoadFull .ring = true ∧ dM1.plat.claim = none ∧ dM1.mode.base ≠ .m2 ∧ dM1.plat.clearing = false ∧ dM1.mode.base ≠ .m10) ∧
    ((dLoad .receiving).mayLoadFull .ring = true ∧ (dLoad .receiving).plat.claim.isSome = true) ∧
    (let m := { dM1 with mode.base := .m2 }
     m.mayLoadFull .ring = true ∧ m.plat.claim = none ∧ m.mode.base = .m2) ∧
    ((dLoad .receiving).mayLoadFull .ring = true ∧ (dLoad .receiving).plat.claim.isSome = true ∧ (dLoad .receiving).outranks .ring = false) ∧ dRun.mayAmend .sideband = false ∧ dRun.mayAmend .ring = true ∧
    (WritePasses dM1 .ring 0x20000 1 ∧ (dM1.startRefusal .ring).1 = 0) ∧
    (let m := { dM1 with mode.base := .m2 }
     WritePasses m .ring 0x20000 1 ∧ (m.startRefusal .ring).1 ≠ 0 ∧ m.cairn.minSeverity ≤ (m.startRefusal .ring).2 ∧ m.cairn.hasEntry (m.startRefusal .ring).2 = true) := by
  decide +kernel
theorem test_platStart : (after (.platStart .ring) dM1).plat.state = .receiving := by decide +kernel
theorem wit_BufferAndHandover :
    (WritePasses (dLoad .receiving) .ring (0x30000 + 65535 / 4 * 4) 0x12345678 ∧ (dLoad .receiving).holds .ring = true ∧ (dLoad .receiving).plat.bufFree = true) ∧
    (let m := { dLoad .receiving with plat.claim := some 0 }
     WritePasses m .ring 0x30000 1 ∧ m.holds .ring = false) ∧
    (WritePasses (dLoad .receiving) .ring 0x20008 65536 ∧ (dLoad .receiving).plat.state = .receiving) ∧
    (WritePasses (dLoad .receiving) .ring 0x20008 8 ∧ 8 % 8 = 0) := by decide +kernel
/-- A handover of 8 bytes enters M2 from M1 (R65). -/
theorem test_handover : (after (.chunkHandover .ring 8) (dLoad .receiving)).mode.base = .m2 := by decide +kernel
theorem wit_BufferChecked :
    (let m := { dLoad .receiving with plat.bufFree := false }
     m.plat.bufFree = false ∧ m.checkArrived.2 = none ∧ m.plat.ended = false ∧ m.nb.holder = none) ∧
    (let m := { dLoad .receiving with mode.base := .m2, plat.bufFree := false, plat.img := List.replicate 64 0 }
     m.plat.bufFree = false ∧ m.checkArrived.2.isSome = true ∧ m.mode.base = .m2) := by decide +kernel
/-- An image of a header and an end, and the types of the sections that every full image holds. -/
def img72 : List Nat := toLe 8 0 ++ toLe 4 72 ++ toLe 4 8 ++ List.replicate 48 0 ++ toLe 4 0xe1b937f1 ++ toLe 4 0x504C4154
def secs8 : List PlatSec :=
  [{ type := 1 }, { type := 2 }, { type := 7 }, { type := 8, body := [0] }, { type := 8, body := [1] }, { type := 8, body := [2] }, { type := 8, body := [3] }, { type := 8, body := [4] }]
theorem wit_EndOfLoad :
    (let m := { dLoad .receiving with plat.headerOk := true, plat.bytes := 72, plat.img := img72, plat.secs := secs8 }
     WritePasses m .ring 0x20000 2 ∧ m.holds .ring = true ∧ m.plat.state = .receiving ∧ m.plat.bufFree = true ∧ m.plat.headerOk = true ∧
       m.plat.isAmend = false ∧ m.endFail m.plat.img m.plat.secs m.plat.bytes = none) ∧
    (let m := { dLoad .receiving with plat.bufFree := false }
     WritePasses m .ring 0x20000 2 ∧ m.holds .ring = true ∧ m.plat.state = .receiving ∧ m.plat.bufFree = false) ∧
    (WritePasses (dLoad .receiving) .ring 0x20000 4 ∧ (dLoad .receiving).holds .ring = true) ∧
    (let m := { dLoad .receiving with plat.handed := true }
     m.plat.claim.isSome = true ∧ m.plat.handed = true ∧ m.plat.state = .receiving) ∧
    ((dLoad .receiving).plat.claim.isSome = true ∧ (dLoad .receiving).plat.handed = false) := by decide +kernel
theorem wit_AcceptedOrCleared :
    (let m := { dLoad .applying with mode.base := .m2 }
     m.plat.state = .applying ∧ m.plat.isAmend = false ∧ m.mode.base = .m2) ∧
    (let m := { dLoad .receiving with plat.clearing := true }
     m.plat.clearing = true) := by decide
theorem wit_RunModeEntry :
    (let m := { dM1 with mode.base := .m2, mode.entry := .accepted }
     m.mode.entry = .accepted) ∧
    (let m := { dRun with mode.base := .m2, mode.entry := .coresStarted }
     m.mode.entry = .coresStarted ∧ Mode.ofNum m.run.runMode = some .m3) ∧
    (let m := { dRun with mode.base := .m2, mode.entry := .tilesSet }
     m.mode.entry = .tilesSet) ∧
    (let m := { dRun with mode.base := .m2, mode.entry := .activated }
     m.mode.entry = .activated) := by decide
theorem test_runModeEntered : (after .runModeEntered { dRun with mode.base := .m2, mode.entry := .coresStarted }).mode.base = .m3 := by decide +kernel
theorem wit_NeighbourRequester :
    Hears dM1 ∧ ({ dM1 with pkg.srDie := false } : Dev).pkg.srDie = false ∧ (dM1.mode.base = .m1 ∧ dM1.strap 2 = true ∧ dM1.plat.claim = none ∧ dM1.nb.holder = none ∧ (dM1.startRefusal .ring).1 = 0) ∧
    (let m := { dLoad .receiving with nb.holder := some 1, nb.nextOff := 4, nb.length := 128 }
     m.nb.holder = some 1 ∧ m.holds .ring = true ∧ 0 ≠ m.nb.nextOff ∧ 4 = m.nb.nextOff ∧ m.plat.bufFree = true ∧ m.nb.filled + 8 < 65536 ∧
       m.nb.nextOff + 8 ≠ m.nb.length) ∧
    (let m := { dLoad .receiving with nb.holder := some 1, plat.bufFree := false }
     Hears m ∧ m.nb.holder = some 1 ∧ m.holds .ring = true ∧ m.plat.state = .receiving ∧ m.plat.bufFree = false) ∧
    (let m := { dLoad .receiving with nb.holder := some 1, nb.offerCycle := 5 }
     Hears m ∧ m.mode.base ≠ .m0 ∧ m.nb.holder = some 1 ∧ m.nb.offerCycle ≠ m.mclk) := by decide +kernel
theorem wit_NeighbourRequester_outranked :
    let m : Dev := { dLoad .receiving with nb.holder := some 1, nb.offerId := 7, out := withLines [] [.neighbour 0 (neighbourMsg 0x23 0 (toLe 8 7))] }
    (Hears m ∧ m.mode.base ≠ .m0 ∧ m.nb.holder = some 1 ∧ m.nb.offerCycle = m.mclk ∧ m.nb.nextOff = 0 ∧ m.holds .ring = true ∧ m.mode.railFail = false) ∧
      m.out = withLines [] [.neighbour 0 (neighbourMsg 0x23 0 (toLe 8 m.nb.offerId))] :=
  ⟨by decide +kernel, rfl⟩
/-- The copy of an image with a target and a lowest revision, on one side. -/
def nbSide (st : Nat) : Dev := { dRun with nb := { side0 := { state := st, copy := List.replicate 64 0 }, side1 := { state := st, copy := List.replicate 64 0 } } }
theorem wit_NeighbourHolder :
    (Hears (nbSide 5) ∧ ((nbSide 5).nb.side 1).state = 5 ∧ ((nbSide 1).nb.side 1).copy ≠ []) ∧
    (Hears (nbSide 1) ∧ ((nbSide 1).nb.side 1).state ≠ 5 ∧ (nbSide 1).inRun = true ∧ ((nbSide 1).nb.side 1).copy ≠ [] ∧ leAt ((nbSide 1).nb.side 1).copy 0xE 2 = 0 ∧
      leAt ((nbSide 1).nb.side 1).copy 0x10 2 ≤ 0 ∧ (nbSide 1).streamJob 1 = none ∧ (nbSide 1).freeSlot = some 0) ∧
    (((nbSide 2).nb.side 1).state = 2 ∧ leAt ((nbSide 2).nb.side 1).copy 0x18 8 = 0) ∧
    (let m := { nbSide 3 with nb.side1 := { state := 3, copy := List.replicate 64 0, sent := 64 } }
     (m.nb.side 1).state = 3 ∧ 64 = (m.nb.side 1).sent ∧ 64 = (m.nb.side 1).copy.length ∧ (m.nb.side 1).acked ≠ 64) := by decide +kernel
/-- A neighbour stream job in slot 0 for side 1, in `ph`, with `sent` bytes sent. -/
def dStream (st ph sent : Nat) : Dev :=
  { nbSide st with tick.windowOpen := [(3, true)], nb.side1 := { state := st, copy := List.replicate 300 0, sent := sent }, jobs.slot := [(0, { state := .running, op := 0x81, arg0 := 1, internal := true, phase := ph })] }
theorem wit_NeighbourHolder_job :
    (let m := dStream 2 0 0
     m.svcRuns = true ∧ m.tick.windowOpen.rd 3 = true ∧ m.suspendedJob = none ∧ m.pickJob = some (0, m.jobs.slot.rd 0) ∧ (m.jobs.slot.rd 0).phase = 0) ∧
    (let m := dStream 3 1 256
     m.pickJob = some (0, m.jobs.slot.rd 0) ∧ (m.jobs.slot.rd 0).phase = 1 ∧ (m.nb.side 1).state = 3 ∧ m.mode.railFail = false ∧ (m.nb.side 1).sent < (m.nb.side 1).copy.length) ∧
    (let m := { dStream 3 1 300 with nb.side1.acked := 300 }
     m.pickJob = some (0, m.jobs.slot.rd 0) ∧ (m.nb.side 1).copy.length ≤ (m.nb.side 1).sent) := by decide +kernel
/-- The last 44 bytes go out with the bytes that make 48 (R92). -/
theorem test_stream : ((after (.jobStep {}) (dStream 3 1 256)).nb.side 1).sent = 300 := by decide +kernel

/-! ### The survey tick and jobs -/

/-- A LOCKED follower of SRO pair 0, with two marks heard. -/
def dFol (st : TickState) (src : Nat) : Dev :=
  { dRun with run.tickSourceRole := false, run.tickSource := src, run.tickPeriod := 3, tick := { joined := true, started := true, state := st, last := 16384, next := 32768, parent := some 0, exchanges := 8, lastEdge := some 16384, inputs := [(0, { seen := true, age := 16 }), (1, { seen := true, first := 1024 })] } }

theorem wit_BoundaryWork :
    (dRun.tick.joined = true ∧ dRun.tick.stepLeft = 0 ∧ dRun.tick.adopt = none) ∧
    (let m := { dFol .locked 0 with tick.adopt := some 7 }
     m.tick.joined = true ∧ m.tick.stepLeft = 0 ∧ m.tick.adopt = some 7) ∧ dM1.tick.joined = false ∧
    (∀ c ∈ [Commit.windows [(3, { ctrl := 1 })], .gazetteer [(3, 7), (5, 1)], .bearing [(4095, 7)], .rid [(3, 7)], .rules 255 [(3, {})]],
      let m := { dRun with commits := [(false, c)] }
      m.tick.joined = true ∧ m.commits = [(false, c)] ∧ m.plat.amendState ≠ 2) := by decide +kernel
/-- An entry that waited for the boundary stands in its table, and one that was free is free (R305). -/
theorem test_boundary_gazetteer : (after .tickBoundary { dRun with commits := [(false, .gazetteer [(3, 7), (5, 0)])], fab.gaz := [(5, 8)] }).fab.gaz = [(3, 7)] := by
  decide +kernel
theorem test_boundary_number : (after .tickBoundary dRun).tick.nextNumber = 1 := by decide +kernel
theorem wit_TickStates :
    (dRun.tick.joined = true ∧ dRun.run.tickSource = 0 ∧ dRun.run.tickSourceRole = true) ∧
    ((dFol .locked 0).tick.joined = true ∧ (dFol .locked 0).run.tickSource = 0 ∧ (dFol .locked 0).tick.state = .locked ∧ (dFol .locked 0).tick.slew = 0) ∧
    ((dFol .locked 2).follows = true ∧ (dFol .locked 2).run.tickSource = 2 ∧ (dFol .locked 2).tick.state = .locked) ∧
    ((dFol .holdover 0).follows = true ∧ (dFol .holdover 0).tick.state = .holdover) ∧
    (let m := { dFol .acquiring 0 with tick.inputs := [] }
     m.follows = true ∧ m.tick.state = .acquiring ∧ m.run.tickSource ≠ 2 ∧ m.tick.inputs = []) ∧
    ((dFol .acquiring 2).follows = true ∧ (dFol .acquiring 2).tick.state = .acquiring ∧ (dFol .acquiring 2).run.tickSource = 2 ∧ (dFol .acquiring 2).tick.run < 4) := by
  decide
theorem test_tickInMissed : (after .tickInMissed (dFol .locked 2)).tick.state = .holdover := by decide +kernel
theorem wit_MarksAccepted :
    ({ dRun with pkg.srDie := false } : Dev).pkg.srDie = false ∧ (Hears dM1 ∧ dM1.tick.joined = false ∧ dM1.mode.base ≠ .m0) ∧ (Hears dRun ∧ Hears (dFol .locked 0)) ∧
    (dRun.tick.joined = true ∧ dRun.run.tickSourceRole = true ∧ (dRun.tick.inputs.rd 0).conflict = false) ∧
    (let m := { dRun with tick.inputs := [(0, { conflict := true })] }
     m.tick.joined = true ∧ m.run.tickSourceRole = true ∧ (m.tick.inputs.rd 0).conflict = true) ∧
    ((dFol .locked 0).run.tickSourceRole = false ∧ (dFol .locked 0).tickInput 0 = true ∧ ({ period := 7 } : Mark).period ≠ (dFol .locked 0).run.tickPeriod ∧
      ((dFol .locked 0).tick.inputs.rd 0).mismatch = false ∧ ({ period := 3, depth := 31 } : Mark).period = (dFol .locked 0).run.tickPeriod ∧ 30 < ({ depth := 31 } : Mark).depth ∧
      ({ depth := 30 } : Mark).depth ≤ 30 ∧ (dFol .locked 0).tick.parent = some 0 ∧ (dFol .locked 0).tick.exchanges = 8 ∧ (dFol .locked 0).tick.state = .locked ∧
      (dFol .locked 0).tick.steady = true ∧ (dFol .locked 0).tick.last < 32768 + 0 - (dFol .locked 0).tick.hopDelay) ∧
    (let m := { dFol .acquiring 0 with tick.exchanges := 7 }
     m.tickInput 0 = true ∧ m.tick.parent = some 0 ∧ m.tick.exchanges < 8) := by decide +kernel
theorem test_tickMark_depth : (after (.tickMark 0 { period := 3, depth := 4 } 16000) { dFol .acquiring 0 with tick.exchanges := 7 }).tick.depth = 5 := by decide +kernel
theorem wit_DelayExchange :
    (let m := { dFol .acquiring 0 with tick.exchanges := 7, tick.open_ := [(15, some 100)] }
     m.follows = true ∧ Hears m ∧ m.tick.parent = some 0 ∧ m.tick.exchanges < 8 ∧ m.mode.base ≠ .m0 ∧ m.tick.open_.rd (15 % 16) = some 100) ∧
    (Hears (dFol .locked 0) ∧ (dFol .locked 0).tick.parent = some 0 ∧ (dFol .locked 0).tick.best = some 1 ∧ 1 ≠ 0 ∧ 16 ≤ ((dFol .locked 0).tick.inputs.rd 0).age ∧
      1024 ≤ ((dFol .locked 0).tick.inputs.rd 1).first) := by decide +kernel
/-- Half of (t4 - t1) - (t3 - t2) (R106). -/
theorem test_delayResp : (after (.delayResp 0 15 40 300) { dFol .acquiring 0 with tick.exchanges := 7, tick.open_ := [(15, some 100)] }).tick.delays = [80] := by
  decide +kernel
theorem wit_TickInEdges :
    (let m := dFol .locked 2
     m.follows = true ∧ m.run.tickSource = 2 ∧ m.tick.state = .locked ∧
       ¬ (0 - m.tick.lastEdge.getD 0 ≤ m.period + 800 ∧ m.period ≤ 0 - m.tick.lastEdge.getD 0 + 800)) ∧
    (let m := dFol .locked 2
     let t := 16384 + m.period
     t - m.tick.lastEdge.getD 0 ≤ m.period + 800 ∧ m.period ≤ t - m.tick.lastEdge.getD 0 + 800 ∧ m.tick.steady = true ∧ m.tick.last < m.edgePlace t) ∧
    (let m := { dFol .locked 2 with tick.next := 16384 + 2 * (dFol .locked 2).period }
     let t := 16384 + m.period + 800
     t - m.tick.lastEdge.getD 0 ≤ m.period + 800 ∧ 2 * (m.edgePlace t - m.tick.next) ≤ m.period) ∧
    (let m := { dFol .acquiring 2 with tick.lastEdge := none }
     m.tick.state = .acquiring ∧ m.tick.lastEdge = none) ∧
    ((dFol .locked 2).reach .ring 0x10058 8 true (some 5) = .ok ∧ (dFol .locked 2).regLocked ((dFol .locked 2).regAttr .ring 0x10058) = false) ∧
    (dRun.reach .ring 0x10058 8 true (some 5) = .ok ∧ dRun.run.tickSource ≠ 2) := by decide +kernel
theorem wit_BudgetCloses :
    (let m := { dRun with tick.windowOpen := [(4, true), (1, true)] }
     m.tick.windowOpen.rd 4 = true ∧ m.tick.windowOpen.rd 1 = true ∧ m.roleWorks 1 = true) := by decide +kernel

/-- A device in M3 on which every job operation can be submitted. -/
def dJob : Dev :=
  { dRun with run.tile := [(0, { role := 1, rateMax := 4 }), (1, { role := 2, rateMax := 1 }), (8, { role := 2, rateMax := 1, spares := 3 })], ln := { lane := [(laneKey 8 0, { state := 7, port := some 64 })], link := [(64, { state := 3 })] }, sw.plane := [(0, { state := 1 })], trav.fn := [(1, { state := 1 })] }
/-- The arguments of an operation. -/
def jobArgs (op : Nat) : Tab Nat :=
  match op with
  | 3 => [(2, 1), (3, 0xFF)]
  | 4 => [(0, 1)]
  | 5 => [(0, 144)]
  | 8 => [(2, 1)]
  | 9 => [(0, 1), (1, 1)]
  | 10 => [(0, 64)]
  | 11 => [(0, 64), (1, 1)]
  | 1 => [(2, 1)]
  | 2 => [(2, 1)]
  | _ => []
def dOp (op : Nat) : Dev := dJob.setPort .ring (fun s => { s with jobOp := op, jobArg := jobArgs op })
theorem wit_JobSubmission :
    dM1.inRunOrTest = false ∧ (dJob.inRunOrTest = true ∧ dJob.isSteward .sideband = false ∧ dJob.tenantOf .sideband = none ∧ dJob.isSteward .ring = true) ∧
    (dJob.argCode .ring { op := 9, a0 := 1, a1 := 1 } = 0 ∧ dJob.maySubmit .ring { op := 9, a0 := 1, a1 := 1 } = true) ∧
    (let m := { dJob with jobs.slot := (List.range 64).map (fun k => (k, { state := .queued, op := 10 })) }
     m.freeSlot = none) ∧
    (∀ op ∈ [1, 2, 3, 4, 5, 6, 7, 8, 9, 10, 11], ((dOp op).portSt .ring).jobOp = op ∧ WritePasses (dOp op) .ring 0x10128 1 ∧
      (dOp op).submitCode .ring ((dOp op).portSt .ring).request = 0 ∧ (dOp op).freeSlot = some 0) ∧
    (let m := dJob.setPort .ring (fun s => { s with jobOp := 9, jobArg := [(0, 2048)] })
     (m.portSt .ring).jobOp = 9 ∧ WritePasses m .ring 0x10128 1 ∧ m.submitCode .ring (m.portSt .ring).request ≠ 0) := by decide +kernel
/-- The first handle of slot 0: generation 1 (R119). -/
theorem test_jobIssued : ((after (.scrub .ring) (dOp 9)).portSt .ring).jobIssued = 65536 * 64 := by decide +kernel
theorem test_submitCodes : dJob.submitCode .ring { op := 12 } = 3 ∧ dJob.submitCode .ring { op := 9, a0 := 2048 } = 4 := by decide +kernel
/-- A job in slot 63. -/
def dSlot (st : JobState) : Dev := { dJob with jobs.slot := [(63, { state := st, op := 9, total := 65536 })] }
theorem wit_JobControl :
    (WritePasses (dSlot .done) .ring (jobCtrlAddr 63) (2 + 65536 * 127) ∧ 127 = (dSlot .done).handle 63 ∧ ((dSlot .done).job 63).ended = true) ∧
    (WritePasses (dSlot .running) .ring (jobCtrlAddr 63) (2 + 65536 * 127) ∧ ((dSlot .running).job 63).ended = false) ∧
    (WritePasses (dSlot .running) .ring (jobCtrlAddr 63) (1 + 65536 * 127) ∧ ((dSlot .running).job 63).state ≠ .free) ∧
    (WritePasses (dSlot .running) .ring (jobCtrlAddr 63) (1 + 65536 * 128) ∧ 128 ≠ (dSlot .running).handle 63) := by decide +kernel
/-- The SVC runs in its window, with one job. -/
def dStep (j : Job) : Dev := { dJob with tick.windowOpen := [(3, true)], jobs.slot := [(0, j)] }
theorem wit_JobSteps :
    dM1.svcRuns = false ∧
    (let j : Job := { state := .running, op := 9, total := 65536, progress := 8192, cancel := true }
     (dStep j).svcRuns = true ∧ (dStep j).tick.windowOpen.rd 3 = true ∧ (dStep j).suspendedJob = none ∧ (dStep j).pickJob = some (0, j) ∧ (dStep j).jobs.slot.rd 0 = j ∧
       j.internal = false ∧ j.abandon = false ∧ j.phase ≠ 9) ∧
    (let j : Job := { state := .queued, op := 9, total := 65536 }
     (dStep j).suspendedJob = none ∧ (dStep j).pickJob = some (0, j) ∧ j.cancel = false ∧ j.progress + 8192 < j.total) ∧
    (let j : Job := { state := .running, op := 1, total := 1, progress := 1, arg2 := 1 }
     (dStep j).suspendedJob = none ∧ (dStep j).pickJob = some (0, j) ∧ (dStep j).jobs.slot.rd 0 = j ∧ j.phase = 0 ∧ j.progress = j.total) ∧
    (let j : Job := { state := .running, op := 9, total := 65536, progress := 8192 }
     let d := { dStep j with jobs.suspended := some 0 }
     d.suspendedJob = some (0, j) ∧ d.svcRuns = true ∧ d.tick.windowOpen.rd 3 = true ∧ j.phase = 0 ∧ j.progress + 8192 < j.total) := by decide +kernel
/-- A step that the window's end cuts short is suspended (R117). -/
theorem test_jobStep_suspended : (after (.jobStep { held := true }) (dStep { state := .running, op := 9, total := 65536 })).jobs.suspended = some 0 := by decide +kernel
theorem test_jobStep_cancelled :
    ((after (.jobStep {}) (dStep { state := .running, op := 9, total := 65536, progress := 8192, cancel := true })).jobs.slot.rd 0).state = .cancelled := by
  decide +kernel

/-! ### Lanes -/

/-- Lane 0 of tile 8 as given, on the x16 S port 64. -/
def dLane (l : Lane) : Dev := { dJob with ln := { lane := [(laneKey 8 0, l)], link := [(64, { state := 3 })] } }
/-- Port 64 with an active lane 0 and a standby spare 16. -/
def dSpare (link : Link) : Dev :=
  { dJob with run.spare := [(0, { enable := true }), (1, { enable := true })], run.cut := [(0, 4), (8, 4), (64, 4)], ln := { lane := [(laneKey 8 0, { state := 7, port := some 64, logical := 0, lock := true }), (laneKey 8 1, { state := 7, port := some 64, logical := 1, rxLogical := 1, lock := true }), (laneKey 8 16, { state := 8, port := some 64, lock := true }), (laneKey 8 17, { state := 8, port := some 64, lock := true })], link := [(64, link)], tile := [(7, { pll0 := true, pll1 := true }), (8, { pll0 := true, pll1 := true, onPll1 := true })] } }
/-- 64 IDLE blocks as a transmitter sends them, and the same with the input the wrong way round. -/
def runCtrl : List Nat := (scramBlocks 12345 (List.replicate 64 idleBlock)).2
def runData : List Nat := runCtrl.map (fun b => 2 ^ 66 - 1 - b)
theorem wit_LaneTraining :
    (dLane { state := 1 }).atDie 8 = true ∧ ({ dLane {} with pkg.t8Die := false } : Dev).atDie 8 = false ∧ ((dLane {}).lane 8 0).loop = 0 ∧ runCtrl ≠ [] ∧
    ((dLane { state := 1 }).lane 8 0).state = 1 ∧ ((dLane { state := 2 }).lane 8 0).state = 2 ∧
    (let d := dLane { state := 3 }
     (d.lane 8 0).state = 3 ∧ runValid (d.heard 8 0 []) = false ∧ (d.lane 8 0).confirm = false ∧ runValid (d.heard 8 0 runCtrl) = true ∧
       runKind ctrlHeader (d.heard 8 0 runCtrl) = true ∧ runValid (d.heard 8 0 runData) = true ∧ runKind dataHeader (d.heard 8 0 runData) = true) ∧
    (let d := dLane { state := 3 }
     let r := runCtrl.take 63 ++ [runData.headD 0]
     runValid (d.heard 8 0 r) = true ∧ runKind ctrlHeader (d.heard 8 0 r) = false ∧ runKind dataHeader (d.heard 8 0 r) = false ∧ lineBlocks (r.map blockHeader) (r.map blockPayload) = r) ∧
    (let d := dLane { state := 3, confirm := true, polInv := true, descram := 12345 }
     (d.lane 8 0).confirm = true ∧ runValid (d.heard 8 0 runData) = true ∧ runKind ctrlHeader (d.heard 8 0 runData) = true ∧
       idleOrTrain (descramBlocks (d.lane 8 0).descram (d.heard 8 0 runData)).2 = true ∧ runKind ctrlHeader (d.heard 8 0 runCtrl) = false) := by decide +kernel
theorem wit_LaneTraining_later :
    lineBlocks (runCtrl.map blockHeader) (runCtrl.map blockPayload) = runCtrl ∧ lineBlocks (runData.map blockHeader) (runData.map blockPayload) = runData ∧ lineBlocks [] [] = [] ∧
    (((dLane { state := 9 }).lane 8 0).state = 9 ∧ runValid ((dLane { state := 9 }).heard 8 0 runCtrl) = true) ∧
    (let d := { dLane {} with ln.lane := [(laneKey 8 17, { state := 3 })] }
     (d.lane 8 17).state = 3 ∧ (d.lane 8 17).port = none) ∧
    (let d0 := dSpare { state := 1 }
     let d := { d0 with ln.lane := d0.ln.lane.wr (laneKey 8 0) { state := 6, port := some 64, logical := 0 } }
     (d.lane 8 0).state = 6 ∧ (d.lane 8 0).port = some 64 ∧ (d.link 64).state = 1 ∧ d.spareReady 64 0 = true) := by decide +kernel
theorem test_blockLock_data : ((after (.blockLock 8 0 (runData.map blockHeader) (runData.map blockPayload)) (dLane { state := 3 })).lane 8 0).polInv = true := by decide +kernel
/-- R503: lane 144 + 3 of T8 passes to 152 + 3, and spare 160 to 161, in any state of the part. -/
theorem test_t8_passes : (after (.train 8 3 { state := 4 }) { dM1 with pkg.t8Die := false }).out = [.through [155] [trainBlock { state := 4 }]] ∧
    (after (.train 8 16 {}) dM0).out = [.through [161] [trainBlock {}]] := by decide +kernel
theorem wit_FomWindows :
    ((dLane { state := 7, frozen := true }).lane 8 0).frozen = true ∧
    (let d := dLane { state := 7, lock := true }
     d.mode.base ≠ .m0 ∧ (d.lane 8 0).frozen = false ∧ (d.lane 8 0).state = 7 ∧ (d.lane 8 0).sawBad = false ∧ (d.lane 8 0).floor ≤ fomOf 20 64 ∧ (d.lane 8 0).hEq.on = false ∧
       fomOf 19 64 < (d.lane 8 0).floor) ∧
    (let d := dLane { state := 4, ctle := 14, ctleBest := some (10, 2) }
     (d.lane 8 0).state = 4 ∧ (d.lane 8 0).ctle < 15 ∧ (d.lane 8 0).ctleBest = some (10, 2)) ∧
    ((dLane { hEq := { on := true, cur := 9, best := some (9, 2) } }).lane 8 0).hEq.on = true := by decide +kernel
theorem test_fom : ((after (.fomWindowEnd 8 0 20 64 ⟨0, 0, 0⟩) (dLane { state := 7, lock := true })).lane 8 0).fom = 80 := by decide +kernel
/-- Lane 0 of the x8 H port 8. -/
def dHLane (l : Lane) : Dev := { dRun with run.tile := [(0, { role := 1 }), (1, { role := 1 })], run.cut := [(0, 4), (8, 3)], ln.lane := [(laneKey 1 0, l)] }
theorem wit_TrainRequests :
    (let l : Lane := { state := 3, post := 13, pre := 4, main := 31 }
     ((dLane l).lane 8 0).state = 3 ∧ bitAt l.txAcc 31 = false ∧ l.post < 16 ∧ 12 + 2 * (l.pre + l.post + 1) ≤ 48 ∧ l.pre ≤ 8 ∧ 0 < l.pre ∧ 12 + 2 * (l.pre + l.post) ≤ 48) ∧
    (let l : Lane := { state := 3, post := 14, pre := 4, main := 30 }
     ((dLane l).lane 8 0).state = 3 ∧ l.pre ≤ 8 ∧ l.post ≤ 16 ∧ 48 < 12 + 2 * (l.pre + l.post + 1)) ∧
    (let l : Lane := { state := 6, post := 16, pre := 0, main := 32 }
     ((dLane l).lane 8 0).state = 6 ∧ l.post = 16 ∧ l.pre = 0) ∧
    (let d := dHLane { pre := 3 }
     d.cutPort 1 0 = some 8 ∧ d.isH 8 = true ∧ 2 ≠ d.evalPhase 8 ∧ ({ phase := 2, usePreset := true, preset := 4 } : EqTs).coefs.isSome = true ∧
       ({ phase := 2, pre := 4, main := 30, post := 8 } : EqTs).coefs = none) ∧
    (let d := { dHLane {} with run.part := [(0, { present := true, upstream := 8 })] }
     d.cutPort 1 0 = some 8 ∧ d.isH 8 = true ∧ d.evalPhase 8 = 2 ∧ (d.lane 1 0).hEq.on = false ∧ (d.lane 1 0).hEq.kept = none) := by decide +kernel
theorem test_train_limit : ((after (.train 8 0 { preReq := 0, postReq := 1 }) (dLane { state := 3, post := 14, pre := 4, main := 30 })).lane 8 0).coefAck = 1 := by decide +kernel
theorem wit_SpareLanes :
    ((dLane {}).lane 8 0).lock = false ∧
    (let d := dSpare { state := 3 }
     (d.lane 8 16).state = 8 ∧ (d.lane 8 16).lock = true ∧ d.sparePort 8 16 = some 64 ∧ (d.link 64).mirror = none) ∧
    (let d := dSpare { state := 2 }
     (d.lane 8 0).state = 7 ∧ (d.lane 8 0).lock = true ∧ (d.lane 8 0).logical < 16 ∧ (d.lane 8 0).port = some 64 ∧ (d.link 64).state = 2 ∧ (d.link 64).mirror = none ∧
       d.spareReady 64 0 = true ∧ (d.policy 0).enable = true ∧ d.portFenced 64 = false) ∧
    (let d := dSpare { state := 2 }
     d.isS 64 = true ∧ (d.link 64).pause = .none ∧ (d.lane (portTile 64) (d.swapSpare 64 0)).state = 8 ∧ d.sparePort (portTile 64) (d.swapSpare 64 0) = some 64 ∧
       d.laneNamed 64 1 = some 1 ∧ d.laneOf 64 (d.lane (portTile 64) 1).logical = some 1 ∧ 1 ≠ d.swapSpare 64 0) ∧
    (let d := dSpare { state := 4, pause := .swapWait, swaps := [(1, 17)] }
     (d.link 64).state = 4 ∧ (d.link 64).pause = .swapWait ∧ (d.link 64).swaps = [(1, 17)] ∧ d.laneOf 64 1 = some 1 ∧ (d.link 64).mirror = none ∧ (d.link 64).swapQueue = [] ∧
       (d.link 64).fromInit = false ∧ (d.link 64).a = (d.link 64).n ∧ (d.activeLanes 64).all (fun n => d.hasLock (portTile 64) n) = true) := by decide +kernel
theorem test_swapRequest : ((after (.swapRequest 64 { switchId := 4, logical := 1, spare := 0 }) (dSpare { state := 3 })).lane 8 1).retired = true := by decide +kernel
theorem wit_AlignAndPll :
    ((dSpare { state := 0 }).link 64).state = 0 ∧ (dSpare { state := 0 }).atDie (portTile 64) = true ∧
    (let d := dSpare { state := 4, pause := .pll, fromInit := true }
     d.isS 64 = true ∧ (d.link 64).state = 4 ∧ (d.link 64).pause = .pll ∧ (d.link 64).swapQueue = [] ∧ (d.link 64).a = (d.link 64).n ∧
       (d.activeLanes 64).all (fun n => ({ width := 4, lanes := [(0, 0, 0), (1, 1, 0)] } : AlignBurst).inStep.any (fun x => x.1 == n)) = true ∧
       (d.activeLanes 64).all (fun n => d.hasLock (portTile 64) n) = true) ∧
    (let d := dSpare { state := 3, mirror := some (1, 16, 0) }
     (d.link 64).mirror = some (1, 16, 0) ∧ (d.link 64).mirrorOwn = false ∧ (d.link 64).mirrorPeer = false) ∧
    (let d := dSpare { state := 3, mirror := some (1, 16, 0), mirrorPeer := true }
     (d.link 64).mirrorOwn = false ∧ (d.link 64).mirrorPeer = true ∧ (d.link 64).selOwn = false) ∧
    (let d := dSpare { state := 3 }
     (d.ln.tile.rd 8).pll0 = true ∧ (d.ln.tile.rd 8).onPll1 = true ∧ (d.ln.tile.rd 7).pll0 = true ∧ (d.ln.tile.rd 7).onPll1 = false ∧ (d.ln.tile.rd 7).pll1 = true ∧
       (d.policy 1).enable = true ∧ d.tileIsolated 7 = false ∧ d.role 7 = 0) ∧
    (let d := { dRun with ln.tile := [(7, { pll0 := true })] }
     (d.ln.tile.rd 7).pll0 = true ∧ (d.ln.tile.rd 7).onPll1 = false ∧ (d.ln.tile.rd 7).pll1 = false ∧ d.mode.base ≠ .m10 ∧ d.is7144 = true ∧ d.role 7 = 0) := by decide +kernel
theorem wit_LaneRegisters :
    (WritePasses (dLane {}) .ring (laneAddr 8 0 0x40) 3 ∧ (dLane {}).mode.base ≠ .m10) ∧
    (let d := { dLane {} with mode.base := .m10 }
     WritePasses d .ring (laneAddr 7 17 0x40) 1 ∧ d.mode.base = .m10 ∧ d.lanePort 7 17 = none ∧ WritePasses d .ring (laneAddr 8 0 0x30) 0x30 ∧
       fld 0x30 0 2 = 0 ∧ fld 0x30 4 2 = 3 ∧ WritePasses d .ring (laneAddr 8 0 0x30) 0x20 ∧ fld 0x20 4 2 = 2 ∧
       ({ d with run.tile := [(8, { role := 2, rateMax := 0 })] } : Dev).isNrz 8 0 = true) ∧
    (WritePasses (dLane {}) .ring (laneAddr 8 0 0x30) 3 ∧ fld 3 0 2 ≠ 0) ∧
    (let d := dLane { prbsChk := 1 }
     (d.lane 8 0).prbsChk ≠ 0 ∧ (d.lane 8 0).chkLock = false ∧ prbsHolds (d.lane 8 0).prbsChk (d.checkerIn 8 0 (1 + 2 ^ 7 * prbsRun 1 128 1)) = true) ∧
    ((dLane { chkLock := true }).lane 8 0).chkLock = true ∧ ((dLane { marginBusy := true }).lane 8 0).marginBusy = true ∧
    (let d := dHLane { marginBusy := true, frozen := true }
     d.cutPort 1 0 = some 8 ∧ d.role 1 = 1 ∧ fld (pack [(0, d.marginReceiver 8), (3, 3), (8, 31)]) 0 3 = d.marginReceiver 8 ∧ bitAt (pack [(0, d.marginReceiver 8), (3, 3), (8, 31)]) 6 = false ∧
       fld (pack [(0, d.marginReceiver 8), (3, 3), (8, 31)]) 3 3 = 3 ∧ fld (pack [(0, d.marginReceiver 8), (3, 3), (8, 31)]) 8 8 % 64 ≤ 31 ∧ (d.lane 1 0).marginBusy = true) ∧
    (let d := dLane {}
     WritePasses d .ring (laneAddr 8 0 0x44) (0x01 % 2 ^ 31 + 2 ^ 31) ∧ d.inRunOrTest = true ∧ d.laneUsable 8 0 = true ∧ (d.lane 8 0).marginBusy = false ∧ (d.lane 8 0).pcieStep = false ∧
       marginOk 0x01 = true ∧ (dLane { pcieStep := true }).laneUsable 8 0 = true) ∧
    (let d := dLane { eqPort := some 2 }
     WritePasses d .ring (laneAddr 8 0 0x24) 1 ∧ (d.lane 8 0).eqPort = some CmdPort.ring.key ∧ d.role 8 = 2 ∧ d.barLocked (laneAddr 8 0 0x18) 12 = false ∧
       eqCode (d.lane 8 0).txSh = 0 ∧ d.mode.base ≠ .m10) ∧
    (let d := dLane { eqPort := some 2, txSh := 9 }
     WritePasses d .ring (laneAddr 8 0 0x24) 1 ∧ eqCode (d.lane 8 0).txSh ≠ 0 ∧
       (d.lane 8 0).eqPend.getD ((d.lane 8 0).txAcc, (d.lane 8 0).rxAcc) ≠ ((d.lane 8 0).txSh, (d.lane 8 0).rxSh)) := by decide +kernel
theorem test_prbsLockLoss : ((after (.prbsLockLoss 8 0 ⟨65, 0, 0⟩) (dLane { chkLock := true, prbsErr := 2 ^ 32 - 2 })).lane 8 0).prbsErr = 2 ^ 32 - 1 := by decide +kernel

/-! ### The Sherix link layer -/

/-- S port 64 with its link as given. -/
def dLink (l : Link) : Dev := { dJob with ln := { link := [(64, l)] } }
/-- `k a`, with `a` computed before `k` runs. -/
def force {α : Type} (a : Nat) (k : Nat → α) : α :=
  match a with
  | 0 => k 0
  | n + 1 => k (n + 1)
theorem force_eq {α : Type} (a : Nat) (k : Nat → α) : force a k = k a := by cases a <;> rfl
/-- `List.foldl` with each intermediate value computed before the next element enters. -/
def foldS (f : Nat → Nat → Nat) (a : Nat) : List Nat → Nat
  | [] => a
  | b :: bs => force (f a b) (fun c => foldS f c bs)
theorem foldS_eq (f : Nat → Nat → Nat) (bs : List Nat) : ∀ a, foldS f a bs = bs.foldl f a := by
  induction bs with
  | nil => intro a; rfl
  | cons b bs ih => intro a; simp [foldS, force_eq, ih]
def gfMulS : Nat → Nat → Nat → Nat → Nat
  | 0, _, _, acc => acc
  | n + 1, a, b, acc => force (if b % 2 = 1 then Nat.xor acc a else acc) (fun c => force (gfX a) (fun a' => gfMulS n a' (b / 2) c))
theorem gfMulS_eq (n : Nat) : ∀ a b acc, gfMulS n a b acc = gfMulN n a b acc := by
  induction n with
  | zero => intros; rfl
  | succ n ih => intros; simp [gfMulS, gfMulN, force_eq, ih]
def synS (w : List Nat) : List Nat :=
  [1, 2, 4, 8, 16, 32, 64, 128, 256, 512, 9, 18].map (fun x => foldS (fun a c => Nat.xor (gfMulS 10 a x 0) c) 0 w)
theorem fecSyn_eq : fecSyn = synS := by
  funext w; simp [fecSyn, synS, foldS_eq, gfMulS_eq, gfMul, List.range, List.range.loop, gfAlpha, iter, gfX]
def seedS (bs : List Nat) : Nat :=
  Nat.xor (foldS crc64Unbyte (Nat.xor (leAt bs 0xE8 8) ones64) (bs.take 232).reverse) ones64
theorem seedS_eq (bs : List Nat) : seedS bs = crc64Seed (bs.take 232) (leAt bs 0xE8 8) := by
  simp [seedS, crc64Seed, foldS_eq]
/-- A flit without payload, by its three header bytes and its 23 bytes of CRC and parity. -/
def aFlit (h tail : List Nat) : RawFlit := { bytes := h ++ List.replicate 229 0 ++ tail ++ [0] }
/-- An IDLE flit whose CRC has 4096 in its seed. -/
def flitNoMatch := aFlit [192, 255, 3] [62, 85, 102, 73, 37, 37, 120, 21, 137, 126, 53, 65, 212, 191, 151, 221, 15, 246, 170, 160, 178, 0, 48]
def wordNoMatch : List Nat := [960, 255] ++ List.replicate 183 0 ++ [896, 339, 409, 329, 329, 898, 85, 649, 351, 19, 849, 959, 869, 253, 984, 170, 168, 11, 192]
/-- A SEQ flit of sequence 0 that returns 5 units of VC7. -/
def flitCredit := aFlit [193, 255, 191] [47, 96, 154, 94, 164, 220, 211, 171, 143, 73, 24, 28, 29, 209, 147, 81, 179, 21, 135, 83, 194, 160, 38]
def wordCredit : List Nat := [961, 1023, 11] ++ List.replicate 182 0 ++ [960, 514, 617, 94, 809, 317, 687, 399, 530, 449, 116, 977, 100, 821, 86, 903, 148, 524, 154]
theorem wit_FlitClasses_port : (dLink { state := 3 }).atDie (portTile 64) = true ∧ (dLink { state := 3 }).isS 64 = true ∧ ((dLink { state := 3 }).link 64).state = 3 ∧ (dLink { state := 3 }).sw.regIn = [] ∧
    (dLink { state := 3 }).sw.hubIn = [] ∧ ((dLink { state := 3 }).link 64).rate = 0 ∧ ((dLink { state := 3 }).link 64).n = ((dLink { state := 3 }).link 64).a ∧
    ((dLink { state := 3 }).link 64).rx = [] ∧ ((dLink { state := 3 }).link 64).auditIn = none := by decide
theorem wit_FlitClasses_uncorrectable : fecDecode (fecWord (List.replicate 192 0 ++ [1, 2, 3, 4, 5, 6, 7, 8, 9, 10, 11, 12, 13])) [] = none := by
  have : fecWord (List.replicate 192 0 ++ [1, 2, 3, 4, 5, 6, 7, 8, 9, 10, 11, 12, 13]) = List.replicate 153 0 ++ [64, 32, 12, 260, 385, 112, 32, 521, 706, 192, 52] ++ List.replicate 40 0 := by decide +kernel
  rw [this]
  simp only [fecDecode, fecSyn_eq]; decide +kernel
theorem word_noMatch : fecWord flitNoMatch.bytes = wordNoMatch := by decide +kernel
theorem word_credit : fecWord flitCredit.bytes = wordCredit := by decide +kernel
/-- Both flits decode, without a correction. -/
theorem wit_FlitClasses_decode : fecDecode (fecWord flitNoMatch.bytes) [] = some (wordNoMatch, 0) ∧ fecDecode (fecWord flitCredit.bytes) [] = some (wordCredit, 0) := by
  rw [word_noMatch, word_credit]
  have h : (fecSyn wordNoMatch).all (fun s => s == 0) = true ∧ (fecSyn wordCredit).all (fun s => s == 0) = true := by rw [fecSyn_eq]; decide +kernel
  simp [fecDecode, h.1, h.2]
/-- The one flit matches no sequence; the other one is in order at E = 0, ahead at E = 3073 and 4095, and a duplicate at E = 1 and
1024. -/
theorem wit_FlitClasses_seed : 4096 ≤ seedS (fecUnmsg wordNoMatch) ∧ seedS (fecUnmsg wordCredit) = 0 ∧ seqSub 0 4095 = 1 ∧ seqSub 0 3073 = 1023 ∧
    3072 ≤ seqSub 0 1 ∧ seqSub 0 1024 = 3072 := by decide +kernel
theorem wit_FlitClasses_header :
    (let h := FlitHdr.ofWord (leAt (fecUnmsg wordCredit) 0 8)
     h.kind = 1 ∧ h.fill = 0 ∧ h.chA = 0 ∧ h.chB = 0 ∧ h.crUnits = 5 ∧ h.nak = false ∧ h.ok (slice (fecUnmsg wordCredit) 0x18 208) = true ∧ (Margin.ofBytes (slice (fecUnmsg wordCredit) 8 16)).type = 0) := by
  decide +kernel
theorem wit_FlitSending :
    (let d := dLink { state := 3 }
     d.isS 64 = true ∧ (d.link 64).state = 3 ∧ (d.link 64).mq = [] ∧ (d.link 64).ex = [] ∧ (d.link 64).idleOnly = false ∧ (d.link 64).replay = none ∧
       d.mode.railFail = false ∧ ∀ v : Nat, v < 8 → d.canChunk 64 v = false) ∧
    (let d := dSpare { state := 3, width := 4 }
     (d.link 64).mirror = none ∧ 1 ∈ d.activeLanes 64 ∧ (d.lane (portTile 64) 1).sendsOwn = true) ∧
    (let d := dLink { state := 3, n := 5, a := 4, replay := some 4, buf := [{ seq := 4, fill := 1, chunks := List.replicate 208 1 }] }
     (d.link 64).replay = some 4 ∧ (d.link 64).buf.find? (fun x => x.seq == 4) = some { seq := 4, fill := 1, chunks := List.replicate 208 1 }) ∧
    (let d := dLink { state := 3, debts := [(2, 2047, 0)] }
     (d.link 64).debts = [(2, 2047, 0)] ∧ d.stalled 64 = false ∧ ∀ v : Nat, v < 8 → d.canChunk 64 v = false) := by decide +kernel
theorem wit_LinkDownCauses :
    (let d := dLink { state := 3, n := 5, a := 4, expiries := 1 }
     (d.link 64).state = 3 ∧ (d.link 64).a ≠ (d.link 64).n ∧ (d.link 64).expiries < 2) ∧
    (let d := dLink { state := 3, n := 5, a := 4, expiries := 2 }
     (d.link 64).state = 3 ∧ (d.link 64).a ≠ (d.link 64).n ∧ (d.link 64).expiries = 2 ∧ d.sw.voq = [] ∧ d.sw.staging = [] ∧ (d.link 64).inReplay = [] ∧
       (d.link 64).heldDown 1 = false) ∧
    (((dLink { state := 2 }).link 64).state = 2 ∧ ((dLink { state := 2 }).link 64).heldDown 4 = false) ∧
    (((dLink { state := 4 }).link 64).state = 4 ∧ ((dLink { state := 4 }).link 64).heldDown 9 = false) ∧
    (((dLink { state := 1, trainFailed := true }).link 64).state = 1 ∧ ((dLink { state := 1, trainFailed := true }).link 64).trainFailed = true) := by decide +kernel
theorem test_ackTimer_third : ((after (.ackTimerExpiry 64) (dLink { state := 3, n := 5, a := 4, expiries := 2 })).link 64).lastCause = 1 := by decide +kernel
/-- Port 8, whose instance sources the part has. -/
def dLink8 (l : Link) : Dev := { dJob with ln := { link := [(8, l)] } }
theorem wit_LinkBringUp :
    (((dLink8 { state := 2, rcvd := 6 }).link 8).state = 2 ∧ ((dLink8 { state := 2, rcvd := 6 }).link 8).rcvd = 6 ∧ (dLink8 { state := 2, rcvd := 6 }).portJobs 8 0x0A = []) ∧
    (((dLink8 { state := 2 }).link 8).state = 2 ∧ ((dLink8 { state := 2 }).link 8).rcvd = 0 ∧ ((dLink8 { state := 2 }).link 8).heldDown 4 = false ∧
      (dLink8 { state := 2 }).sw.voq = [] ∧ (dLink8 { state := 2 }).sw.staging = [] ∧ ((dLink8 { state := 2 }).link 8).inReplay = []) ∧
    (((dLink8 { state := 3 }).link 8).state = 3 ∧ ((dLink8 { state := 3 }).link 8).mq = []) := by decide +kernel
theorem test_linkInit_up : ((after (.linkInit 8 7 64 0 0 7) (dLink8 { state := 2, rcvd := 6 })).link 8).state = 3 := by decide +kernel
theorem wit_MarginExchanges :
    (let d := { dSpare { state := 3 } with ln.lane := [] }
     (d.link 64).state = 3 ∧ (d.link 64).mq = [] ∧ (d.link 64).mirror = none ∧ (d.lane (portTile 64) (d.swapSpare 64 0)).state ≠ 8) ∧
    (let d := dSpare { state := 3 }
     (d.link 64).mirror = none ∧ (d.lane (portTile 64) (d.swapSpare 64 1)).state = 8 ∧ d.sparePort (portTile 64) (d.swapSpare 64 1) = some 64 ∧ (d.laneNamed 64 1).isSome = true ∧
       d.portConflict 64 = false ∧ 1 ≤ widthCode (d.cutWidth 64) ∧ 1 ≤ (d.run.tile.rd (portTile 64)).rateMax) ∧
    (let d := dLink { state := 3, mirror := some (1, 16, 9), ex := [{ msg := { type := 0x10 } }] }
     (d.link 64).mirrorIs 1 9 = true ∧ (d.link 64).ex.any (fun q => q.msg.type == 0x10) = true ∧ (d.link 64).selOwn = false ∧ (d.link 64).mirrorOwn = false ∧ (d.link 64).selPeer = false) ∧
    (let d := dLink { state := 3, ex := [{ msg := { type := 0x22, body := 65536 * (65535 % 65536) }, flits := 16 }] }
     (d.link 64).ex = [{ msg := { type := 0x22, body := 65536 * (65535 % 65536) }, flits := 16 }] ∧
       (let e := { d with jobs.slot := [(63, { state := .running, op := 0x0B, arg0 := 64, phase := 1 })] }
        e.portJobs 64 0x0B = [(63, e.jobs.slot.rd 63)])) ∧
    (let d := dLink { state := 3, ex := [{ msg := { type := 0x02, body := 3 }, flits := 0 }] }
     (d.link 64).ex = [{ msg := { type := 0x02, body := 3 }, flits := 0 }]) ∧
    (let d := dLink { state := 3, auditSeen := false }
     (d.link 64).auditSeen = false ∧ (d.link 64).auditIn = none ∧ seqSub ((d.link 64).e + 4095) 4095 < 2048 ∧
       ∀ v : Nat, v < 8 → (d.link 64).auditExpect { s := 4095 } v = ([] : List Nat).getD v 0 % 1024) ∧
    (let d := dLink { state := 3, recent := [(5, 2, 0)] }
     (d.link 64).recent.any (fun q => q.1 == fld 5 0 12 && q.2.1 == 2) = true) ∧
    (let d := { dLink { state := 3 } with run.tile := [(8, { role := 2 })], run.cut := [(64, 4)] }
     (d.link 64).recent = [] ∧ fld (2 ^ 32 + 2 ^ 12) 32 8 = 1 ∧ fld (2 ^ 32 + 2 ^ 12) 12 4 ≠ 0 ∧ d.cont.seen = [] ∧ d.sPorts = [64]) := by decide +kernel
theorem wit_PortHolds :
    (let d := dLink { state := 1 }
     WritePasses d .ring (sherixAddr 64 0x04) (withBit (d.sxCtrl 64) 0 true) ∧ (d.link 64).state = 1 ∧ (d.link 64).adminDown = false) ∧
    (let d := dLink { state := 3 }
     WritePasses d .ring (sherixAddr 64 0x04) (withBit (d.sxCtrl 64) 2 true) ∧ (d.link 64).state = 3) ∧
    (let d := dLink { state := 5, holdDown := true }
     WritePasses d .ring (sherixAddr 64 0x04) (withBit (d.sxCtrl 64) 2 false) ∧ (d.link 64).state = 5 ∧ (d.link 64).adminDown = false ∧
       (d.link 64).bypassed = false ∧ (d.link 64).fenced = false) := by decide +kernel


/-! ### PCI Express ports and the switch core -/

/-- An HL-7144 in M3 with partitions 0 (H ports 0, 8 and 9) and 1 (H ports 12 and 9): port 9 is shared. -/
def dPci : Dev :=
  { dRun with run.tile := [(0, { role := 1, rateMax := 4 }), (1, { role := 1, rateMax := 4 })], run.cut := [(0, 4), (8, 3), (9, 2), (12, 3)], run.part := [(0, { present := true, upstream := 0, down := 2 ^ 8 + 2 ^ 9 }), (1, { present := true, upstream := 12, down := 2 ^ 9 })], pcie.port := [(0, { dlActive := true }), (8, { dlActive := true }), (9, { dlActive := true })], pcie.cfg := [(cfgKey (fnUp 0) 1, 4), (cfgKey (fnDown 0 8) 1, 4)] }
/-- The same in M4, where H port 9 is a shared port. -/
def dPci4 : Dev := { dPci with mode.base := .m4 }
/-- The port record of H port 8 as given. -/
def dPort8 (pp : PciePort) : Dev := { dPci with pcie.port := [(0, { dlActive := true }), (8, pp)] }
/-- The downstream port 8 serves partition 0 alone. -/
theorem wit_PcieLinks_down : dPci.inRunOrTest = true ∧ dPci.isH 8 = true ∧ dPci.upstreamOf 8 = none ∧ dPci.sharers 8 = [0] ∧ dPci.isH 0 = true ∧ dPci.upstreamOf 0 = some 0 ∧
    (dPci.pport 0).dlActive = true ∧ dPci.sw = {} := by decide +kernel
theorem wit_PcieLinks :
    (let d := dPort8 {}
     d.atDie (portTile 8) = true ∧ (d.pport 8).dlActive = false ∧ (d.pport 8).adminDown = false ∧ (d.pport 8).holdDown = false ∧ (d.pport 8).fenced = false ∧ (d.pport 8).dpcTriggered = false ∧
       d.pcie.partReset.rd 0 = 0 ∧ d.upstreamOf 8 = none ∧ d.sharers 8 = [0] ∧ 8 ≤ d.cutWidth 8 ∧ 4 ≤ d.rateLimit 8 ∧ (d.pport 8).present = false) ∧
    ((dPci.pport 8).dlActive = true ∧ (dPci.pport 8).commanded = false ∧ dPci.sw.staging = [] ∧ dPci.dpcEnable 8 = 0) ∧
    (let d := { dPci with pcie.cfg := [(cfgKey (fnDown 0 8) 161, 2 * 65536)] }
     d.dpcEnable 8 = 2 ∧ (d.pport 8).dpcTriggered = false) ∧
    ((dPort8 { present := true }).pport 8).present = true ∧ ((dPort8 { present := true }).pport 8).dlActive = false ∧
    (let d := dPort8 { dlActive := false }
     WritePasses d .ring (pcieAddr 8 0x04) (withBit (d.pcieCtrl 8) 0 true) ∧ (d.pport 8).adminDown = false ∧ (d.pport 8).dlActive = false) ∧
    WritePasses dPci .ring (pcieAddr 8 0x04) (withBit (dPci.pcieCtrl 8) 1 true) ∧
    (let d := dPort8 { dlActive := true, dpcTrigEn := 3 }
     WritePasses d .ring (pcieAddr 8 0x80) (d.dpcCtrl 8 + 4) ∧ (d.pport 8).dpcTrigEn < 4 ∧ (d.pport 8).dpcTriggered = false) ∧
    (let d := dPort8 { dpcTriggered := true, fenced := true }
     WritePasses d .ring (pcieAddr 8 0x80) (d.dpcCtrl 8 + 2 ^ 31) ∧ (d.pport 8).dpcTriggered = true ∧ (d.pport 8).adminDown = false ∧ d.coveredPort 8 = false) ∧
    ReadPasses dPci .ring (pcieAddr 8 0x74) := by decide +kernel
theorem test_dlActive_view : bitAt ((after (.dlActive 8 4 8 0 false false) (dPort8 {})).pcie.cfg.rd (cfgKey (fnDown 0 8) 30)) 24 = true := by decide +kernel
/-- A posted write of partition 0 to an address above its bridge. -/
def aWrite : Tlp := { kind := .memWrite, addr := 2 ^ 33, data := [1, 2, 3, 4] }
def aStaged : Staged := { pkt := { cells := 1, cls := 2, body := .tlp { kind := .cpl } }, got := 1 }
theorem wit_PcieTraffic :
    (dPci.inRunOrTest = true ∧ dPci.isH 8 = true ∧ dPci.isH 9 = true ∧ (dPci.pport 8).dlActive = true ∧ (dPci.pport 9).dlActive = true ∧ dPci.sw.regIn = [] ∧ dPci.sw.hubIn = []) ∧
    (dPort8 { dlActive := true, fenced := true }).portFenced 8 = true ∧
    (let d := { dPci with bnd.gateMode := true }
     d.portFenced 8 = false ∧ d.isShared 8 = false ∧ d.tlpPartition 8 0x100 = some 0 ∧ aWrite.malformed (d.mpsOf (d.bridgeOf 0 8)) = false ∧
       d.mode.base ≠ .m10 ∧ (d.pport 0).dpcTriggered = false ∧ d.walled 0 = false ∧ d.routeAddr 0 8 aWrite.addr false aWrite.fabricKind aWrite.translated = .port 0 ∧ d.bmeStop 0 8 (.port 0) = none ∧ d.acsBlocks 0 8 aWrite = false ∧ d.egressStop 0 0 aWrite = none ∧
       d.bnd.gateMode = true ∧ d.isShared 0 = false) ∧
    (dPci4.portFenced 9 = false ∧ dPci4.isShared 9 = true ∧ dPci4.tlpPartition 9 0x1FF = none ∧ (dPci4.pport 9).dlActive = true) ∧
    (let d := { dPci with sw.staging := [(8 * 8 + 7, [aStaged])] }
     (∀ u : Nat, u < 8 → d.sw.staging.rd (8 * 8 + u) = if u = 7 then [aStaged] else []) ∧ aStaged.got = aStaged.pkt.cells ∧ aStaged.pkt.body = .tlp { kind := .cpl } ∧
       aStaged.pkt.epoch = none ∧ aStaged.pkt.cls = 2 ∧ (d.sw.drr.rd (64 + 8)).cur < 8 ∧ d.portFenced 8 = false ∧ d.isShared 8 = false ∧
       d.fcCovers (List.replicate 48 1) aStaged.pkt = true ∧ d.fcCovers [] aStaged.pkt = false) ∧
    ((dPci.run.part.rd 0).upstream = 0 ∧ dPci.cfgTarget 0 0 = .fn (fnUp 0) ∧ dPci.cfgTarget 0 16 = .none ∧ dPci.upstreamOf 0 = some 0) ∧
    (let d := { dPci with pcie.cfg := [(cfgKey (fnUp 0) 170, 2)] }
     d.tlpPartition 8 0x100 = some 0 ∧ d.upstreamOf 8 = none ∧ bitAt (d.cfgStored (fnUp 0) 170) 1 = true ∧ d.tick.state = .source) ∧
    (let d := { dPci with pcie.cfg := [(cfgKey (fnUp 0) 170, 2)], tick.state := .freeRun }
     bitAt (d.cfgStored (fnUp 0) 170) 1 = true ∧ d.tick.state = .freeRun) ∧
    (let d := { dPci4 with pcie.cfg := [(cfgKey (fnDown 0 9) 15, 2 ^ 17)], pcie.port := [(9, { dlActive := true, share := { asg := [(255, { valid := true, partition := 0 })] } })] }
     d.upstreamOf 9 = none ∧ d.isShared 9 = true ∧ (d.pport 9).dpcTrigEn = 0 ∧ ((d.pport 9).share.asg.rd 255).valid = true ∧
       d.errForward (fnDown ((d.pport 9).share.asg.rd 255).partition 9) = true ∧ ((d.pport 9).share.asg.rd 254).valid = false ∧ d.mode.railFail = false) := by decide +kernel
theorem test_ptmFreeRun : (after (.ptmRequest 8 {}) { dPci with pcie.cfg := [(cfgKey (fnUp 0) 170, 2)], tick.state := .freeRun }).sw.eng = [] := by decide +kernel
/-- The shared port 9 with pending pairs written by the ring. -/
def dShare : Dev := { dPci4 with pcie.port := [(9, { share := { winPort := some 2, asgPort := some 2, winSh := [(0, { size := 1 })], asgSh := [(0, { valid := true })] } })] }
theorem wit_SharedPorts :
    CmdPort.ring.key = 2 ∧ dShare.isH 9 = true ∧ dShare.isShared 9 = true ∧
    ((dPort8 {}).isH 8 = true ∧ WritePasses (dPort8 {}) .ring (pcieAddr 8 0x108) 1 ∧ ((dPort8 {}).pport 8).share.winSh = ((dPort8 {}).pport 8).share.winPend.getD ((dPort8 {}).pport 8).share.win ∧
      WritePasses (dPort8 {}) .ring (pcieAddr 8 0x108) 2 ∧ ((dPort8 {}).pport 8).share.asgSh = ((dPort8 {}).pport 8).share.asgPend.getD ((dPort8 {}).pport 8).share.asg) ∧
    ((dShare.pport 9).share.winSh ≠ (dShare.pport 9).share.winPend.getD (dShare.pport 9).share.win ∧ (dShare.pport 9).share.asgSh ≠ (dShare.pport 9).share.asgPend.getD (dShare.pport 9).share.asg) ∧
    (WritePasses dShare .ring (pcieAddr 9 0x108) 1 ∧ (dShare.pport 9).share.winPort = some CmdPort.ring.key ∧ dShare.barLocked (pcieAddr 9 0x200) 0x180 = false) ∧
    (let d := { dPci4 with pcie.port := [(9, { share := { winPort := some 3, winSh := [(0, { size := 1 })] } })] }
     WritePasses d .ring (pcieAddr 9 0x108) 1 ∧ (d.pport 9).share.winSh ≠ (d.pport 9).share.winPend.getD (d.pport 9).share.win ∧ (d.pport 9).share.winPort = some (CmdPort.ring.key + 1)) ∧
    (WritePasses dShare .ring (pcieAddr 9 0x108) 2 ∧ (dShare.pport 9).share.asgPort = some CmdPort.ring.key ∧ dShare.barLocked (pcieAddr 9 0x400) 0x400 = false) ∧
    (WritePasses dShare .ring (pcieAddr 9 0x1F0) (0x3FFFFFFF % 2 ^ 31 + 2 ^ 31) ∧ dShare.inRunOrTest = true ∧ fld 0x3FFFFFFF 30 1 = 0) ∧
    (WritePasses dPci .ring (pcieAddr 8 0x1F0) (7 % 2 ^ 31 + 2 ^ 31) ∧ dPci.isShared 8 = false ∧ dPci.cairn.queue = []) ∧
    (dPort8 { pcfg := { busy := true } }).isH 8 = true ∧ ((dPort8 { pcfg := { busy := true } }).pport 8).pcfg.busy = true ∧ (dPci.pport 8).pcfg.busy = false ∧
    (let d := { dPci with pcie.cfg := [(cfgKey (fnMgmt 23) 1, 4), (cfgKey (fnMgmt 23) msixCap, 2 ^ 31)], pcie.msixPend := [(msixKey (fnMgmt 23) 31, true)], pcie.msixTab := [(4 * msixKey (fnMgmt 23) 31 + 3, 0)] }
     d.pcie.msixPend.rd (msixKey (fnMgmt 23) 31) = true ∧ d.msixOpen (fnMgmt 23) 31 = true) ∧
    dPci.msixOpen (fnMgmt 0) 0 = false := by decide +kernel

/-- A cell of a packet from S port 64 toward H port 8. -/
def aCell : Cell := { tile := 8, etile := 1, voq := voqKey 8 8 2, pkt := { ing := 64, dst := 8, vc := 2, inVc := 2, cells := 2, sent := 1 } }
def dCell (sw : SwSt) : Dev := { dJob with run.tile := [(1, { role := 1 }), (8, { role := 2 })], run.cut := [(8, 3), (64, 4)], sw := sw }
theorem wit_CellRecovery :
    (let d := dCell { unconf := [aCell] }
     d.sw.regIn = [] ∧ d.sw.hubIn = [] ∧ d.sw.unconf = [aCell] ∧ aCell.voq = voqKey 8 8 2 ∧ aCell.seq = 0 ∧ aCell.resend = false ∧
       d.sw.exp.rd (voqKey 8 8 2) = 0 ∧ d.sw.rsq = [] ∧ d.sw.dead = [] ∧ d.isS aCell.pkt.dst = false ∧ d.sw.staging.rd (8 * 8 + 2) = []) ∧
    (let d := dCell { unconf := [aCell], exp := [(voqKey 8 8 2, 65535)] }
     let e := dCell { unconf := [{ aCell with seq := 32767 }] }
     0 < (aCell.seq + 65536 - d.sw.exp.rd (voqKey 8 8 2)) % 65536 ∧ (aCell.seq + 65536 - d.sw.exp.rd (voqKey 8 8 2)) % 65536 < 32768 ∧ d.sw.rsq = [] ∧
       (32767 + 65536 - e.sw.exp.rd (voqKey 8 8 2)) % 65536 < 32768 ∧ e.sw.rsq = []) ∧
    (let d := dCell { exp := [(voqKey 8 8 2, 64)] }
     d.inRunOrTest = true ∧ d.sw.unconf = [] ∧ 1 ≤ (d.sw.exp.rd (voqKey 8 8 2) + 65536 - 63) % 65536 ∧ (d.sw.exp.rd (voqKey 8 8 2) + 65536 - 0) % 65536 ≤ 64) ∧
    (let d := dCell { unconf := [aCell], exp := [(voqKey 8 8 2, 32768)] }
     32768 ≤ (0 + 65536 - d.sw.exp.rd (voqKey 8 8 2)) % 65536) ∧
    (let d := dCell { unconf := [aCell], confirming := [(voqKey 8 8 2, 0)] }
     d.sw.confirming = [(voqKey 8 8 2, 0)] ∧ d.isS aCell.pkt.ing = true ∧ aCell.pkt.ing < 72 ∧ aCell.pkt.pushable = false) ∧
    (let d := dCell { plane := [(8, { state := 1, errors := 2 ^ 32 })] }
     (d.planeSt 8).state = 1 ∧ d.spareThreshold 2 ≤ (d.planeSt 8).errors ∧ (d.policy 2).enable = false) ∧
    (dCell {}).spareThreshold 2 ≠ 0 ∧ ((dCell {}).planeSt 0).errors < (dCell {}).spareThreshold 2 := by decide +kernel
theorem test_planeSpares : (after (.planeRemoved 8) (dCell { plane := [(8, { state := 1, errors := 2 ^ 32 })] })).sw.plane.rd 7 = {} := by decide +kernel
def kTlp : Pkt := { dst := 8, vc := 7, cells := 1, body := .tlp {} }
def kHub : Pkt := { dst := 73, vc := 7, cells := 3, ing := 0xFF }
def kEng : Pkt := { dst := 8, vc := 7, cells := 3 }
theorem wit_CellTimes :
    (let d := dCell { unconf := [{ aCell with resend := true }], plane := [(0, { state := 1 })] }
     d.sw.voq = [] ∧ d.sw.eng = [] ∧ d.sw.unconf = [{ aCell with resend := true }] ∧ d.activePlanes ≠ [] ∧ d.sw.regIn = [] ∧ d.sw.hubIn = []) ∧
    (let d := dCell { voq := [(voqKey 8 8 7, [kTlp])], plane := (List.range 8).map (fun j => (j, ({ state := 1 } : Plane))) }
     d.isH 8 = true ∧ 8 < d.tiles ∧ kTlp.dst = 8 ∧ kTlp.vc = 7 ∧ kTlp.cls ≤ 2 ∧ kTlp.cells = 1 ∧ kTlp.sent = 0 ∧ kTlp.needTransit = false ∧ kTlp.body = .tlp {} ∧
       d.sw = { voq := [(voqKey 8 8 7, [kTlp])], plane := (List.range 8).map (fun j => (j, ({ state := 1 } : Plane))) }) ∧
    (let d := dCell { voq := [(voqKey 8 73 7, [kHub])] }
     d.sw.voq = [(voqKey 8 73 7, [kHub])] ∧ d.sw.eng = [] ∧ d.sw.unconf = [] ∧ d.sw.regIn = [] ∧ d.sw.hubIn = [] ∧ 8 < d.tiles ∧ kHub.cls ≤ 2 ∧ kHub.sent = 0 ∧ 3 ≤ kHub.cells ∧ kHub.needTransit = false ∧
       kHub.dst = 73 ∧ kHub.ing = 0xFF) ∧
    (let d := dCell { eng := [(voqKey 1 8 7, [kEng])] }
     d.sw = { eng := [(voqKey (portTile 8) 8 7, [kEng])] } ∧ d.isH 8 = true ∧ portTile 8 < d.tiles ∧ kEng.dst = 8 ∧ kEng.vc = 7 ∧ kEng.cls ≤ 2 ∧ kEng.sent = 0 ∧ 3 ≤ kEng.cells ∧
       2 ≤ d.stagingCap 8) ∧
    (let k : Pkt := { dst := 8, vc := 0, ing := 64, cells := 1, wr := 1 }
     let d := { dCell { voq := [(voqKey 8 8 0, [k])] } with now := 1998 * usUnits + 1 }
     d.sw.voq = [(voqKey 8 8 0, [k])] ∧ d.sw.eng = [] ∧ d.sw.staging = [] ∧ d.sw.held = [] ∧ voqKey 8 8 0 / 1024 = 8 ∧ d.isS (voqKey 8 8 0 % 1024 / 8) = false ∧ d.isS k.dst = false ∧ k.wr = k.cells ∧ k.sent = 0 ∧ k.ing < 72 ∧ k.cls = 0 ∧ k.pushable = false ∧ k.epoch = none ∧
       (d.ageingUs k.tc - 2) * usUnits < d.now - k.time ∧ ({ d with now := 1998 * usUnits } : Dev).now - k.time ≤ (d.ageingUs k.tc - 2) * usUnits) := by decide +kernel
theorem test_resendOnPlane : ((after .cellTime (dCell { unconf := [{ aCell with resend := true }], plane := [(3, { state := 1 })] })).sw.unconf.map (fun c => c.plane)) = [3] := by decide +kernel

/-! ### The fabric -/

/-- Switch 5, whose S port 64 leads to switch 9. -/
def dFab : Dev := { dJob with run.tile := [(1, { role := 1 }), (8, { role := 2 })], run.cut := [(8, 3), (64, 4)], fab.bearing := [(9, 192)] }
/-- A posted write packet of switch 9 for switch `dest`, with the given sequence and hop count. -/
def aPkt (dest seq hops : Nat) : FPkt :=
  let f : FPkt := { kind := 1, dest := dest, src := 9, seq := seq, inc := 77, hops := hops }
  { f with crc := f.crcOf }
def dRx (e : Nat) : Dev := { dFab with sw.rx := [(flowKey 9 0, { inc := 77, c0 := { e := e, known := true } })] }
theorem wit_FabricArrival :
    (dFab.isS 64 = true ∧ (dFab.link 64).state = 3 ∧ dFab.sw.regIn = [] ∧ dFab.sw.hubIn = [] ∧ dFab.portFenced 64 = false ∧ dFab.run.switchId = 5 ∧ dFab.mode.base ≠ .m10 ∧ dFab.mode.base ≠ .m7) ∧
    (let d : Dev := { dFab with mode.base := .m10 }
     d.isS 64 = true ∧ (d.link 64).state = 3 ∧ d.sw.regIn = [] ∧ d.sw.hubIn = [] ∧ d.portFenced 64 = false ∧ d.mode.base = .m10 ∧ (aPkt 5 0 1).isReg = false ∧ (aPkt 5 0 1).known = true ∧
       (aPkt 5 0 1).abort = false) ∧
    ({ aPkt 5 0 1 with kind := 6 } : FPkt).known = false ∧ ({ aPkt 5 0 1 with abort := true } : FPkt).abort = true ∧
    (let f := { aPkt 9 0 1 with src := 4 }
     f.abort = false ∧ f.known = true ∧ f.dest ≠ dFab.run.switchId ∧ 0 < f.hops ∧ dFab.wayOf f.src f.dest f.tc = .port 64 ∧ dFab.mode.base ≠ .m7 ∧ f.pushable = false) ∧
    ((aPkt 9 0 0).abort = false ∧ (aPkt 9 0 0).known = true ∧ (aPkt 9 0 0).dest ≠ dFab.run.switchId ∧ (aPkt 9 0 0).hops = 0 ∧ (aPkt 9 0 0).order ≠ 1 ∧ (aPkt 9 0 0).kind ≠ 0x10) ∧
    ({ aPkt 5 0 1 with crc := 0 } : FPkt).crc ≠ ({ aPkt 5 0 1 with crc := 0 } : FPkt).crcOf ∧
    ((aPkt 5 0 1).crc = (aPkt 5 0 1).crcOf ∧ (aPkt 5 0 1).sequenced = true ∧ (aPkt 5 0 1).known = true ∧ (aPkt 5 0 1).dest = dFab.run.switchId) ∧
    (let r := (dRx 1).sw.rx.rd (flowKey 9 0)
     r.inc = 77 ∧ (r.get 0).known = true ∧ sub24 (r.get 0).e 0 = 1 ∧ sub24 ((dRx (2 ^ 23)).sw.rx.rd (flowKey 9 0)).c0.e 0 = 2 ^ 23 ∧
       2 ^ 23 < sub24 ((dRx (2 ^ 24 - 1)).sw.rx.rd (flowKey 9 0)).c0.e 0 ∧ 2 ^ 23 < sub24 ((dRx (2 ^ 23 + 1)).sw.rx.rd (flowKey 9 0)).c0.e 0) := by decide +kernel
theorem test_crcError : (after (.fabricPacketReceive 64 { aPkt 5 0 1 with crc := 0 }) dFab).fab.pktCrcErr = 1 := by decide +kernel
def aHeld : Held := { port := 64, pkt := { kind := 4, flags := 16, src := 9, seq := 7, inc := 77 } }
theorem wit_FabricWaits :
    (let d := { dFab with sw.tr := [(65535, { state := 1, gen := 255, port := 8 })] }
     let e0 := d.trEntry (65535 % 65536)
     e0.state = 1 ∧ e0.gen = (255 * 65536 + 65535) / 65536 ∧ e0.engine = false ∧ d.inRunOrTest = true ∧ e0.gen ≠ (254 * 65536 + 65535) / 65536) ∧
    (dFab.trEntry 0).state ≠ 1 ∧
    (let d := { dFab with sw.held := [aHeld] }
     d.sw.held = [aHeld] ∧ aHeld.pkt.src = 9 ∧ aHeld.pkt.tc = 0 ∧ aHeld.pkt.kind = 4 ∧ aHeld.pkt.order = 2 ∧ d.sw.regIn = [] ∧ d.sw.hubIn = [] ∧
       (d.sw.rx.rd (flowKey 9 0)).c0.known = false ∧ 0 < sub24 aHeld.pkt.seq (d.sw.rx.rd (flowKey 9 0)).c2.e ∧ (d.trEntry (aHeld.pkt.reqId % 65536)).state = 0) ∧
    dFab.sw.held = [] ∧
    (let d := { dFab with sw.bslot := [(16384 * 8 + 16383, { state := 1 }), (0, { state := 2 })] }
     (d.sw.bslot.rd (16384 * 8 + 16383)).state = 1 ∧ (d.sw.bslot.rd (16384 * 8 + 16383)).state ≠ 2 ∧ (d.sw.bslot.rd (16384 * 0 + 0)).state = 2 ∧ (d.sw.bslot.rd (16384 * 0 + 0)).state ≠ 1) ∧
    ((dLink { hold := some 0 }).link 64).hold = some 0 ∧ ((dLink { hold := some 1 }).link 64).hold ≠ some 0 := by decide +kernel
theorem test_slotReuse_turns : ((after (.bridgeSlotReuse 8 16383) { dFab with sw.bslot := [(16384 * 8 + 16383, { state := 2 })] }).sw.bslot.rd (16384 * 8 + 16383)).gen = true := by decide +kernel
/-- The remote register bridge of the ring's port set to switch `sw`. -/
def dRb (sw : Nat) : Dev := { dFab with port := [(2, { rbSwitch := sw, rbOffset := 0xC00004, rbWdata := 2 ^ 64 - 1 })] }
/-- A register request of switch 9 for the word 0xC00004, at level 3. -/
def aReg : FPkt := { kind := 0x10, dest := 5, src := 9, addr := 0xC00004, reqF := 3 * 4 }
theorem wit_FabricRegisters :
    (∀ n : Nat, n < 4 → WritePasses dFab .ring 0xC00014 (2 ^ n)) ∧
    (groupResult dFab.fab.gazGrp CmdPort.ring.key dFab.gazCode).1 = 0 ∧
    (groupResult ({ dFab with fab.gazGrp := { lastPort := some 0, dirty := [(0, some 1)] } } : Dev).fab.gazGrp CmdPort.ring.key dFab.gazCode).1 ≠ 0 ∧
    (WritePasses (dRb 5) .ring 0xC02004 (2 ^ 31 + b2n true) ∧ ((dRb 5).portSt .ring).rbBusy = false ∧ ((dRb 5).portSt .ring).rbSwitch = (dRb 5).run.switchId) ∧
    (WritePasses (dRb 9) .ring 0xC02004 (2 ^ 31 + b2n false) ∧ ((dRb 9).portSt .ring).rbSwitch ≠ (dRb 9).run.switchId ∧ (dRb 9).level .ring = 3 ∧
      (dRb 9).wayOf (dRb 9).run.switchId ((dRb 9).portSt .ring).rbSwitch 7 = .port 64) ∧
    (WritePasses (dRb 9) .ring 0xC02004 (2 ^ 31 + 2 + b2n true) ∧ ((dRb 9).portSt .ring).rbWdata < 2 ^ 64) ∧
    (let d := { dFab with port := [(2, { rbBusy := true, rbDest := 9, rbTag := 0, rbSeq := 0 })] }
     (d.portSt .ring).rbBusy = true ∧ d.inRunOrTest = true ∧ d.rbMatch { kind := 0x11, src := 9 } = some 2 ∧ d.rbMatch { kind := 0x11, src := 9, reqF := 65536 } = none) ∧
    (aReg.kind = 0x10 ∧ dFab.regOn = true ∧ dFab.inRunOrTest = true ∧ aReg.addr % 2 ^ 27 = 0xC00004 ∧ fld aReg.reqF 0 2 = 0 ∧
      ReadPasses (dFab.setPort (.far 9) (fun y => { y with farLevel := fld aReg.reqF 2 2 })) (.far 9) 0xC00004 ∧ aReg.src ≠ dFab.run.switchId ∧
      dFab.wayOf dFab.run.switchId aReg.src 7 = .port 64) := by decide +kernel
theorem test_rb_own : ((after (.rbRead .ring false) (dRb 5)).portSt .ring).rbCode = 7 := by decide +kernel

/-! ### Tally -/

/-- Collective 4095 on switch 5: FP32 sums of two elements, one member (slot 0 of the PF) and one child on switch 9; `ctrl`
adds ROOT. -/
def dTal (ctrl : Nat) (st : CollSt) : Dev :=
  { dFab with trav.fn := [(0, { state := 1 })], pcie.cfg := [(cfgKey fnPf 1, 6)], tally := { coll := [(4095, { ctrl := 2 ^ 31 + 2 ^ 27 + ctrl, elements := 2, members := 65536, children := 65536, parent := 9, timing := 5 * 65536 })], child := [(0, 2 ^ 63 + 9)], memb := [(0, { bind := 2 ^ 31 + 4095 * 65536 })], st := [(4095, st)] } }
/-- A Tally packet of switch 9 for round 3 of collective 4095. -/
def aTal (kind first : Nat) (payload : List Nat) : FPkt :=
  { kind := kind, dest := 5, src := 9, addr := pack [(0, 4095), (12, 3), (20, first), (40, 1)], reqF := 1, payload := payload }
theorem wit_TallyRounds_member :
    (let d := dTal (2 ^ 30) { state := 1 }
     d.fnMse (fnKeyOf 0) = true ∧ d.memberOf 0 15 = none ∧ d.memberOf 0 0 = some (4095, 0) ∧ (d.collSt 4095).state = 1 ∧ (d.coll 4095).op = 0 ∧ elemSize (d.coll 4095).format = 4 ∧
       1 < (d.coll 4095).elems ∧ (d.collSt 4095).count.rd 0 + 1 < (d.coll 4095).elems ∧ 0 < (d.coll 4095).memCount) := by decide +kernel
theorem wit_TallyRounds_child :
    (let d := dTal (2 ^ 30) { state := 1, round := 3, childNext := [(0, 1)] }
     let f := aTal 8 1 (toLe 4 (65536 * 1) ++ toLe 4 7)
     d.inRunOrTest = true ∧ d.childOf 4095 f.src = some 0 ∧ f.coll = 4095 ∧ (d.collSt 4095).state = 1 ∧ f.round = (d.collSt 4095).round ∧ f.poisoned = false ∧
       f.fmtOp = ((d.coll 4095).format, (d.coll 4095).op) ∧ (d.collSt 4095).childDone.rd 0 = false ∧ f.kind = 8 ∧ f.elemCount = 1 ∧ f.first = (d.collSt 4095).childNext.rd 0 ∧
       f.first < (d.coll 4095).elems ∧ unpackAll (d.coll 4095).format 0 1 f.payload = some [{ acc := 7, len := 8 }] ∧
       (d.collSt 4095).ending = false ∧ (aTal 8 0 []).first ≠ (d.collSt 4095).childNext.rd 0) ∧
    (let d := dTal (2 ^ 30) { state := 1, round := 3, childNext := [(0, 2)], childPkts := [(0, 2)] }
     let f := aTal 0x0B 0 (toLe 4 2 ++ toLe 4 (2 ^ 31 - 1))
     f.kind = 0x0B ∧ (d.coll 4095).root = true ∧ (d.collSt 4095).childPkts.rd 0 = leAt f.payload 0 4 ∧ (d.collSt 4095).childNext.rd 0 = (d.coll 4095).elems ∧
       (d.coll 4095).memCount + ((d.collSt 4095).contributions + leAt f.payload 4 4) ≤ 2 ^ 31 ∧ f.fmtOp = ((d.coll 4095).format, (d.coll 4095).op)) ∧
    ((dTal 0 { state := 0 }).collSt 4095).state = 0 := by decide +kernel
theorem wit_TallyRounds_parent :
    (let d := dTal 0 { state := 2, awaiting := true, awaitRound := 3, round := 4 }
     (d.coll 4095).root = false ∧ (aTal 0x0B 0 []).src = (d.coll 4095).parentSwitch ∧ (d.collSt 4095).state ≠ 0 ∧ (d.collSt 4095).awaiting = true ∧
       (aTal 0x0B 0 []).round = (d.collSt 4095).awaitRound ∧ (aTal 0x0B 0 []).poisoned = false) ∧
    ((dTal 0 { state := 2, awaitRound := 3 }).collSt 4095).awaiting = false ∧
    (let d0 := dTal 0 { state := 1, awaiting := true, awaitRound := 3 }
     let d := { d0 with tally.coll := [(4095, { ctrl := 2 ^ 31 + 2 ^ 27, elements := 2, children := 65536, parent := 9 })] }
     (d.coll 4095).memCount = 0 ∧ (d.coll 4095).kidCount = 1 ∧ (d.coll 4095).root = false ∧ d.wayOf d.run.switchId (childSwitch (d.tally.child.rd (d.coll 4095).kidFirst)) (d.coll 4095).tc = .port 64) ∧
    (let d := dTal 0 { state := 1, round := 3 }
     (d.collSt 4095).state = 1 ∧ (aTal 0x0A 0 [1]).round = (d.collSt 4095).round ∧ (d.collSt 4095).ending = false ∧ d.tally.hold = []) := by decide +kernel
theorem wit_TallyRounds_ends :
    (((dTal 0 { state := 3 }).collSt 4095).state = 3 ∧ ((dTal 0 { state := 3 }).collSt 4095).ending = false ∧ (dTal 0 { state := 3 }).tally.hold = []) ∧
    (((dTal 0 { state := 4 }).collSt 4095).state = 4 ∧ ((dTal 0 { state := 4 }).collSt 4095).state ≠ 3) ∧
    (let d := dTal 0 { state := 1, ticksOpen := 5 }
     (d.coll 4095).timeout ≤ (d.collSt 4095).ticksOpen) ∧
    (let d := dTal 0 { state := 1, ticksOpen := 4, ticksWait := 5, awaiting := true }
     (d.collSt 4095).ticksOpen < (d.coll 4095).timeout ∧ (d.coll 4095).timeout ≤ (d.collSt 4095).ticksWait ∧ (d.collSt 4095).awaiting = true) ∧
    ((dTal 0 { state := 6 }).collSt 4095).state = 6 ∧ ((dTal 0 {}).collSt 4095).awaiting = false := by decide +kernel
theorem wit_TallyRounds_commit :
    (let d := { dTal (2 ^ 30) { state := 1 } with tally := { (dTal (2 ^ 30) { state := 1 }).tally with collSh := [(4095, { ctrl := 2 ^ 27 + 2 ^ 30, elements := 2, members := 65536, children := 65536, parent := 9, timing := 5 * 65536 })], childSh := [(0, 2 ^ 63 + 9)], membSh := [(0, { bind := 2 ^ 31 + 4095 * 65536 })] } }
     WritePasses d .ring 0x3400008 (2 ^ 31 + 4095) ∧ (d.tallyCommitResult .ring 4095).1 = 0 ∧ (d.tally.collSh.rd 4095).valid = false ∧ (d.collSt 4095).state ≠ 0) ∧
    (let d := { dTal 0 {} with tally := { collSh := [(4095, { ctrl := 2 ^ 31 + 2 ^ 30 + 2 ^ 27, elements := 8, children := 65536, timing := 65536 })], childSh := [(0, 2 ^ 63 + 9)] } }
     (d.tallyCommitResult .ring 4095).1 = 0 ∧ (d.tally.collSh.rd 4095).valid = true ∧ (d.collSt 4095).state = 0) ∧
    (let d := { dTal 0 {} with tally := { collSh := [(4095, { ctrl := 2 ^ 31 + 2 ^ 30 + 2 ^ 27, timing := 65536 })] } }
     (d.tallyCommitResult .ring 4095).1 ≠ 0) := by decide +kernel
theorem test_partial_added : (((after (.tallyPartial (aTal 8 1 (toLe 4 (65536 * 1) ++ toLe 4 7))) (dTal (2 ^ 30) { state := 1, round := 3, childNext := [(0, 1)] })).collSt 4095).led.rd 1).acc = 7 := by decide +kernel

/-! ### Traverse engines and functions -/

/-- A device whose PF has four queues; queue 3 as given. -/
def dTrav (q : Queue) : Dev := { dJob with run.pfMsix := 4, trav := { fn := [(0, { state := 1 })], q := [(3, q)] }, pcie.cfg := [(cfgKey fnPf 1, 6), (cfgKey (fnEngine 0) 1, 6)] }
theorem wit_TraverseQueues_function : (dTrav {}).inRunOrTest = true ∧ (dTrav {}).fnMse (fnKeyOf 0) = true ∧ (dTrav {}).fnOn 0 = true ∧ 3 < (dTrav {}).fnQueues 0 ∧
    ((dTrav {}).queue ((dTrav {}).qKey 0 3)).weight < 16 ∧ (dTrav {}).qKey 0 3 = 3 := by decide +kernel
theorem wit_TraverseQueues :
    (let q : Queue := { sqSh := 0x1000, cqSh := 0x2000, szSh := 15 * 65536 + 15 }
     ((dTrav q).queue 3).state = 0 ∧ q.commitCode = 0) ∧
    (({} : Queue).state = 0 ∧ ({} : Queue).commitCode ≠ 0) ∧
    (let q : Queue := { state := 2, sizes := 4 * 65536 + 4 }
     ((dTrav q).queue 3).state ≠ 0 ∧ ((dTrav q).queue 3).run.phase = .idle ∧ q.run.prefetched = [] ∧ q.ahead = [] ∧ q.waiting = [] ∧ q.cqFull = false ∧ 15 < 2 ^ q.sqLog ∧
       2 ^ q.sqLog ≤ 16 ∧ 2 ^ q.cqLog ≤ 16) ∧
    (let q : Queue := { state := 2, sizes := 4 * 65536 + 4, run := { phase := .reading } }
     q.run.phase ≠ .idle ∧ q.cqFull = false ∧ q.waiting = []) ∧
    (let q : Queue := { state := 4, sizes := 4 * 65536 + 4 }
     q.state = 4 ∧ 15 < 2 ^ q.cqLog ∧ q.waiting = []) := by decide +kernel
theorem test_badDoorbell : ((after (.sqTail 0 3 16) (dTrav { state := 1, sizes := 4 * 65536 + 4 })).queue 3).code = 0x20 := by decide +kernel
/-- Queue 3 bound to engine 7. -/
def qRun (ph : RunPhase) (b : Tab Nat) : Queue := { state := 2, sizes := 4 * 65536 + 4, engine := some 7, sqTail := 1, run := { phase := ph, buf := b } }
theorem wit_TraverseEngines_one :
    (let d := dTrav (qRun .fetch [(0, 2), (4, 9)])
     let b := (List.range 64).map (qRun .fetch [(0, 2), (4, 9)]).run.byte
     d.sw.regIn = [] ∧ d.sw.hubIn = [] ∧ d.trav.q = [(3, qRun .fetch [(0, 2), (4, 9)])] ∧ d.canStep 7 3 = true ∧ d.runReads 3 0 = 0 ∧ d.fnPart (d.poolFn 3) < 24 ∧
       descCode b = 0 ∧ descFence b = false ∧ descOp b = 1) ∧
    (let q := { qRun .fence [] with cqTail := 15, run.desc := List.replicate 64 0 }
     (dTrav q).canStep 7 3 = true ∧ q.run.status = 0 ∧ q.state = 2 ∧ q.cqFull = true ∧ q.waiting = []) ∧
    (let d := dTrav {}
     d.trav.waiting = [] ∧ (∀ x ∈ d.trav.q, d.canStep 7 x.1 = false)) := by decide +kernel
theorem wit_TraverseEngines_bind :
    (let d0 := dTrav (qRun .fetch [])
     let d := { d0 with trav.waiting := [2] }
     d.trav.waiting = 2 :: [] ∧ d.boundQueues 0 < 64) := by decide +kernel
/-- The last read slot of engine 7, which holds 4 bytes of queue 3. -/
def dRead (c : RdSlot) : Dev := { dTrav (qRun .reading []) with trav.slot := [(4095, c)] }
theorem wit_TraverseEngines_reads :
    (let c : RdSlot := { used := true, gen := 9, queue := 3, off := 60, bytes := 4, fnGen := 1 }
     let d := dRead c
     d.inRunOrTest = true ∧ d.trav.slot.rd 4095 = c ∧ (d.trav.fn.rd c.fn).gen = c.fnGen ∧ (d.queue c.queue).run.serial = c.serial ∧ ([1, 2, 3, 4] : List Byte).length = c.bytes ∧ c.kind = 0 ∧
       (d.queue c.queue).run.status = 0 ∧ c.transit = none ∧ c.gen ≠ 8 ∧ d.cairn.queue = []) ∧
    ((dRead {}).trav.slot.rd 4095).used = false ∧ ((dRead { used := true, transit := some 0 }).trav.slot.rd 4095).transit.isSome = true := by decide +kernel
theorem wit_TraverseEngines_vector :
    (let d0 := dTrav {}
     let d := { d0 with pcie.cfg := [(cfgKey fnPf 1, 6), (cfgKey (fnEngine 0) 1, 6), (cfgKey fnPf msixCap, 2 ^ 31)], pcie.msixPend := [(msixKey (fnKeyOf 0) 2047, true)], pcie.msixTab := [(4 * msixKey (fnKeyOf 0) 2047 + 3, 0)] }
     d.pcie.msixPend.rd (msixKey (fnKeyOf 0) 2047) = true ∧ d.msixOpen (fnKeyOf 0) 2047 = true ∧ d.fnBme 0 = true) ∧
    (dTrav {}).msixOpen (fnKeyOf 0) 2047 = false := by decide +kernel
/-- Partition 0 with two VFs of two vectors each. -/
def dVf (ctl : Nat) (fn : Tab Fn) : Dev := { dTrav {} with run.pfMsix := 4, run.quota := [(0, { vf := 2, msix := 4 })], pcie.cfg := [(cfgKey (parentKey 0) 92, ctl)], trav := { fn := fn } }
theorem wit_Functions :
    (let d := dVf 1 [(0, { state := 1 }), (2, { state := 1, gen := 4095 })]
     d.sw.tr = [] ∧ d.sw.voq = [] ∧ d.tally.st = [] ∧ (d.trav.fn.rd 2).state = 1 ∧ (d.trav.fn.rd 1).state = 0 ∧ d.hasEngine 0 = true ∧ bitAt (d.pcie.cfg.rd (cfgKey (parentKey 0) 92)) 0 = true ∧
       1 < d.totalVfs 0 ∧ (d.trav.fn.rd (d.vfBase 0 + 1)).state = 1) ∧
    (let d := dVf 0 []
     bitAt (d.pcie.cfg.rd (cfgKey (parentKey 0) 92)) 0 = false ∧ 2 ≤ d.totalVfs 0 ∧ d.totalVfs 0 < 3 ∧ d.cairn.queue = [] ∧ d.hasEngine 1 = false) ∧
    (let d := dVf 1 [(2, { wanted := true })]
     (d.trav.fn.rd 2).wanted = true ∧ (d.trav.fn.rd 2).state = 0) := by decide +kernel
theorem test_flr_generation : ((after (.functionLevelReset (.vf 2)) (dVf 1 [(2, { state := 1, gen := 4095 })])).trav.fn.rd 2).gen = 1 := by decide +kernel

/-! ### Containment, cores, the log, events and counters -/

theorem wit_Containment_commit : WritePasses dRun .ring 0x300000C (2 ^ 31 + 255) ∧ (dRun.bndCommitResult .ring 255).1 = 0 ∧
    (let d := { dRun with bnd.grp := [(73, { lastPort := some 0 })] }
     WritePasses d .ring 0x300000C (2 ^ 31 + 73) ∧ (d.bndCommitResult .ring 73).1 ≠ 0) := by decide +kernel
theorem wit_Containment_trigger :
    (WritePasses dJob .ring 0x11088 (2 ^ 31 + 65536 * 2 + 64) ∧ dJob.mode.base ≠ .m10 ∧ dJob.mode.base ≠ .m0 ∧ dJob.domainExists 2 64 = true ∧ (dJob.cont.stop.rd 9).length ≤ 32) ∧
    (WritePasses dJob .ring 0x11088 (2 ^ 31 + 65536 * 15 + 65535) ∧ dJob.domainExists 15 65535 = false) ∧ dM0.mode.base = .m0 := by decide +kernel
def aTrig : Trigger := { bit := 5, kind := 2, id := 64, source := 64 }
/-- A trigger for port 64 waits at stop 9; `dom` isolates tile 8. -/
def dTrig (dom : Tab Domain) : Dev := { dLink { state := 3 } with sw := {}, cont := { stop := [(9, [aTrig])], domain := dom } }
theorem wit_Containment_delivery :
    (let d := dTrig []
     d.cont.stop.rd 9 = aTrig :: [] ∧ aTrig.kind = 2 ∧ d.isS 64 = true ∧ 64 < d.ports ∧ (d.link 64).state = 3 ∧ d.cont.domain = [] ∧ d.cont.extra = [] ∧ d.sw = {} ∧ d.jobs = {}) ∧
    (let d := dTrig [(0, { valid := true, kind := 1, id := 8 })]
     (1, portTile aTrig.id) ∈ d.isolated ∧ (∀ y ∈ d.cont.domain, y.2.restoring = false)) ∧ dJob.cont.stop.rd 0 = [] := by decide +kernel
theorem test_fence_link : ((after (.triggerDelivery 9) (dTrig [])).link 64).lastCause = 10 := by decide +kernel
theorem wit_Containment_restore :
    (WritePasses dJob .ring 0x11080 (2 ^ 31 + 63) ∧ (dJob.cont.domain.rd 63).valid = false) ∧
    (let d := { dJob with cont := { domain := [(63, { valid := true, kind := 2, id := 64, cause := 17 })], uncStatus := 2 ^ 17 } }
     WritePasses d .ring 0x11080 (2 ^ 31 + 63) ∧ (d.cont.domain.rd 63).valid = true ∧ bitAt d.cont.uncStatus (d.cont.domain.rd 63).cause = true) ∧
    (let d := { dJob with cont := { domain := [(63, { valid := true, kind := 2, id := 64, cause := 17 })] } }
     d.restoreCode 63 = 0) := by decide +kernel
theorem wit_Containment_transit :
    (let d := { dJob with now := dJob.trTimeoutOf 3, sw.tr := [(65535, { state := 1, gen := 255, part := 3 })] }
     d.sw.tr = [(65535, { state := 1, gen := 255, part := 3 })] ∧ 0 + d.trTimeoutOf 3 ≤ d.now) ∧
    (let d := { dJob with sw.tr := [(65535, { state := 1, gen := 255, part := 3 })] }
     (∀ y ∈ d.sw.tr, y.2.state = 1 → d.now < y.2.time + d.trTimeoutOf y.2.part) ∧ (d.trEntry 65535).state ≠ 2) ∧
    (({ dJob with sw.tr := [(65535, { state := 2 })] } : Dev).trEntry 65535).state = 2 := by decide +kernel
theorem wit_Containment_spares :
    dJob.spareWindow 2 ≠ 0 ∧ dJob.spareWindow 0 = 0 ∧ dJob.mode.base ≠ .m0 ∧ 1663 < dJob.macroCount ∧ dJob.macroCount ≤ 1664 ∧ dJob.spareThreshold 3 = 0 ∧
    (dJob.policy 3).enable = false := by decide +kernel
theorem wit_Containment_pll : dJob.bus.pllFallback = false ∧
    (let d := { dJob with bus.pllFallback := true }
     d.bus.pllFallback = true ∧ dclkBlock 0x100003 = true ∧ d.reach .ring (0x100003 / 4 * 4) 4 true none ≠ .dead) := by decide +kernel
/-- Core 2 as given, with the SPC on standby or not. -/
def dCore (k : Core) (spc : CoreState) : Dev := { dRun with cores := { roleMap := [(0, 1), (1, 2), (2, 3), (3, 4), (4, 5)], core := [(2, k), (4, { state := spc, role := some 4 })] } }
theorem wit_CoreRows :
    (let k : Core := { state := .running, ready := true, role := some 2, wdCount := 2 ^ 32 }
     let d := dCore k .standby
     (d.core 2).state = .running ∧ (d.core 2).ready = true ∧ (d.core 2).watchdog ≤ (d.core 2).wdCount ∧ (d.core 2).role = some 2 ∧ (d.core 4).state = .standby ∧
       (d.policy 4).enable = false ∧ ({ d with run.spare := [(4, { enable := true })] } : Dev).policy 4 = { enable := true } ∧ (d.core 2).active = true) ∧
    (let k : Core := { state := .running, role := some 2 }
     (k.active = true ∧ k.ready = false) ∧ ({ state := .failed } : Core).active = false) ∧
    (let d := { dRun with cores.takeover := true, cores.takeRole := 3 }
     d.cores.takeover = true ∧ d.cores.takeLoaded = false ∧ d.cores.takeRole < 4 ∧ dRun.cores.takeover = false) ∧
    (WritePasses dRun (.core 2) (coreAddr 2 0x08) 0xFFFFFFFF ∧ WritePasses dRun (.core 2) (coreAddr 2 0x0C) 31) ∧
    (let d := dCore { state := .running, log := [(5, 65536)] } .standby
     WritePasses d (.core 2) (coreAddr 2 0x7C) 0xFFFFFFFF ∧ d.cairn.queue = [] ∧ d.cairn.minSeverity ≤ fld ((d.core 2).log.rd 5) 16 3) := by decide +kernel
theorem test_takeover : (after (.watchdogExpiry 2) { dCore { state := .running, ready := true, role := some 2, wdCount := 2 ^ 32 } .standby with run.spare := [(4, { enable := true })] }).cores.takeRole = 2 := by
  decide +kernel
def aRec : CairnRec := { code := 0x045, severity := 5 }
theorem wit_CairnLog :
    (let d := { dRun with cairn.queue := [aRec], cairn.nHigh := 4095 }
     d.cairn.flood = none ∧ d.cairn.queue = aRec :: [] ∧ 4 ≤ aRec.severity ∧ d.cairn.nHigh = 4095) ∧
    (let d := { dRun with cairn.flood := some { aRec with severity := 3 } }
     d.cairn.flood = some { aRec with severity := 3 } ∧ d.cairn.bbFrozen = false ∧ dRun.cairn.queue = []) ∧
    (WritePasses dRun .ring 0x3C00040 (65536 * 0x434C + 15) ∧ dRun.clearCode (65536 * 0x434C + 15) = 0 ∧ WritePasses dRun .ring 0x3C00040 15 ∧ dRun.clearCode 15 ≠ 0) ∧
    ({ dRun with cairn.clearBusy := true } : Dev).cairn.clearBusy = true ∧
    ReadPasses dRun .ring (0x3D00000 + 64 * 16383) ∧ ReadPasses dRun .ring 0x3C01040 ∧ ReadPasses dRun .ring 0x3C0107C ∧ ReadPasses dRun .ring 0x1103C ∧ ReadPasses dRun .ring 0x1105C ∧
    WritePasses dRun .ring 0x3C01004 1 ∧ WritePasses dRun .ring 0x3C01004 0 := by decide +kernel
theorem test_clearSealed : ({ dRun with run.sealed := true } : Dev).clearCode (65536 * 0x434C + 4) = 2 := by decide +kernel
theorem wit_EventsAndCounters :
    WritePasses dRun .ring (0x3C04000 + 4 * 31) 0xFFFFFFFF ∧
    (WritePasses dRun .ring 0x3E00020 (2 ^ 31 + 1199) ∧ dRun.cntAbsent 1199 = false ∧ dRun.cntCommitCode .ring 1199 = 0) ∧
    (let d := { dRun with cnt.tab := [(1199, { selSh := 2 ^ 31 + 0x71, lastPort := some 2 })] }
     WritePasses d .ring 0x3E00020 (2 ^ 30) ∧ 1199 ∈ d.cntChanged ∧ (∀ m ∈ d.cntChanged, d.cntCommitCode .ring m = 0)) ∧
    WritePasses dRun .ring 0x3E00018 1 ∧ WritePasses dRun .ring 0x3E00018 0 ∧ dRun.cnt.holders = [] ∧
    (let d := { dRun with cnt.holders := [(2, 0)] }
     d.cnt.holders.any (fun h => h.1 == CmdPort.ring.key) = true ∧ d.cnt.holders.any (fun h => h.1 == CmdPort.sideband.key) = false ∧ d.cairn.queue = [] ∧ d.cairn.minSeverity ≤ 1) ∧
    (let d := { dRun with cnt.tab := [(1198, { sel := 2 ^ 31, value := 2 ^ 48 - 1 })] }
     (d.cnt.tab.rd 1198).enabled = true ∧ (d.cnt.tab.rd 1198).value = 2 ^ 48 - 1 ∧ d.pairChained 1198 = false ∧ d.cnt.ovfFired = false) := by decide +kernel

/-! ### The management ports -/

/-- Register fabric off: the reference clock is lost. -/
def dOff : Dev := { dRun with bus.refLost := true }
theorem wit_Sideband : dOff.regOn = false ∧ dRun.regOn = true ∧ ([1, 2, 3, 4] : List Byte).length % 4 = 0 ∧ 4 ≤ ([1, 2, 3, 4] : List Byte).length ∧ (List.replicate 32 (0 : Byte)).length ≤ 32 := by
  decide +kernel
theorem test_sideband_advance : ((after (.sbRead true) { dRun with port := [(CmdPort.sideband.key, { offset := 0xC00004 })] }).portSt .sideband).offset = 0xC00008 := by decide +kernel
theorem wit_ServiceRing :
    dOff.ringOn = false ∧ dRun.ringOn = true ∧ ({ crcOk := false } : RingCmd).crcOk = false ∧ dRun.ringMine 5 = true ∧ dRun.ringMine 0xFFFF = true ∧ dRun.ringMine 6 = false ∧
    dRun.ringId = 5 ∧ dRun.pkg.srDie = true ∧ dOff.pkg.srDie = true ∧ ({} : RingCmd).crcOk = true ∧ ({ dest := 6 } : RingCmd).dest ≠ dRun.ringId ∧ ({ dRun with pkg.srDie := false } : Dev).pkg.srDie = false ∧
    dRun.run.switchId = 5 ∧ dM1.inRunOrTest = false ∧ (List.replicate 256 (0 : Byte)).length % 4 = 0 ∧ dRun.inRunOrTest = true ∧ dM1.ringOn = true ∧ dM1.ringMine 5 = false := by decide +kernel
theorem test_ringMine_answers : (after (.ringRead32 1 { dest := 5, offset := 0xC00004 }) dRun).out.length = 2 := by decide +kernel
/-- The check value of CRC-8 with polynomial 0x07 over the nine bytes "123456789". -/
theorem test_crc8 : crc8 [0x31, 0x32, 0x33, 0x34, 0x35, 0x36, 0x37, 0x38, 0x39] = 0xF4 := by decide +kernel
/-- A DATA frame of 264 B is SOF, 32 blocks, SEG_END, one block and the last SEG_END; an ALARM frame is SOF, its body and a
SEG_END with LAST (Tables 15.4 and 15.5). -/
theorem test_frame_segments : (frameBlocks 0x25 512 (List.replicate 264 7)).length = 36 ∧
    (frameBlocks 0x25 512 (List.replicate 264 7)).head? = some (mkBlock ctrlHeader 0x0000020000212533) := by decide +kernel
theorem test_frame_alarm : (frameBlocks 0x18 0 (alarmBody 5 9)).map (fun b => (blockHeader b, fld (blockPayload b) 0 8, bitAt (blockPayload b) 40)) =
    [(1, 0x33, false), (2, 5, true), (1, 0x4B, true)] := by decide +kernel
/-- MARK_A and MARK_B of number 5 from source 9. -/
theorem test_mark_blocks : (markBlocks 9 1 2 true 5 100).map (fun b => fld (blockPayload b) 0 53) =
    [0x566, 0x78 + 2 ^ 8 * 9 + 2 ^ 20 + 2 ^ 25 * 2 + 2 ^ 28 + 2 ^ 29 * 100] := by decide +kernel
theorem test_ringOther_ends : (after (.ringRead32 1 { dest := 6, hops := 1 }) dRun).out = [] := by decide +kernel
/-- Debug level 3 for the firmware of every role, with core 2 in a given state. -/
def dDbg (st : CoreState) : Dev := { dPci with pcie.cfg := [(cfgKey (fnUp 0) 1, 4), (cfgKey (fnDown 0 8) 1, 4), (cfgKey (fnEngine 0) 1, 6)], run.ceiling := (List.range 5).map (fun k => (k, 3)), cores := { roleMap := [(2, 3)], core := [(2, { state := st, role := some 2 })] } }
def aReq : SightReq := { core := 2 }
theorem wit_Sighting_order :
    dOff.regOn = false ∧ ({ crcOk := false } : SightReq).crcOk = false ∧
    (let d := { dDbg .running with sight.pending := true }
     d.regOn = true ∧ aReq.crcOk = true ∧ d.sight.pending = true ∧ (d.trav.slot.rd sightSlot).used = false) ∧
    (let d := { dDbg .running with sight.pending := true, trav.slot := [(sightSlot, { used := true, kind := 6, bytes := 8 })] }
     (d.trav.slot.rd sightSlot).used = true ∧ (d.trav.slot.rd sightSlot).bytes ≠ 0) ∧
    (dM1.regOn = true ∧ dM1.sight.pending = false ∧ dM1.inRunOrTest = false) ∧
    (dRun.sightLevel 2 < 1 ∧ dRun.inRunOrTest = true ∧ dRun.sightLevel 7 = 0) := by decide +kernel
theorem wit_Sighting_taken :
    (let d := dDbg .running
     d.regOn = true ∧ d.sight.pending = false ∧ d.inRunOrTest = true ∧ 3 ≤ d.sightLevel 2 ∧ (d.core 2).active = true ∧ (d.core 2).state ≠ .halted ∧ (d.core 2).ran = false ∧
       d.cores.waiting = []) ∧
    (let d := dDbg .halted
     (d.core 2).state = .halted ∧ (d.core 2).active = false ∧ 33 % 64 < 34 ∧ 34 ≤ 34 % 64 ∧ tcmOk 524280 = true ∧ tcmOk 524288 = false) ∧
    (bootBlock 0x3FFFF = true ∧ dM1.inRunOrTest = false) ∧
    (let d := dDbg .running
     d.reach .sighting 0xC00014 4 true (some 1) = .ok ∧ d.sightLocked 0xC00014 = false ∧ d.reach .sighting 0x3C00040 4 true (some 1) = .denied ∧
       d.sightSpaceOk { space := 25 } = false ∧ d.sightSpaceOk { addr := 4 } = false) := by decide +kernel
/-- MEM_READ and MEM_WRITE in the host space of partition 0, with nothing locked, and with the fabric space locked. -/
theorem wit_Sighting_memory :
    (let d := dDbg .running
     let r : SightReq := { core := 2, space := 1, addr := 2 ^ 33 }
     let v := d.verdict (d.checkTable 73) { kind := 3, sw := d.run.switchId, host := r.space.val != 0, space := r.space.val - 1, addr := r.addr }
     let waiting := d.trav.slot.upd sightSlot (fun t => { used := true, gen := t.gen, kind := 6, bytes := 8, time := d.now })
     v.locked = none ∧ d.sightSpaceOk r = true ∧ v.allows 0 = true ∧ v.allows 1 = true ∧ (Dev.sightIssue { d with trav.slot := waiting } r false).2 = true ∧ (d.sightIssue r true).2 = true) ∧
    (let d := { dDbg .running with run.sealed := true, run.lock := [{ kind := 2, space := 0, base := 0, length := 2 ^ 47 }] }
     (d.verdict (d.checkTable 73) { kind := 3, sw := d.run.switchId, host := false, space := 0 - 1, addr := 0 }).locked.isSome = true) := by decide +kernel
theorem wit_Sighting_breakpoint :
    (let d := { dDbg .running with cores.core := [(2, { state := .running, role := some 2, bp := [(7, { enable := true })], wp := [(3, { enable := true })] })] }
     (d.core 2).active = true ∧ ((d.core 2).bp.rd 7).enable = true ∧ ((d.core 2).wp.rd 3).enable = true ∧ 2 ≤ d.debugLevel 2) ∧ dRun.debugLevel 2 < 2 := by decide +kernel
theorem test_halt : ((after (.sightHalt aReq) (dDbg .running)).core 2).haltReason = 1 := by decide +kernel
theorem wit_Accesses :
    (dOff.reach .ring 0 4 true none = .dead ∧ dM1.reach .ring 0xC00014 4 true none = .silent ∧ dM1.inRunOrTest = false ∧ bootBlock 0xC00014 = false ∧ dM1.portLive .ring = true) ∧
    (dRun.reach .ring 2 4 true (some 0) = .badAccess ∧ dRun.reach .ring 0x40000 4 true (some 0) = .noRegister ∧ dRun.reach .sideband 0x3E00000 4 true (some 1) = .denied) ∧
    (let d := { dRun with bus.pllFallback := true }
     d.reach .ring 0xC00014 4 true (some 0) = .timeout ∧ d.reach .ring 0xC00014 4 true none = .timeout) ∧
    ((dRun.regAttr .ring 0xC00014).form = .word ∧ dRun.reach .ring 0xC00014 4 true (some 0) = .ok ∧ dRun.regLocked (dRun.regAttr .ring 0xC00014) = false ∧ ReadPasses dRun .ring 0xC00014) ∧
    (let a := 0xC02010
     (dRun.regAttr .ring a).form = .wide ∧ (dRun.regAttr .ring a).base = a ∧ wideBase a = a ∧ dRun.reach .ring a 8 true (some 0) = .ok ∧ WritePasses dRun .ring a 0xFFFFFFFF ∧
       WritePasses dRun .ring (a + 4) 0xFFFFFFFF ∧ (dRun.regAttr .ring (a + 4)).form = .wide ∧ (dRun.regAttr .ring (a + 4)).base = a ∧ ReadPasses dRun .ring a ∧
       (({ dRun with port := [(2, { staged := [(a, some 1)] })] } : Dev).portSt .ring).staged.rd a = some 1 ∧ (dRun.portSt .ring).staged.rd a = none ∧ (dRun.regAttr .ring a).rw ≠ 0) ∧
    (WritePasses dRun .ring 0x1005C 1 ∧ (dRun.regAttr .ring 0x1005C).form = .wide ∧ (dRun.regAttr .ring 0x1005C).base = 0x10058 ∧ (dRun.regAttr .ring 0x1005C).rw = 0 ∧
       wideBase 0x1005C = 0x10058 ∧ (dRun.portSt .ring).staged.rd 0x10058 = none) := by decide +kernel

/-! ### Codes and invariants -/

theorem wit_EncodingsRoundTrip : ({ aPkt 4095 (2 ^ 24 - 1) 255 with chunks := 4 } : FPkt).wf = true ∧ ({ type := 255, copy := 3, tag := 15 } : Margin).wf = true := by decide +kernel
end Sys2Proof.Machine.Tests
end

