-- ==== Sys2Proof/Proofs/Crc64.lean ====
section
/-! PROOF. The CRC-64 of R168 against Table 6.4 (R169). A byte equal to the low byte of the register cancels it, so that
the register only shifts right by 8; the bytes of the table are chosen so in every vector but the first. -/

namespace Sys2Proof.Machine

/-- An even register shifts out a 0, so the polynomial stays out. -/
theorem crc64Bit_two_mul (n : Nat) : crc64Bit (2 * n) = n := by
  have heven : ¬ 2 * n % 2 = 1 := by omega
  rw [crc64Bit, if_neg heven, Nat.mul_div_cancel_left n (by decide)]

theorem iter_crc64Bit_two_pow_mul (k n : Nat) : iter k crc64Bit (2 ^ k * n) = n := by
  induction k with
  | zero => rw [iter, Nat.pow_zero, Nat.one_mul]
  | succ k ih => rw [iter, Nat.pow_succ', Nat.mul_assoc, crc64Bit_two_mul, ih]

theorem xor_mod_two_pow_self (c k : Nat) : c ^^^ c % 2 ^ k = 2 ^ k * (c / 2 ^ k) := by
  apply Nat.eq_of_testBit_eq
  intro i
  rw [Nat.testBit_xor, Nat.testBit_mod_two_pow, Nat.testBit_two_pow_mul, Nat.testBit_div_two_pow]
  by_cases h : i < k
  · have hlow : ¬ k ≤ i := Nat.not_le.mpr h
    simp only [h, hlow, decide_true, decide_false, Bool.true_and, Bool.false_and, Bool.xor_self]
  · have hhigh : k ≤ i := Nat.le_of_not_lt h
    simp only [h, hhigh, decide_true, decide_false, Bool.true_and, Bool.false_and, Bool.xor_false, Nat.sub_add_cancel]

/-- A byte equal to the low byte of the register shifts the register right by 8. -/
theorem crc64Byte_of_low_byte {c b : Nat} (h : b % 256 = c % 256) : crc64Byte c b = c / 2 ^ 8 := by
  have hx : Nat.xor c (b % 256) = 2 ^ 8 * (c / 2 ^ 8) := h ▸ xor_mod_two_pow_self c 8
  rw [crc64Byte, hx, iter_crc64Bit_two_pow_mul]

/-- Two inversions undo each other. -/
theorem ones64_xor_ones64_xor (c : Nat) : ones64 ^^^ (ones64 ^^^ c) = c := by
  rw [← Nat.xor_assoc, Nat.xor_self, Nat.zero_xor]

theorem crc64_eq (s : Nat) (bs : List Nat) : crc64 s bs = bs.foldl crc64Byte (ones64 ^^^ s) ^^^ ones64 := rfl

/-- The two inversions meet, and the sequence stands in the CRC as it is. -/
theorem crc64_nil (s : Nat) : crc64 s [] = s := by
  rw [crc64_eq, List.foldl_nil, Nat.xor_comm, ones64_xor_ones64_xor]

/-- A first byte that cancels the low byte of the seed leaves the CRC of the other bytes under another seed. -/
theorem crc64_cons_of_low_byte {s b : Nat} (bs : List Nat) (h : b % 256 = (ones64 ^^^ s) % 256) :
    crc64 s (b :: bs) = crc64 (ones64 ^^^ (ones64 ^^^ s) / 2 ^ 8) bs := by
  rw [crc64_eq, crc64_eq, List.foldl_cons, crc64Byte_of_low_byte h, ones64_xor_ones64_xor]

/-- With s = 0 the seed is all ones, as in the common CRC-64. -/
theorem crc64_zero (bs : List Nat) : crc64 0 bs = Nat.xor (bs.foldl crc64Byte (2 ^ 64 - 1)) (2 ^ 64 - 1) := by
  have hones : ones64 = 2 ^ 64 - 1 := rfl
  rw [crc64_eq, Nat.xor_zero, hones]
  rfl

/-- The check value of the common CRC-64 over the ASCII digits, by running the register over their 72 bits. -/
theorem crc64_zero_digits :
    crc64 0 [0x31, 0x32, 0x33, 0x34, 0x35, 0x36, 0x37, 0x38, 0x39] = 0x995DC9BBDF1939FA := by decide +kernel

/-- Settles O58: the digits by running the register, the other vectors by cancelled low bytes. -/
theorem crc64Vectors : Obligations.Crc64Vectors := by
  unfold Obligations.Crc64Vectors
  refine ⟨crc64_zero_digits, crc64_nil 0x5A3, ?_, ?_, ?_, crc64_zero⟩
  · rw [crc64_cons_of_low_byte [] (by decide), crc64_nil]
    decide
  · rw [crc64_cons_of_low_byte [] (by decide), crc64_nil]
    decide
  · rw [crc64_cons_of_low_byte [0xFA] (by decide), crc64_cons_of_low_byte [] (by decide), crc64_nil]
    decide

end Sys2Proof.Machine
end

/-! PROOF. The ends of what the fabric waits for (R293, R298, R308, R310, R412): what a late completion leaves of the PCI
Express state, what a completion does to its Transit entry, and what an expired hold delivers. -/

namespace Sys2Proof.Machine

/-! ### What a record leaves of the PCI Express state -/

/-- Between `d` and `e` nothing of the PCI Express state has moved but the pending bits of MSI-X vectors. -/
def OnlyPending (d e : Dev) : Prop := ∃ t, e.pcie = { d.pcie with msixPend := t }

theorem OnlyPending.of_eq {d e : Dev} (h : e.pcie = d.pcie) : OnlyPending d e := ⟨d.pcie.msixPend, h⟩

theorem OnlyPending.trans {d e f : Dev} (h : OnlyPending d e) (k : OnlyPending e f) : OnlyPending d f := by
  obtain ⟨t, ht⟩ := h
  obtain ⟨u, hu⟩ := k
  exact ⟨u, by rw [hu, ht]⟩

theorem OnlyPending.ite {d e f : Dev} {c : Prop} [Decidable c] (h : OnlyPending d e) (k : OnlyPending d f) :
    OnlyPending d (if c then e else f) := by
  split
  · exact h
  · exact k

theorem OnlyPending.foldl {α : Type} (f : Dev → α → Dev) (h : ∀ d x, OnlyPending d (f d x)) (l : List α) (d : Dev) :
    OnlyPending d (l.foldl f d) := by
  induction l generalizing d with
  | nil => exact .of_eq rfl
  | cons x l ih => exact (h d x).trans (ih (f d x))

theorem Dev.msixSend_pending (d : Dev) (fn vec : Nat) : OnlyPending d (d.msixSend fn vec) := by
  unfold Dev.msixSend
  exact .ite (.of_eq rfl) ⟨_, rfl⟩

theorem Dev.signalVector_pending (d : Dev) (q vec : Nat) : OnlyPending d (d.signalVector q vec) := by
  unfold Dev.signalVector
  exact .ite (.of_eq rfl) (.ite (.of_eq rfl) (.trans (.of_eq rfl) (Dev.msixSend_pending _ _ _)))

theorem Dev.signalAlarm_pending (d : Dev) (k : Nat) : OnlyPending d (d.signalAlarm k) := by
  unfold Dev.signalAlarm
  exact .ite (.of_eq rfl) (.of_eq rfl)

theorem Dev.fire_pending (d : Dev) (k : Nat) : OnlyPending d (d.fire k) := by
  have hset : OnlyPending d { d with evt := d.evt.set k } := .of_eq rfl
  have hvec (v : Nat) : OnlyPending d (({ d with evt := d.evt.set k } : Dev).signalVector (sourceEndpoint k) v) :=
    hset.trans (Dev.signalVector_pending _ _ _)
  unfold Dev.fire
  exact .ite (.ite ((OnlyPending.ite (hvec _) hset).trans (Dev.signalAlarm_pending _ _)) (.ite (hvec _) hset)) (.of_eq rfl)

theorem Dev.cntAny_pending (d : Dev) (c : CounterSt) : OnlyPending d { d with cnt := c } := .of_eq rfl

theorem Dev.setOvf_pending (d : Dev) (k : Nat) : OnlyPending d (d.setOvf k) := by
  unfold Dev.setOvf
  exact .ite (d.cntAny_pending _) ((d.cntAny_pending _).trans ((Dev.cntAny_pending _ _).trans (Dev.fire_pending _ _)))

theorem Dev.cntWrap_pending (d : Dev) (k : Nat) : OnlyPending d (d.cntWrap k) := by
  unfold Dev.cntWrap
  exact .ite (.ite (.ite ((d.cntAny_pending _).trans (Dev.setOvf_pending _ _)) (d.cntAny_pending _)) (.of_eq rfl))
    (Dev.setOvf_pending _ _)

theorem Dev.cntBump_pending (d : Dev) (k v : Nat) : OnlyPending d (d.cntBump k v) := by
  unfold Dev.cntBump
  exact .ite (.of_eq rfl) (.ite ((d.cntAny_pending _).trans (Dev.cntWrap_pending _ _)) (d.cntAny_pending _))

theorem Dev.countMgmt_pending (d : Dev) (ev n v : Nat) : OnlyPending d (d.countMgmt ev n v) :=
  OnlyPending.foldl _ (fun e _ => e.cntBump_pending _ _) _ d

theorem Dev.enqueue_pending (d : Dev) (r : CairnRec) : OnlyPending d (d.enqueue r) := by
  unfold Dev.enqueue
  exact .ite (.trans (.of_eq rfl) (Dev.countMgmt_pending _ _ _ _))
    (.ite (.of_eq rfl) (.trans (.of_eq rfl) (Dev.countMgmt_pending _ _ _ _)))

/-- A record may leave a message pending; ports, configuration and error logs stay (R219, R444). -/
theorem Dev.log_pending (d : Dev) (code sev : Nat) (a : RecArgs) : OnlyPending d (d.log code sev a) :=
  (Dev.enqueue_pending d _).trans (Dev.fire_pending _ code)

/-! ### Records -/

/-- The empty writer queue takes a record of a severity that is not filtered (R430, R431). -/
theorem Dev.enqueue_of_empty {d : Dev} {r : CairnRec} (hq : d.cairn.queue = []) (hs : d.cairn.minSeverity ≤ r.severity) :
    d.enqueue r = { d with cairn.queue := [r] } := by
  have hpass : ¬ (r.severity < d.cairn.minSeverity ∧ sevHigh r.severity = false) := fun h => Nat.not_lt.mpr hs h.1
  have hroom : d.cairn.hasEntry r.severity = true := by simp [CairnSt.hasEntry, hq]
  rw [Dev.enqueue, if_neg hpass, if_pos hroom, hq, List.nil_append]

theorem Dev.log_records {d : Dev} {sev : Nat} (code : Nat) (a : RecArgs) (hq : d.cairn.queue = [])
    (hs : d.cairn.minSeverity ≤ sev) : Records (d.log code sev a) code sev := by
  rw [Dev.log, Dev.enqueue_of_empty hq hs]
  simp [Records]

/-! ### The switch core and the fault block -/

/-- A change of the switch core alone. -/
theorem Dev.swAny_same (d : Dev) (w : SwSt) : SameBut [.sw] d { d with sw := w } :=
  fun b hb => by cases b <;> simp_all [Block.same]

theorem bitAt_setBit_same (v i : Nat) : bitAt (setBit v i) i = true := by
  unfold setBit
  split
  next h => exact h
  next h =>
    have hpos : 0 < 2 ^ i := Nat.two_pow_pos i
    simp only [bitAt, beq_iff_eq, Nat.add_div_right _ hpos] at h ⊢
    omega

/-- The status bit of an uncorrectable fault is set, masked or not (R399). -/
theorem Dev.uncFault_sets (d : Dev) (bit source stop kind id detail sev : Nat) :
    bitAt (d.uncFault bit source stop kind id detail sev).cont.uncStatus bit = true := by
  have hpush (c : ContSt) (t : Trigger) : (c.pushTrigger stop t).uncStatus = c.uncStatus := by
    simp only [ContSt.pushTrigger]
    split <;> rfl
  have hset : (d.uncFault bit source stop kind id detail sev).cont.uncStatus = setBit d.cont.uncStatus bit := by
    simp only [Dev.uncFault]
    split
    · exact hpush _ _
    · exact congrArg ContSt.uncStatus
        ((Dev.faultLog_same _ _ _ _ _ .cont (by decide)).trans (Dev.haltTests_same _ _ .cont (by decide)))
  rw [hset, bitAt_setBit_same]

/-! ### Completions at the source (R308, R412) -/

theorem Dev.trNamed_congr {d e : Dev} {f : FPkt} (h : e.sw.tr = d.sw.tr) : e.trNamed f = d.trNamed f := by
  unfold Dev.trNamed Dev.trEntry
  rw [h]

theorem Dev.trNamed_of_open {d : Dev} {f : FPkt} (hs : (d.trEntry (f.reqId % 65536)).state = 1)
    (hg : (d.trEntry (f.reqId % 65536)).gen = f.reqId / 65536) : d.trNamed f = some (d.trEntry (f.reqId % 65536)) :=
  if_pos ⟨hs, hg⟩

theorem Dev.trNamed_of_not_open {d : Dev} {f : FPkt}
    (h : (d.trEntry (f.reqId % 65536)).state ≠ 1 ∨ (d.trEntry (f.reqId % 65536)).gen ≠ f.reqId / 65536) :
    d.trNamed f = none :=
  if_neg (fun hopen => h.elim (fun hs => hs hopen.1) (fun hg => hg hopen.2))

/-- The late completion is counted and recorded, and nothing else of the switch core moves. -/
@[simp] theorem Dev.lateCpl_sw (d : Dev) (reqId : Nat) :
    (d.lateCpl reqId).sw = { d.sw with late := satAdd 32 d.sw.late 1 } := by simp [Dev.lateCpl]

theorem Dev.lateCpl_same (d : Dev) (reqId : Nat) : SameBut (.sw :: recordBlocks) d (d.lateCpl reqId) :=
  ((d.swAny_same _).mono (by simp)).trans ((Dev.log_same _ _ _ _).mono (by simp))

theorem Dev.lateCpl_pending (d : Dev) (reqId : Nat) : OnlyPending d (d.lateCpl reqId) :=
  .trans (.of_eq rfl) (Dev.log_pending _ _ _ _)

theorem Dev.lateCpl_sets (d : Dev) (reqId : Nat) : (d.lateCpl reqId).evt.status.getLsbD 0x3A7 = true := by
  refine Dev.log_sets _ _ _ _ ?_ (by decide)
  simp [Dev.sourcePresent]

theorem Dev.lateCpl_records {d : Dev} (reqId : Nat) (hq : d.cairn.queue = []) (hs : d.cairn.minSeverity ≤ 1) :
    Records (d.lateCpl reqId) 0x3A7 1 := Dev.log_records _ _ hq hs

theorem Dev.fabCompletion_late {d : Dev} {f : FPkt} (h : d.trNamed f = none) : d.fabCompletion f = d.lateCpl f.reqId := by
  simp [Dev.fabCompletion, Dev.takeFabCpl, h]

/-- The completion without data that the requester of entry `e` gets for the fabric completion `f`: its own ID and tag, and
the upstream bridge of its partition as completer (R308). -/
def Dev.cplFor (d : Dev) (e : TEntry) (f : FPkt) : Tlp :=
  { kind := .cpl, tc := e.tc, ep := f.poisoned, reqId := e.reqId, tag := e.tag, cplId := d.upBridgeId e.part, status := f.status,
    byteCount := f.byteCount, lowerAddr := f.lowerAddr }

/-- A completion without data retires its entry and goes on to the host or device that requested it. -/
theorem Dev.fabCompletion_noData {d : Dev} {f : FPkt} {e : TEntry} (hk : f.kind = 4) (h : d.trNamed f = some e)
    (he : e.engine = false) :
    d.fabCompletion f = (d.trRetire (f.reqId % 65536) false).sendTlp e.port (d.cplFor e f) := by
  simp [Dev.fabCompletion, Dev.takeFabCpl, h, hk, he, Dev.cplFor, Dev.upBridgeId, Dev.trRetire]

theorem Dev.trRetire_trEntry (d : Dev) (k : Nat) :
    (d.trRetire k false).trEntry k = { gen := nextGen 255 (d.trEntry k).gen, part := (d.trEntry k).part } := by
  simp [Dev.trRetire, Dev.trEntry]

theorem Dev.trRetire_same (d : Dev) (k : Nat) (quarantine : Bool) : SameBut [.sw] d (d.trRetire k quarantine) := d.swAny_same _

@[simp] theorem Dev.pushEng_trEntry (d : Dev) (p : Pkt) (k : Nat) : (d.pushEng p).trEntry k = d.trEntry k := rfl

theorem Dev.pushEng_same (d : Dev) (p : Pkt) : SameBut [.sw] d (d.pushEng p) := d.swAny_same _

theorem Dev.pushEng_waits (d : Dev) (p : Pkt) : Waits d (d.pushEng p) p := by simp [Waits, Dev.pushEng]

theorem Dev.sendTlp_of_inRunOrTest {d : Dev} (h : d.inRunOrTest = true) (port : Nat) (t : Tlp) :
    d.sendTlp port t = d.pushEng { dst := port, vc := d.vcOf t.tc, inVc := d.vcOf t.tc, tc := t.tc, cls := t.kind.cls, body := .tlp t, part := 0x1F } := by
  simp [Dev.sendTlp, h]

/-! ### An expired hold (R293) -/

/-- Nothing waits at the hub or at the register bridge. -/
theorem Dev.settleIn_of_empty {d : Dev} (hr : d.sw.regIn = []) (hh : d.sw.hubIn = []) : d.settleIn = d := by
  have hreg : d.drainReg = d := by
    rw [Dev.drainReg, hr, List.foldl_nil, ← hr]
  have hhub : d.drainHub = d := by
    rw [Dev.drainHub, hh, List.foldl_nil, ← hh]
  rw [Dev.settleIn, hreg, hhub, hreg]

theorem Dev.heldOf_of_nil {d : Dev} (h : d.sw.held = []) (sw tc : Nat) : d.heldOf sw tc = [] := by simp [Dev.heldOf, h]

theorem Dev.heldOf_of_singleton {d : Dev} {h : Held} {sw tc : Nat} (hd : d.sw.held = [h]) (hsrc : h.pkt.src = sw)
    (htc : h.pkt.tc = tc) : d.heldOf sw tc = [h] := by simp [Dev.heldOf, hd, hsrc, htc]

theorem sub24_self {a : Nat} (h : a < 2 ^ 24) : sub24 a a = 0 := by
  rw [sub24, Nat.mod_eq_of_lt h, Nat.add_sub_cancel_left, Nat.mod_self]

/-- The first packet of a completion stream that awaits its number is next, when no posted packet of the stream is known. -/
theorem RxFlow.classify_next {r : RxFlow} {f : FPkt} (ho : f.order = 2) (hs : f.seq < 2 ^ 24) (h0 : r.c0.known = false) :
    (r.put 2 { e := f.seq, known := true }).classify f = .order := by
  simp [RxFlow.classify, RxFlow.get, RxFlow.put, ho, sub24_self hs, h0]

/-- The stream expects the lowest held packet `h` of class `c` next: the gap before it is counted and reported. -/
def Dev.skipGap (d : Dev) (sw tc c : Nat) (h : Held) : Dev :=
  let r := d.sw.rx.rd (flowKey sw tc)
  ({ d with
      sw.rx := d.sw.rx.wr (flowKey sw tc) (r.put c { e := h.pkt.seq, known := true })
      fab.flowGap := satAdd 32 d.fab.flowGap 1 }).uncFault 9 h.port (portTile h.port) 2 h.port
    (pack [(0, sw), (12, tc), (16, c), (32, sub24 h.pkt.seq (r.get c).e)]) 3

theorem Dev.skipGap_sw (d : Dev) (sw tc c : Nat) (h : Held) :
    (d.skipGap sw tc c h).sw = { d.sw with rx := d.sw.rx.wr (flowKey sw tc) ((d.sw.rx.rd (flowKey sw tc)).put c { e := h.pkt.seq, known := true }) } := by
  simp [Dev.skipGap]

theorem Dev.skipGap_fab (d : Dev) (sw tc c : Nat) (h : Held) :
    (d.skipGap sw tc c h).fab = { d.fab with flowGap := satAdd 32 d.fab.flowGap 1 } := by simp [Dev.skipGap]

theorem Dev.skipGap_sets (d : Dev) (sw tc c : Nat) (h : Held) : bitAt (d.skipGap sw tc c h).cont.uncStatus 9 = true :=
  Dev.uncFault_sets _ _ _ _ _ _ _ _

/-- Of a stream with no held packet of the class nothing expires. -/
theorem Dev.flowExpire_of_nil {d : Dev} (hd : d.sw.held = []) (sw tc c : Nat) : d.flowExpire sw tc c = d := by
  simp [Dev.flowExpire, Dev.heldOf_of_nil hd]

/-- A stream with one held packet skips to it and delivers it. -/
theorem Dev.flowExpire_of_singleton {d : Dev} {h : Held} {sw tc c : Nat} (hd : d.sw.held = [h]) (hsrc : h.pkt.src = sw)
    (htc : h.pkt.tc = tc) (ho : h.pkt.order = c) (hgap : sub24 h.pkt.seq ((d.sw.rx.rd (flowKey sw tc)).get c).e ≠ 0) :
    d.flowExpire sw tc c = (d.skipGap sw tc c h).release 1 sw tc := by
  have hskip : (d.skipGap sw tc c h).heldOf sw tc = [h] := Dev.heldOf_of_singleton (by rw [Dev.skipGap_sw]; exact hd) hsrc htc
  have hlen := congrArg List.length hskip
  simp only [Dev.skipGap, List.length_singleton] at hlen
  simp [Dev.flowExpire, Dev.heldOf_of_singleton hd hsrc htc, ho, hgap, hlen, Dev.skipGap]

theorem Dev.owe_same (d : Dev) (p vc units : Nat) : SameBut [.ln] d (d.owe p vc units) := by
  unfold Dev.owe
  exact .ite (Dev.setLink_same _ _ _) (.refl _ d)

@[simp] theorem Dev.owe_sw (d : Dev) (p vc units : Nat) : (d.owe p vc units).sw = d.sw := Dev.owe_same d p vc units .sw (by decide)

/-- A completion that its entry no longer awaits is late: its credit returns. -/
theorem Dev.deliverFab_late {d : Dev} {f : FPkt} (hk : f.kind = 4) (h : d.trNamed f = none) (tile : Nat) (p0 : Pkt) :
    d.deliverFab tile p0 f = (d.owe p0.ing p0.inVc f.units).lateCpl f.reqId := by
  simp [Dev.deliverFab, FPkt.isReg, hk, Dev.deliverCpl, h]

/-- What a late completion on hold leaves when it goes: its cells are freed, their credit is owed back, and it is counted and
recorded (R183, R412). -/
def Dev.lateOffHold (d : Dev) (h : Held) : Dev := ((d.unhold h).owe h.port h.vc h.pkt.units).lateCpl h.pkt.reqId

theorem Dev.lateOffHold_same (d : Dev) (h : Held) : SameBut (.ln :: .sw :: recordBlocks) d (d.lateOffHold h) := by
  have hun : SameBut [.sw] d (d.unhold h) := d.swAny_same _
  exact (hun.mono (by simp)).trans (((Dev.owe_same _ _ _ _).mono (by simp)).trans ((Dev.lateCpl_same _ _).mono (by simp)))

theorem Dev.lateOffHold_sw (d : Dev) (h : Held) :
    (d.lateOffHold h).sw = { (d.unhold h).sw with late := satAdd 32 d.sw.late 1 } := by
  simp [Dev.lateOffHold, Dev.unhold, Dev.setIng]

/-- A completion on hold whose turn has come, but whose entry is not open, goes as a late one. -/
theorem Dev.release_late {d : Dev} {h : Held} {sw tc : Nat} (hd : d.sw.held = [h]) (hsrc : h.pkt.src = sw)
    (htc : h.pkt.tc = tc) (hk : h.pkt.kind = 4) (hnext : (d.sw.rx.rd (flowKey sw tc)).classify h.pkt = .order)
    (hlate : d.trNamed h.pkt = none) :
    d.release 1 sw tc = { d.lateOffHold h with
      sw.rx := (d.lateOffHold h).sw.rx.wr (flowKey sw tc) ((d.sw.rx.rd (flowKey sw tc)).step h.pkt) } := by
  have hun : (d.unhold h).trNamed h.pkt = none := hlate
  simp [Dev.release, Dev.heldOf_of_singleton hd hsrc htc, hnext, Dev.deliverFab_late hk hun, Dev.lateOffHold]

/-- The hold of one completion expires: the gap before it is skipped, and the completion, whose entry is not open, goes as a
late one (R293, R412). -/
theorem Dev.flowExpire_late {d : Dev} {h : Held} {sw tc : Nat} (hd : d.sw.held = [h]) (hsrc : h.pkt.src = sw)
    (htc : h.pkt.tc = tc) (hk : h.pkt.kind = 4) (ho : h.pkt.order = 2) (hs : h.pkt.seq < 2 ^ 24)
    (h0 : (d.sw.rx.rd (flowKey sw tc)).c0.known = false)
    (hgap : sub24 h.pkt.seq (d.sw.rx.rd (flowKey sw tc)).c2.e ≠ 0) (hlate : d.trNamed h.pkt = none) :
    d.flowExpire sw tc 2 = { (d.skipGap sw tc 2 h).lateOffHold h with
      sw.rx := (d.skipGap sw tc 2 h).sw.rx.wr (flowKey sw tc) (((d.sw.rx.rd (flowKey sw tc)).put 2 { e := h.pkt.seq, known := true }).step h.pkt) } := by
  have hrx : (d.skipGap sw tc 2 h).sw.rx.rd (flowKey sw tc) = (d.sw.rx.rd (flowKey sw tc)).put 2 { e := h.pkt.seq, known := true } := by
    simp [Dev.skipGap_sw]
  have hheld : (d.skipGap sw tc 2 h).sw.held = [h] := by rw [Dev.skipGap_sw]; exact hd
  have hnone : (d.skipGap sw tc 2 h).trNamed h.pkt = none := by
    rw [Dev.trNamed_congr (d := d) (by rw [Dev.skipGap_sw]), hlate]
  have hnext := hrx ▸ RxFlow.classify_next ho hs h0
  rw [Dev.flowExpire_of_singleton hd hsrc htc ho hgap, Dev.release_late hheld hsrc htc hk hnext hnone, hrx, Dev.lateOffHold_sw]
  rfl

/-! ### Return slots (R310) -/

theorem Dev.slotTimeout_bslot {d : Dev} {t k : Nat} (h : (d.sw.bslot.rd (16384 * t + k)).state = 1) :
    (d.slotTimeout t k).sw.bslot = d.sw.bslot.upd (16384 * t + k) (fun x => { x with state := 2, time := d.now }) := by
  simp [Dev.slotTimeout, h]

theorem Dev.slotTimeout_same (d : Dev) (t k : Nat) : SameBut [.sw] d (d.slotTimeout t k) := by
  unfold Dev.slotTimeout
  exact .ite (d.swAny_same _) (.refl _ d)

theorem Dev.slotTimeout_of_not_used {d : Dev} {t k : Nat} (h : (d.sw.bslot.rd (16384 * t + k)).state ≠ 1) :
    d.slotTimeout t k = d := if_neg h

theorem Dev.slotReuse_bslot {d : Dev} {t k : Nat} (h : (d.sw.bslot.rd (16384 * t + k)).state = 2) :
    (d.slotReuse t k).sw.bslot = d.sw.bslot.upd (16384 * t + k) BSlot.freed := by
  simp [Dev.slotReuse, h]

theorem Dev.slotReuse_same (d : Dev) (t k : Nat) : SameBut [.sw] d (d.slotReuse t k) := by
  unfold Dev.slotReuse
  exact .ite (d.swAny_same _) (.refl _ d)

theorem Dev.slotReuse_of_not_retired {d : Dev} {t k : Nat} (h : (d.sw.bslot.rd (16384 * t + k)).state ≠ 2) :
    d.slotReuse t k = d := if_neg h

theorem Dev.setLink_link (d : Dev) (p : Nat) (f : Link → Link) : (d.setLink p f).link p = f (d.link p) :=
  Tab.rd_upd_same _ _ _

/-! ### The commands -/

/-- A completion without data of an open entry's generation (R308). -/
theorem gives_fabricCompletion_noData {s : State} {f : FPkt} (hk : f.kind = 4)
    (hs : (s.dev.trEntry (f.reqId % 65536)).state = 1) (hg : (s.dev.trEntry (f.reqId % 65536)).gen = f.reqId / 65536)
    (he : (s.dev.trEntry (f.reqId % 65536)).engine = false) (hm : s.dev.inRunOrTest = true) :
    let e0 := s.dev.trEntry (f.reqId % 65536)
    Gives (.fabricCompletion f) s (fun e => (e.trEntry (f.reqId % 65536)).state = 0 ∧
      (e.trEntry (f.reqId % 65536)).gen = nextGen 255 e0.gen ∧
      Waits s.dev e { dst := e0.port, vc := s.dev.vcOf e0.tc, inVc := s.dev.vcOf e0.tc, tc := e0.tc, cls := 2, part := 0x1F, body := .tlp (s.dev.cplFor e0 f) } ∧
      SameBut [.sw] s.dev e) := by
  intro e0
  let d1 := s.dev.trRetire (f.reqId % 65536) false
  have hm1 : d1.inRunOrTest = true := hm
  have hval : fabricCompletion f s.dev = d1.sendTlp e0.port (s.dev.cplFor e0 f) := by
    rw [fabricCompletion, if_pos ⟨hm, .inl hk⟩, Dev.fabCompletion_noData hk (Dev.trNamed_of_open hs hg) he]
  refine Gives.of_onDev rfl ?_
  rw [hval, Dev.sendTlp_of_inRunOrTest hm1, Dev.pushEng_trEntry, Dev.trRetire_trEntry]
  exact ⟨rfl, rfl, Dev.pushEng_waits d1 _, (Dev.trRetire_same _ _ _).trans (Dev.pushEng_same _ _)⟩

/-- A completion that no open entry of its generation awaits (R412). -/
theorem gives_fabricCompletion_late {s : State} {f : FPkt} (hm : s.dev.inRunOrTest = true) (hk : f.kind = 4 ∨ f.kind = 5)
    (h : s.dev.trNamed f = none) :
    Gives (.fabricCompletion f) s (fun e => e.sw = { s.dev.sw with late := min (2 ^ 32 - 1) (s.dev.sw.late + 1) } ∧
      e.pcie.port = s.dev.pcie.port ∧ e.pcie.cfg = s.dev.pcie.cfg ∧ e.pcie.aer = s.dev.pcie.aer ∧
      e.evt.status.getLsbD 0x3A7 = true ∧
      (s.dev.cairn.queue = [] → s.dev.cairn.minSeverity ≤ 1 → Records e 0x3A7 1) ∧ SameBut (.sw :: recordBlocks) s.dev e) := by
  have hval : fabricCompletion f s.dev = s.dev.lateCpl f.reqId := by
    rw [fabricCompletion, if_pos ⟨hm, hk⟩, Dev.fabCompletion_late h]
  obtain ⟨t, ht⟩ := Dev.lateCpl_pending s.dev f.reqId
  refine Gives.of_onDev rfl ?_
  rw [hval, ht]
  exact ⟨Dev.lateCpl_sw _ _, rfl, rfl, rfl, Dev.lateCpl_sets _ _, Dev.lateCpl_records _, Dev.lateCpl_same _ _⟩

/-- The hold of a stream's one held completion expires (R293). -/
theorem gives_flowHoldExpiry_late {s : State} {sw : Fin 4096} {tc : Fin 8} {h : Held} (hd : s.dev.sw.held = [h])
    (hsrc : h.pkt.src = sw.val) (htc : h.pkt.tc = tc.val) (hk : h.pkt.kind = 4) (ho : h.pkt.order = 2)
    (hr : s.dev.sw.regIn = []) (hh : s.dev.sw.hubIn = []) (h0 : (s.dev.sw.rx.rd (flowKey sw tc)).c0.known = false)
    (hgap : 0 < sub24 h.pkt.seq (s.dev.sw.rx.rd (flowKey sw tc)).c2.e) (hs : h.pkt.seq < 2 ^ 24)
    (hlate : s.dev.trNamed h.pkt = none) :
    Gives (.flowHoldExpiry sw tc 2) s (fun e => e.sw.held = [] ∧
      (e.sw.rx.rd (flowKey sw tc)).c2 = { e := (h.pkt.seq + 1) % 2 ^ 24, known := true } ∧
      e.fab.flowGap = min (2 ^ 32 - 1) (s.dev.fab.flowGap + 1) ∧ bitAt e.cont.uncStatus 9 = true) := by
  let d1 := s.dev.skipGap sw tc 2 h
  let d2 := s.dev.flowExpire sw tc 2
  have hd2 : d2 = _ := Dev.flowExpire_late hd hsrc htc hk ho hs h0 (Nat.ne_of_gt hgap) hlate
  have hsw : d2.sw.held = [] ∧ d2.sw.regIn = [] ∧ d2.sw.hubIn = [] := by
    simp [hd2, Dev.lateOffHold_sw, Dev.unhold, Dev.setIng, Dev.skipGap_sw, hd, hr, hh]
  obtain ⟨hheld, hreg, hhub⟩ := hsw
  have hsame := Dev.lateOffHold_same d1 h
  refine Gives.of_onDev rfl ?_
  rw [show flowHoldExpiry sw tc 2 s.dev = d2 from Dev.settleIn_of_empty hreg hhub]
  refine ⟨hheld, ?_, ?_, ?_⟩
  · simp [hd2, RxFlow.step, RxFlow.put, ho]
  · rw [hd2]
    exact congrArg FabSt.flowGap ((hsame .fab (by decide)).trans (Dev.skipGap_fab _ _ _ _ _))
  · rw [hd2]
    exact (congrArg (fun c : ContSt => bitAt c.uncStatus 9) (hsame .cont (by decide))).trans (Dev.skipGap_sets _ _ _ _ _)

/-- A return slot in use that no completion reaches is retired (R310). -/
theorem gives_bridgeSlotTimeout {s : State} {t : Fin 9} {k : Fin 16384}
    (h : (s.dev.sw.bslot.rd (16384 * t + k)).state = 1) :
    Gives (.bridgeSlotTimeout t k) s (fun e =>
      e.sw.bslot.rd (16384 * t + k) = { s.dev.sw.bslot.rd (16384 * t + k) with state := 2, time := s.dev.now } ∧
      (∀ j, j ≠ 16384 * t.val + k.val → e.sw.bslot.rd j = s.dev.sw.bslot.rd j) ∧ SameBut [.sw] s.dev e) := by
  have hslot : (bridgeSlotTimeout t k s.dev).sw.bslot = _ := Dev.slotTimeout_bslot h
  refine Gives.of_onDev rfl ⟨?_, fun j hj => ?_, Dev.slotTimeout_same _ _ _⟩
  · rw [hslot, Tab.rd_upd_same]
  · rw [hslot, Tab.rd_upd_other _ _ _ _ hj]

/-- A retired return slot becomes free (R310). -/
theorem gives_bridgeSlotReuse {s : State} {t : Fin 9} {k : Fin 16384}
    (h : (s.dev.sw.bslot.rd (16384 * t + k)).state = 2) :
    Gives (.bridgeSlotReuse t k) s (fun e => (e.sw.bslot.rd (16384 * t + k)).state = 0 ∧
      (∀ j, j ≠ 16384 * t.val + k.val → e.sw.bslot.rd j = s.dev.sw.bslot.rd j) ∧ SameBut [.sw] s.dev e) := by
  have hslot : (bridgeSlotReuse t k s.dev).sw.bslot = _ := Dev.slotReuse_bslot h
  refine Gives.of_onDev rfl ⟨?_, fun j hj => ?_, Dev.slotReuse_same _ _ _⟩
  · rw [hslot, Tab.rd_upd_same]
    rfl
  · rw [hslot, Tab.rd_upd_other _ _ _ _ hj]

/-- The return hold of a port that has counted down ends (R298). -/
theorem gives_returnHoldEnd {s : State} {p : Fin 72} (h : (s.dev.link p).hold = some 0) :
    Gives (.returnHoldEnd p) s (fun e => (e.link p).hold = none ∧ e = s.dev.setLink p (fun l => { l with hold := none })) := by
  refine Gives.of_onDev rfl ?_
  rw [returnHoldEnd, if_pos h]
  exact ⟨by rw [Dev.setLink_link], rfl⟩

/-- Settles O44: one clause per end, each from its own lemma; a row whose condition fails changes nothing. -/
theorem fabricWaits : Obligations.FabricWaits := by
  unfold Obligations.FabricWaits
  intro s p f sw tc h t k
  refine ⟨gives_fabricCompletion_noData, fun hm hk hopen => gives_fabricCompletion_late hm hk (Dev.trNamed_of_not_open hopen),
    ?expired, ?nothingHeld, gives_bridgeSlotTimeout, ?slotNotUsed, gives_bridgeSlotReuse, ?slotNotRetired,
    gives_returnHoldEnd, ?holdRuns⟩
  case expired =>
    intro hd hsrc htc hk ho hr hh h0 hgap hs hfree
    have hclosed : (s.dev.trEntry (h.pkt.reqId % 65536)).state ≠ 1 := by simp [hfree]
    exact gives_flowHoldExpiry_late hd hsrc htc hk ho hr hh h0 hgap hs (Dev.trNamed_of_not_open (.inl hclosed))
  case nothingHeld =>
    intro hd hr hh
    refine Gives.of_onDev rfl ?_
    rw [flowHoldExpiry, Dev.flowExpire_of_nil hd, Dev.settleIn_of_empty hr hh]
  case slotNotUsed => exact fun hs => Gives.of_onDev rfl (Dev.slotTimeout_of_not_used hs)
  case slotNotRetired => exact fun hs => Gives.of_onDev rfl (Dev.slotReuse_of_not_retired hs)
  case holdRuns => exact fun hh => Gives.of_onDev rfl (if_neg hh)

end Sys2Proof.Machine

/-! PROOF. The encodings of the links: a field that stands at its place among the bytes is read back whole (R7), so that
fabric packets, flit headers and margin messages are what their bytes spell. -/

namespace Sys2Proof.Machine

-- One theorem at a time, as in the tests: many at once would ask for more threads than the sandbox gives.
set_option Elab.async false

/-- Settles O1. -/
theorem stepRunsFront : Obligations.StepRunsFront :=
  fun s => ⟨fun c r h => step_cons s c r h, fun h => step_idle s h⟩

/-! ### Fields among bytes (R7) -/

@[simp] theorem length_toLe (n v : Nat) : (toLe n v).length = n := by
  induction n generalizing v with
  | zero => rfl
  | succ n ih => rw [toLe, List.length_cons, ih]

theorem ofLe_toLe (n v : Nat) : ofLe (toLe n v) = v % 256 ^ n := by
  induction n generalizing v with
  | zero => rw [Nat.pow_zero, Nat.mod_one]; rfl
  | succ n ih =>
    have hcons : ofLe (toLe (n + 1) v) = v % 256 % 256 + 256 * ofLe (toLe n (v / 256)) := rfl
    rw [hcons, ih, Nat.mod_mod, Nat.pow_succ', Nat.mod_mul]

@[simp] theorem length_slice (bs : List Nat) (o n : Nat) : (slice bs o n).length = n := by simp [slice]

/-- The bytes at the front of a sequence. -/
theorem slice_append_left (as bs : List Nat) : slice (as ++ bs) 0 as.length = as := by
  refine List.ext_getElem (length_slice _ _ _) (fun i _ hi => ?_)
  simp only [slice, Nat.zero_add, List.getElem_map, List.getElem_range]
  rw [List.getD_eq_getElem?_getD, List.getElem?_append_left hi, List.getElem?_eq_getElem hi, Option.getD_some]

/-- Past its front a sequence reads as what follows. -/
theorem slice_append_right (as bs : List Nat) {o : Nat} (n : Nat) (h : as.length ≤ o) :
    slice (as ++ bs) o n = slice bs (o - as.length) n := by
  have hget (i : Nat) : (as ++ bs).getD (o + i) 0 = bs.getD (o - as.length + i) 0 := by
    rw [List.getD_eq_getElem?_getD, List.getElem?_append_right (by omega), List.getD_eq_getElem?_getD, Nat.sub_add_comm h]
  simp only [slice, hget]

/-- A field is read back from its place. -/
@[simp] theorem leAt_toLe (n v : Nat) (bs : List Nat) : leAt (toLe n v ++ bs) 0 n = v % 256 ^ n := by
  have hs := slice_append_left (toLe n v) bs
  rw [length_toLe] at hs
  rw [leAt, hs, ofLe_toLe]

/-- The last field is read back from its place. -/
@[simp] theorem leAt_toLe_last (n v : Nat) : leAt (toLe n v) 0 n = v % 256 ^ n := by
  rw [← leAt_toLe n v [], List.append_nil]

/-- A field before the place that is read does not matter. -/
@[simp] theorem leAt_skip (k v : Nat) (bs : List Nat) (o n : Nat) (h : k ≤ o) :
    leAt (toLe k v ++ bs) o n = leAt bs (o - k) n := by
  rw [leAt, slice_append_right _ _ _ (by rwa [length_toLe]), length_toLe, leAt]

@[simp] theorem slice_skip (k v : Nat) (bs : List Nat) (o n : Nat) (h : k ≤ o) :
    slice (toLe k v ++ bs) o n = slice bs (o - k) n := by
  rw [slice_append_right _ _ _ (by rwa [length_toLe]), length_toLe]

theorem toLe_one (v : Nat) : toLe 1 v = [v % 256] := rfl

/-! ### Margin messages (Tables 6.7 and 6.8) -/

theorem Margin.bytes_eq (m : Margin) :
    m.bytes = toLe 1 m.type ++ (toLe 1 (m.copy % 4 * 16 + m.tag % 16) ++ (toLe 14 m.body ++ [])) := by
  have hlow : (m.copy % 4 * 16 + m.tag % 16) % 256 = m.copy % 4 * 16 + m.tag % 16 := by omega
  rw [Margin.bytes, toLe_one, toLe_one, hlow, List.append_nil]
  rfl

theorem Margin.ofBytes_bytes {m : Margin} (h : m.wf = true) : Margin.ofBytes m.bytes = m := by
  obtain ⟨type, copy, tag, body⟩ := m
  simp only [Margin.wf, fits, Bool.and_eq_true, decide_eq_true_eq] at h
  rw [Margin.ofBytes, Margin.bytes_eq]
  simp [fld]
  omega

/-! ### The flit header (Table 6.2) -/

theorem bitAt_b2n (b : Bool) (v lo : Nat) (h : v / 2 ^ lo % 2 = b2n b) : bitAt v lo = b := by
  rw [bitAt, h]
  cases b <;> rfl

theorem b2n_le_one (b : Bool) : b2n b ≤ 1 := by cases b <;> decide

theorem pack_nil : pack [] = 0 := rfl

theorem foldl_pack (fs : List (Nat × Nat)) (a : Nat) : fs.foldl (fun a f => a + f.2 * 2 ^ f.1) a = a + pack fs := by
  induction fs generalizing a with
  | nil => rfl
  | cons f fs ih =>
    have hp : pack (f :: fs) = 0 + f.2 * 2 ^ f.1 + pack fs := ih _
    rw [List.foldl_cons, ih, hp, Nat.zero_add, Nat.add_assoc]

theorem pack_cons (lo v : Nat) (fs : List (Nat × Nat)) : pack ((lo, v) :: fs) = v * 2 ^ lo + pack fs :=
  (foldl_pack fs _).trans (by simp only [Nat.zero_add])

/-- Every field of a header word is read back from its place. -/
theorem FlitHdr.ofWord_word (h : FlitHdr) (hkind : h.kind < 2 ^ 4) (hack : h.ackSeq < 2 ^ 12) (hvc : h.crVc < 2 ^ 3) (hunits : h.crUnits < 2 ^ 11)
    (hvcA : h.vcA < 2 ^ 3) (hsplit : h.split < 2 ^ 4) (hvcB : h.vcB < 2 ^ 3) (hfill : h.fill < 2 ^ 4) (hchA : h.chA < 2 ^ 7) (hchB : h.chB < 2 ^ 7)
    (hrsvd : h.rsvd < 2 ^ 4) : h.word < 2 ^ 64 ∧ FlitHdr.ofWord h.word = h := by
  have hw : h.word = pack _ := rfl
  simp only [pack_cons, pack_nil] at hw
  have hr := b2n_le_one h.rpl
  have hn := b2n_le_one h.nak
  refine ⟨by omega, ?_⟩
  have hrpl : bitAt h.word 4 = h.rpl := bitAt_b2n _ _ _ (by omega)
  have hnak : bitAt h.word 5 = h.nak := bitAt_b2n _ _ _ (by omega)
  obtain ⟨kind, rpl, nak, ackSeq, crVc, crUnits, vcA, split, vcB, fill, chA, chB, rsvd⟩ := h
  rw [FlitHdr.ofWord, hrpl, hnak]
  simp only [FlitHdr.mk.injEq, fld, true_and]
  dsimp only at *
  omega

/-! ### Fabric packets (Table 9.1) -/

/-- The header of a packet: 48 bytes, one field after another. -/
def FPkt.header (f : FPkt) : List Nat :=
  toLe 1 f.kind ++ (toLe 1 f.flags ++ (toLe 1 f.chunks ++ (toLe 1 f.hops ++ (toLe 4 (f.dest + f.src * 2 ^ 12) ++
    (toLe 2 f.handle ++ (toLe 1 f.srcPart ++ (toLe 1 0 ++ (toLe 4 f.seq ++ (toLe 4 f.inc ++ (toLe 4 f.mark ++ (toLe 4 f.reqId ++
      (toLe 4 0 ++ (toLe 8 f.addr ++ (toLe 4 f.reqF ++ toLe 4 f.cplF))))))))))))))

/-- The tail of a packet: END, and PACKET_CRC. -/
def FPkt.tail (f : FPkt) : List Nat :=
  toLe 1 (if f.abort then 0xEA else 0xE0) ++ (toLe 1 0 ++ (toLe 1 0 ++ (toLe 1 0 ++ (toLe 4 f.crc ++ List.replicate 8 0))))

theorem FPkt.bytes_eq (f : FPkt) : f.bytes = f.header ++ (f.ext ++ (f.payload ++ f.tail)) := by
  cases h : f.abort <;> simp [FPkt.bytes, FPkt.front, FPkt.header, FPkt.tail, h, toLe, pack]

@[simp] theorem FPkt.length_header (f : FPkt) : f.header.length = 48 := by simp [FPkt.header]

theorem FPkt.length_bytes {f : FPkt} (h : 64 + f.ext.length + f.payload.length = 16 * f.chunks) :
    f.bytes.length = 16 * f.chunks := by
  have htail : f.tail.length = 16 := by simp [FPkt.tail]
  simp only [FPkt.bytes_eq, List.length_append, FPkt.length_header, htail]
  omega

/-- A field of the header, read from the packet. -/
theorem FPkt.leAt_header {f : FPkt} {o n v : Nat} (h : ∀ bs, leAt (f.header ++ bs) o n = v) : leAt f.bytes o n = v := by
  rw [FPkt.bytes_eq, h]

/-- A field of the tail, read from the packet. -/
theorem FPkt.leAt_tail {f : FPkt} {o : Nat} (n k : Nat) (h : o = 48 + f.ext.length + f.payload.length + k) :
    leAt f.bytes o n = leAt f.tail k n := by
  have hfront : (f.header ++ (f.ext ++ f.payload)).length = 48 + f.ext.length + f.payload.length := by
    simp [Nat.add_assoc]
  have hsplit : f.bytes = (f.header ++ (f.ext ++ f.payload)) ++ f.tail := by simp [FPkt.bytes_eq]
  rw [leAt, hsplit, slice_append_right _ _ _ (by omega), hfront, h, Nat.add_sub_cancel_left, leAt]

theorem FPkt.slice_ext (f : FPkt) : slice f.bytes 48 f.ext.length = f.ext := by
  rw [FPkt.bytes_eq, slice_append_right _ _ _ (by simp), FPkt.length_header, Nat.sub_self, slice_append_left]

theorem FPkt.slice_payload (f : FPkt) : slice f.bytes (48 + f.ext.length) f.payload.length = f.payload := by
  rw [FPkt.bytes_eq, slice_append_right _ _ _ (by simp), FPkt.length_header, Nat.add_sub_cancel_left,
    slice_append_right _ _ _ (Nat.le_refl _), Nat.sub_self, slice_append_left]

theorem FPkt.leAt_end (f : FPkt) : (leAt f.tail 0 1 == 0xEA) = f.abort := by
  cases h : f.abort <;> simp [FPkt.tail, h]

theorem FPkt.leAt_crc (f : FPkt) : leAt f.tail 4 4 = f.crc % 2 ^ 32 := by simp [FPkt.tail]

/-- Bit 7 of FLAGS says whether there is an extension. -/
theorem bitAt_seven {v : Nat} (h : v < 2 ^ 8) : bitAt v 7 = decide (128 ≤ v) := by
  rw [bitAt, Bool.eq_iff_iff, beq_iff_eq, decide_eq_true_eq]
  omega

theorem FPkt.ofBytes_bytes {f : FPkt} (h : f.wf = true) : FPkt.ofBytes f.bytes = f := by
  simp only [FPkt.wf, fits, Bool.and_eq_true, decide_eq_true_eq, beq_iff_eq] at h
  obtain ⟨⟨⟨⟨⟨⟨⟨⟨⟨⟨⟨⟨⟨⟨⟨⟨⟨⟨⟨hkind, hflags⟩, hchunks⟩, hhops⟩, hdest⟩, hsrc⟩, hhandle⟩, hpart⟩, hseq⟩, hinc⟩, hmark⟩, hreq⟩, haddr⟩,
    hreqF⟩, hcplF⟩, hcrc⟩, -⟩, hext⟩, -⟩, hlen⟩ := h
  have hflags' : leAt f.bytes 1 1 = f.flags := FPkt.leAt_header fun bs => by simpa [FPkt.header] using Nat.mod_eq_of_lt hflags
  have hchunks' : leAt f.bytes 2 1 = f.chunks := FPkt.leAt_header fun bs => by simpa [FPkt.header] using Nat.mod_eq_of_lt hchunks
  have hextLen : (if bitAt f.flags 7 then 16 else 0) = f.ext.length := by
    rw [hext, bitAt_seven hflags]
    simp
  have hpay : 16 * f.chunks - 64 - f.ext.length = f.payload.length := by omega
  have hids : leAt f.bytes 4 4 = f.dest + f.src * 2 ^ 12 :=
    FPkt.leAt_header fun bs => by simp [FPkt.header]; omega
  have hend : (leAt f.bytes (16 * f.chunks - 16) 1 == 0xEA) = f.abort := by
    rw [FPkt.leAt_tail 1 0 (by omega), FPkt.leAt_end]
  have hsum : leAt f.bytes (16 * f.chunks - 12) 4 = f.crc := by
    rw [FPkt.leAt_tail 4 4 (by omega), FPkt.leAt_crc, Nat.mod_eq_of_lt hcrc]
  rw [FPkt.ofBytes]
  simp only [hflags', hchunks', hextLen, hpay, hids, hend, hsum, FPkt.slice_ext, FPkt.slice_payload]
  rw [FPkt.bytes_eq]
  obtain ⟨kind, flags, chunks, hops, dest, src, handle, srcPart, seq, inc, mark, reqId, addr, reqF, cplF, ext, payload, abort, crc⟩ := f
  simp [FPkt.header, fld]
  dsimp only at *
  omega


/-- Settles O59: each encoding is read back field by field. -/
theorem encodingsRoundTrip : Obligations.EncodingsRoundTrip := by
  unfold Obligations.EncodingsRoundTrip
  refine ⟨fun f h => ⟨FPkt.length_bytes ?_, FPkt.ofBytes_bytes h⟩, FlitHdr.ofWord_word,
    fun m h => ⟨by simp [Margin.bytes_eq], Margin.ofBytes_bytes h⟩⟩
  simp only [FPkt.wf, Bool.and_eq_true, beq_iff_eq] at h
  exact h.2

end Sys2Proof.Machine

/-! PROOF. Frames, as later proofs use them: a block that a frame leaves out, and an operation inside a frame. -/

namespace Sys2Proof.Machine

-- One theorem at a time, as in the tests: many at once would ask for more threads than the sandbox gives.
set_option Elab.async false

section
variable {bs : List Block} {d e : Dev}

theorem SameBut.part (h : SameBut bs d e) (hb : Block.part ∉ bs := by decide) : e.part = d.part := h _ hb
theorem SameBut.mode (h : SameBut bs d e) (hb : Block.mode ∉ bs := by decide) : e.mode = d.mode := h _ hb
theorem SameBut.plat (h : SameBut bs d e) (hb : Block.plat ∉ bs := by decide) : e.plat = d.plat := h _ hb
theorem SameBut.run (h : SameBut bs d e) (hb : Block.run ∉ bs := by decide) : e.run = d.run := h _ hb
theorem SameBut.nb (h : SameBut bs d e) (hb : Block.nb ∉ bs := by decide) : e.nb = d.nb := h _ hb
theorem SameBut.tick (h : SameBut bs d e) (hb : Block.tick ∉ bs := by decide) : e.tick = d.tick := h _ hb
theorem SameBut.jobs (h : SameBut bs d e) (hb : Block.jobs ∉ bs := by decide) : e.jobs = d.jobs := h _ hb
theorem SameBut.cores (h : SameBut bs d e) (hb : Block.cores ∉ bs := by decide) : e.cores = d.cores := h _ hb
theorem SameBut.port (h : SameBut bs d e) (hb : Block.port ∉ bs := by decide) : e.port = d.port := h _ hb
theorem SameBut.sight (h : SameBut bs d e) (hb : Block.sight ∉ bs := by decide) : e.sight = d.sight := h _ hb
theorem SameBut.bus (h : SameBut bs d e) (hb : Block.bus ∉ bs := by decide) : e.bus = d.bus := h _ hb
theorem SameBut.pkg (h : SameBut bs d e) (hb : Block.pkg ∉ bs := by decide) : e.pkg = d.pkg := h _ hb
theorem SameBut.pcie (h : SameBut bs d e) (hb : Block.pcie ∉ bs := by decide) : e.pcie = d.pcie := h _ hb
theorem SameBut.ln (h : SameBut bs d e) (hb : Block.ln ∉ bs := by decide) : e.ln = d.ln := h _ hb
theorem SameBut.sw (h : SameBut bs d e) (hb : Block.sw ∉ bs := by decide) : e.sw = d.sw := h _ hb
theorem SameBut.tally (h : SameBut bs d e) (hb : Block.tally ∉ bs := by decide) : e.tally = d.tally := h _ hb
theorem SameBut.trav (h : SameBut bs d e) (hb : Block.trav ∉ bs := by decide) : e.trav = d.trav := h _ hb
theorem SameBut.fab (h : SameBut bs d e) (hb : Block.fab ∉ bs := by decide) : e.fab = d.fab := h _ hb
theorem SameBut.bnd (h : SameBut bs d e) (hb : Block.bnd ∉ bs := by decide) : e.bnd = d.bnd := h _ hb
theorem SameBut.cont (h : SameBut bs d e) (hb : Block.cont ∉ bs := by decide) : e.cont = d.cont := h _ hb
theorem SameBut.commits (h : SameBut bs d e) (hb : Block.commits ∉ bs := by decide) : e.commits = d.commits := h _ hb
theorem SameBut.cairn (h : SameBut bs d e) (hb : Block.cairn ∉ bs := by decide) : e.cairn = d.cairn := h _ hb
theorem SameBut.evt (h : SameBut bs d e) (hb : Block.evt ∉ bs := by decide) : e.evt = d.evt := h _ hb
theorem SameBut.cnt (h : SameBut bs d e) (hb : Block.cnt ∉ bs := by decide) : e.cnt = d.cnt := h _ hb

/-- A frame, block by block. -/
theorem sameBut_iff : SameBut bs d e ↔
    (.part ∈ bs ∨ e.part = d.part) ∧ (.mode ∈ bs ∨ e.mode = d.mode) ∧ (.plat ∈ bs ∨ e.plat = d.plat) ∧
    (.run ∈ bs ∨ e.run = d.run) ∧ (.nb ∈ bs ∨ e.nb = d.nb) ∧ (.tick ∈ bs ∨ e.tick = d.tick) ∧
    (.jobs ∈ bs ∨ e.jobs = d.jobs) ∧ (.cores ∈ bs ∨ e.cores = d.cores) ∧ (.port ∈ bs ∨ e.port = d.port) ∧
    (.sight ∈ bs ∨ e.sight = d.sight) ∧ (.bus ∈ bs ∨ e.bus = d.bus) ∧ (.pkg ∈ bs ∨ e.pkg = d.pkg) ∧
    (.pcie ∈ bs ∨ e.pcie = d.pcie) ∧ (.ln ∈ bs ∨ e.ln = d.ln) ∧ (.sw ∈ bs ∨ e.sw = d.sw) ∧
    (.tally ∈ bs ∨ e.tally = d.tally) ∧ (.trav ∈ bs ∨ e.trav = d.trav) ∧ (.fab ∈ bs ∨ e.fab = d.fab) ∧
    (.bnd ∈ bs ∨ e.bnd = d.bnd) ∧ (.cont ∈ bs ∨ e.cont = d.cont) ∧ (.commits ∈ bs ∨ e.commits = d.commits) ∧
    (.cairn ∈ bs ∨ e.cairn = d.cairn) ∧ (.evt ∈ bs ∨ e.evt = d.evt) ∧ (.cnt ∈ bs ∨ e.cnt = d.cnt) := by
  have hone (b : Block) : (b ∉ bs → b.same d e) ↔ (b ∈ bs ∨ b.same d e) := by
    by_cases hb : b ∈ bs <;> simp [hb]
  constructor
  · intro h
    have k (b : Block) := (hone b).1 (h b)
    exact ⟨k .part, k .mode, k .plat, k .run, k .nb, k .tick, k .jobs, k .cores, k .port, k .sight, k .bus, k .pkg,
      k .pcie, k .ln, k .sw, k .tally, k .trav, k .fab, k .bnd, k .cont, k .commits, k .cairn, k .evt, k .cnt⟩
  · rintro ⟨h1, h2, h3, h4, h5, h6, h7, h8, h9, h10, h11, h12, h13, h14, h15, h16, h17, h18, h19, h20, h21, h22, h23, h24⟩ b
    rw [hone]
    cases b <;> assumption

/-- An operation whose own frame lies inside `bs` does not matter to a frame `bs`. -/
theorem SameBut.step {as : List Block} {x y : Dev} (h : SameBut as x y) (hs : as ⊆ bs) : SameBut bs d y ↔ SameBut bs d x := by
  have hback : SameBut as y x := fun b hb => by cases b <;> exact (h _ hb).symm
  exact ⟨fun k => k.trans (hback.mono hs), fun k => k.trans (h.mono hs)⟩

/-- One more operation, whose own frame lies inside `bs`. -/
theorem SameBut.then {as : List Block} {x y : Dev} (h : SameBut bs d x) (k : SameBut as x y) (hs : as ⊆ bs := by decide) :
    SameBut bs d y := h.trans (k.mono hs)

theorem SameBut.ite_fst {β : Type} {c : Prop} [Decidable c] {x y : Dev × β} (h : SameBut bs d x.1) (k : SameBut bs d y.1) :
    SameBut bs d (if c then x else y).1 := by
  split
  · exact h
  · exact k

theorem SameBut.foldl_fst {α β : Type} (f : Dev × β → α → Dev × β) (h : ∀ x a, SameBut bs x.1 (f x a).1) (l : List α)
    (x : Dev × β) : SameBut bs x.1 (l.foldl f x).1 := by
  induction l generalizing x with
  | nil => exact SameBut.refl bs _
  | cons a l ih => exact (h x a).trans (ih (f x a))

@[simp] theorem sameBut_self : SameBut bs d d := SameBut.refl bs d

end

section
variable (d : Dev)

/-! ### A change of one block -/

theorem Dev.platAny_same (x : PlatSt) : SameBut [.plat] d { d with plat := x } := by simp [sameBut_iff]
theorem Dev.modeAny_same (x : ModeSt) : SameBut [.mode] d { d with mode := x } := by simp [sameBut_iff]
theorem Dev.runAny_same (x : RunCfg) : SameBut [.run] d { d with run := x } := by simp [sameBut_iff]
theorem Dev.nbAny_same (x : NeighbourSt) : SameBut [.nb] d { d with nb := x } := by simp [sameBut_iff]
theorem Dev.tickAny_same (x : TickSt) : SameBut [.tick] d { d with tick := x } := by simp [sameBut_iff]
theorem Dev.jobsAny_same (x : JobSt) : SameBut [.jobs] d { d with jobs := x } := by simp [sameBut_iff]
theorem Dev.coresAny_same (x : CoreSt) : SameBut [.cores] d { d with cores := x } := by simp [sameBut_iff]
theorem Dev.portAny_same (x : Tab PortSt) : SameBut [.port] d { d with port := x } := by simp [sameBut_iff]
theorem Dev.sightAny_same (x : SightSt) : SameBut [.sight] d { d with sight := x } := by simp [sameBut_iff]
theorem Dev.busAny_same (x : BusSt) : SameBut [.bus] d { d with bus := x } := by simp [sameBut_iff]
theorem Dev.pkgAny_same (x : PackageSt) : SameBut [.pkg] d { d with pkg := x } := by simp [sameBut_iff]
theorem Dev.pcieAny_same (x : PcieSt) : SameBut [.pcie] d { d with pcie := x } := by simp [sameBut_iff]
theorem Dev.lnAny_same (x : LinkSt) : SameBut [.ln] d { d with ln := x } := by simp [sameBut_iff]
theorem Dev.tallyAny_same (x : TallySt) : SameBut [.tally] d { d with tally := x } := by simp [sameBut_iff]
theorem Dev.travAny_same (x : TravSt) : SameBut [.trav] d { d with trav := x } := by simp [sameBut_iff]
theorem Dev.fabAny_same (x : FabSt) : SameBut [.fab] d { d with fab := x } := by simp [sameBut_iff]
theorem Dev.bndAny_same (x : BndSt) : SameBut [.bnd] d { d with bnd := x } := by simp [sameBut_iff]
theorem Dev.contAny_same (x : ContSt) : SameBut [.cont] d { d with cont := x } := by simp [sameBut_iff]
theorem Dev.commitsAny_same (x : List (Bool × Commit)) : SameBut [.commits] d { d with commits := x } := by simp [sameBut_iff]
theorem Dev.cairnAny_same (x : CairnSt) : SameBut [.cairn] d { d with cairn := x } := by simp [sameBut_iff]
theorem Dev.evtAny_same (x : EventSt) : SameBut [.evt] d { d with evt := x } := by simp [sameBut_iff]
theorem Dev.cntAny_same (x : CounterSt) : SameBut [.cnt] d { d with cnt := x } := by simp [sameBut_iff]

end

/-! ### Operations that take an operation -/

theorem Dev.once_same {bs : List Block} (d : Dev) (key : Nat) (f : Dev → Dev) (h : ∀ e, SameBut bs e (f e)) (hb : .sw ∈ bs) :
    SameBut bs d (d.once key f) := by
  unfold Dev.once
  exact .ite (.refl _ _) (.trans (.mono (Dev.swAny_same _ _) (by simp [hb])) (h _))

/-! ### Operations that keep one value of the device -/

/-- Between `d` and `e` the value `f` has not moved. -/
def Keeps {α : Type} (f : Dev → α) (d e : Dev) : Prop := f e = f d

section
variable {α β γ : Type} {f : Dev → α} {d e x : Dev}

theorem Keeps.refl (f : Dev → α) (d : Dev) : Keeps f d d := rfl
theorem Keeps.of_eq (h : f e = f d) : Keeps f d e := h
theorem Keeps.trans (h : Keeps f d x) (k : Keeps f x e) : Keeps f d e := Eq.trans k h

theorem Keeps.ite {c : Prop} [Decidable c] (h : Keeps f d x) (k : Keeps f d e) : Keeps f d (if c then x else e) := by
  split
  · exact h
  · exact k

theorem Keeps.foldl (g : Dev → β → Dev) (h : ∀ d b, Keeps f d (g d b)) (l : List β) (d : Dev) : Keeps f d (l.foldl g d) := by
  induction l generalizing d with
  | nil => exact Keeps.refl f d
  | cons b l ih => exact (h d b).trans (ih (g d b))

theorem Keeps.ite_fst {c : Prop} [Decidable c] {x y : Dev × β} (h : Keeps f d x.1) (k : Keeps f d y.1) :
    Keeps f d (if c then x else y).1 := by
  split
  · exact h
  · exact k

theorem Keeps.foldl_fst (g : Dev × γ → β → Dev × γ) (h : ∀ x b, Keeps f x.1 (g x b).1) (l : List β) (x : Dev × γ) :
    Keeps f x.1 (l.foldl g x).1 := by
  induction l generalizing x with
  | nil => exact Keeps.refl f _
  | cons b l ih => exact (h x b).trans (ih (g x b))

end

end Sys2Proof.Machine

/-! PROOF. Resets and the mode machine (R76 to R79, R82, R499 to R502, R517). -/

namespace Sys2Proof.Machine

-- One theorem at a time, as in the tests: many at once would ask for more threads than the sandbox gives.
set_option Elab.async false

/-! ### The operations of M0 -/

/-- Entry to M0 loses everything (R78). -/
theorem Dev.enterM0_lost (d : Dev) (m : ModeSt) : Lost { d.enterM0 with mode := m } := by
  simp [Lost, Dev.enterM0]

theorem ModeSt.resetCause_none {m : ModeSt} (hp : m.causePower = false) (hr : m.causeRst = false) (ht : m.causePerst = false)
    (hd : m.causeDev = false) (hs : m.resetPort = 0) : m.resetCause = 0 := by
  simp [ModeSt.resetCause, pack, b2n, hp, hr, ht, hd, hs]

theorem pwrgdFall_held (d : Dev) : HeldInM0 (pwrgdFall d) := by
  simp [HeldInM0, pwrgdFall, Dev.enterM0, ModeSt.enterM0, Lost]

/-- Settles O2. -/
theorem pwrgdCommands : Obligations.PwrgdCommands := by
  unfold Obligations.PwrgdCommands
  refine fun s => ⟨fun h => Gives.of_onDev rfl ?rise, fun h => Gives.of_onDev rfl (if_pos h), Gives.of_onDev rfl ?fall,
    Gives.of_onDev rfl (pwrgdFall_held _)⟩
  case rise =>
    rw [pwrgdRise, if_neg (by simp [h])]
    simp [ModeSt.resetCause, pack, b2n, sameBut_iff]
  case fall =>
    refine ⟨rfl, rfl, rfl, ModeSt.resetCause_none rfl rfl rfl rfl rfl, rfl, rfl, rfl, pwrgdFall_held _⟩

/-! ### Release from M0 (R77) -/

theorem Dev.held_iff (d : Dev) : d.held = true ↔ d.mode.base = .m0 ∧ d.mode.released = false := by
  simp [Dev.held]

theorem Dev.tryRelease_same (d : Dev) : SameBut [.mode] d d.tryRelease := by
  unfold Dev.tryRelease
  exact SameBut.ite (d.modeAny_same _) (SameBut.refl _ d)

/-- The strap sample that ends M0: nothing but PERST_N_T0 can hold the device any longer. -/
theorem Dev.sampleStraps_release {d : Dev} {straps : Fin 8} (hm : d.held = true) (hp : d.mode.pwrgd = true)
    (he : d.mode.holdEnded = true) (hr : d.mode.rstN = true) (hd : d.mode.devReset = false) :
    ((d.sampleStraps straps.val).tryRelease).mode = { d.mode with
      authSel := straps.val
      released := !(bitAt straps.val 0 && !bitAt d.mode.perst 0)
      perstM0 := d.mode.perstM0 && (bitAt straps.val 0 && !bitAt d.mode.perst 0) } := by
  obtain ⟨hbase, hrel⟩ := d.held_iff.1 hm
  have hs : straps.val % 8 = straps.val := Nat.mod_eq_of_lt straps.isLt
  cases hhold : (bitAt straps.val 0 && !bitAt d.mode.perst 0) <;>
    simp [Dev.tryRelease, Dev.sampleStraps, ModeSt.mayRelease, ModeSt.perstHolds, hs, hbase, hp, he, hr, hd, hhold, hrel]

theorem Dev.sampleStraps_release_same (d : Dev) (straps : Nat) : SameBut [.mode] d (d.sampleStraps straps).tryRelease :=
  (d.modeAny_same _).trans (Dev.tryRelease_same _)

/-- Settles O3. -/
theorem rstNCommands : Obligations.RstNCommands := by
  unfold Obligations.RstNCommands
  refine fun s straps => ⟨fun hp hh => Gives.of_onDev rfl ?enters, fun h => Gives.of_onDev rfl ?holds,
    fun hr hh hp he hd => Gives.of_onDev rfl ?samples, fun hr he => Gives.of_onDev rfl ?waits,
    fun hr => Gives.of_onDev rfl (if_pos hr)⟩
  case enters =>
    rw [rstNFall, if_neg (by simp [hp, hh])]
    exact ⟨rfl, rfl, rfl, rfl, rfl, rfl, rfl, rfl, rfl, Dev.enterM0_lost _ _⟩
  case holds =>
    rw [rstNFall, if_pos (by simpa [or_comm] using h)]
    refine ⟨rfl, ?_, Dev.modeAny_same _ _⟩
    simp [Dev.sameCause, and_assoc]
  case samples =>
    have hval : rstNRise straps s.dev = (({ s.dev with mode.rstN := true } : Dev).sampleStraps straps.val).tryRelease := by
      rw [rstNRise, if_neg (by simp [hr])]
      exact if_pos (by simpa [Dev.held, hp, he, hd] using hh)
    have hmode := Dev.sampleStraps_release (d := { s.dev with mode.rstN := true }) (straps := straps) hh hp he rfl hd
    rw [hval]
    refine ⟨by rw [hmode], by rw [hmode], by rw [hmode]; exact (s.dev.held_iff.1 hh).1, by rw [hmode], ?_⟩
    exact (s.dev.modeAny_same _).trans (Dev.sampleStraps_release_same _ _)
  case waits =>
    rw [rstNRise, if_neg (by simp [hr])]
    exact if_neg (by simp [he])

/-! ### The ends of the holds, and the way to M1 (R77, R79, R500) -/

theorem m1Entry_same (d : Dev) : SameBut [.mode, .evt, .pcie] d (m1Entry d) := by
  unfold m1Entry
  refine SameBut.ite (SameBut.then (SameBut.then (d.modeAny_same _ |>.mono (by decide)) (Dev.tickFree_same _)) (Dev.fire_same _ _))
    (SameBut.refl _ d)

/-- Settles O5. -/
theorem holdEnds : Obligations.HoldEnds := by
  unfold Obligations.HoldEnds
  refine fun s straps => ⟨fun hp he hr hh hd => Gives.of_onDev rfl ?powerEnd, fun hp he hr => Gives.of_onDev rfl ?rstLow,
    fun hd hh hp he hr => Gives.of_onDev rfl ?resetEnd,
    fun hb hf => ⟨fun hrel => Gives.of_onDev rfl (if_pos (by simp [hb, hf, hrel])), fun ho => Gives.of_onDev rfl ?entry⟩⟩
  case powerEnd =>
    have hval : powerHoldEnd straps s.dev = (({ s.dev with mode.holdEnded := true } : Dev).sampleStraps straps.val).tryRelease := by
      rw [powerHoldEnd, if_pos (by simp [hp, he])]
      exact if_pos hr
    have hmode := Dev.sampleStraps_release (d := { s.dev with mode.holdEnded := true }) (straps := straps) hh hp rfl hr hd
    rw [hval]
    exact ⟨by rw [hmode], by rw [hmode], by rw [hmode], (s.dev.modeAny_same _).trans (Dev.sampleStraps_release_same _ _)⟩
  case rstLow =>
    rw [powerHoldEnd, if_pos (by simp [hp, he])]
    exact if_neg (by simp [hr])
  case resetEnd =>
    have hval : deviceResetEnd straps s.dev = (({ s.dev with mode.devReset := false } : Dev).sampleStraps straps.val).tryRelease :=
      if_pos hd
    have hmode := Dev.sampleStraps_release (d := { s.dev with mode.devReset := false }) (straps := straps) hh hp he hr rfl
    rw [hval]
    exact ⟨by rw [hmode], by rw [hmode], by rw [hmode], (s.dev.modeAny_same _).trans (Dev.sampleStraps_release_same _ _)⟩
  case entry =>
    refine ⟨?_, ?_, ?_, m1Entry_same _⟩ <;> rw [m1Entry, if_pos (by simp [hb, hf, ho])]
    · simp
    · simpa [Dev.freeVal] using Nat.mod_lt _ (by decide)
    · exact Dev.fire_sets _ _ (by simp [Dev.sourcePresent]) (by decide)

end Sys2Proof.Machine

/-! PROOF. Frames of the switch core and of the links: what a packet that is routed, cut or moved away touches, and what a
link that goes down touches (R177, R192 to R200, R246 to R253, R285 to R301). -/

namespace Sys2Proof.Machine

-- One theorem at a time, as in the tests: many at once would ask for more threads than the sandbox gives.
set_option Elab.async false

theorem Dev.setIng_same (d : Dev) (p : Nat) (f : Ingress → Ingress) : SameBut [.sw] d (d.setIng p f) := by
  unfold Dev.setIng
  exact .mono (Dev.swAny_same _ _) (by decide)

theorem Dev.pushOutOne_same (d : Dev) (ing v : Nat) : SameBut (.sw :: recordBlocks) d (d.pushOutOne ing v) := by
  unfold Dev.pushOutOne
  dsimp only
  split
  · exact .refl _ _
  · exact .ite (.then (.then (.then (.mono (Dev.swAny_same _ _) (by decide)) (Dev.setIng_same _ _ _))
      (Dev.countTile_same _ _ _ _ _ _)) (Dev.fire_same _ _)) (.then (.then (.then (.then (.then (.mono (Dev.swAny_same _ _)
      (by decide)) (Dev.setIng_same _ _ _)) (Dev.countTile_same _ _ _ _ _ _)) (Dev.fire_same _ _)) (Dev.setIng_same _ _ _))
      (Dev.log_same _ _ _ _))

theorem Dev.pushOut_same (d : Dev) (n ing v cells : Nat) : SameBut (.ln :: .sw :: recordBlocks) d (d.pushOut n ing v cells) := by
  induction n generalizing d with
  | zero => exact .refl _ _
  | succ n ih =>
    rw [Dev.pushOut]
    exact .ite (.refl _ _) (.trans (.mono (Dev.pushOutOne_same _ _ _) (by decide)) (ih _))

theorem Dev.enterVoq_same (d : Dev) (tile : Nat) (p : Pkt) : SameBut [.ln, .sw] d (d.enterVoq tile p) := by
  unfold Dev.enterVoq
  exact .ite (.then (.ite (.mono (Dev.swAny_same _ _) (by decide)) (.then (.mono (Dev.swAny_same _ _) (by decide))
      (Dev.setIng_same _ _ _))) (Dev.lnAny_same _ _)) (.ite (.mono (Dev.swAny_same _ _) (by decide)) (.then (.mono
      (Dev.swAny_same _ _) (by decide)) (Dev.setIng_same _ _ _)))

theorem Dev.pushVoq_same (d : Dev) (tile : Nat) (p : Pkt) : SameBut (.ln :: .sw :: recordBlocks) d (d.pushVoq tile p) := by
  unfold Dev.pushVoq
  exact .then (.ite (.mono (Dev.pushOut_same _ _ _ _ _) (by decide)) (.refl _ _)) (Dev.enterVoq_same _ _ _)

theorem Dev.queueFab_same (d : Dev) (tile ing inVc p : Nat) (f : FPkt) (resend : Bool) (wr : Nat) : SameBut
    (.ln :: .sw :: recordBlocks) d (d.queueFab tile ing inVc p f resend wr) := by
  unfold Dev.queueFab
  exact .mono (Dev.pushVoq_same _ _ _) (by decide)

theorem Dev.unrouted_same (d : Dev) (f : FPkt) (hop : Bool) : SameBut (.sw :: .fab :: recordBlocks) d (d.unrouted f hop) := by
  unfold Dev.unrouted
  exact .trans (.ite (.mono (Dev.fabAny_same _ _) (by decide)) (.mono (Dev.fabAny_same _ _) (by decide)))
      (Dev.once_same _ _ _ (fun _ => .mono (Dev.log_same _ _ _ _) (by decide)) (by decide))

theorem Dev.linkDownRecord_same (d : Dev) (p cause : Nat) : SameBut (.ln :: .cont :: recordBlocks) d
    (d.linkDownRecord p cause) := by
  unfold Dev.linkDownRecord
  exact .ite (.mono (Dev.fire_same _ _) (by decide)) (.ite (.mono (Dev.log_same _ _ _ _) (by decide)) (.then (.mono
      (Dev.fire_same _ _) (by decide)) (Dev.uncFault_same _ _ _ _ _ _ _ _)))

theorem Dev.leaveEpoch_same (d : Dev) (e : Option Nat) : SameBut [.bnd] d (d.leaveEpoch e) := by
  unfold Dev.leaveEpoch
  split
  · exact .mono (Dev.bndAny_same _ _) (by decide)
  · exact .refl _ _

theorem Dev.freeCells_same (d : Dev) (p : Pkt) (k n : Nat) : SameBut [.ln, .sw] d (d.freeCells p k n) := by
  unfold Dev.freeCells
  exact .ite (.refl _ _) (.ite (.ite (.mono (Dev.setIng_same _ _ _) (by decide)) (.then (.mono (Dev.setIng_same _ _ _)
      (by decide)) (Dev.lnAny_same _ _))) (.ite (.then (.mono (Dev.setIng_same _ _ _) (by decide)) (Dev.emit_same _ _))
      (.mono (Dev.setIng_same _ _ _) (by decide))))

theorem Dev.freeRest_same (d : Dev) (p : Pkt) : SameBut [.ln, .sw] d (d.freeRest p) := by
  unfold Dev.freeRest
  exact .mono (Dev.freeCells_same _ _ _ _) (by decide)

theorem Dev.endPacket_same (d : Dev) (id : Nat) : SameBut [.ln, .sw, .bnd] d (d.endPacket id) := by
  unfold Dev.endPacket
  dsimp only
  split
  · exact .refl _ _
  · exact .ite (.refl _ _) (.ite (.then (.trans (.ite (.then (.mono (Dev.swAny_same _ _) (by decide))
      (Dev.setLink_same _ _ _)) (.then (.mono (Dev.swAny_same _ _) (by decide)) (Dev.leaveEpoch_same _ _))) (.foldl _
      (fun _ _ => .ite (.then (.mono (Dev.freeRest_same _ _) (by decide)) (Dev.setLink_same _ _ _)) (.mono
      (Dev.freeRest_same _ _) (by decide))) _ _)) (Dev.setIng_same _ _ _)) (.trans (.ite (.then (.mono (Dev.swAny_same _ _)
      (by decide)) (Dev.setLink_same _ _ _)) (.then (.mono (Dev.swAny_same _ _) (by decide)) (Dev.leaveEpoch_same _ _)))
      (.foldl _ (fun _ _ => .ite (.then (.mono (Dev.freeRest_same _ _) (by decide)) (Dev.setLink_same _ _ _)) (.mono
      (Dev.freeRest_same _ _) (by decide))) _ _)))

theorem Dev.cutStreams_same (d : Dev) (p : Nat) : SameBut [.ln, .sw, .bnd] d (d.cutStreams p) := by
  unfold Dev.cutStreams
  exact .foldl _ (fun _ _ => .then (.ite (.then (.mono (Dev.setIng_same _ _ _) (by decide)) (Dev.setLink_same _ _ _)) (.ite
      (.refl _ _) (.mono (Dev.endPacket_same _ _) (by decide)))) (Dev.swAny_same _ _)) _ _

theorem Dev.signalLost_same (d : Dev) (i : Nat) : SameBut [.tick] d (d.signalLost i) := by
  unfold Dev.signalLost
  exact .ite (.mono (Dev.tickAny_same _ _) (by decide)) (.refl _ _)

theorem Dev.endPortJobs_same (d : Dev) (p op : Nat) (st : JobState) (result detail : Nat) : SameBut
    (.jobs :: recordBlocks) d (d.endPortJobs p op st result detail) := by
  unfold Dev.endPortJobs
  exact .foldl _ (fun _ _ => .mono (Dev.endJob_same _ _ _ _ _) (by decide)) _ _

/-- A packet for a switch to which no way leads is counted and answered; every other one enters a VOQ (R289). -/
theorem Dev.routeFab_same (d : Dev) (n tile ing inVc : Nat) (f : FPkt) (fwd resend : Bool) (wr : Nat) :
    SameBut (.ln :: .sw :: .fab :: recordBlocks) d (d.routeFab n tile ing inVc f fwd resend wr) := by
  induction n generalizing d tile ing inVc f fwd resend wr with
  | zero => exact .refl _ _
  | succ n ih =>
    have hcount (e : Dev) : SameBut (.ln :: .sw :: .fab :: recordBlocks) e (e.countTable 0x54 0 1) :=
      .mono (Dev.countTable_same _ _ _ _) (by decide)
    have hqueue (e : Dev) (p : Nat) (g : FPkt) :
        SameBut (.ln :: .sw :: .fab :: recordBlocks) e ((e.countTable 0x54 0 1).queueFab tile ing inVc p g resend wr) :=
      (hcount e).then (Dev.queueFab_same _ _ _ _ _ _ _ _)
    have hreply (e : Dev) (hop : Bool) : SameBut (.ln :: .sw :: .fab :: recordBlocks) e
        (let e1 := e.unrouted f hop
         if f.order = 1 ∧ f.src ≠ d.run.switchId then e1.routeFab n tile 0xFF 0 (e1.fabReply f 1) false false
         else if f.kind = 0x10 then { e1 with sw.regIn := e1.sw.regIn ++ [e1.fabReply f 1] } else e1) :=
      .trans (.mono (Dev.unrouted_same e f hop) (by decide))
        (.ite (ih _ _ _ _ _ _ _ _) (.ite (.mono (Dev.swAny_same _ _) (by decide)) (.refl _ _)))
    rw [Dev.routeFab]
    refine .ite (hreply _ _) ?_
    cases d.wayOf f.src f.dest f.tc with
    | none => exact (hcount d).trans (hreply _ _)
    | port p => exact .ite ((hcount d).trans (hreply _ _)) (hqueue _ _ _)
    | wait p => exact hqueue _ _ _

theorem Dev.moveVoq_same (d : Dev) (key : Nat) : SameBut [.sw] d (d.moveVoq key) := by
  unfold Dev.moveVoq
  dsimp only
  refine .trans ?_ (.foldl _ (fun e x => ?_) _ _)
  · exact .mono (Dev.swAny_same _ _) (by decide)
  · split
    · split
      · exact .mono (Dev.swAny_same _ _) (by decide)
      · exact .refl _ _
    · exact .refl _ _

theorem Dev.moveEng_same (d : Dev) (p v : Nat) : SameBut [.sw] d (d.moveEng p v) := by
  unfold Dev.moveEng
  exact .trans (.mono (Dev.swAny_same _ _) (by decide)) (.foldl _ (fun _ _ => .mono (Dev.swAny_same _ _) (by decide)) _ _)

theorem Dev.failover_same (d : Dev) (p : Nat) (replayed : List FPkt) : SameBut
    (.ln :: .sw :: .fab :: .bnd :: recordBlocks) d (d.failover p replayed) := by
  unfold Dev.failover
  dsimp only
  refine .trans ?_ (.foldl _ (fun e x => ?_) _ _)
  · refine .trans ?_ (.foldl _ (fun e x => ?_) _ _)
    · refine .trans ?_ (.foldl _ (fun e x => ?_) _ _)
      · exact .foldl _ (fun _ _ => .mono (Dev.routeFab_same _ _ _ _ _ _ _ _ _) (by decide)) _ _
      · refine .trans ?_ (.foldl _ (fun e x => ?_) _ _)
        · exact .mono (Dev.swAny_same _ _) (by decide)
        · split
          · exact .ite (.mono (Dev.leaveEpoch_same _ _) (by decide)) (.mono (Dev.routeFab_same _ _ _ _ _ _ _ _ _) (by decide))
          · exact .refl _ _
    · exact .foldl _ (fun _ _ => .mono (Dev.moveVoq_same _ _) (by decide)) _ _
  · exact .mono (Dev.moveEng_same _ _ _) (by decide)

theorem Dev.setLane_same (d : Dev) (t n : Nat) (f : Lane → Lane) : SameBut [.ln] d (d.setLane t n f) := by
  unfold Dev.setLane
  exact .mono (Dev.lnAny_same _ _) (by decide)

theorem Dev.lanesOff_same (d : Dev) (p : Nat) : SameBut [.ln] d (d.lanesOff p) := by
  unfold Dev.lanesOff
  exact .foldl _ (fun _ _ => .mono (Dev.setLane_same _ _ _ _) (by decide)) _ _

theorem Dev.putWords_same (d : Dev) (t n : Nat) (ws : List Nat) : SameBut [] d (d.putWords t n ws) := by
  unfold Dev.putWords
  exact .ite (.mono (Dev.emit_same _ _) (by decide)) (.refl _ _)

theorem Dev.sendLane_same (d : Dev) (t n : Nat) (bs : List Nat) : SameBut [.ln] d (d.sendLane t n bs) := by
  unfold Dev.sendLane
  exact .then (.mono (Dev.setLane_same _ _ _ _) (by decide)) (Dev.putWords_same _ _ _ _)

theorem Dev.beginLane_same (d : Dev) (t n p logical : Nat) : SameBut [.ln] d (d.beginLane t n p logical) := by
  unfold Dev.beginLane
  exact .then (.mono (Dev.setLane_same _ _ _ _) (by decide)) (Dev.sendLane_same _ _ _ _)

theorem Dev.startTraining_same (d : Dev) (p : Nat) : SameBut [.ln] d (d.startTraining p) := by
  unfold Dev.startTraining
  exact .trans (.trans (.then (.mono (Dev.lnAny_same _ _) (by decide)) (Dev.setLink_same _ _ _)) (.foldl _ (fun _ _ => .ite
      (.refl _ _) (.mono (Dev.beginLane_same _ _ _ _ _) (by decide))) _ _)) (.foldl _ (fun _ _ => .ite (.refl _ _) (.ite
      (.mono (Dev.beginLane_same _ _ _ _ _) (by decide)) (.mono (Dev.beginLane_same _ _ _ _ _) (by decide)))) _ _)

theorem Dev.retrain_same (d : Dev) (p : Nat) : SameBut [.jobs, .ln] d (d.retrain p) := by
  unfold Dev.retrain
  exact .then (.mono (Dev.startTraining_same _ _) (by decide)) (Dev.startInternal_same _ _)

theorem Dev.afterDown_same (d : Dev) (p cause : Nat) : SameBut [.jobs, .ln] d (d.afterDown p cause) := by
  unfold Dev.afterDown
  exact .ite (.then (.mono (Dev.setLink_same _ _ _) (by decide)) (Dev.lanesOff_same _ _)) (.ite (.mono
      (Dev.startTraining_same _ _) (by decide)) (.mono (Dev.retrain_same _ _) (by decide)))

theorem Dev.linkDown_same (d : Dev) (p cause : Nat) : SameBut (.tick :: .jobs :: .ln :: .sw :: .fab :: .bnd :: .cont ::
    recordBlocks) d (d.linkDown p cause) := by
  unfold Dev.linkDown
  exact .ite (.then (.then (.ite (.then (.then (.then (.then (.mono (Dev.linkDownRecord_same _ _ _) (by decide))
      (Dev.cutStreams_same _ _)) (Dev.swAny_same _ _)) (Dev.setLink_same _ _ _)) (Dev.signalLost_same _ _)) (.then (.then
      (.then (.then (.then (.then (.mono (Dev.linkDownRecord_same _ _ _) (by decide)) (Dev.cutStreams_same _ _))
      (Dev.swAny_same _ _)) (Dev.setLink_same _ _ _)) (Dev.signalLost_same _ _)) (Dev.endPortJobs_same _ _ _ _ _ _))
      (Dev.endPortJobs_same _ _ _ _ _ _))) (Dev.failover_same _ _ _)) (Dev.afterDown_same _ _ _)) (.refl _ _)

theorem Dev.bypassPort_same (d : Dev) (p : Nat) : SameBut (.tick :: .jobs :: .ln :: .sw :: .fab :: .bnd :: .cont ::
    recordBlocks) d (d.bypassPort p) := by
  unfold Dev.bypassPort
  exact .ite (.then (.then (.mono (Dev.setLink_same _ _ _) (by decide)) (Dev.setLink_same _ _ _)) (Dev.lanesOff_same _ _))
      (.then (.mono (Dev.setLink_same _ _ _) (by decide)) (Dev.linkDown_same _ _ _))

theorem Dev.unhold__same (d : Dev) (p : Nat) : SameBut [.jobs, .ln] d (d.unhold_ p) := by
  unfold Dev.unhold_
  exact .ite (.mono (Dev.retrain_same _ _) (by decide)) (.refl _ _)

theorem Dev.t8Write_same (d : Dev) (p : CmdPort) (addr value : Nat) : SameBut
    (.mode :: .tick :: .jobs :: .ln :: .sw :: .fab :: .bnd :: .cont :: recordBlocks) d (d.t8Write p addr value) := by
  unfold Dev.t8Write
  exact .ite (.refl _ _) (.ite (.mono (Dev.dropped_same _ _ _ _ _) (by decide)) (.ite (.refl _ _) (.ite (.ite (.mono
      (Dev.dropped_same _ _ _ _ _) (by decide)) (.refl _ _)) (.ite (.ite (.refl _ _) (.then (.foldl _ (fun _ _ => .mono
      (Dev.bypassPort_same _ _) (by decide)) _ _) (Dev.modeAny_same _ _))) (.ite (.trans (.mono (Dev.modeAny_same _ _)
      (by decide)) (.foldl _ (fun _ _ => .then (.mono (Dev.setLink_same _ _ _) (by decide)) (Dev.unhold__same _ _)) _ _))
      (.refl _ _))))))

end Sys2Proof.Machine

/-! PROOF. DEVICE_RESET, rails, package switches, the T8 bypass and the boot interval (R76 to R78, R82, R89, R113, R500 to
R502, R517). -/

namespace Sys2Proof.Machine

-- One theorem at a time, as in the tests: many at once would ask for more threads than the sandbox gives.
set_option Elab.async false

/-! ### Writes of a 32-bit register -/

/-- A 4-byte write of a 32-bit register that passes every check. -/
theorem Dev.write4_word {d : Dev} {p : CmdPort} {a v : Nat} (h : WritePasses d p a v) (hf : (d.regAttr p a).form ≠ .wide)
    (hv : v < 2 ^ 32) : d.write4 p a v = (d.countMgmt 0x74 p.code 1).regWrite p a v := by
  rw [Dev.write4_ok h (by simpa using hf), Nat.mod_eq_of_lt hv]

/-- Counting an access is part of every frame of a write. -/
theorem Dev.counted_then {as : List Block} {d e : Dev} {p : CmdPort} (h : SameBut as (d.countMgmt 0x74 p.code 1) e)
    (hs : accessBlocks ⊆ as := by decide) : SameBut as d e :=
  .trans (.mono (Dev.countMgmt_same _ _ _ _) hs) h

/-! ### DEVICE_RESET (R82) -/

theorem deviceReset_eq {d : Dev} {p : CmdPort} {v : Word} (h : WritePasses d p 0x10008 v.toNat) :
    deviceReset p v d = (d.countMgmt 0x74 p.code 1).writeDeviceReset p 0x10008 v.toNat := by
  rw [deviceReset, Dev.write4_word h (by simp [Dev.regAttr, Dev.globalAttr, attrWO]) v.isLt]
  simp [Dev.regWrite, Dev.globalWrite]

/-- Settles O6. -/
theorem deviceResetWrites : Obligations.DeviceResetWrites := by
  unfold Obligations.DeviceResetWrites
  refine fun s p v h => ⟨fun hv => Gives.of_onDev rfl ?reset, fun hv => Gives.of_onDev rfl ?dropped⟩
  all_goals rw [deviceReset_eq h, Dev.writeDeviceReset]
  case reset =>
    rw [if_pos hv]
    exact ⟨rfl, rfl, rfl, rfl, rfl, (Dev.countMgmt_same _ _ _ _).part, Dev.enterM0_lost _ _⟩
  case dropped =>
    rw [if_neg hv]
    exact ⟨by simp, Dev.counted_then (Dev.dropped_same _ _ _ _ _)⟩

/-! ### Rails (R500) -/

theorem bitAt_clrBit_same (v i : Nat) : bitAt (clrBit v i) i = false := by
  unfold clrBit
  split
  next h =>
    have hodd : v / 2 ^ i % 2 = 1 := by simpa [bitAt] using h
    have hle : 2 ^ i ≤ v := by
      refine Nat.le_of_not_lt (fun hlt => ?_)
      rw [Nat.div_eq_of_lt hlt] at hodd
      exact absurd hodd (by decide)
    have hsub : (v - 2 ^ i) / 2 ^ i = v / 2 ^ i - 1 := by
      have := Nat.sub_mul_div v (2 ^ i) 1
      rwa [Nat.mul_one] at this
    rw [bitAt, hsub, beq_eq_false_iff_ne]
    omega
  next h => simpa using h

/-- A part that a rail holds answers nothing, keeps its bypasses closed and sends nothing. -/
theorem Dev.silent_of_railFail {d : Dev} (h : d.mode.railFail = true) :
    d.regOn = false ∧ d.srIsOpen = false ∧ d.t8IsOpen = false ∧ ∀ o, (d.emit o).out = d.out := by
  simp [Dev.regOn, Dev.srIsOpen, Dev.t8IsOpen, Dev.shown, h]

/-! ### Package switches (R106, R113, R501, R502) -/

theorem Dev.ringGap_of_not_following {d : Dev} (h : d.follows = false ∨ d.run.tickSource ≠ 0) : d.ringGap = d := by
  rw [Dev.ringGap, if_neg]
  rcases h with h | h <;> simp [h]

theorem Dev.tickState_same (d : Dev) (s : TickState) : SameBut (.tick :: .cont :: recordBlocks) d (d.tickState s) := by
  unfold Dev.tickState
  exact .ite (.refl _ _) (.ite (.then (.then (.mono (Dev.tickAny_same _ _) (by decide)) (Dev.fire_same _ _)) (Dev.corFault_same _ _ _ _ _))
    (.then (.mono (Dev.tickAny_same _ _) (by decide)) (Dev.log_same _ _ _ _)))

theorem Dev.tickState_tick (d : Dev) (s : TickState) : (d.tickState s).tick = { d.tick with state := s } := by
  unfold Dev.tickState
  dsimp only
  by_cases h : d.tick.state = s
  · rw [if_pos h, ← h]
  · rw [if_neg h]
    by_cases hs : s = .holdover <;> simp [hs]

theorem Dev.ringGap_same (d : Dev) : SameBut (.tick :: .cont :: recordBlocks) d d.ringGap := by
  unfold Dev.ringGap
  exact .ite (.ite (.then (.mono (Dev.tickAny_same _ _) (by decide)) (Dev.tickState_same _ _)) (.mono (Dev.tickAny_same _ _) (by decide)))
    (.refl _ _)

/-- A gap of the ring signal: 8 exchanges are owed again, and LOCKED gives way to HOLDOVER. -/
theorem Dev.ringGap_tick {d : Dev} (hf : d.follows = true) (hs : d.run.tickSource = 0) :
    d.ringGap.tick = { d.tick with exchanges := 0, run := 0, state := if d.tick.state = .locked then .holdover else d.tick.state } := by
  rw [Dev.ringGap, if_pos (by simp [hf, hs])]
  by_cases h : d.tick.state = .locked
  · simp only [h, if_true, Dev.tickState_tick]
  · simp only [h, if_false]

/-! ### The T8 bypass (R89) -/

theorem t8Close_eq {d : Dev} {p : CmdPort} (h7 : d.is7144 = true) (h : WritePasses d p 0x10010 1) :
    t8Close p d = (d.countMgmt 0x74 p.code 1).t8Write p 0x10010 1 := by
  rw [t8Close, Dev.write4_word h (by simp [Dev.regAttr, Dev.globalAttr, attrRW, h7]) (by decide)]
  simp [Dev.regWrite, Dev.globalWrite]

theorem t8Open_eq {d : Dev} {p : CmdPort} (h7 : d.is7144 = true) (h : WritePasses d p 0x10010 0) :
    t8Open p d = (d.countMgmt 0x74 p.code 1).t8Write p 0x10010 0 := by
  rw [t8Open, Dev.write4_word h (by simp [Dev.regAttr, Dev.globalAttr, attrRW, h7]) (by decide)]
  simp [Dev.regWrite, Dev.globalWrite]

theorem Dev.bypassPorts_same (d : Dev) (ps : List Nat) : SameBut (.tick :: .jobs :: .ln :: .sw :: .fab :: .bnd :: .cont :: recordBlocks) d
    (ps.foldl (fun e x => e.bypassPort x) d) := .foldl _ (fun e x => e.bypassPort_same x) _ _

theorem Dev.unbypassPorts_same (d : Dev) (ps : List Nat) : SameBut [.jobs, .ln] d
    (ps.foldl (fun e x => (e.setLink x (fun l => { l with bypassed := false })).unhold_ x) d) :=
  .foldl _ (fun e x => .then (.mono (e.setLink_same x _) (by decide)) (Dev.unhold__same _ _)) _ _

/-- T8_CLOSE on an S tile T8 closes the bypass. -/
theorem Dev.t8Write_close {d : Dev} (h7 : d.is7144 = true) (hm : d.inRunOrTest = true) (hr : d.role 8 = 2) (hc : d.mode.t8Close = false)
    (p : CmdPort) (a : Nat) : d.t8Write p a 1 =
      { d.t8Ports.foldl (fun e x => e.bypassPort x) d with
          mode := { (d.t8Ports.foldl (fun e x => e.bypassPort x) d).mode with t8Close := true, t8Open := false } } := by
  simp [Dev.t8Write, h7, hm, hr, hc, bitAt]

/-- The device whose T8 bypass has opened again, before its ports train. -/
def Dev.t8Reopened (d : Dev) : Dev := { d with mode := { d.mode with t8Close := false, t8Open := true } }

/-- The withdrawal of T8_CLOSE opens the bypass. -/
theorem Dev.t8Write_open {d : Dev} (h7 : d.is7144 = true) (hm : d.inRunOrTest = true) (hr : d.role 8 = 2) (hc : d.mode.t8Close = true)
    (p : CmdPort) (a : Nat) : d.t8Write p a 0 =
      d.t8Reopened.t8Ports.foldl (fun e x => (e.setLink x (fun l => { l with bypassed := false })).unhold_ x) d.t8Reopened := by
  simp [Dev.t8Write, h7, hm, hr, hc, bitAt, Dev.t8Reopened]

/-- Before a run mode a write of T8_CLOSE is dropped. -/
theorem Dev.t8Write_early {d : Dev} (h7 : d.is7144 = true) (hm : d.inRunOrTest = false) (p : CmdPort) (a v : Nat) :
    d.t8Write p a v = d.dropped p a v 2 := by
  simp [Dev.t8Write, h7, hm]

theorem Dev.countMgmt_inRunOrTest (d : Dev) (ev n v : Nat) : (d.countMgmt ev n v).inRunOrTest = d.inRunOrTest := by
  simp [Dev.inRunOrTest]

theorem Dev.countMgmt_role (d : Dev) (ev n v t : Nat) : (d.countMgmt ev n v).role t = d.role t := by simp [Dev.role]

theorem Dev.countMgmt_is7144 (d : Dev) (ev n v : Nat) : (d.countMgmt ev n v).is7144 = d.is7144 := by simp [Dev.is7144]

theorem railLow_gives (d : Dev) (r : Fin 6) : (railLow r d).mode.railFail = true ∧ bitAt (railLow r d).mode.railsLow r.val = true :=
  ⟨rfl, bitAt_setBit_same _ _⟩

/-- A package switch that moves is a gap of the ring's signal. -/
theorem bypassSwitched_ring_moves {d : Dev} (h : d.pkg.srDie ≠ d.srIsOpen) :
    bypassSwitched false d = ({ d with pkg := { d.pkg with srDie := d.srIsOpen } } : Dev).ringGap := by
  rw [bypassSwitched, if_neg (by decide), if_neg h]

theorem bypassSwitched_ring_same (d : Dev) : SameBut (.pkg :: .tick :: .cont :: recordBlocks) d (bypassSwitched false d) := by
  unfold bypassSwitched
  exact .ite (.mono (Dev.pkgAny_same _ _) (by decide)) (.ite (.refl _ _) (.then (.mono (Dev.pkgAny_same _ _) (by decide)) (Dev.ringGap_same _)))

theorem bypassSwitched_ring_pkg (d : Dev) : (bypassSwitched false d).pkg = { d.pkg with srDie := d.srIsOpen } := by
  rw [bypassSwitched, if_neg (by decide)]
  split
  next h => rw [← h]
  next h => exact (Dev.ringGap_same _).pkg

/-- Settles O7. -/
theorem railsAndSwitches : Obligations.RailsAndSwitches := by
  unfold Obligations.RailsAndSwitches
  refine fun s r t8 p cells => ⟨Gives.of_onDev rfl ?low, Gives.of_onDev rfl ?back, Gives.of_onDev rfl ⟨?t8Switch, ?ringSwitch⟩,
    fun h7 hw hm hr hc => Gives.of_onDev rfl ?close, fun h7 hw hm hr hc => Gives.of_onDev rfl ?open_,
    fun h7 hw hm => Gives.of_onDev rfl ?early, ?tap, Gives.of_onDev rfl ⟨rfl, ?sample⟩⟩
  case low =>
    obtain ⟨hfail, hlow⟩ := railLow_gives s.dev r
    obtain ⟨hreg, hsr, ht8, hout⟩ := Dev.silent_of_railFail hfail
    exact ⟨hfail, hlow, rfl, hreg, hsr, ht8, hout, Dev.modeAny_same _ _⟩
  case back =>
    refine ⟨bitAt_clrBit_same _ _, fun hp => ?_, fun hl hp => ?_, Dev.modeAny_same _ _⟩
    · simp [railReturn, hp]
    · have hl' : clrBit s.dev.mode.railsLow r.val = 0 := hl
      simp [railReturn, hp, hl']
  case t8Switch =>
    rintro rfl
    exact ⟨rfl, Dev.pkgAny_same _ _⟩
  case ringSwitch =>
    rintro rfl
    refine ⟨bypassSwitched_ring_pkg _, fun h => ?_, fun hne hf hs => ?_, bypassSwitched_ring_same _⟩
    · by_cases heq : s.dev.pkg.srDie = s.dev.srIsOpen
      · simp [bypassSwitched, heq]
      · have hgap := Dev.ringGap_of_not_following (d := { s.dev with pkg := { s.dev.pkg with srDie := s.dev.srIsOpen } }) (h.resolve_left heq)
        rw [bypassSwitched_ring_moves heq, hgap]
        exact Dev.pkgAny_same _ _
    · have hgap := Dev.ringGap_tick (d := { s.dev with pkg := { s.dev.pkg with srDie := s.dev.srIsOpen } }) hf hs
      rw [bypassSwitched_ring_moves hne, hgap]
      exact ⟨rfl, fun hl => if_pos hl⟩
  case close =>
    rw [t8Close_eq h7 hw, Dev.t8Write_close (by rwa [Dev.countMgmt_is7144]) (by rwa [Dev.countMgmt_inRunOrTest]) (by rwa [Dev.countMgmt_role])
      (by simpa using hc)]
    have hsame := Dev.counted_then (Dev.bypassPorts_same (s.dev.countMgmt 0x74 p.code 1) (s.dev.countMgmt 0x74 p.code 1).t8Ports)
    have hbase : _ = s.dev.mode.base := congrArg ModeSt.base hsame.mode
    exact ⟨rfl, rfl, hbase, hsame.run, hsame.plat⟩
  case open_ =>
    rw [t8Open_eq h7 hw, Dev.t8Write_open (by rwa [Dev.countMgmt_is7144]) (by rwa [Dev.countMgmt_inRunOrTest]) (by rwa [Dev.countMgmt_role])
      (by simpa using hc)]
    have hsame := Dev.unbypassPorts_same (s.dev.countMgmt 0x74 p.code 1).t8Reopened (s.dev.countMgmt 0x74 p.code 1).t8Reopened.t8Ports
    have hcount := Dev.countMgmt_same s.dev 0x74 p.code 1
    have hbase : (s.dev.countMgmt 0x74 p.code 1).t8Reopened.mode.base = s.dev.mode.base := by simp [Dev.t8Reopened]
    exact ⟨by rw [hsame.mode]; rfl, by rw [hsame.mode]; rfl, by rw [hsame.mode, hbase], hsame.run.trans hcount.run,
      hsame.plat.trans hcount.plat⟩
  case early =>
    have hnot : s.dev.inRunOrTest = false := by rcases hm with h | h <;> simp [Dev.inRunOrTest, Mode.isRun, h]
    rw [t8Close_eq h7 hw, Dev.t8Write_early (by rwa [Dev.countMgmt_is7144]) (by rwa [Dev.countMgmt_inRunOrTest])]
    exact Dev.counted_then (Dev.dropped_same _ _ _ _ _)
  case tap =>
    simp only [List.forall_mem_cons]
    exact ⟨Gives.of_onDev rfl ⟨rfl, rfl, Dev.pkgAny_same _ _⟩, Gives.of_onDev rfl ⟨rfl, rfl, Dev.pkgAny_same _ _⟩,
      Gives.of_onDev rfl ⟨rfl, rfl, Dev.pkgAny_same _ _⟩, Gives.of_onDev rfl ⟨rfl, rfl, Dev.pkgAny_same _ _⟩,
      Gives.of_onDev rfl ⟨rfl, rfl, Dev.pkgAny_same _ _⟩, by simp⟩
  case sample =>
    exact .then (.then (.then (.mono (Dev.pkgAny_same _ _) (by decide)) (Dev.pkgAny_same _ _)) (Dev.emit_same _ _)) (Dev.tickFree_same _)

/-! ### The boot interval (R517) -/

theorem Dev.flood_same (d : Dev) : SameBut [.cairn, .evt, .pcie] d d.flood := by
  unfold Dev.flood
  exact .ite (.refl _ _) (.then (.mono (Dev.cairnAny_same _ _) (by decide)) (Dev.fire_same _ _))

theorem Dev.eventBoundary_same (d : Dev) : SameBut [.cnt, .evt, .pcie] d d.eventBoundary := by
  unfold Dev.eventBoundary
  exact .trans (by simp [sameBut_iff]) (.foldl _ (fun e k => .mono (e.signalVector_same _ _) (by decide)) _ _)

/-- With no vector held back, the boundary clears the marks of the routes and nothing else. -/
theorem Dev.eventBoundary_of_nil {d : Dev} (h : d.evt.vecHeld = []) :
    d.eventBoundary = { d with evt.vecSent := [], evt.vecHeld := [], evt.alarmSent := [], cnt.ovfFired := false } := by
  simp [Dev.eventBoundary, h]

theorem Dev.eventBoundary_grows (d : Dev) : Grows d d.eventBoundary := by
  unfold Dev.eventBoundary
  refine .trans ?_ (.foldl _ (fun e k => .of_eq (e.signalVector_status (k / 32) (k % 32))) _ _)
  exact .of_eq rfl

/-- Records that were dropped are summed up in one FLOOD record (R432). -/
theorem Dev.flood_of_dropped {d : Dev} (h : d.cairn.droppedNow ≠ []) : d.flood.cairn.droppedNow = [] ∧ d.flood.cairn.flood.isSome = true ∧
    d.flood.evt.status.getLsbD 0x3C0 = true := by
  rw [Dev.flood, if_neg h]
  refine ⟨by simp, by simp, Dev.fire_sets _ _ (by simp [Dev.sourcePresent]) (by decide)⟩

/-- Settles O8. -/
theorem bootIntervalEnds : Obligations.BootIntervalEnds := by
  unfold Obligations.BootIntervalEnds
  intro s hm hs
  have hval : bootIntervalEnd s.dev = s.dev.flood.eventBoundary := if_neg (by simp [hm, hs])
  refine ⟨fun hd hv => Gives.of_onDev rfl ?quiet, fun hd => Gives.of_onDev rfl ?flood⟩
  case quiet =>
    have hflood : s.dev.flood = s.dev := if_pos hd
    rw [hval, hflood, Dev.eventBoundary_of_nil hv]
    exact ⟨rfl, rfl, rfl, rfl, by simp [sameBut_iff]⟩
  case flood =>
    obtain ⟨hnone, hrec, hbit⟩ := Dev.flood_of_dropped hd
    have hsame := s.dev.flood.eventBoundary_same
    rw [hval]
    exact ⟨by rw [hsame.cairn]; exact hnone, by rw [hsame.cairn]; exact hrec, Dev.eventBoundary_grows _ _ hbit,
      .then (.mono s.dev.flood_same (by decide)) hsame⟩

end Sys2Proof.Machine

/-! PROOF. Frames of the PCI Express ports, the fabric's deliveries, Tally and the Traverse functions, up to the reset of a
partition and the entry to a run mode (R84, R210, R227, R283 to R310, R341 to R345, R372 to R374). -/

namespace Sys2Proof.Machine

-- One theorem at a time, as in the tests: many at once would ask for more threads than the sandbox gives.
set_option Elab.async false

theorem Dev.aerPhys_same (d : Dev) (p : Nat) (unc : Bool) (bit : Nat) (hdr : List Nat) (adv : Bool) : SameBut
    (.ln :: .cont :: recordBlocks) d (d.aerPhys p unc bit hdr adv) := by
  unfold Dev.aerPhys
  exact .ite (.refl _ _) (.ite (.then (.mono (Dev.setPport_same _ _ _) (by decide)) (Dev.log_same _ _ _ _)) (.ite (.then
      (.then (.mono (Dev.setPport_same _ _ _) (by decide)) (Dev.fire_same _ _)) (Dev.uncFault_same _ _ _ _ _ _ _ _)) (.then
      (.mono (Dev.setPport_same _ _ _) (by decide)) (Dev.log_same _ _ _ _))))

theorem Dev.aerView_same (d : Dev) (fn : Nat) (unc : Bool) (bit : Nat) (hdr : List Nat) (adv : Bool) : SameBut [.pcie] d
    (d.aerView fn unc bit hdr adv) := by
  unfold Dev.aerView
  exact .ite (.refl _ _) (.ite (.then (.mono (Dev.pcieAny_same _ _) (by decide)) (Dev.emit_same _ _)) (.mono
      (Dev.pcieAny_same _ _) (by decide)))

theorem Dev.setCfgWord_same (d : Dev) (fn w v : Nat) : SameBut [.pcie] d (d.setCfgWord fn w v) := by
  unfold Dev.setCfgWord
  exact .mono (Dev.pcieAny_same _ _) (by decide)

theorem Dev.sendTlp_same (d : Dev) (port : Nat) (t : Tlp) : SameBut [.sw] d (d.sendTlp port t) := by
  unfold Dev.sendTlp
  exact .ite (.mono (Dev.emit_same _ _) (by decide)) (.mono (Dev.pushEng_same _ _) (by decide))

theorem Dev.sendMsi_same (d : Dev) (fn : Nat) : SameBut [.sw] d (d.sendMsi fn) := by
  unfold Dev.sendMsi
  exact .mono (Dev.sendTlp_same _ _ _) (by decide)

theorem Dev.bridgeMsi_same (d : Dev) (fn : Nat) : SameBut [.pcie, .sw] d (d.bridgeMsi fn) := by
  unfold Dev.bridgeMsi
  exact .ite (.refl _ _) (.ite (.mono (Dev.sendMsi_same _ _) (by decide)) (.mono (Dev.setCfgWord_same _ _ _ _) (by decide)))

theorem Dev.slotEvent_same (d : Dev) (fn bit : Nat) : SameBut [.pcie, .sw] d (d.slotEvent fn bit) := by
  unfold Dev.slotEvent
  exact .ite (.then (.mono (Dev.setCfgWord_same _ _ _ _) (by decide)) (Dev.bridgeMsi_same _ _)) (.mono
      (Dev.setCfgWord_same _ _ _ _) (by decide))

theorem Dev.linkFall_same (d : Dev) (p : Nat) : SameBut [.pcie, .sw, .evt] d (d.linkFall p) := by
  unfold Dev.linkFall
  exact .ite (.ite (.trans (.then (.mono (Dev.setPport_same _ _ _) (by decide)) (Dev.fire_same _ _)) (.foldl _
      (fun _ _ => .mono (Dev.slotEvent_same _ _ _) (by decide)) _ _)) (.then (.mono (Dev.setPport_same _ _ _) (by decide))
      (Dev.fire_same _ _))) (.mono (Dev.setPport_same _ _ _) (by decide))

theorem Dev.dpcCor_same (d : Dev) (fn bit : Nat) : SameBut [] d (d.dpcCor fn bit) := by
  unfold Dev.dpcCor
  exact .ite (.mono (Dev.emit_same _ _) (by decide)) (.refl _ _)

theorem Dev.dpcTrigger_same (d : Dev) (p reason source : Nat) : SameBut [.pcie, .sw, .evt] d
    (d.dpcTrigger p reason source) := by
  unfold Dev.dpcTrigger
  exact .ite (.refl _ _) (.then (.trans (.then (.then (.mono (Dev.setPport_same _ _ _) (by decide)) (Dev.linkFall_same _ _))
      (Dev.emit_same _ _)) (.foldl _ (fun _ _ => .ite (.then (.mono (Dev.dpcCor_same _ _ _) (by decide))
      (Dev.bridgeMsi_same _ _)) (.mono (Dev.dpcCor_same _ _ _) (by decide))) _ _)) (Dev.fire_same _ _))

theorem Dev.dpcOn_same (d : Dev) (p bit : Nat) (adv : Bool) : SameBut [.pcie, .sw, .evt] d (d.dpcOn p bit adv) := by
  unfold Dev.dpcOn
  exact .ite (.mono (Dev.dpcTrigger_same _ _ _ _) (by decide)) (.refl _ _)

theorem Dev.tlpErrorOf_same (d : Dev) (p q bit : Nat) (t tv : Tlp) (adv : Bool) : SameBut
    (.ln :: .sw :: .cont :: recordBlocks) d (d.tlpErrorOf p q bit t tv adv) := by
  unfold Dev.tlpErrorOf
  exact .then (.then (.mono (Dev.aerPhys_same _ _ _ _ _ _) (by decide)) (Dev.aerView_same _ _ _ _ _ _))
      (Dev.dpcOn_same _ _ _ _)

theorem Dev.hubUr_same (d : Dev) (q fn : Nat) (t : Tlp) : SameBut (.ln :: .sw :: .cont :: recordBlocks) d
    (d.hubUr q fn t) := by
  unfold Dev.hubUr
  exact .ite (.mono (Dev.tlpErrorOf_same _ _ _ _ _ _ _) (by decide)) (.mono (Dev.aerView_same _ _ _ _ _ _) (by decide))

theorem Dev.failSlot_same (d : Dev) (k status : Nat) : SameBut [.trav] d (d.failSlot k status) := by
  unfold Dev.failSlot
  exact .ite (.ite (.then (.mono (Dev.travAny_same _ _) (by decide)) (Dev.travAny_same _ _)) (.ite (.then (.mono
      (Dev.travAny_same _ _) (by decide)) (Dev.travAny_same _ _)) (.mono (Dev.travAny_same _ _) (by decide)))) (.refl _ _)

theorem Dev.sendCpl_same (d : Dev) (port tc reqId tag cplId status bytes : Nat) : SameBut [.sw] d
    (d.sendCpl port tc reqId tag cplId status bytes) := by
  unfold Dev.sendCpl
  exact .mono (Dev.sendTlp_same _ _ _) (by decide)

theorem Dev.trAnswer_same (d : Dev) (e : TEntry) : SameBut [.sw, .trav] d (d.trAnswer e) := by
  unfold Dev.trAnswer
  exact .ite (.mono (Dev.failSlot_same _ _ _) (by decide)) (.mono (Dev.sendCpl_same _ _ _ _ _ _ _ _) (by decide))

theorem Dev.trAbort_same (d : Dev) (k : Nat) : SameBut [.sw, .trav] d (d.trAbort k) := by
  unfold Dev.trAbort
  exact .ite (.ite (.mono (Dev.trRetire_same _ _ _) (by decide)) (.then (.mono (Dev.trRetire_same _ _ _) (by decide))
      (Dev.trAnswer_same _ _))) (.refl _ _)

theorem Dev.deliverCpl_same (d : Dev) (tile : Nat) (p0 : Pkt) (f : FPkt) : SameBut (.ln :: .sw :: recordBlocks) d
    (d.deliverCpl tile p0 f) := by
  unfold Dev.deliverCpl
  split
  · exact .then (.mono (Dev.owe_same _ _ _ _) (by decide)) (Dev.lateCpl_same _ _)
  · exact .mono (Dev.pushVoq_same _ _ _) (by decide)

theorem Dev.refuseFab_same (d : Dev) (tile : Nat) (f : FPkt) (status : Nat) : SameBut (.ln :: .sw :: .fab :: recordBlocks) d
    (d.refuseFab tile f status) := by
  unfold Dev.refuseFab
  exact .ite (.ite (.mono (Dev.deliverCpl_same _ _ _ _) (by decide)) (.mono (Dev.routeFab_same _ _ _ _ _ _ _ _ _)
      (by decide))) (.refl _ _)

theorem Dev.tvLate_same (d : Dev) (k : Nat) : SameBut (.trav :: recordBlocks) d (d.tvLate k) := by
  unfold Dev.tvLate
  exact .then (.mono (Dev.travAny_same _ _) (by decide)) (Dev.log_same _ _ _ _)

theorem Dev.engineData_same (d : Dev) (k gen : Nat) (payload : List Nat) (status : Nat) (poisoned : Bool) : SameBut
    (.trav :: recordBlocks) d (d.engineData k gen payload status poisoned) := by
  unfold Dev.engineData
  exact .ite (.mono (Dev.tvLate_same _ _) (by decide)) (.ite (.then (.mono (Dev.travAny_same _ _) (by decide))
      (Dev.tvLate_same _ _)) (.ite (.mono (Dev.travAny_same _ _) (by decide)) (.then (.mono (Dev.travAny_same _ _)
      (by decide)) (Dev.travAny_same _ _))))

theorem Dev.engineTagged_same (d : Dev) (base tag : Nat) (t : Tlp) : SameBut (.trav :: recordBlocks) d
    (d.engineTagged base tag t) := by
  unfold Dev.engineTagged
  exact .mono (Dev.engineData_same _ _ _ _ _ _) (by decide)

theorem Dev.answerRemoved_same (d : Dev) (x : Pkt) (status : Nat) : SameBut (.ln :: .sw :: .trav :: .fab :: recordBlocks) d
    (d.answerRemoved x status) := by
  unfold Dev.answerRemoved
  dsimp only
  refine .ite ?_ ?_
  · exact .refl _ _
  · split
    · exact .ite (.refl _ _) (.ite (.mono (Dev.trAbort_same _ _) (by decide)) (.then (.mono (Dev.trRetire_same _ _ _)
        (by decide)) (Dev.sendCpl_same _ _ _ _ _ _ _ _)))
    · split
      · exact .ite (.ite (.refl _ _) (.mono (Dev.sendCpl_same _ _ _ _ _ _ _ _) (by decide))) (.mono
          (Dev.refuseFab_same _ _ _ _) (by decide))
      · exact .ite (.mono (Dev.sendCpl_same _ _ _ _ _ _ _ _) (by decide)) (.ite (.mono (Dev.engineTagged_same _ _ _ _)
          (by decide)) (.refl _ _))

theorem Dev.fencePort_same (d : Dev) (p status : Nat) : SameBut (.ln :: .sw :: .trav :: .fab :: .bnd :: .cont ::
    recordBlocks) d (d.fencePort p status) := by
  unfold Dev.fencePort
  exact .trans (.then (.mono (Dev.cutStreams_same _ _) (by decide)) (Dev.contAny_same _ _)) (.foldl _ (fun _ _ => .then
      (.mono (Dev.endPacket_same _ _) (by decide)) (Dev.answerRemoved_same _ _ _)) _ _)

theorem Dev.retireToward_same (d : Dev) (p : Nat) : SameBut [.sw, .trav] d (d.retireToward p) := by
  unfold Dev.retireToward
  exact .foldl _ (fun _ _ => .mono (Dev.trAbort_same _ _) (by decide)) _ _

theorem Dev.dpcFence_same (d old : Dev) : SameBut (.ln :: .sw :: .trav :: .fab :: .bnd :: .cont :: recordBlocks) d
    (d.dpcFence old) := by
  unfold Dev.dpcFence
  exact .foldl _ (fun _ _ => .then (.mono (Dev.fencePort_same _ _ _) (by decide)) (Dev.retireToward_same _ _)) _ _

theorem Dev.fenceDiscard_same (d : Dev) : SameBut [.cont] d d.fenceDiscard := by
  unfold Dev.fenceDiscard
  exact .mono (Dev.contAny_same _ _) (by decide)

theorem Dev.hubWaits_same (d : Dev) (q : Nat) (v : Bool) : SameBut [.sw] d (d.hubWaits q v) := by
  unfold Dev.hubWaits
  exact .mono (Dev.swAny_same _ _) (by decide)

theorem Dev.trOpen_same (d : Dev) (e : TEntry) : SameBut [.pcie, .sw, .evt, .cnt] d (d.trOpen e).1 := by
  unfold Dev.trOpen
  dsimp only
  split
  · exact .then (.mono (Dev.swAny_same _ _) (by decide)) (Dev.countTable_same _ _ _ _)
  · exact .refl _ _

theorem Dev.countGaz_same (d : Dev) (w : Win) : SameBut [.pcie, .evt, .cnt] d (d.countGaz w) := by
  unfold Dev.countGaz
  exact .ite (.mono (Dev.countTable_same _ _ _ _) (by decide)) (.refl _ _)

theorem Dev.xlateMiss_same (d : Dev) (h part : Nat) : SameBut (.sw :: .fab :: recordBlocks) d (d.xlateMiss h part) := by
  unfold Dev.xlateMiss
  exact .trans (.mono (Dev.fabAny_same _ _) (by decide)) (Dev.once_same _ _ _ (fun _ => .mono (Dev.log_same _ _ _ _)
      (by decide)) (by decide))

theorem Dev.refuseIn_same (d : Dev) (tile : Nat) (p0 : Pkt) (f : FPkt) (status : Nat) : SameBut
    (.ln :: .sw :: .fab :: recordBlocks) d (d.refuseIn tile p0 f status) := by
  unfold Dev.refuseIn
  exact .ite (.then (.ite (.mono (Dev.emit_same _ _) (by decide)) (.mono (Dev.owe_same _ _ _ _) (by decide)))
      (Dev.sendCpl_same _ _ _ _ _ _ _ _)) (.then (.ite (.mono (Dev.emit_same _ _) (by decide)) (.mono (Dev.owe_same _ _ _ _)
      (by decide))) (Dev.refuseFab_same _ _ _ _))

theorem Dev.recordDenial_same (d : Dev) (v : Verdict) (c : Chk) : SameBut (.bnd :: recordBlocks) d (d.recordDenial v c) := by
  unfold Dev.recordDenial
  dsimp only
  split
  · refine .ite ?_ ?_
    · split
      · exact .then (.mono (Dev.bndAny_same _ _) (by decide)) (Dev.countTile_same _ _ _ _ _ _)
      · exact .mono (Dev.bndAny_same _ _) (by decide)
    · refine .then ?_ (Dev.log_same _ _ _ _)
      refine .then ?_ (Dev.bndAny_same _ _)
      split
      · exact .then (.mono (Dev.bndAny_same _ _) (by decide)) (Dev.countTile_same _ _ _ _ _ _)
      · exact .mono (Dev.bndAny_same _ _) (by decide)
  · refine .ite ?_ ?_
    · split
      · exact .then (.mono (Dev.bndAny_same _ _) (by decide)) (Dev.countTile_same _ _ _ _ _ _)
      · exact .mono (Dev.bndAny_same _ _) (by decide)
    · refine .then ?_ (Dev.log_same _ _ _ _)
      refine .then ?_ (Dev.bndAny_same _ _)
      split
      · exact .then (.mono (Dev.bndAny_same _ _) (by decide)) (Dev.countTile_same _ _ _ _ _ _)
      · exact .mono (Dev.bndAny_same _ _) (by decide)

theorem Dev.check_same (d : Dev) (gate : Nat) (c : Chk) (access : Nat) : SameBut (.bnd :: recordBlocks) d
    (d.check gate c access).1 := by
  unfold Dev.check
  dsimp only
  refine .ite_fst ?_ ?_
  · split
    · exact .mono (Dev.countTile_same _ _ _ _ _ _) (by decide)
    · exact .refl _ _
  · refine .then ?_ (Dev.recordDenial_same _ _ _)
    split
    · exact .mono (Dev.countTile_same _ _ _ _ _ _) (by decide)
    · exact .refl _ _

theorem Dev.deliverMem_same (d : Dev) (tile : Nat) (p0 : Pkt) (f : FPkt) : SameBut
    (.ln :: .sw :: .fab :: .bnd :: .cont :: recordBlocks) d (d.deliverMem tile p0 f) := by
  unfold Dev.deliverMem
  exact .ite (.then (.mono (Dev.xlateMiss_same _ _ _) (by decide)) (Dev.refuseIn_same _ _ _ _ _)) (.ite (.then (.mono
      (Dev.fenceDiscard_same _) (by decide)) (Dev.refuseIn_same _ _ _ _ _)) (.ite (.then (.ite_fst (.refl _ _) (.mono
      (Dev.check_same _ _ _ _) (by decide))) (Dev.refuseIn_same _ _ _ _ _)) (.then (.ite (.then (.ite_fst (.refl _ _) (.mono
      (Dev.check_same _ _ _ _) (by decide))) (Dev.bndAny_same _ _)) (.ite_fst (.refl _ _) (.mono (Dev.check_same _ _ _ _)
      (by decide)))) (Dev.pushVoq_same _ _ _))))

theorem Dev.deliverFab_same (d : Dev) (tile : Nat) (p0 : Pkt) (f : FPkt) : SameBut
    (.ln :: .sw :: .fab :: .bnd :: .cont :: recordBlocks) d (d.deliverFab tile p0 f) := by
  unfold Dev.deliverFab
  exact .ite (.then (.mono (Dev.owe_same _ _ _ _) (by decide)) (Dev.swAny_same _ _)) (.ite (.mono
      (Dev.deliverCpl_same _ _ _ _) (by decide)) (.ite (.mono (Dev.owe_same _ _ _ _) (by decide)) (.ite (.ite (.ite (.then
      (.mono (Dev.owe_same _ _ _ _) (by decide)) (Dev.fenceDiscard_same _)) (.mono (Dev.pushVoq_same _ _ _) (by decide)))
      (.then (.mono (Dev.owe_same _ _ _ _) (by decide)) (Dev.xlateMiss_same _ _ _))) (.mono (Dev.deliverMem_same _ _ _ _)
      (by decide)))))

theorem Dev.hubIssue_same (d : Dev) (q rid slot : Nat) (t0 : Tlp) (epoch : Option Nat) : SameBut
    (.ln :: .sw :: .trav :: .fab :: .bnd :: .cont :: recordBlocks) d (d.hubIssue q rid slot t0 epoch).1 := by
  unfold Dev.hubIssue
  dsimp only
  split
  · exact .mono (Dev.hubUr_same _ _ _ _) (by decide)
  · split
    · split
      · exact .ite (.refl _ _) (.ite (.mono (Dev.hubUr_same _ _ _ _) (by decide)) (.then (.mono
          (Dev.tlpErrorOf_same _ _ _ _ _ _ _) (by decide)) (Dev.dpcFence_same _ _)))
      · refine .ite_fst ?_ ?_
        · exact .mono (Dev.fenceDiscard_same _) (by decide)
        · refine .ite_fst ?_ ?_
          · split
            · exact .mono (Dev.aerView_same _ _ _ _ _ _) (by decide)
            · refine .ite_fst ?_ ?_
              · exact .mono (Dev.hubWaits_same _ _ _) (by decide)
              · refine .then ?_ (Dev.pushEng_same _ _)
                refine .ite ?_ ?_
                · refine .then ?_ (Dev.bndAny_same _ _)
                  refine .then ?_ (Dev.hubWaits_same _ _ _)
                  split
                  · exact .then (.ite_fst (.mono (Dev.trOpen_same _ _) (by decide)) (.refl _ _)) (Dev.travAny_same _ _)
                  · exact .ite_fst (.mono (Dev.trOpen_same _ _) (by decide)) (.refl _ _)
                · refine .then ?_ (Dev.hubWaits_same _ _ _)
                  split
                  · exact .then (.ite_fst (.mono (Dev.trOpen_same _ _) (by decide)) (.refl _ _)) (Dev.travAny_same _ _)
                  · exact .ite_fst (.mono (Dev.trOpen_same _ _) (by decide)) (.refl _ _)
          · exact .then (.ite (.mono (Dev.bndAny_same _ _) (by decide)) (.refl _ _)) (Dev.pushEng_same _ _)
    · split
      · exact .then (.then (.mono (Dev.countTile_same _ _ _ _ _ _) (by decide)) (Dev.countGaz_same _ _))
          (Dev.xlateMiss_same _ _ _)
      · refine .ite_fst ?_ ?_
        · exact .then (.then (.mono (Dev.countTile_same _ _ _ _ _ _) (by decide)) (Dev.countGaz_same _ _))
            (Dev.xlateMiss_same _ _ _)
        · refine .ite_fst ?_ ?_
          · exact .then (.mono (Dev.countTile_same _ _ _ _ _ _) (by decide)) (Dev.countGaz_same _ _)
          · refine .ite_fst ?_ ?_
            · exact .then (.then (.mono (Dev.countTile_same _ _ _ _ _ _) (by decide)) (Dev.countGaz_same _ _))
                (Dev.hubWaits_same _ _ _)
            · refine .ite_fst ?_ ?_
              · refine .then ?_ (Dev.deliverFab_same _ _ _ _)
                refine .then ?_ (Dev.hubWaits_same _ _ _)
                split
                · exact .then (.ite_fst (.then (.then (.mono (Dev.countTile_same _ _ _ _ _ _) (by decide))
                    (Dev.countGaz_same _ _)) (Dev.trOpen_same _ _)) (.then (.mono (Dev.countTile_same _ _ _ _ _ _)
                    (by decide)) (Dev.countGaz_same _ _))) (Dev.travAny_same _ _)
                · exact .ite_fst (.then (.then (.mono (Dev.countTile_same _ _ _ _ _ _) (by decide)) (Dev.countGaz_same _ _))
                    (Dev.trOpen_same _ _)) (.then (.mono (Dev.countTile_same _ _ _ _ _ _) (by decide))
                    (Dev.countGaz_same _ _))
              · split
                · refine .then ?_ (Dev.unrouted_same _ _ _)
                  refine .then ?_ (Dev.hubWaits_same _ _ _)
                  split
                  · exact .then (.ite_fst (.then (.then (.mono (Dev.countTile_same _ _ _ _ _ _) (by decide))
                      (Dev.countGaz_same _ _)) (Dev.trOpen_same _ _)) (.then (.mono (Dev.countTile_same _ _ _ _ _ _)
                      (by decide)) (Dev.countGaz_same _ _))) (Dev.travAny_same _ _)
                  · exact .ite_fst (.then (.then (.mono (Dev.countTile_same _ _ _ _ _ _) (by decide))
                      (Dev.countGaz_same _ _)) (Dev.trOpen_same _ _)) (.then (.mono (Dev.countTile_same _ _ _ _ _ _)
                      (by decide)) (Dev.countGaz_same _ _))
                · refine .then ?_ (Dev.pushVoq_same _ _ _)
                  refine .ite ?_ ?_
                  · refine .then ?_ (Dev.bndAny_same _ _)
                    refine .then ?_ (Dev.hubWaits_same _ _ _)
                    split
                    · exact .then (.ite_fst (.then (.then (.mono (Dev.countTile_same _ _ _ _ _ _) (by decide))
                        (Dev.countGaz_same _ _)) (Dev.trOpen_same _ _)) (.then (.mono (Dev.countTile_same _ _ _ _ _ _)
                        (by decide)) (Dev.countGaz_same _ _))) (Dev.travAny_same _ _)
                    · exact .ite_fst (.then (.then (.mono (Dev.countTile_same _ _ _ _ _ _) (by decide))
                        (Dev.countGaz_same _ _)) (Dev.trOpen_same _ _)) (.then (.mono (Dev.countTile_same _ _ _ _ _ _)
                        (by decide)) (Dev.countGaz_same _ _))
                  · refine .then ?_ (Dev.hubWaits_same _ _ _)
                    split
                    · exact .then (.ite_fst (.then (.then (.mono (Dev.countTile_same _ _ _ _ _ _) (by decide))
                        (Dev.countGaz_same _ _)) (Dev.trOpen_same _ _)) (.then (.mono (Dev.countTile_same _ _ _ _ _ _)
                        (by decide)) (Dev.countGaz_same _ _))) (Dev.travAny_same _ _)
                    · exact .ite_fst (.then (.then (.mono (Dev.countTile_same _ _ _ _ _ _) (by decide))
                        (Dev.countGaz_same _ _)) (Dev.trOpen_same _ _)) (.then (.mono (Dev.countTile_same _ _ _ _ _ _)
                        (by decide)) (Dev.countGaz_same _ _))
                · refine .then ?_ (Dev.pushVoq_same _ _ _)
                  refine .ite ?_ ?_
                  · refine .then ?_ (Dev.bndAny_same _ _)
                    refine .then ?_ (Dev.hubWaits_same _ _ _)
                    split
                    · exact .then (.ite_fst (.then (.then (.mono (Dev.countTile_same _ _ _ _ _ _) (by decide))
                        (Dev.countGaz_same _ _)) (Dev.trOpen_same _ _)) (.then (.mono (Dev.countTile_same _ _ _ _ _ _)
                        (by decide)) (Dev.countGaz_same _ _))) (Dev.travAny_same _ _)
                    · exact .ite_fst (.then (.then (.mono (Dev.countTile_same _ _ _ _ _ _) (by decide))
                        (Dev.countGaz_same _ _)) (Dev.trOpen_same _ _)) (.then (.mono (Dev.countTile_same _ _ _ _ _ _)
                        (by decide)) (Dev.countGaz_same _ _))
                  · refine .then ?_ (Dev.hubWaits_same _ _ _)
                    split
                    · exact .then (.ite_fst (.then (.then (.mono (Dev.countTile_same _ _ _ _ _ _) (by decide))
                        (Dev.countGaz_same _ _)) (Dev.trOpen_same _ _)) (.then (.mono (Dev.countTile_same _ _ _ _ _ _)
                        (by decide)) (Dev.countGaz_same _ _))) (Dev.travAny_same _ _)
                    · exact .ite_fst (.then (.then (.mono (Dev.countTile_same _ _ _ _ _ _) (by decide))
                        (Dev.countGaz_same _ _)) (Dev.trOpen_same _ _)) (.then (.mono (Dev.countTile_same _ _ _ _ _ _)
                        (by decide)) (Dev.countGaz_same _ _))
    · exact .mono (Dev.hubUr_same _ _ _ _) (by decide)

theorem Dev.commandLink_same (d : Dev) (p cmd : Nat) : SameBut [.pcie, .sw, .evt] d (d.commandLink p cmd) := by
  unfold Dev.commandLink
  exact .ite (.refl _ _) (.then (.ite (.ite (.mono (Dev.setPport_same _ _ _) (by decide)) (.refl _ _)) (.then (.mono
      (Dev.setPport_same _ _ _) (by decide)) (Dev.linkFall_same _ _))) (Dev.emit_same _ _))

theorem Dev.flrAssigned_same (d : Dev) (p q : Nat) : SameBut [] d (d.flrAssigned p q) := by
  unfold Dev.flrAssigned
  exact .foldl _ (fun _ _ => .mono (Dev.emit_same _ _) (by decide)) _ _

theorem Dev.sendFab_same (d : Dev) (f : FPkt) : SameBut (.ln :: .sw :: .fab :: recordBlocks) d (d.sendFab f) := by
  unfold Dev.sendFab
  dsimp only
  split
  · exact .then (.mono (Dev.countTable_same _ _ _ _) (by decide)) (Dev.pushEng_same _ _)
  · exact .then (.mono (Dev.countTable_same _ _ _ _) (by decide)) (Dev.pushEng_same _ _)
  · exact .mono (Dev.routeFab_same _ _ _ _ _ _ _ _ _) (by decide)

theorem Dev.tallySend_same (d : Dev) (k : Coll) (kind sw coll handle r first count : Nat) (payload : List Nat) : SameBut
    (.ln :: .sw :: .fab :: recordBlocks) d (d.tallySend k kind sw coll handle r first count payload) := by
  unfold Dev.tallySend
  exact .mono (Dev.sendFab_same _ _) (by decide)

theorem Dev.toParent_same (d : Dev) (k : Coll) (kind r first count : Nat) (payload : List Nat) : SameBut
    (.ln :: .sw :: .fab :: recordBlocks) d (d.toParent k kind r first count payload) := by
  unfold Dev.toParent
  exact .mono (Dev.tallySend_same _ _ _ _ _ _ _ _ _ _) (by decide)

theorem Dev.toChild_same (d : Dev) (k : Coll) (v kind r first count : Nat) (payload : List Nat) : SameBut
    (.ln :: .sw :: .fab :: recordBlocks) d (d.toChild k v kind r first count payload) := by
  unfold Dev.toChild
  exact .mono (Dev.tallySend_same _ _ _ _ _ _ _ _ _ _) (by decide)

theorem Dev.abortSend_same (d : Dev) (c r reason origin from_ : Nat) : SameBut (.ln :: .sw :: .fab :: recordBlocks) d
    (d.abortSend c r reason origin from_) := by
  unfold Dev.abortSend
  exact .trans (.ite (.refl _ _) (.mono (Dev.toParent_same _ _ _ _ _ _ _) (by decide))) (.foldl _ (fun _ _ => .ite
      (.refl _ _) (.mono (Dev.toChild_same _ _ _ _ _ _ _ _) (by decide))) _ _)

theorem Dev.hubCheck_same (d : Dev) (q a access : Nat) : SameBut (.bnd :: recordBlocks) d (d.hubCheck q a access).1 := by
  unfold Dev.hubCheck
  exact .mono (Dev.check_same _ _ _ _) (by decide)

theorem Dev.hubWrites_same (d : Dev) (q n tc a : Nat) (bs : List Nat) (epoch : Option Nat) :
    SameBut (.ln :: .sw :: .trav :: .fab :: .bnd :: .cont :: recordBlocks) d (d.hubWrites q n tc a bs epoch).1 := by
  unfold Dev.hubWrites
  refine .trans (.refl _ _) (.foldl_fst _ (fun acc c => ?_) _ _)
  dsimp only
  split
  next h => exact congrArg Prod.fst h ▸ Dev.hubIssue_same acc.1 _ _ _ _ _
  next _ h => exact congrArg Prod.fst h ▸ Dev.hubIssue_same acc.1 _ _ _ _ _

theorem Dev.fnWrite_same (d : Dev) (n tc a : Nat) (bs : List Nat) : SameBut
    (.ln :: .sw :: .trav :: .fab :: .bnd :: .cont :: recordBlocks) d (d.fnWrite n tc a bs) := by
  unfold Dev.fnWrite
  exact .ite (.refl _ _) (.foldl _ (fun _ _ => .ite (.then (.mono (Dev.hubCheck_same _ _ _ _) (by decide))
      (Dev.hubWrites_same _ _ _ _ _ _ _)) (.mono (Dev.hubCheck_same _ _ _ _) (by decide))) _ _)

theorem Dev.fnSignal_same (d : Dev) (n vec tc : Nat) : SameBut (.ln :: .sw :: .trav :: .fab :: .bnd :: .cont :: recordBlocks)
    d (d.fnSignal n vec tc) := by
  unfold Dev.fnSignal
  exact .ite (.refl _ _) (.ite (.then (.mono (Dev.countHub_same _ _ _ _) (by decide)) (Dev.fnWrite_same _ _ _ _ _)) (.mono
      (Dev.pcieAny_same _ _) (by decide)))

theorem Dev.tallyRecords_same (d : Dev) (k : Coll) (r status flagsOr rf contributions tick : Nat)
    (skip : Nat → Bool) : SameBut (.ln :: .sw :: .trav :: .fab :: .bnd :: .cont :: recordBlocks) d
    (d.tallyRecords k r status flagsOr rf contributions tick skip) := by
  unfold Dev.tallyRecords
  exact .foldl _ (fun _ _ => .ite (.refl _ _) (.ite (.then (.mono (Dev.fnWrite_same _ _ _ _ _) (by decide))
      (Dev.fnSignal_same _ _ _ _)) (.mono (Dev.fnWrite_same _ _ _ _ _) (by decide)))) _ _

theorem Dev.setColl_same (d : Dev) (c : Nat) (f : CollSt → CollSt) : SameBut [.tally] d (d.setColl c f) := by
  unfold Dev.setColl
  exact .mono (Dev.tallyAny_same _ _) (by decide)

theorem Dev.abortNote_same (d : Dev) (c r reason origin : Nat) (skip : Nat → Bool) : SameBut
    (.ln :: .sw :: .tally :: .trav :: .fab :: .bnd :: .cont :: recordBlocks) d (d.abortNote c r reason origin skip) := by
  unfold Dev.abortNote
  exact .then (.then (.then (.then (.mono (Dev.tallyRecords_same _ _ _ _ _ _ _ _ _) (by decide)) (Dev.tallyAny_same _ _))
      (Dev.setColl_same _ _ _)) (Dev.log_same _ _ _ _)) (Dev.countHub_same _ _ _ _)

theorem Dev.tallyAbortAwaited_same (d : Dev) (c reason origin from_ : Nat) (skip : Nat → Bool) : SameBut
    (.ln :: .sw :: .tally :: .trav :: .fab :: .bnd :: .cont :: recordBlocks) d
    (d.tallyAbortAwaited c reason origin from_ skip) := by
  unfold Dev.tallyAbortAwaited
  exact .then (.then (.mono (Dev.abortSend_same _ _ _ _ _ _) (by decide)) (Dev.abortNote_same _ _ _ _ _ _))
      (Dev.setColl_same _ _ _)

theorem Dev.tallyAbort_same (d : Dev) (c reason origin from_ : Nat) (skip : Nat → Bool) : SameBut
    (.ln :: .sw :: .tally :: .trav :: .fab :: .bnd :: .cont :: recordBlocks) d (d.tallyAbort c reason origin from_ skip) := by
  unfold Dev.tallyAbort
  exact .then (.then (.mono (Dev.abortSend_same _ _ _ _ _ _) (by decide)) (Dev.abortNote_same _ _ _ _ _ _))
      (Dev.setColl_same _ _ _)

theorem Dev.abortHere_same (d : Dev) (c reason : Nat) : SameBut (.ln :: .sw :: .tally :: .trav :: .fab :: .bnd :: .cont ::
    recordBlocks) d (d.abortHere c reason) := by
  unfold Dev.abortHere
  exact .mono (Dev.tallyAbort_same _ _ _ _ _ _) (by decide)

theorem Dev.tallyMerge_same (d : Dev) (c : Nat) (k : Coll) (e : Nat) (acc : Int) (v flags : Nat) : SameBut
    [.pcie, .tally, .evt, .cnt] d (d.tallyMerge c k e acc v flags) := by
  unfold Dev.tallyMerge
  exact .then (.then (.mono (Dev.tallyAny_same _ _) (by decide)) (Dev.countHub_same _ _ _ _)) (Dev.setColl_same _ _ _)

theorem Dev.checkComplete_same (d : Dev) (c : Nat) : SameBut [.tally] d (d.checkComplete c) := by
  unfold Dev.checkComplete
  exact .ite (.mono (Dev.setColl_same _ _ _) (by decide)) (.refl _ _)

theorem Dev.addWrite_same (d : Dev) (c i off : Nat) (data : List Nat) (be poisoned : Bool) : SameBut
    (.ln :: .sw :: .tally :: .trav :: .fab :: .bnd :: .cont :: recordBlocks) d (d.addWrite c i off data be poisoned) := by
  unfold Dev.addWrite
  exact .ite (.mono (Dev.abortHere_same _ _ _) (by decide)) (.ite (.mono (Dev.abortHere_same _ _ _) (by decide)) (.ite
      (.mono (Dev.abortHere_same _ _ _) (by decide)) (.then (.then (.foldl _ (fun _ _ => .ite (.mono
      (Dev.tallyMerge_same _ _ _ _ _ _ _) (by decide)) (.mono (Dev.tallyMerge_same _ _ _ _ _ _ _) (by decide))) _ _)
      (Dev.setColl_same _ _ _)) (Dev.checkComplete_same _ _))))

theorem Dev.tallyDiscard_same (d : Dev) : SameBut [.tally] d d.tallyDiscard := by
  unfold Dev.tallyDiscard
  exact .mono (Dev.tallyAny_same _ _) (by decide)

theorem Dev.addPartial_same (d : Dev) (c i : Nat) (f : FPkt) : SameBut
    (.ln :: .sw :: .tally :: .trav :: .fab :: .bnd :: .cont :: recordBlocks) d (d.addPartial c i f) := by
  unfold Dev.addPartial
  dsimp only
  refine .ite ?_ ?_
  · exact .mono (Dev.tallyDiscard_same _) (by decide)
  · refine .ite ?_ ?_
    · exact .mono (Dev.abortHere_same _ _ _) (by decide)
    · refine .ite ?_ ?_
      · exact .mono (Dev.abortHere_same _ _ _) (by decide)
      · split
        · exact .mono (Dev.abortHere_same _ _ _) (by decide)
        · exact .then (.foldl _ (fun _ _ => .mono (Dev.tallyMerge_same _ _ _ _ _ _ _) (by decide)) _ _)
            (Dev.setColl_same _ _ _)

theorem Dev.addDone_same (d : Dev) (c i : Nat) (f : FPkt) : SameBut
    (.ln :: .sw :: .tally :: .trav :: .fab :: .bnd :: .cont :: recordBlocks) d (d.addDone c i f) := by
  unfold Dev.addDone
  exact .ite (.mono (Dev.tallyDiscard_same _) (by decide)) (.ite (.mono (Dev.abortHere_same _ _ _) (by decide)) (.ite (.mono
      (Dev.abortHere_same _ _ _) (by decide)) (.ite (.mono (Dev.abortHere_same _ _ _) (by decide)) (.then (.mono
      (Dev.setColl_same _ _ _) (by decide)) (Dev.checkComplete_same _ _)))))

theorem Dev.tallyTake_same (d : Dev) (c : Nat) (h : HeldIn) : SameBut
    (.ln :: .sw :: .tally :: .trav :: .fab :: .bnd :: .cont :: recordBlocks) d (d.tallyTake c h) := by
  unfold Dev.tallyTake
  dsimp only
  refine .ite ?_ ?_
  · exact .mono (Dev.tallyAny_same _ _) (by decide)
  · split
    · split
      · exact .ite (.mono (Dev.addWrite_same _ _ _ _ _ _ _) (by decide)) (.mono (Dev.tallyDiscard_same _) (by decide))
      · exact .mono (Dev.tallyDiscard_same _) (by decide)
    · split
      · exact .ite (.mono (Dev.addPartial_same _ _ _ _) (by decide)) (.mono (Dev.addDone_same _ _ _ _) (by decide))
      · exact .mono (Dev.tallyDiscard_same _) (by decide)

theorem Dev.drainHold_same (d : Dev) (c : Nat) : SameBut (.ln :: .sw :: .tally :: .trav :: .fab :: .bnd :: .cont ::
    recordBlocks) d (d.drainHold c) := by
  unfold Dev.drainHold
  exact .ite (.refl _ _) (.trans (.mono (Dev.tallyAny_same _ _) (by decide)) (.foldl _ (fun _ _ => .mono
      (Dev.tallyTake_same _ _ _) (by decide)) _ _))

theorem Dev.tallyMembers_same (d : Dev) (hit : Nat → Bool) (reason : Nat) : SameBut
    (.ln :: .sw :: .tally :: .trav :: .fab :: .bnd :: .cont :: recordBlocks) d (d.tallyMembers hit reason) := by
  unfold Dev.tallyMembers
  exact .foldl _ (fun _ _ => .ite (.ite (.then (.then (.then (.ite (.mono (Dev.tallyAbortAwaited_same _ _ _ _ _ _)
      (by decide)) (.refl _ _)) (Dev.tallyAbort_same _ _ _ _ _ _)) (Dev.setColl_same _ _ _)) (Dev.drainHold_same _ _)) (.ite
      (.mono (Dev.tallyAbortAwaited_same _ _ _ _ _ _) (by decide)) (.refl _ _))) (.refl _ _)) _ _

theorem Dev.dropFnPackets_same (d : Dev) (n : Nat) : SameBut [.ln, .sw, .bnd] d (d.dropFnPackets n) := by
  unfold Dev.dropFnPackets
  exact .foldl _ (fun _ _ => .mono (Dev.endPacket_same _ _) (by decide)) _ _

theorem Dev.prefetchDrop_same (d : Dev) (n : Nat) (ps : List (Nat × Nat)) : SameBut (.sw :: .trav :: .bnd :: recordBlocks) d
    (d.prefetchDrop n ps) := by
  unfold Dev.prefetchDrop
  exact .foldl _ (fun _ _ => .trans (.then (by simp [sameBut_iff, recordBlocks]) (Dev.countHub_same _ _ _ _))
      (Dev.once_same _ _ _ (fun _ => .mono (Dev.log_same _ _ _ _) (by decide)) (by decide))) _ _

theorem Dev.setQ_same (d : Dev) (key : Nat) (f : Queue → Queue) : SameBut [.trav] d (d.setQ key f) := by
  unfold Dev.setQ
  exact .mono (Dev.travAny_same _ _) (by decide)

theorem Dev.unbind_same (d : Dev) (key : Nat) : SameBut [.trav] d (d.unbind key) := by
  unfold Dev.unbind
  exact .then (.mono (Dev.setQ_same _ _ _) (by decide)) (Dev.travAny_same _ _)

theorem Dev.queueOff_same (d : Dev) (key : Nat) : SameBut [.trav] d (d.queueOff key) := by
  unfold Dev.queueOff
  exact .then (.mono (Dev.setQ_same _ _ _) (by decide)) (Dev.unbind_same _ _)

theorem Dev.fnQuiesceOne_same (d : Dev) (n : Nat) (removed : Bool) : SameBut (.ln :: .sw :: .trav :: .bnd :: recordBlocks) d
    (d.fnQuiesceOne n removed) := by
  unfold Dev.fnQuiesceOne
  exact .then (.trans (.trans (.then (.then (.mono (Dev.dropFnPackets_same _ _) (by decide)) (Dev.prefetchDrop_same _ _ _))
      (Dev.travAny_same _ _)) (.foldl _ (fun _ _ => .then (.mono (Dev.trRetire_same _ _ _) (by decide))
      (Dev.travAny_same _ _)) _ _)) (.foldl _ (fun _ _ => .mono (Dev.queueOff_same _ _) (by decide)) _ _))
      (Dev.pcieAny_same _ _)

theorem Dev.fnQuiesce_same (d : Dev) (ns : List Nat) (removed : Bool) (reason : Nat) : SameBut
    (.ln :: .sw :: .tally :: .trav :: .fab :: .bnd :: .cont :: recordBlocks) d (d.fnQuiesce ns removed reason) := by
  unfold Dev.fnQuiesce
  exact .ite (.ite (.mono (Dev.travAny_same _ _) (by decide)) (.refl _ _)) (.trans (.then (.ite (.mono
      (Dev.travAny_same _ _) (by decide)) (.refl _ _)) (Dev.tallyMembers_same _ _ _)) (.foldl _ (fun _ _ => .mono
      (Dev.fnQuiesceOne_same _ _ _) (by decide)) _ _))

theorem Dev.parentQuiesce_same (d : Dev) (q reason : Nat) : SameBut
    (.ln :: .sw :: .tally :: .trav :: .fab :: .bnd :: .cont :: recordBlocks) d (d.parentQuiesce q reason) := by
  unfold Dev.parentQuiesce
  exact .ite (.then (.mono (Dev.fnQuiesce_same _ _ _ _) (by decide)) (Dev.fnQuiesce_same _ _ _ _)) (.mono
      (Dev.fnQuiesce_same _ _ _ _) (by decide))

theorem Dev.resetJob_same (d : Dev) (live : List Nat) : SameBut [.jobs, .trav] d (d.resetJob live) := by
  unfold Dev.resetJob
  exact .ite (.refl _ _) (.then (.mono (Dev.startInternal_same _ _) (by decide)) (Dev.travAny_same _ _))

theorem Dev.svcReset_same (d : Dev) (q reason : Nat) : SameBut (.jobs :: .ln :: .sw :: .tally :: .trav :: .fab :: .bnd ::
    .cont :: recordBlocks) d (d.svcReset q reason) := by
  unfold Dev.svcReset
  exact .ite (.then (.mono (Dev.parentQuiesce_same _ _ _) (by decide)) (Dev.resetJob_same _ _)) (.then (.then (.mono
      (Dev.parentQuiesce_same _ _ _) (by decide)) (Dev.resetJob_same _ _)) (Dev.pcieAny_same _ _))

theorem Dev.resetBelow_same (d : Dev) (q : Nat) : SameBut (.jobs :: .ln :: .sw :: .tally :: .trav :: .fab :: .bnd :: .cont ::
    recordBlocks) d (d.resetBelow q) := by
  unfold Dev.resetBelow
  exact .then (.foldl _ (fun _ _ => .ite (.mono (Dev.flrAssigned_same _ _ _) (by decide)) (.mono
      (Dev.commandLink_same _ _ _) (by decide))) _ _) (Dev.svcReset_same _ _ _)

theorem Dev.clearCfg_same (d : Dev) (hit : Nat → Bool) : SameBut [.pcie] d (d.clearCfg hit) := by
  unfold Dev.clearCfg
  exact .mono (Dev.pcieAny_same _ _) (by decide)

theorem Dev.partResetBegin_same (d : Dev) (q cause : Nat) : SameBut
    (.jobs :: .ln :: .sw :: .tally :: .trav :: .fab :: .bnd :: .cont :: recordBlocks) d (d.partResetBegin q cause) := by
  unfold Dev.partResetBegin
  exact .ite (.mono (Dev.pcieAny_same _ _) (by decide)) (.then (.trans (.trans (.then (.then (.ite (.then (.mono
      (Dev.pcieAny_same _ _) (by decide)) (Dev.commandLink_same _ _ _)) (.mono (Dev.pcieAny_same _ _) (by decide)))
      (Dev.resetBelow_same _ _)) (Dev.clearCfg_same _ _)) (.foldl _ (fun _ _ => .mono (Dev.trRetire_same _ _ _)
      (by decide)) _ _)) (.foldl _ (fun _ _ => .mono (Dev.setPport_same _ _ _) (by decide)) _ _)) (Dev.pcieAny_same _ _))

theorem Dev.partResetEnd_same (d : Dev) (q cause : Nat) : SameBut [.pcie, .sw, .evt] d (d.partResetEnd q cause) := by
  unfold Dev.partResetEnd
  exact .ite (.refl _ _) (.ite (.trans (.then (.mono (Dev.pcieAny_same _ _) (by decide)) (Dev.commandLink_same _ _ _))
      (.foldl _ (fun _ _ => .mono (Dev.commandLink_same _ _ _) (by decide)) _ _)) (.mono (Dev.pcieAny_same _ _) (by decide)))

theorem Dev.endpointReset_same (d : Dev) : SameBut [.pcie] d d.endpointReset := by
  unfold Dev.endpointReset
  exact .mono (Dev.clearCfg_same _ _) (by decide)

theorem Dev.applyTiles_same (d : Dev) : SameBut [.run] d d.applyTiles := by
  unfold Dev.applyTiles
  exact .mono (Dev.runAny_same _ _) (by decide)

theorem Dev.joinTick_same (d : Dev) : SameBut [.tick] d d.joinTick := by
  unfold Dev.joinTick
  exact .mono (Dev.tickAny_same _ _) (by decide)

theorem runModeEntered_same (d : Dev) : SameBut (.mode :: .tick :: .jobs :: .ln :: .sw :: .tally :: .trav :: .fab :: .bnd ::
    .cont :: recordBlocks) d (runModeEntered d) := by
  unfold runModeEntered
  exact .ite (.refl _ _) (.ite (.trans (.trans (.then (.trans (Dev.watchMode_same _ _ (.mono (Dev.modeAny_same _ _)
      (by decide)) (by decide) (by decide)) (.foldl _ (fun _ _ => .mono (Dev.startTraining_same _ _) (by decide)) _ _))
      (Dev.joinTick_same _)) (.foldl _ (fun _ _ => .mono (Dev.commandLink_same _ _ _) (by decide)) _ _)) (.foldl _
      (fun _ _ => .foldl _ (fun _ _ => .mono (Dev.partResetBegin_same _ _ _) (by decide)) _ _) _ _)) (.trans (.then (.trans
      (Dev.watchMode_same _ _ (.mono (Dev.modeAny_same _ _) (by decide)) (by decide) (by decide)) (.foldl _
      (fun _ _ => .mono (Dev.startTraining_same _ _) (by decide)) _ _)) (Dev.joinTick_same _)) (.foldl _ (fun _ _ => .mono
      (Dev.commandLink_same _ _ _) (by decide)) _ _)))

theorem bootPortRelease_same (d : Dev) : SameBut [.mode, .run, .pcie, .ln, .sw, .evt] d (bootPortRelease d) := by
  have hboot : SameBut [.mode, .run, .pcie, .ln, .sw, .evt] d (if d.isBoot 0 then d.commandLink 0 4 else d) :=
    .ite (.mono (Dev.commandLink_same _ _ _) (by decide)) (.refl _ _)
  unfold bootPortRelease
  refine .ite (.refl _ _) (.trans ((hboot.then (Dev.endpointReset_same _)).then (Dev.applyTiles_same _)) ?_)
  simp [sameBut_iff]

/-- The device that has taken its configuration into force (R84). -/
def Dev.activated (d : Dev) : Dev :=
  { d.tickFree with
    run := d.activeCfg
    nb := { d.nb with side0 := d.nb.side0.hold, side1 := d.nb.side1.hold }
    fab.incarnation := d.incarnation
    bnd.epoch := 1
    trav.fn := if (d.activeCfg.part.rd 0).present then d.trav.fn.upd 0 (fun f => { f with state := 1 }) else d.trav.fn }

theorem Dev.activate_eq (d : Dev) : d.activate = if d.activeCfg.sealed then d.activated.fire 0x045 else d.activated := rfl

theorem Dev.activated_same (d : Dev) : SameBut [.run, .nb, .trav, .fab, .bnd] d d.activated :=
  .trans (.mono (Dev.tickFree_same _) (by decide)) (by simp [sameBut_iff, Dev.activated])

theorem Dev.activate_same (d : Dev) : SameBut [.run, .nb, .pcie, .trav, .fab, .bnd, .evt] d d.activate := by
  rw [Dev.activate_eq]
  exact .ite (.then (.mono d.activated_same (by decide)) (Dev.fire_same _ _)) (.mono d.activated_same (by decide))

theorem runStateActivate_same (d : Dev) : SameBut [.mode, .run, .nb, .pcie, .trav, .fab, .bnd, .evt] d
    (runStateActivate d) := by
  unfold runStateActivate
  exact .ite (.refl _ _) (.then (.mono (Dev.modeAny_same _ _) (by decide)) (Dev.activate_same _))

theorem Dev.setCore_same (d : Dev) (c : Nat) (f : Core → Core) : SameBut [.cores] d (d.setCore c f) := by
  unfold Dev.setCore
  exact .mono (Dev.coresAny_same _ _) (by decide)

theorem Dev.startCores_same (d : Dev) : SameBut [.cores] d d.startCores := by
  unfold Dev.startCores
  exact .then (.foldl _ (fun _ _ => .mono (Dev.setCore_same _ _ _) (by decide)) _ _) (Dev.coresAny_same _ _)

theorem coresStart_same (d : Dev) : SameBut [.mode, .cores] d (coresStart d) := by
  unfold coresStart
  exact .ite (.refl _ _) (.then (.mono (Dev.modeAny_same _ _) (by decide)) (Dev.startCores_same _))

end Sys2Proof.Machine

/-! PROOF. What traffic, resets and records leave alone of the PCI Express state: everything but the ports, the
configuration words, the error registers and the pending messages. -/

namespace Sys2Proof.Machine

-- One theorem at a time, as in the tests: many at once would ask for more threads than the sandbox gives.
set_option Elab.async false

/-- The PCI Express state apart from ports, configuration words, error registers and pending messages. -/
def Dev.pcieRest (d : Dev) : PcieSt := { d.pcie with port := [], cfg := [], aer := [], msixPend := [] }

theorem pcieRest_of_same {bs : List Block} {d e : Dev} (h : SameBut bs d e) (hb : .pcie ∉ bs := by decide) : Keeps Dev.pcieRest d e := by
  rw [Keeps, Dev.pcieRest, h.pcie hb, Dev.pcieRest]

theorem pcieRest_of_pending {d e : Dev} (h : OnlyPending d e) : Keeps Dev.pcieRest d e := by
  obtain ⟨t, ht⟩ := h
  rw [Keeps, Dev.pcieRest, ht, Dev.pcieRest]

theorem Dev.once_pcieRest (d : Dev) (key : Nat) (f : Dev → Dev) (h : ∀ e, Keeps Dev.pcieRest e (f e)) :
    Keeps Dev.pcieRest d (d.once key f) := by
  unfold Dev.once
  exact .ite (.refl _ _) (.trans (.of_eq rfl) (h _))

theorem Dev.pcieAny_pcieRest (d : Dev) (x : PcieSt)
    (h : ({ x with port := [], cfg := [], aer := [], msixPend := [] } : PcieSt) = d.pcieRest) :
    Keeps Dev.pcieRest d { d with pcie := x } := h

theorem Dev.count_pcieRest (d : Dev) (lo hi ev : Nat) (amount : Nat → Nat) : Keeps Dev.pcieRest d
    (d.count lo hi ev amount) := by
  unfold Dev.count
  exact .foldl _ (fun _ _ => pcieRest_of_pending (Dev.cntBump_pending _ _ _)) _ _

theorem Dev.countTile_pcieRest (d : Dev) (t ev slot vc v : Nat) : Keeps Dev.pcieRest d (d.countTile t ev slot vc v) := by
  unfold Dev.countTile
  exact Dev.count_pcieRest _ _ _ _ _

theorem Dev.pushOutOne_pcieRest (d : Dev) (ing v : Nat) : Keeps Dev.pcieRest d (d.pushOutOne ing v) := by
  unfold Dev.pushOutOne
  dsimp only
  split
  · exact .refl _ _
  · exact .ite (.trans (.trans (.trans (pcieRest_of_same (Dev.swAny_same _ _)) (pcieRest_of_same (Dev.setIng_same _ _ _)))
      (Dev.countTile_pcieRest _ _ _ _ _ _)) (pcieRest_of_pending (Dev.fire_pending _ _))) (.trans (.trans (.trans (.trans
      (.trans (pcieRest_of_same (Dev.swAny_same _ _)) (pcieRest_of_same (Dev.setIng_same _ _ _)))
      (Dev.countTile_pcieRest _ _ _ _ _ _)) (pcieRest_of_pending (Dev.fire_pending _ _))) (pcieRest_of_same
      (Dev.setIng_same _ _ _))) (pcieRest_of_pending (Dev.log_pending _ _ _ _)))

theorem Dev.pushOut_pcieRest (d : Dev) (n ing v cells : Nat) : Keeps Dev.pcieRest d (d.pushOut n ing v cells) := by
  induction n generalizing d with
  | zero => exact .refl _ _
  | succ n ih =>
    rw [Dev.pushOut]
    exact .ite (.refl _ _) (.trans (Dev.pushOutOne_pcieRest _ _ _) (ih _))

theorem Dev.pushVoq_pcieRest (d : Dev) (tile : Nat) (p : Pkt) : Keeps Dev.pcieRest d (d.pushVoq tile p) := by
  unfold Dev.pushVoq
  exact .trans (.ite (Dev.pushOut_pcieRest _ _ _ _ _) (.refl _ _)) (pcieRest_of_same (Dev.enterVoq_same _ _ _))

theorem Dev.queueFab_pcieRest (d : Dev) (tile ing inVc p : Nat) (f : FPkt) (resend : Bool) (wr : Nat) : Keeps Dev.pcieRest d
    (d.queueFab tile ing inVc p f resend wr) := by
  unfold Dev.queueFab
  exact Dev.pushVoq_pcieRest _ _ _

theorem Dev.unrouted_pcieRest (d : Dev) (f : FPkt) (hop : Bool) : Keeps Dev.pcieRest d (d.unrouted f hop) := by
  unfold Dev.unrouted
  exact .trans (.ite (pcieRest_of_same (Dev.fabAny_same _ _)) (pcieRest_of_same (Dev.fabAny_same _ _)))
      (Dev.once_pcieRest _ _ _ (fun _ => pcieRest_of_pending (Dev.log_pending _ _ _ _)))

theorem Dev.setPport_pcieRest (d : Dev) (p : Nat) (f : PciePort → PciePort) : Keeps Dev.pcieRest d (d.setPport p f) := by
  unfold Dev.setPport
  exact Dev.pcieAny_pcieRest _ _ rfl

theorem Dev.faultLog_pcieRest (d : Dev) (code sev : Nat) (masked : Bool) (r : FaultRec) : Keeps Dev.pcieRest d
    (d.faultLog code sev masked r) := by
  unfold Dev.faultLog
  exact .ite (pcieRest_of_pending (Dev.enqueue_pending _ _)) (.trans (pcieRest_of_pending (Dev.enqueue_pending _ _))
      (pcieRest_of_pending (Dev.fire_pending _ _)))

theorem Dev.uncFault_pcieRest (d : Dev) (bit source stop kind id detail sev : Nat) : Keeps Dev.pcieRest d
    (d.uncFault bit source stop kind id detail sev) := by
  unfold Dev.uncFault
  exact .ite (.trans (pcieRest_of_same (Dev.contAny_same _ _)) (pcieRest_of_same (Dev.contAny_same _ _))) (.trans (.trans
      (pcieRest_of_same (Dev.contAny_same _ _)) (pcieRest_of_same (Dev.haltTests_same _ _)))
      (Dev.faultLog_pcieRest _ _ _ _ _))

theorem Dev.aerPhys_pcieRest (d : Dev) (p : Nat) (unc : Bool) (bit : Nat) (hdr : List Nat)
    (adv : Bool) : Keeps Dev.pcieRest d (d.aerPhys p unc bit hdr adv) := by
  unfold Dev.aerPhys
  exact .ite (.refl _ _) (.ite (.trans (Dev.setPport_pcieRest _ _ _) (pcieRest_of_pending (Dev.log_pending _ _ _ _))) (.ite
      (.trans (.trans (Dev.setPport_pcieRest _ _ _) (pcieRest_of_pending (Dev.fire_pending _ _)))
      (Dev.uncFault_pcieRest _ _ _ _ _ _ _ _)) (.trans (Dev.setPport_pcieRest _ _ _) (pcieRest_of_pending
      (Dev.log_pending _ _ _ _)))))

theorem Dev.aerView_pcieRest (d : Dev) (fn : Nat) (unc : Bool) (bit : Nat) (hdr : List Nat)
    (adv : Bool) : Keeps Dev.pcieRest d (d.aerView fn unc bit hdr adv) := by
  have hnote (a : Aer) : Keeps Dev.pcieRest d { d with pcie.aer := d.pcie.aer.wr fn a } :=
    Dev.pcieAny_pcieRest _ _ rfl
  unfold Dev.aerView
  exact .ite (.refl _ _) (.ite ((hnote _).trans (pcieRest_of_same (bs := []) (Dev.emit_same _ _))) (hnote _))

theorem Dev.setCfgWord_pcieRest (d : Dev) (fn w v : Nat) : Keeps Dev.pcieRest d (d.setCfgWord fn w v) := by
  unfold Dev.setCfgWord
  exact Dev.pcieAny_pcieRest _ _ rfl

theorem Dev.bridgeMsi_pcieRest (d : Dev) (fn : Nat) : Keeps Dev.pcieRest d (d.bridgeMsi fn) := by
  unfold Dev.bridgeMsi
  exact .ite (.refl _ _) (.ite (pcieRest_of_same (Dev.sendMsi_same _ _)) (Dev.setCfgWord_pcieRest _ _ _ _))

theorem Dev.slotEvent_pcieRest (d : Dev) (fn bit : Nat) : Keeps Dev.pcieRest d (d.slotEvent fn bit) := by
  unfold Dev.slotEvent
  exact .ite (.trans (Dev.setCfgWord_pcieRest _ _ _ _) (Dev.bridgeMsi_pcieRest _ _)) (Dev.setCfgWord_pcieRest _ _ _ _)

theorem Dev.linkFall_pcieRest (d : Dev) (p : Nat) : Keeps Dev.pcieRest d (d.linkFall p) := by
  unfold Dev.linkFall
  exact .ite (.ite (.trans (.trans (Dev.setPport_pcieRest _ _ _) (pcieRest_of_pending (Dev.fire_pending _ _))) (.foldl _
      (fun _ _ => Dev.slotEvent_pcieRest _ _ _) _ _)) (.trans (Dev.setPport_pcieRest _ _ _) (pcieRest_of_pending
      (Dev.fire_pending _ _)))) (Dev.setPport_pcieRest _ _ _)

theorem Dev.dpcTrigger_pcieRest (d : Dev) (p reason source : Nat) : Keeps Dev.pcieRest d (d.dpcTrigger p reason source) := by
  unfold Dev.dpcTrigger
  exact .ite (.refl _ _) (.trans (.trans (.trans (.trans (Dev.setPport_pcieRest _ _ _) (Dev.linkFall_pcieRest _ _))
      (pcieRest_of_same (Dev.emit_same _ _))) (.foldl _ (fun _ _ => .ite (.trans (pcieRest_of_same (Dev.dpcCor_same _ _ _))
      (Dev.bridgeMsi_pcieRest _ _)) (pcieRest_of_same (Dev.dpcCor_same _ _ _))) _ _)) (pcieRest_of_pending
      (Dev.fire_pending _ _)))

theorem Dev.dpcOn_pcieRest (d : Dev) (p bit : Nat) (adv : Bool) : Keeps Dev.pcieRest d (d.dpcOn p bit adv) := by
  unfold Dev.dpcOn
  exact .ite (Dev.dpcTrigger_pcieRest _ _ _ _) (.refl _ _)

theorem Dev.tlpErrorOf_pcieRest (d : Dev) (p q bit : Nat) (t tv : Tlp) (adv : Bool) : Keeps Dev.pcieRest d
    (d.tlpErrorOf p q bit t tv adv) := by
  unfold Dev.tlpErrorOf
  exact .trans (.trans (Dev.aerPhys_pcieRest _ _ _ _ _ _) (Dev.aerView_pcieRest _ _ _ _ _ _)) (Dev.dpcOn_pcieRest _ _ _ _)

theorem Dev.hubUr_pcieRest (d : Dev) (q fn : Nat) (t : Tlp) : Keeps Dev.pcieRest d (d.hubUr q fn t) := by
  unfold Dev.hubUr
  exact .ite (Dev.tlpErrorOf_pcieRest _ _ _ _ _ _ _) (Dev.aerView_pcieRest _ _ _ _ _ _)

theorem Dev.deliverCpl_pcieRest (d : Dev) (tile : Nat) (p0 : Pkt) (f : FPkt) : Keeps Dev.pcieRest d
    (d.deliverCpl tile p0 f) := by
  unfold Dev.deliverCpl
  split
  · exact .trans (pcieRest_of_same (Dev.owe_same _ _ _ _)) (pcieRest_of_pending (Dev.lateCpl_pending _ _))
  · exact Dev.pushVoq_pcieRest _ _ _

theorem Dev.countTable_pcieRest (d : Dev) (ev q v : Nat) : Keeps Dev.pcieRest d (d.countTable ev q v) := by
  unfold Dev.countTable
  exact Dev.count_pcieRest _ _ _ _ _

theorem Dev.routeFab_pcieRest (d : Dev) (n tile ing inVc : Nat) (f : FPkt) (fwd resend : Bool) (wr : Nat) :
    Keeps Dev.pcieRest d (d.routeFab n tile ing inVc f fwd resend wr) := by
  induction n generalizing d tile ing inVc f fwd resend wr with
  | zero => exact .refl _ _
  | succ n ih =>
    have hcount (e : Dev) : Keeps Dev.pcieRest e (e.countTable 0x54 0 1) := Dev.countTable_pcieRest _ _ _ _
    have hqueue (e : Dev) (p : Nat) (g : FPkt) :
        Keeps Dev.pcieRest e ((e.countTable 0x54 0 1).queueFab tile ing inVc p g resend wr) :=
      (hcount e).trans (Dev.queueFab_pcieRest _ _ _ _ _ _ _ _)
    have hreply (e : Dev) (hop : Bool) : Keeps Dev.pcieRest e
        (let e1 := e.unrouted f hop
         if f.order = 1 ∧ f.src ≠ d.run.switchId then e1.routeFab n tile 0xFF 0 (e1.fabReply f 1) false false
         else if f.kind = 0x10 then { e1 with sw.regIn := e1.sw.regIn ++ [e1.fabReply f 1] } else e1) :=
      .trans (Dev.unrouted_pcieRest e f hop) (.ite (ih _ _ _ _ _ _ _ _) (.ite (.of_eq rfl) (.refl _ _)))
    rw [Dev.routeFab]
    refine .ite (hreply _ _) ?_
    cases d.wayOf f.src f.dest f.tc with
    | none => exact (hcount d).trans (hreply _ _)
    | port p => exact .ite ((hcount d).trans (hreply _ _)) (hqueue _ _ _)
    | wait p => exact hqueue _ _ _

theorem Dev.refuseFab_pcieRest (d : Dev) (tile : Nat) (f : FPkt) (status : Nat) : Keeps Dev.pcieRest d
    (d.refuseFab tile f status) := by
  unfold Dev.refuseFab
  exact .ite (.ite (Dev.deliverCpl_pcieRest _ _ _ _) (Dev.routeFab_pcieRest _ _ _ _ _ _ _ _ _)) (.refl _ _)

theorem Dev.tvLate_pcieRest (d : Dev) (k : Nat) : Keeps Dev.pcieRest d (d.tvLate k) := by
  unfold Dev.tvLate
  exact .trans (pcieRest_of_same (Dev.travAny_same _ _)) (pcieRest_of_pending (Dev.log_pending _ _ _ _))

theorem Dev.engineData_pcieRest (d : Dev) (k gen : Nat) (payload : List Nat) (status : Nat)
    (poisoned : Bool) : Keeps Dev.pcieRest d (d.engineData k gen payload status poisoned) := by
  unfold Dev.engineData
  exact .ite (Dev.tvLate_pcieRest _ _) (.ite (.trans (pcieRest_of_same (Dev.travAny_same _ _)) (Dev.tvLate_pcieRest _ _))
      (.ite (pcieRest_of_same (Dev.travAny_same _ _)) (.trans (pcieRest_of_same (Dev.travAny_same _ _)) (pcieRest_of_same
      (Dev.travAny_same _ _)))))

theorem Dev.engineTagged_pcieRest (d : Dev) (base tag : Nat) (t : Tlp) : Keeps Dev.pcieRest d
    (d.engineTagged base tag t) := by
  unfold Dev.engineTagged
  exact Dev.engineData_pcieRest _ _ _ _ _ _

theorem Dev.answerRemoved_pcieRest (d : Dev) (x : Pkt) (status : Nat) : Keeps Dev.pcieRest d (d.answerRemoved x status) := by
  unfold Dev.answerRemoved
  dsimp only
  refine .ite ?_ ?_
  · exact .refl _ _
  · split
    · exact .ite (.refl _ _) (.ite (pcieRest_of_same (Dev.trAbort_same _ _)) (.trans (pcieRest_of_same
        (Dev.trRetire_same _ _ _)) (pcieRest_of_same (Dev.sendCpl_same _ _ _ _ _ _ _ _))))
    · split
      · exact .ite (.ite (.refl _ _) (pcieRest_of_same (Dev.sendCpl_same _ _ _ _ _ _ _ _))) (Dev.refuseFab_pcieRest _ _ _ _)
      · exact .ite (pcieRest_of_same (Dev.sendCpl_same _ _ _ _ _ _ _ _)) (.ite (Dev.engineTagged_pcieRest _ _ _ _)
          (.refl _ _))

theorem Dev.fencePort_pcieRest (d : Dev) (p status : Nat) : Keeps Dev.pcieRest d (d.fencePort p status) := by
  unfold Dev.fencePort
  exact .trans (.trans (pcieRest_of_same (Dev.cutStreams_same _ _)) (pcieRest_of_same (Dev.contAny_same _ _))) (.foldl _
      (fun _ _ => .trans (pcieRest_of_same (Dev.endPacket_same _ _)) (Dev.answerRemoved_pcieRest _ _ _)) _ _)

theorem Dev.dpcFence_pcieRest (d old : Dev) : Keeps Dev.pcieRest d (d.dpcFence old) := by
  unfold Dev.dpcFence
  exact .foldl _ (fun _ _ => .trans (Dev.fencePort_pcieRest _ _ _) (pcieRest_of_same (Dev.retireToward_same _ _))) _ _

theorem Dev.trOpen_pcieRest (d : Dev) (e : TEntry) : Keeps Dev.pcieRest d (d.trOpen e).1 := by
  unfold Dev.trOpen
  dsimp only
  split
  · exact .trans (pcieRest_of_same (Dev.swAny_same _ _)) (Dev.countTable_pcieRest _ _ _ _)
  · exact .refl _ _

theorem Dev.countGaz_pcieRest (d : Dev) (w : Win) : Keeps Dev.pcieRest d (d.countGaz w) := by
  unfold Dev.countGaz
  exact .ite (Dev.countTable_pcieRest _ _ _ _) (.refl _ _)

theorem Dev.xlateMiss_pcieRest (d : Dev) (h part : Nat) : Keeps Dev.pcieRest d (d.xlateMiss h part) := by
  unfold Dev.xlateMiss
  exact .trans (pcieRest_of_same (Dev.fabAny_same _ _)) (Dev.once_pcieRest _ _ _ (fun _ => pcieRest_of_pending
      (Dev.log_pending _ _ _ _)))

theorem Dev.refuseIn_pcieRest (d : Dev) (tile : Nat) (p0 : Pkt) (f : FPkt) (status : Nat) : Keeps Dev.pcieRest d
    (d.refuseIn tile p0 f status) := by
  unfold Dev.refuseIn
  exact .ite (.trans (.ite (pcieRest_of_same (Dev.emit_same _ _)) (pcieRest_of_same (Dev.owe_same _ _ _ _)))
      (pcieRest_of_same (Dev.sendCpl_same _ _ _ _ _ _ _ _))) (.trans (.ite (pcieRest_of_same (Dev.emit_same _ _))
      (pcieRest_of_same (Dev.owe_same _ _ _ _))) (Dev.refuseFab_pcieRest _ _ _ _))

theorem Dev.recordDenial_pcieRest (d : Dev) (v : Verdict) (c : Chk) : Keeps Dev.pcieRest d (d.recordDenial v c) := by
  unfold Dev.recordDenial
  dsimp only
  split
  · refine .ite ?_ ?_
    · split
      · exact .trans (pcieRest_of_same (Dev.bndAny_same _ _)) (Dev.countTile_pcieRest _ _ _ _ _ _)
      · exact pcieRest_of_same (Dev.bndAny_same _ _)
    · refine .trans ?_ (pcieRest_of_pending (Dev.log_pending _ _ _ _))
      refine .trans ?_ (pcieRest_of_same (Dev.bndAny_same _ _))
      split
      · exact .trans (pcieRest_of_same (Dev.bndAny_same _ _)) (Dev.countTile_pcieRest _ _ _ _ _ _)
      · exact pcieRest_of_same (Dev.bndAny_same _ _)
  · refine .ite ?_ ?_
    · split
      · exact .trans (pcieRest_of_same (Dev.bndAny_same _ _)) (Dev.countTile_pcieRest _ _ _ _ _ _)
      · exact pcieRest_of_same (Dev.bndAny_same _ _)
    · refine .trans ?_ (pcieRest_of_pending (Dev.log_pending _ _ _ _))
      refine .trans ?_ (pcieRest_of_same (Dev.bndAny_same _ _))
      split
      · exact .trans (pcieRest_of_same (Dev.bndAny_same _ _)) (Dev.countTile_pcieRest _ _ _ _ _ _)
      · exact pcieRest_of_same (Dev.bndAny_same _ _)

theorem Dev.check_pcieRest (d : Dev) (gate : Nat) (c : Chk) (access : Nat) : Keeps Dev.pcieRest d
    (d.check gate c access).1 := by
  unfold Dev.check
  dsimp only
  refine .ite_fst ?_ ?_
  · split
    · exact Dev.countTile_pcieRest _ _ _ _ _ _
    · exact .refl _ _
  · refine .trans ?_ (Dev.recordDenial_pcieRest _ _ _)
    split
    · exact Dev.countTile_pcieRest _ _ _ _ _ _
    · exact .refl _ _

theorem Dev.deliverMem_pcieRest (d : Dev) (tile : Nat) (p0 : Pkt) (f : FPkt) : Keeps Dev.pcieRest d
    (d.deliverMem tile p0 f) := by
  unfold Dev.deliverMem
  exact .ite (.trans (Dev.xlateMiss_pcieRest _ _ _) (Dev.refuseIn_pcieRest _ _ _ _ _)) (.ite (.trans (pcieRest_of_same
      (Dev.fenceDiscard_same _)) (Dev.refuseIn_pcieRest _ _ _ _ _)) (.ite (.trans (.ite_fst (.refl _ _)
      (Dev.check_pcieRest _ _ _ _)) (Dev.refuseIn_pcieRest _ _ _ _ _)) (.trans (.ite (.trans (.ite_fst (.refl _ _)
      (Dev.check_pcieRest _ _ _ _)) (pcieRest_of_same (Dev.bndAny_same _ _))) (.ite_fst (.refl _ _)
      (Dev.check_pcieRest _ _ _ _))) (Dev.pushVoq_pcieRest _ _ _))))

theorem Dev.deliverFab_pcieRest (d : Dev) (tile : Nat) (p0 : Pkt) (f : FPkt) : Keeps Dev.pcieRest d
    (d.deliverFab tile p0 f) := by
  unfold Dev.deliverFab
  exact .ite (.trans (pcieRest_of_same (Dev.owe_same _ _ _ _)) (pcieRest_of_same (Dev.swAny_same _ _))) (.ite
      (Dev.deliverCpl_pcieRest _ _ _ _) (.ite (pcieRest_of_same (Dev.owe_same _ _ _ _)) (.ite (.ite (.ite (.trans
      (pcieRest_of_same (Dev.owe_same _ _ _ _)) (pcieRest_of_same (Dev.fenceDiscard_same _))) (Dev.pushVoq_pcieRest _ _ _))
      (.trans (pcieRest_of_same (Dev.owe_same _ _ _ _)) (Dev.xlateMiss_pcieRest _ _ _))) (Dev.deliverMem_pcieRest _ _ _ _))))

theorem Dev.hubIssue_pcieRest (d : Dev) (q rid slot : Nat) (t0 : Tlp) (epoch : Option Nat) : Keeps Dev.pcieRest d
    (d.hubIssue q rid slot t0 epoch).1 := by
  unfold Dev.hubIssue
  dsimp only
  split
  · exact Dev.hubUr_pcieRest _ _ _ _
  · split
    · split
      · exact .ite (.refl _ _) (.ite (Dev.hubUr_pcieRest _ _ _ _) (.trans (Dev.tlpErrorOf_pcieRest _ _ _ _ _ _ _)
          (Dev.dpcFence_pcieRest _ _)))
      · refine .ite_fst ?_ ?_
        · exact pcieRest_of_same (Dev.fenceDiscard_same _)
        · refine .ite_fst ?_ ?_
          · split
            · exact Dev.aerView_pcieRest _ _ _ _ _ _
            · refine .ite_fst ?_ ?_
              · exact pcieRest_of_same (Dev.hubWaits_same _ _ _)
              · refine .trans ?_ (pcieRest_of_same (Dev.pushEng_same _ _))
                refine .ite ?_ ?_
                · refine .trans ?_ (pcieRest_of_same (Dev.bndAny_same _ _))
                  refine .trans ?_ (pcieRest_of_same (Dev.hubWaits_same _ _ _))
                  split
                  · exact .trans (.ite_fst (Dev.trOpen_pcieRest _ _) (.refl _ _)) (pcieRest_of_same (Dev.travAny_same _ _))
                  · exact .ite_fst (Dev.trOpen_pcieRest _ _) (.refl _ _)
                · refine .trans ?_ (pcieRest_of_same (Dev.hubWaits_same _ _ _))
                  split
                  · exact .trans (.ite_fst (Dev.trOpen_pcieRest _ _) (.refl _ _)) (pcieRest_of_same (Dev.travAny_same _ _))
                  · exact .ite_fst (Dev.trOpen_pcieRest _ _) (.refl _ _)
          · exact .trans (.ite (pcieRest_of_same (Dev.bndAny_same _ _)) (.refl _ _)) (pcieRest_of_same (Dev.pushEng_same _ _))
    · split
      · exact .trans (.trans (Dev.countTile_pcieRest _ _ _ _ _ _) (Dev.countGaz_pcieRest _ _)) (Dev.xlateMiss_pcieRest _ _ _)
      · refine .ite_fst ?_ ?_
        · exact .trans (.trans (Dev.countTile_pcieRest _ _ _ _ _ _) (Dev.countGaz_pcieRest _ _))
            (Dev.xlateMiss_pcieRest _ _ _)
        · refine .ite_fst ?_ ?_
          · exact .trans (Dev.countTile_pcieRest _ _ _ _ _ _) (Dev.countGaz_pcieRest _ _)
          · refine .ite_fst ?_ ?_
            · exact .trans (.trans (Dev.countTile_pcieRest _ _ _ _ _ _) (Dev.countGaz_pcieRest _ _)) (pcieRest_of_same
                (Dev.hubWaits_same _ _ _))
            · refine .ite_fst ?_ ?_
              · refine .trans ?_ (Dev.deliverFab_pcieRest _ _ _ _)
                refine .trans ?_ (pcieRest_of_same (Dev.hubWaits_same _ _ _))
                split
                · exact .trans (.ite_fst (.trans (.trans (Dev.countTile_pcieRest _ _ _ _ _ _) (Dev.countGaz_pcieRest _ _))
                    (Dev.trOpen_pcieRest _ _)) (.trans (Dev.countTile_pcieRest _ _ _ _ _ _) (Dev.countGaz_pcieRest _ _)))
                    (pcieRest_of_same (Dev.travAny_same _ _))
                · exact .ite_fst (.trans (.trans (Dev.countTile_pcieRest _ _ _ _ _ _) (Dev.countGaz_pcieRest _ _))
                    (Dev.trOpen_pcieRest _ _)) (.trans (Dev.countTile_pcieRest _ _ _ _ _ _) (Dev.countGaz_pcieRest _ _))
              · split
                · refine .trans ?_ (Dev.unrouted_pcieRest _ _ _)
                  refine .trans ?_ (pcieRest_of_same (Dev.hubWaits_same _ _ _))
                  split
                  · exact .trans (.ite_fst (.trans (.trans (Dev.countTile_pcieRest _ _ _ _ _ _) (Dev.countGaz_pcieRest _ _))
                      (Dev.trOpen_pcieRest _ _)) (.trans (Dev.countTile_pcieRest _ _ _ _ _ _) (Dev.countGaz_pcieRest _ _)))
                      (pcieRest_of_same (Dev.travAny_same _ _))
                  · exact .ite_fst (.trans (.trans (Dev.countTile_pcieRest _ _ _ _ _ _) (Dev.countGaz_pcieRest _ _))
                      (Dev.trOpen_pcieRest _ _)) (.trans (Dev.countTile_pcieRest _ _ _ _ _ _) (Dev.countGaz_pcieRest _ _))
                · refine .trans ?_ (Dev.pushVoq_pcieRest _ _ _)
                  refine .ite ?_ ?_
                  · refine .trans ?_ (pcieRest_of_same (Dev.bndAny_same _ _))
                    refine .trans ?_ (pcieRest_of_same (Dev.hubWaits_same _ _ _))
                    split
                    · exact .trans (.ite_fst (.trans (.trans (Dev.countTile_pcieRest _ _ _ _ _ _)
                        (Dev.countGaz_pcieRest _ _)) (Dev.trOpen_pcieRest _ _)) (.trans (Dev.countTile_pcieRest _ _ _ _ _ _)
                        (Dev.countGaz_pcieRest _ _))) (pcieRest_of_same (Dev.travAny_same _ _))
                    · exact .ite_fst (.trans (.trans (Dev.countTile_pcieRest _ _ _ _ _ _) (Dev.countGaz_pcieRest _ _))
                        (Dev.trOpen_pcieRest _ _)) (.trans (Dev.countTile_pcieRest _ _ _ _ _ _) (Dev.countGaz_pcieRest _ _))
                  · refine .trans ?_ (pcieRest_of_same (Dev.hubWaits_same _ _ _))
                    split
                    · exact .trans (.ite_fst (.trans (.trans (Dev.countTile_pcieRest _ _ _ _ _ _)
                        (Dev.countGaz_pcieRest _ _)) (Dev.trOpen_pcieRest _ _)) (.trans (Dev.countTile_pcieRest _ _ _ _ _ _)
                        (Dev.countGaz_pcieRest _ _))) (pcieRest_of_same (Dev.travAny_same _ _))
                    · exact .ite_fst (.trans (.trans (Dev.countTile_pcieRest _ _ _ _ _ _) (Dev.countGaz_pcieRest _ _))
                        (Dev.trOpen_pcieRest _ _)) (.trans (Dev.countTile_pcieRest _ _ _ _ _ _) (Dev.countGaz_pcieRest _ _))
                · refine .trans ?_ (Dev.pushVoq_pcieRest _ _ _)
                  refine .ite ?_ ?_
                  · refine .trans ?_ (pcieRest_of_same (Dev.bndAny_same _ _))
                    refine .trans ?_ (pcieRest_of_same (Dev.hubWaits_same _ _ _))
                    split
                    · exact .trans (.ite_fst (.trans (.trans (Dev.countTile_pcieRest _ _ _ _ _ _)
                        (Dev.countGaz_pcieRest _ _)) (Dev.trOpen_pcieRest _ _)) (.trans (Dev.countTile_pcieRest _ _ _ _ _ _)
                        (Dev.countGaz_pcieRest _ _))) (pcieRest_of_same (Dev.travAny_same _ _))
                    · exact .ite_fst (.trans (.trans (Dev.countTile_pcieRest _ _ _ _ _ _) (Dev.countGaz_pcieRest _ _))
                        (Dev.trOpen_pcieRest _ _)) (.trans (Dev.countTile_pcieRest _ _ _ _ _ _) (Dev.countGaz_pcieRest _ _))
                  · refine .trans ?_ (pcieRest_of_same (Dev.hubWaits_same _ _ _))
                    split
                    · exact .trans (.ite_fst (.trans (.trans (Dev.countTile_pcieRest _ _ _ _ _ _)
                        (Dev.countGaz_pcieRest _ _)) (Dev.trOpen_pcieRest _ _)) (.trans (Dev.countTile_pcieRest _ _ _ _ _ _)
                        (Dev.countGaz_pcieRest _ _))) (pcieRest_of_same (Dev.travAny_same _ _))
                    · exact .ite_fst (.trans (.trans (Dev.countTile_pcieRest _ _ _ _ _ _) (Dev.countGaz_pcieRest _ _))
                        (Dev.trOpen_pcieRest _ _)) (.trans (Dev.countTile_pcieRest _ _ _ _ _ _) (Dev.countGaz_pcieRest _ _))
    · exact Dev.hubUr_pcieRest _ _ _ _

theorem Dev.commandLink_pcieRest (d : Dev) (p cmd : Nat) : Keeps Dev.pcieRest d (d.commandLink p cmd) := by
  unfold Dev.commandLink
  exact .ite (.refl _ _) (.trans (.ite (.ite (Dev.setPport_pcieRest _ _ _) (.refl _ _)) (.trans
      (Dev.setPport_pcieRest _ _ _) (Dev.linkFall_pcieRest _ _))) (pcieRest_of_same (Dev.emit_same _ _)))

theorem Dev.sendFab_pcieRest (d : Dev) (f : FPkt) : Keeps Dev.pcieRest d (d.sendFab f) := by
  unfold Dev.sendFab
  dsimp only
  split
  · exact .trans (Dev.countTable_pcieRest _ _ _ _) (pcieRest_of_same (Dev.pushEng_same _ _))
  · exact .trans (Dev.countTable_pcieRest _ _ _ _) (pcieRest_of_same (Dev.pushEng_same _ _))
  · exact Dev.routeFab_pcieRest _ _ _ _ _ _ _ _ _

theorem Dev.tallySend_pcieRest (d : Dev) (k : Coll) (kind sw coll handle r first count : Nat)
    (payload : List Nat) : Keeps Dev.pcieRest d (d.tallySend k kind sw coll handle r first count payload) := by
  unfold Dev.tallySend
  exact Dev.sendFab_pcieRest _ _

theorem Dev.toParent_pcieRest (d : Dev) (k : Coll) (kind r first count : Nat) (payload : List Nat) : Keeps Dev.pcieRest d
    (d.toParent k kind r first count payload) := by
  unfold Dev.toParent
  exact Dev.tallySend_pcieRest _ _ _ _ _ _ _ _ _ _

theorem Dev.toChild_pcieRest (d : Dev) (k : Coll) (v kind r first count : Nat) (payload : List Nat) : Keeps Dev.pcieRest d
    (d.toChild k v kind r first count payload) := by
  unfold Dev.toChild
  exact Dev.tallySend_pcieRest _ _ _ _ _ _ _ _ _ _

theorem Dev.abortSend_pcieRest (d : Dev) (c r reason origin from_ : Nat) : Keeps Dev.pcieRest d
    (d.abortSend c r reason origin from_) := by
  unfold Dev.abortSend
  exact .trans (.ite (.refl _ _) (Dev.toParent_pcieRest _ _ _ _ _ _ _)) (.foldl _ (fun _ _ => .ite (.refl _ _)
      (Dev.toChild_pcieRest _ _ _ _ _ _ _ _)) _ _)

theorem Dev.hubCheck_pcieRest (d : Dev) (q a access : Nat) : Keeps Dev.pcieRest d (d.hubCheck q a access).1 := by
  unfold Dev.hubCheck
  exact Dev.check_pcieRest _ _ _ _

theorem Dev.hubWrites_pcieRest (d : Dev) (q n tc a : Nat) (bs : List Nat) (epoch : Option Nat) :
    Keeps Dev.pcieRest d (d.hubWrites q n tc a bs epoch).1 := by
  unfold Dev.hubWrites
  refine .trans (.refl _ _) (.foldl_fst _ (fun acc c => ?_) _ _)
  dsimp only
  split
  next h => exact congrArg Prod.fst h ▸ Dev.hubIssue_pcieRest acc.1 _ _ _ _ _
  next _ h => exact congrArg Prod.fst h ▸ Dev.hubIssue_pcieRest acc.1 _ _ _ _ _

theorem Dev.fnWrite_pcieRest (d : Dev) (n tc a : Nat) (bs : List Nat) : Keeps Dev.pcieRest d (d.fnWrite n tc a bs) := by
  unfold Dev.fnWrite
  exact .ite (.refl _ _) (.foldl _ (fun _ _ => .ite (.trans (Dev.hubCheck_pcieRest _ _ _ _)
      (Dev.hubWrites_pcieRest _ _ _ _ _ _ _)) (Dev.hubCheck_pcieRest _ _ _ _)) _ _)

theorem Dev.countHub_pcieRest (d : Dev) (ev inst v : Nat) : Keeps Dev.pcieRest d (d.countHub ev inst v) := by
  unfold Dev.countHub
  exact Dev.count_pcieRest _ _ _ _ _

theorem Dev.fnSignal_pcieRest (d : Dev) (n vec tc : Nat) : Keeps Dev.pcieRest d (d.fnSignal n vec tc) := by
  unfold Dev.fnSignal
  exact .ite (.refl _ _) (.ite (.trans (Dev.countHub_pcieRest _ _ _ _) (Dev.fnWrite_pcieRest _ _ _ _ _))
      (Dev.pcieAny_pcieRest _ _ rfl))

theorem Dev.tallyRecords_pcieRest (d : Dev) (k : Coll) (r status flagsOr rf contributions tick : Nat)
    (skip : Nat → Bool) : Keeps Dev.pcieRest d (d.tallyRecords k r status flagsOr rf contributions tick skip) := by
  unfold Dev.tallyRecords
  exact .foldl _ (fun _ _ => .ite (.refl _ _) (.ite (.trans (Dev.fnWrite_pcieRest _ _ _ _ _)
      (Dev.fnSignal_pcieRest _ _ _ _)) (Dev.fnWrite_pcieRest _ _ _ _ _))) _ _

theorem Dev.abortNote_pcieRest (d : Dev) (c r reason origin : Nat) (skip : Nat → Bool) : Keeps Dev.pcieRest d
    (d.abortNote c r reason origin skip) := by
  unfold Dev.abortNote
  exact .trans (.trans (.trans (.trans (Dev.tallyRecords_pcieRest _ _ _ _ _ _ _ _ _) (pcieRest_of_same
      (Dev.tallyAny_same _ _))) (pcieRest_of_same (Dev.setColl_same _ _ _))) (pcieRest_of_pending
      (Dev.log_pending _ _ _ _))) (Dev.countHub_pcieRest _ _ _ _)

theorem Dev.tallyAbortAwaited_pcieRest (d : Dev) (c reason origin from_ : Nat) (skip : Nat → Bool) : Keeps Dev.pcieRest d
    (d.tallyAbortAwaited c reason origin from_ skip) := by
  unfold Dev.tallyAbortAwaited
  exact .trans (.trans (Dev.abortSend_pcieRest _ _ _ _ _ _) (Dev.abortNote_pcieRest _ _ _ _ _ _)) (pcieRest_of_same
      (Dev.setColl_same _ _ _))

theorem Dev.tallyAbort_pcieRest (d : Dev) (c reason origin from_ : Nat) (skip : Nat → Bool) : Keeps Dev.pcieRest d
    (d.tallyAbort c reason origin from_ skip) := by
  unfold Dev.tallyAbort
  exact .trans (.trans (Dev.abortSend_pcieRest _ _ _ _ _ _) (Dev.abortNote_pcieRest _ _ _ _ _ _)) (pcieRest_of_same
      (Dev.setColl_same _ _ _))

theorem Dev.abortHere_pcieRest (d : Dev) (c reason : Nat) : Keeps Dev.pcieRest d (d.abortHere c reason) := by
  unfold Dev.abortHere
  exact Dev.tallyAbort_pcieRest _ _ _ _ _ _

theorem Dev.tallyMerge_pcieRest (d : Dev) (c : Nat) (k : Coll) (e : Nat) (acc : Int) (v flags : Nat) : Keeps Dev.pcieRest d
    (d.tallyMerge c k e acc v flags) := by
  unfold Dev.tallyMerge
  exact .trans (.trans (pcieRest_of_same (Dev.tallyAny_same _ _)) (Dev.countHub_pcieRest _ _ _ _)) (pcieRest_of_same
      (Dev.setColl_same _ _ _))

theorem Dev.addWrite_pcieRest (d : Dev) (c i off : Nat) (data : List Nat) (be poisoned : Bool) : Keeps Dev.pcieRest d
    (d.addWrite c i off data be poisoned) := by
  unfold Dev.addWrite
  exact .ite (Dev.abortHere_pcieRest _ _ _) (.ite (Dev.abortHere_pcieRest _ _ _) (.ite (Dev.abortHere_pcieRest _ _ _)
      (.trans (.trans (.foldl _ (fun _ _ => .ite (Dev.tallyMerge_pcieRest _ _ _ _ _ _ _)
      (Dev.tallyMerge_pcieRest _ _ _ _ _ _ _)) _ _) (pcieRest_of_same (Dev.setColl_same _ _ _))) (pcieRest_of_same
      (Dev.checkComplete_same _ _)))))

theorem Dev.addPartial_pcieRest (d : Dev) (c i : Nat) (f : FPkt) : Keeps Dev.pcieRest d (d.addPartial c i f) := by
  unfold Dev.addPartial
  dsimp only
  refine .ite ?_ ?_
  · exact pcieRest_of_same (Dev.tallyDiscard_same _)
  · refine .ite ?_ ?_
    · exact Dev.abortHere_pcieRest _ _ _
    · refine .ite ?_ ?_
      · exact Dev.abortHere_pcieRest _ _ _
      · split
        · exact Dev.abortHere_pcieRest _ _ _
        · exact .trans (.foldl _ (fun _ _ => Dev.tallyMerge_pcieRest _ _ _ _ _ _ _) _ _) (pcieRest_of_same
            (Dev.setColl_same _ _ _))

theorem Dev.addDone_pcieRest (d : Dev) (c i : Nat) (f : FPkt) : Keeps Dev.pcieRest d (d.addDone c i f) := by
  unfold Dev.addDone
  exact .ite (pcieRest_of_same (Dev.tallyDiscard_same _)) (.ite (Dev.abortHere_pcieRest _ _ _) (.ite
      (Dev.abortHere_pcieRest _ _ _) (.ite (Dev.abortHere_pcieRest _ _ _) (.trans (pcieRest_of_same
      (Dev.setColl_same _ _ _)) (pcieRest_of_same (Dev.checkComplete_same _ _))))))

theorem Dev.tallyTake_pcieRest (d : Dev) (c : Nat) (h : HeldIn) : Keeps Dev.pcieRest d (d.tallyTake c h) := by
  unfold Dev.tallyTake
  dsimp only
  refine .ite ?_ ?_
  · exact pcieRest_of_same (Dev.tallyAny_same _ _)
  · split
    · split
      · exact .ite (Dev.addWrite_pcieRest _ _ _ _ _ _ _) (pcieRest_of_same (Dev.tallyDiscard_same _))
      · exact pcieRest_of_same (Dev.tallyDiscard_same _)
    · split
      · exact .ite (Dev.addPartial_pcieRest _ _ _ _) (Dev.addDone_pcieRest _ _ _ _)
      · exact pcieRest_of_same (Dev.tallyDiscard_same _)

theorem Dev.drainHold_pcieRest (d : Dev) (c : Nat) : Keeps Dev.pcieRest d (d.drainHold c) := by
  unfold Dev.drainHold
  exact .ite (.refl _ _) (.trans (pcieRest_of_same (Dev.tallyAny_same _ _)) (.foldl _
      (fun _ _ => Dev.tallyTake_pcieRest _ _ _) _ _))

theorem Dev.tallyMembers_pcieRest (d : Dev) (hit : Nat → Bool) (reason : Nat) : Keeps Dev.pcieRest d
    (d.tallyMembers hit reason) := by
  unfold Dev.tallyMembers
  exact .foldl _ (fun _ _ => .ite (.ite (.trans (.trans (.trans (.ite (Dev.tallyAbortAwaited_pcieRest _ _ _ _ _ _)
      (.refl _ _)) (Dev.tallyAbort_pcieRest _ _ _ _ _ _)) (pcieRest_of_same (Dev.setColl_same _ _ _)))
      (Dev.drainHold_pcieRest _ _)) (.ite (Dev.tallyAbortAwaited_pcieRest _ _ _ _ _ _) (.refl _ _))) (.refl _ _)) _ _

theorem Dev.prefetchDrop_pcieRest (d : Dev) (n : Nat) (ps : List (Nat × Nat)) : Keeps Dev.pcieRest d
    (d.prefetchDrop n ps) := by
  unfold Dev.prefetchDrop
  refine .foldl _ (fun e _ => ?_) _ _
  have hdrop (t : TravSt) (b : BndSt) : Keeps Dev.pcieRest e { e with trav := t, bnd := b } := .of_eq rfl
  exact .trans (.trans (hdrop _ _) (Dev.countHub_pcieRest _ _ _ _)) (Dev.once_pcieRest _ _ _
    (fun _ => pcieRest_of_pending (Dev.log_pending _ _ _ _)))

theorem Dev.fnQuiesceOne_pcieRest (d : Dev) (n : Nat) (removed : Bool) : Keeps Dev.pcieRest d (d.fnQuiesceOne n removed) := by
  unfold Dev.fnQuiesceOne
  exact .trans (.trans (.trans (.trans (.trans (pcieRest_of_same (Dev.dropFnPackets_same _ _))
      (Dev.prefetchDrop_pcieRest _ _ _)) (pcieRest_of_same (Dev.travAny_same _ _))) (.foldl _ (fun _ _ => .trans
      (pcieRest_of_same (Dev.trRetire_same _ _ _)) (pcieRest_of_same (Dev.travAny_same _ _))) _ _)) (.foldl _
      (fun _ _ => pcieRest_of_same (Dev.queueOff_same _ _)) _ _)) (Dev.pcieAny_pcieRest _ _ rfl)

theorem Dev.fnQuiesce_pcieRest (d : Dev) (ns : List Nat) (removed : Bool) (reason : Nat) : Keeps Dev.pcieRest d
    (d.fnQuiesce ns removed reason) := by
  unfold Dev.fnQuiesce
  exact .ite (.ite (pcieRest_of_same (Dev.travAny_same _ _)) (.refl _ _)) (.trans (.trans (.ite (pcieRest_of_same
      (Dev.travAny_same _ _)) (.refl _ _)) (Dev.tallyMembers_pcieRest _ _ _)) (.foldl _
      (fun _ _ => Dev.fnQuiesceOne_pcieRest _ _ _) _ _))

theorem Dev.parentQuiesce_pcieRest (d : Dev) (q reason : Nat) : Keeps Dev.pcieRest d (d.parentQuiesce q reason) := by
  unfold Dev.parentQuiesce
  exact .ite (.trans (Dev.fnQuiesce_pcieRest _ _ _ _) (Dev.fnQuiesce_pcieRest _ _ _ _)) (Dev.fnQuiesce_pcieRest _ _ _ _)

theorem Dev.svcReset_pcieRest (d : Dev) (q reason : Nat) : Keeps Dev.pcieRest d (d.svcReset q reason) := by
  unfold Dev.svcReset
  exact .ite (.trans (Dev.parentQuiesce_pcieRest _ _ _) (pcieRest_of_same (Dev.resetJob_same _ _))) (.trans (.trans
      (Dev.parentQuiesce_pcieRest _ _ _) (pcieRest_of_same (Dev.resetJob_same _ _))) (Dev.pcieAny_pcieRest _ _ rfl))

theorem Dev.resetBelow_pcieRest (d : Dev) (q : Nat) : Keeps Dev.pcieRest d (d.resetBelow q) := by
  unfold Dev.resetBelow
  exact .trans (.foldl _ (fun _ _ => .ite (pcieRest_of_same (Dev.flrAssigned_same _ _ _))
      (Dev.commandLink_pcieRest _ _ _)) _ _) (Dev.svcReset_pcieRest _ _ _)

end Sys2Proof.Machine

/-! PROOF. PERST_N (Table 3.1): which partition resets it starts and ends. -/

namespace Sys2Proof.Machine

-- One theorem at a time, as in the tests: many at once would ask for more threads than the sandbox gives.
set_option Elab.async false

theorem partReset_of_rest {d e : Dev} (h : Keeps Dev.pcieRest d e) : e.pcie.partReset = d.pcie.partReset :=
  show e.pcieRest.partReset = d.pcieRest.partReset from congrArg PcieSt.partReset h

theorem Dev.clearCfg_partReset (d : Dev) (hit : Nat → Bool) :
    (d.clearCfg hit).pcie.partReset = d.pcie.partReset := rfl

/-- The beginning of a partition reset notes its cause; whatever else it does leaves the causes alone. -/
theorem Dev.partResetBegin_partReset (d : Dev) (q cause : Nat) :
    (d.partResetBegin q cause).pcie.partReset = d.pcie.partReset.upd q (fun v => setBit v cause) := by
  unfold Dev.partResetBegin
  extract_lets up first src d1 d2 d3 opened d4 d5
  have hlink : Keeps Dev.pcieRest d1 (if (d1.pport up).dlActive then d1.commandLink up 1 else d1) :=
    .ite (Dev.commandLink_pcieRest _ _ _) (.refl _ _)
  have h2 : d2.pcie.partReset = d1.pcie.partReset := partReset_of_rest (hlink.trans (Dev.resetBelow_pcieRest _ _))
  have h4 : Keeps Dev.pcieRest d3 d4 := .foldl _ (fun _ _ => pcieRest_of_same (Dev.trRetire_same _ _ _)) _ _
  have h5 : Keeps Dev.pcieRest d4 d5 := .foldl _ (fun _ _ => Dev.setPport_pcieRest _ _ _) _ _
  split
  · rfl
  · exact ((partReset_of_rest (h4.trans h5)).trans (Dev.clearCfg_partReset _ _)).trans h2

/-- The end of a partition reset takes its cause away. -/
theorem Dev.partResetEnd_partReset (d : Dev) (q cause : Nat) :
    (d.partResetEnd q cause).pcie.partReset = if bitAt (d.pcie.partReset.rd q) cause
      then d.pcie.partReset.upd q (fun v => clrBit v cause) else d.pcie.partReset := by
  unfold Dev.partResetEnd
  extract_lets src d1
  cases hb : bitAt (d.pcie.partReset.rd q) cause
  · rfl
  · have hend : Keeps Dev.pcieRest d1 (if d1.pcie.partReset.rd q = 0 then
        ((d1.downPorts q).filter (fun p => !d1.isShared p)).foldl (fun e p => e.commandLink p 1) (d1.commandLink (d1.run.part.rd q).upstream 1)
      else d1) :=
      .ite (.trans (Dev.commandLink_pcieRest _ _ _) (.foldl _ (fun _ _ => Dev.commandLink_pcieRest _ _ _) _ _)) (.refl _ _)
    exact partReset_of_rest hend

/-- Cause `c` of the reset of partition `q`. -/
def Dev.resetCauseBit (d : Dev) (c q : Nat) : Bool := bitAt (d.pcie.partReset.rd q) c

theorem Dev.partResetBegin_resetCauseBit (d : Dev) (r c q : Nat) :
    (d.partResetBegin r c).resetCauseBit c q = (d.resetCauseBit c q || q == r) := by
  unfold Dev.resetCauseBit
  rw [Dev.partResetBegin_partReset]
  by_cases h : q = r
  · simp [h, bitAt_setBit_same]
  · simp [h, Tab.rd_upd_other]

theorem Dev.partResetEnd_resetCauseBit (d : Dev) (r c q : Nat) :
    (d.partResetEnd r c).resetCauseBit c q = (d.resetCauseBit c q && q != r) := by
  unfold Dev.resetCauseBit
  rw [Dev.partResetEnd_partReset]
  by_cases h : q = r
  · subst h
    cases hb : bitAt (d.pcie.partReset.rd q) c <;> simp [hb, bitAt_clrBit_same]
  · split <;> simp [h, Tab.rd_upd_other]

theorem foldl_partResetBegin_resetCauseBit (l : List Nat) (d : Dev) (c q : Nat) :
    (l.foldl (fun e r => e.partResetBegin r c) d).resetCauseBit c q = (d.resetCauseBit c q || l.contains q) := by
  induction l generalizing d with
  | nil => simp
  | cons r l ih => rw [List.foldl_cons, ih, Dev.partResetBegin_resetCauseBit, List.contains_cons, Bool.or_assoc]

theorem foldl_partResetEnd_resetCauseBit (l : List Nat) (d : Dev) (c q : Nat) :
    (l.foldl (fun e r => e.partResetEnd r c) d).resetCauseBit c q = (d.resetCauseBit c q && !l.contains q) := by
  induction l generalizing d with
  | nil => simp
  | cons r l ih =>
    rw [List.foldl_cons, ih, Dev.partResetEnd_resetCauseBit, List.contains_cons, Bool.not_or, Bool.and_assoc]
    rfl

theorem Dev.mem_tilePartitions (d : Dev) (t q : Nat) :
    q ∈ d.tilePartitions t ↔ q < 24 ∧ (d.run.part.rd q).present = true ∧ portTile (d.run.part.rd q).upstream = t := by
  simp [Dev.tilePartitions]

theorem perstNFall_of_run {d : Dev} {t : Fin 9} (hacts : d.perstActs = true) (h : bitAt d.mode.perst t.val = true)
    (ht : t.val < d.tiles) : perstNFall t d = (d.tilePartitions t.val).foldl (fun e q => e.partResetBegin q 0)
      { d with mode.perst := clrBit d.mode.perst t.val } := by
  have hlow : Dev.perstActs { d with mode.perst := clrBit d.mode.perst t.val } = true := hacts
  rw [perstNFall, if_neg (by simp [h, ht])]
  exact if_pos hlow

theorem perstNRise_of_run {d : Dev} {t : Fin 9} {straps : Fin 8} (hacts : d.perstActs = true)
    (h : bitAt d.mode.perst t.val = false) (ht : t.val < d.tiles) : perstNRise t straps d =
      (d.tilePartitions t.val).foldl (fun e q => e.partResetEnd q 0) { d with mode.perst := setBit d.mode.perst t.val } := by
  have hhigh : Dev.perstActs { d with mode.perst := setBit d.mode.perst t.val } = true := hacts
  rw [perstNRise, if_neg (by simp [h, ht])]
  exact if_pos hhigh

/-- PERST_N_T0 rises while it alone can hold M0: AUTH_SEL is sampled anew (R77). -/
theorem perstNRise_of_held {d : Dev} {straps : Fin 8} (hh : Dev.held { d with mode.perst := setBit d.mode.perst 0 } = true)
    (hm : d.mode.perstM0 = true) (h : bitAt d.mode.perst 0 = false) (ht : 0 < d.tiles) : perstNRise 0 straps d =
      (Dev.sampleStraps { d with mode.perst := setBit d.mode.perst 0 } straps.val).tryRelease := by
  obtain ⟨hbase, -⟩ := (Dev.held_iff _).1 hh
  have hhigh : Dev.perstActs { d with mode.perst := setBit d.mode.perst 0 } = false := by
    simpa [Dev.perstActs, Dev.inRun, Mode.isRun] using fun h => by simp_all
  rw [perstNRise, if_neg (by simp [h, Nat.ne_of_gt ht])]
  simp only [Fin.val_zero, hhigh, Bool.false_eq_true, if_false, if_true, Dev.perstT0Rise]
  rw [if_pos hh, if_pos hm]

theorem Dev.perstActs_of_run {d : Dev}
    (h : d.mode.base = .m3 ∨ d.mode.base = .m4 ∨ d.mode.base = .m5 ∨ d.mode.base = .m7) : d.perstActs = true := by
  obtain h | h | h | h := h <;> simp [Dev.perstActs, Dev.inRun, Mode.isRun, h]

/-- Filtering away every entry of an index makes it read as its default. -/
theorem Tab.rd_filter_of_false {α : Type} [Inhabited α] (t : Tab α) (p : Nat → Bool) (i : Nat) (h : p i = false) :
    Tab.rd (t.filter (fun x => p x.1)) i = default := by
  induction t with
  | nil => rfl
  | cons x t ih =>
    obtain ⟨k, v⟩ := x
    by_cases hk : k = i
    · simpa [hk, h] using ih
    · cases hp : p k
      · simpa [hp] using ih
      · simpa [hp, Tab.rd, Tab.rdD, hk] using ih

/-- A reset of the management endpoint of the anchor leaves its configuration space at reset. -/
theorem Dev.endpointReset_cfg (d : Dev) {w : Nat} (hw : w < 1024) :
    d.endpointReset.pcie.cfg.rd (cfgKey (fnMgmt 0) w) = 0 := by
  refine Tab.rd_filter_of_false _ (fun k => !(k / 1024 == fnMgmt 0)) _ ?_
  simp only [cfgKey, Bool.not_eq_false', beq_iff_eq]
  omega

/-- Settles O4. -/
theorem perstActs : Obligations.PerstActs := by
  unfold Obligations.PerstActs
  refine fun s t straps ht => ⟨fun hp hb h0 ha => Gives.of_onDev rfl ?enters, fun hp hb h0 ha => Gives.of_onDev rfl ?ignored,
    fun hp hb => Gives.of_onDev rfl ?m6, fun hp hb => Gives.of_onDev rfl ?run, fun hp hb => Gives.of_onDev rfl ?m10,
    fun hp hb => Gives.of_onDev rfl ?rise, fun hp h0 hh hm hw he hr hd => Gives.of_onDev rfl ?release,
    fun hp hb => Gives.of_onDev rfl ?m6rise⟩
  case enters =>
    rw [perstNFall, if_neg (by simp [hp, ht])]
    subst h0
    obtain hb | hb := hb <;>
      simp [hb, Dev.perstActs, Dev.inRun, Mode.isRun, Dev.perstT0M0, ModeSt.perstHolds, ha, Dev.sameCause, Dev.held, bitAt_clrBit_same, Dev.enterM0, ModeSt.enterM0, Lost]
  case ignored =>
    rw [perstNFall, if_neg (by simp [hp, ht])]
    subst h0
    obtain hb | hb := hb <;>
      simp [hb, Dev.perstActs, Dev.inRun, Mode.isRun, Dev.perstT0M0, ModeSt.perstHolds, ha]
  case m6 =>
    rw [perstNFall, if_neg (by simp [hp, ht])]
    simp [hb, Dev.perstActs, Dev.perstT0M0, Dev.held, Dev.sameCause]
  case run =>
    have hbegin := SameBut.foldl _ (fun e q => Dev.partResetBegin_same e q 0) (s.dev.tilePartitions t.val)
      { s.dev with mode.perst := clrBit s.dev.mode.perst t.val }
    rw [perstNFall_of_run (Dev.perstActs_of_run hb) hp ht]
    refine ⟨hbegin.mode, hbegin.run, hbegin.part, fun q hq hpres hup => ?_⟩
    refine (foldl_partResetBegin_resetCauseBit _ _ 0 q).trans ?_
    simp [Dev.mem_tilePartitions, hq, hpres, hup]
  case m10 =>
    rw [perstNFall, if_neg (by simp [hp, ht])]
    have hno : Dev.perstActs { s.dev with mode.perst := clrBit s.dev.mode.perst t.val } = false := by
      simp [Dev.perstActs, Dev.inRun, Mode.isRun, hb]
    have hperst : SameBut [.mode, .pcie] s.dev { s.dev with mode.perst := clrBit s.dev.mode.perst t.val } :=
      (Dev.modeAny_same _ _).mono (by decide)
    rw [if_neg (by simp [hno]), if_pos (by simp [hb])]
    refine ⟨by split <;> rfl, fun hpres hup w hw => ?_, .ite (hperst.then (Dev.endpointReset_same _)) hperst⟩
    rw [if_pos]
    · exact Dev.endpointReset_cfg _ hw
    · simp [Dev.mem_tilePartitions, hpres, hup]
  case rise =>
    have hend := SameBut.foldl _ (fun e q => Dev.partResetEnd_same e q 0) (s.dev.tilePartitions t.val)
      { s.dev with mode.perst := setBit s.dev.mode.perst t.val }
    rw [perstNRise_of_run (Dev.perstActs_of_run hb) hp ht]
    refine ⟨hend.mode, hend.run, fun q hq hpres hup => ?_⟩
    refine (foldl_partResetEnd_resetCauseBit _ _ 0 q).trans ?_
    simp [Dev.mem_tilePartitions, hq, hpres, hup]
  case release =>
    subst h0
    have hheld : Dev.held { s.dev with mode.perst := setBit s.dev.mode.perst 0 } = true := hh
    have hmode := Dev.sampleStraps_release (straps := straps) hheld hw he hr hd
    have hsame := Dev.sampleStraps_release_same { s.dev with mode.perst := setBit s.dev.mode.perst 0 } straps.val
    rw [perstNRise_of_held hheld hm hp ht]
    refine ⟨?_, ?_, ?_, ?_, (SameBut.mono (Dev.modeAny_same _ _) (by decide)).trans hsame⟩ <;>
      rw [hmode] <;> simp [bitAt_setBit_same]
  case m6rise =>
    rw [perstNRise, if_neg (by simp [hp, ht])]
    simp [hb, Dev.perstActs, Dev.perstT0Rise, Dev.held]

end Sys2Proof.Machine

/-! PROOF. The Plat loader: what its operations leave alone, and its obligations (R62 to R73, R91). -/

namespace Sys2Proof.Machine

-- One theorem at a time, as in the tests: many at once would ask for more threads than the sandbox gives.
set_option Elab.async false

/-! ### Frames of the loader -/

theorem Dev.declineHolder_same (d : Dev) : SameBut [.nb] d d.declineHolder := by
  unfold Dev.declineHolder
  dsimp only
  split
  · exact .mono (Dev.nbAny_same _ _) (by decide)
  · exact .refl _ _

theorem Dev.platStart_same (d : Dev) (p : CmdPort) : SameBut (.plat :: .nb :: recordBlocks) d (d.platStart p) := by
  unfold Dev.platStart
  exact .ite (.ite (.then (.then (.mono (Dev.declineHolder_same _) (by decide)) (Dev.platAny_same _ _))
      (Dev.log_same _ _ _ _)) (.mono (Dev.platAny_same _ _) (by decide))) (.mono (Dev.log_same _ _ _ _) (by decide))

theorem Dev.sendNeighbour_same (d : Dev) (pair type offset : Nat) (body : List Nat) : SameBut [] d
    (d.sendNeighbour pair type offset body) := by
  unfold Dev.sendNeighbour
  exact .mono (Dev.emit_same _ _) (by decide)

theorem Dev.sendResult_same (d : Dev) (state : Nat) : SameBut [.nb] d (d.sendResult state) := by
  unfold Dev.sendResult
  dsimp only
  split
  · exact .then (.mono (Dev.nbAny_same _ _) (by decide)) (Dev.sendNeighbour_same _ _ _ _ _)
  · exact .refl _ _

theorem Dev.platReject_same (d : Dev) (r : Reject) : SameBut (.plat :: .nb :: recordBlocks) d (d.platReject r) := by
  unfold Dev.platReject
  exact .ite (.then (.then (.mono (Dev.log_same _ _ _ _) (by decide)) (Dev.platAny_same _ _)) (Dev.platAny_same _ _)) (.then
      (.then (.then (.mono (Dev.log_same _ _ _ _) (by decide)) (Dev.platAny_same _ _)) (Dev.platAny_same _ _))
      (Dev.sendResult_same _ _))

theorem Dev.platStop_same (d : Dev) (code : Nat) : SameBut (.plat :: .nb :: recordBlocks) d (d.platStop code) := by
  unfold Dev.platStop
  exact .mono (Dev.platReject_same _ _) (by decide)

theorem Dev.clearDest_same (d : Dev) : SameBut [.plat, .run, .nb, .cores, .fab, .bnd] d d.clearDest := by
  unfold Dev.clearDest
  exact by simp [sameBut_iff]

/-- The device whose destinations are clear (R71). -/
def Dev.cleared (d : Dev) : Dev :=
  { d.clearDest with plat.clearing := false, plat.state := .rejected,
                     mode.base := if d.clearDest.mode.base == .m2 then .m1 else d.clearDest.mode.base }

theorem Dev.cleared_same (d : Dev) : SameBut [.mode, .plat, .run, .nb, .cores, .fab, .bnd] d d.cleared := by
  have hdest : SameBut [.mode, .plat, .run, .nb, .cores, .fab, .bnd] d d.clearDest := .mono (Dev.clearDest_same d) (by decide)
  refine hdest.trans ?_
  simp [sameBut_iff, Dev.cleared]

theorem clearingDone_of_clearing {d : Dev} (h : d.plat.clearing = true) :
    clearingDone d = (d.watchMode Dev.cleared).sendResult 5 := if_pos h

theorem clearingDone_same (d : Dev) : SameBut [.mode, .plat, .run, .nb, .cores, .pcie, .fab, .bnd, .evt] d
    (clearingDone d) := by
  cases h : d.plat.clearing
  · rw [clearingDone, if_neg (by simp [h])]
    exact .refl _ _
  · rw [clearingDone_of_clearing h]
    exact .then (Dev.watchMode_same _ _ (.mono (Dev.cleared_same _) (by decide)) (by decide) (by decide))
      (Dev.sendResult_same _ _)

theorem Dev.platBufferWrite_same (d : Dev) (p : CmdPort) (off : Nat) (bs : List Nat) : SameBut
    (.plat :: .nb :: recordBlocks) d (d.platBufferWrite p off bs) := by
  unfold Dev.platBufferWrite
  exact .ite (.refl _ _) (.ite (.mono (Dev.platStop_same _ _) (by decide)) (.mono (Dev.platAny_same _ _) (by decide)))

theorem Dev.platHandover_same (d : Dev) (p : CmdPort) (len : Nat) : SameBut (.mode :: .plat :: .nb :: recordBlocks) d
    (d.platHandover p len) := by
  unfold Dev.platHandover
  exact .ite (.ite (.mono (Dev.log_same _ _ _ _) (by decide)) (.refl _ _)) (.ite (.mono (Dev.platStop_same _ _) (by decide))
      (.ite (.refl _ _) (.ite (.mono (Dev.platStop_same _ _) (by decide)) (Dev.watchMode_same _ _ (by simp [sameBut_iff]) (by decide) (by decide)))))

theorem Dev.applyRules_same (d : Dev) (table : Nat) (es : List (Nat × Rule)) : SameBut [.bnd] d (d.applyRules table es) := by
  unfold Dev.applyRules
  exact .mono (Dev.bndAny_same _ _) (by decide)

theorem Dev.applyLoad_same (d : Dev) (s : PlatSec) : SameBut [.fab, .bnd] d (d.applyLoad s) := by
  unfold Dev.applyLoad
  exact .ite (.mono (Dev.fabAny_same _ _) (by decide)) (.ite (.mono (Dev.fabAny_same _ _) (by decide)) (.ite (.mono
      (Dev.fabAny_same _ _) (by decide)) (.ite (.mono (Dev.fabAny_same _ _) (by decide)) (.mono (Dev.applyRules_same _ _ _)
      (by decide)))))

theorem Dev.setSide_same (d : Dev) (s : Nat) (f : NeighbourSide → NeighbourSide) : SameBut [.nb] d (d.setSide s f) := by
  unfold Dev.setSide
  exact .ite (.mono (Dev.nbAny_same _ _) (by decide)) (.mono (Dev.nbAny_same _ _) (by decide))

theorem Dev.writeSection_same (d : Dev) (s : PlatSec) : SameBut [.plat, .run, .nb, .cores, .fab, .bnd] d
    (d.writeSection s) := by
  unfold Dev.writeSection
  exact .ite (.then (.mono (Dev.runAny_same _ _) (by decide)) (Dev.setCore_same _ _ _)) (.ite (.ite (.then (.mono
      (Dev.applyLoad_same _ _) (by decide)) (Dev.bndAny_same _ _)) (.mono (Dev.applyLoad_same _ _) (by decide))) (.ite
      (.mono (Dev.setSide_same _ _ _) (by decide)) (.mono (Dev.platAny_same _ _) (by decide))))

theorem Dev.passSection_same (d : Dev) (sec : PlatSec) : SameBut [.plat, .run, .nb, .cores, .fab, .bnd] d
    (d.passSection sec) := by
  unfold Dev.passSection
  exact .ite (.then (.mono (Dev.platAny_same _ _) (by decide)) (Dev.writeSection_same _ _)) (.mono (Dev.platAny_same _ _)
      (by decide))

theorem Dev.walk_same (d : Dev) (n : Nat) : SameBut [.plat, .run, .nb, .cores, .fab, .bnd] d (d.walk n).1 := by
  induction n generalizing d with
  | zero => exact .refl _ _
  | succ n ih =>
    unfold Dev.walk
    dsimp only
    refine .ite_fst (.refl _ _) (.ite_fst (.refl _ _) ?_)
    split
    · exact .refl _ _
    · exact (Dev.passSection_same _ _).trans (ih _)

theorem Dev.checkArrived_same (d : Dev) : SameBut [.plat, .run, .nb, .cores, .fab, .bnd] d d.checkArrived.1 := by
  unfold Dev.checkArrived
  dsimp only
  refine .ite_fst ?_ ?_
  · exact .mono (Dev.walk_same _ _) (by decide)
  · refine .ite_fst ?_ ?_
    · exact .refl _ _
    · split
      · exact .refl _ _
      · exact .then (.mono (Dev.platAny_same _ _) (by decide)) (Dev.walk_same _ _)

theorem Dev.startStaging_same (d : Dev) : SameBut (.plat :: .jobs :: recordBlocks) d d.startStaging := by
  unfold Dev.startStaging
  exact .then (.then (.then (.mono (Dev.platAny_same _ _) (by decide)) (Dev.log_same _ _ _ _)) (Dev.startInternal_same _ _))
      (Dev.platAny_same _ _)

theorem Dev.platFinish_same (d : Dev) : SameBut (.plat :: .nb :: .jobs :: recordBlocks) d d.platFinish := by
  unfold Dev.platFinish
  dsimp only
  split
  · exact .mono (Dev.platReject_same _ _) (by decide)
  · exact .ite (.then (.mono (Dev.platAny_same _ _) (by decide)) (Dev.startStaging_same _)) (.mono (Dev.platAny_same _ _)
      (by decide))

theorem bufferFree_same (d : Dev) : SameBut (.plat :: .run :: .nb :: .jobs :: .cores :: .fab :: .bnd :: recordBlocks) d
    (bufferFree d) := by
  unfold bufferFree
  dsimp only
  refine .ite ?_ ?_
  · exact .refl _ _
  · split
    · exact .then (.then (.mono (Dev.platAny_same _ _) (by decide)) (Dev.checkArrived_same _)) (Dev.platReject_same _ _)
    · refine .ite ?_ ?_
      · refine .then ?_ (Dev.platFinish_same _)
        split
        · exact .then (.then (.then (.mono (Dev.platAny_same _ _) (by decide)) (Dev.checkArrived_same _))
            (Dev.platAny_same _ _)) (Dev.sendNeighbour_same _ _ _ _ _)
        · exact .then (.then (.mono (Dev.platAny_same _ _) (by decide)) (Dev.checkArrived_same _)) (Dev.platAny_same _ _)
      · split
        · exact .then (.then (.then (.mono (Dev.platAny_same _ _) (by decide)) (Dev.checkArrived_same _))
            (Dev.platAny_same _ _)) (Dev.sendNeighbour_same _ _ _ _ _)
        · exact .then (.then (.mono (Dev.platAny_same _ _) (by decide)) (Dev.checkArrived_same _)) (Dev.platAny_same _ _)

theorem Dev.platEnd_same (d : Dev) (p : CmdPort) : SameBut (.plat :: .nb :: .jobs :: recordBlocks) d (d.platEnd p) := by
  unfold Dev.platEnd
  exact .ite (.ite (.then (.mono (Dev.platAny_same _ _) (by decide)) (Dev.platFinish_same _)) (.mono (Dev.platAny_same _ _)
      (by decide))) (.refl _ _)

theorem Dev.platAbort_same (d : Dev) (p : CmdPort) : SameBut (.plat :: .nb :: recordBlocks) d (d.platAbort p) := by
  unfold Dev.platAbort
  exact .ite (.mono (Dev.platStop_same _ _) (by decide)) (.refl _ _)

theorem claimTimeout_same (d : Dev) : SameBut [.plat, .nb] d (claimTimeout d) := by
  unfold claimTimeout
  exact .ite (by simp [sameBut_iff]) (.refl _ _)

theorem streamTimeout_same (d : Dev) : SameBut (.plat :: .nb :: recordBlocks) d (streamTimeout d) := by
  unfold streamTimeout
  exact .ite (.mono (Dev.platStop_same _ _) (by decide)) (.refl _ _)

theorem platAccepted_same (d : Dev) : SameBut (.mode :: .plat :: .run :: .nb :: recordBlocks) d (platAccepted d) := by
  unfold platAccepted
  exact .ite (.then (.then (by simp [sameBut_iff]) (Dev.log_same _ _ _ _)) (Dev.sendResult_same _ _))
      (.refl _ _)

/-! ### Records -/

/-- A record at or above the filter, for which the writer queue has an entry, is queued (R430, R431). -/
theorem Dev.log_records_of_room {d : Dev} {sev : Nat} (code : Nat) (a : RecArgs) (hs : d.cairn.minSeverity ≤ sev)
    (hr : d.cairn.hasEntry sev = true) : Records (d.log code sev a) code sev := by
  simp [Records, Dev.log, Dev.enqueue, Nat.not_lt.2 hs, hr]

/-! ### PLAT_CTRL and START (R66, R67) -/

theorem platCtrl_write {d : Dev} {p : CmdPort} {v : Nat} (h : WritePasses d p 0x20000 v) (hv : v < 2 ^ 32) :
    d.write4 p 0x20000 v = (d.countMgmt 0x74 p.code 1).writePlatCtrl p 0x20000 v := by
  rw [Dev.write4_word h (by simp [Dev.regAttr, Dev.platAttr, attrWO]) hv]
  simp [Dev.regWrite, Dev.platWrite]

theorem platStart_eq {d : Dev} {p : CmdPort} (h : WritePasses d p 0x20000 1) :
    platStart p d = (d.countMgmt 0x74 p.code 1).platStart p := platCtrl_write h (by decide)

theorem platEnd_eq {d : Dev} {p : CmdPort} (h : WritePasses d p 0x20000 2) :
    platEnd p d = (d.countMgmt 0x74 p.code 1).platEnd p := platCtrl_write h (by decide)

theorem platAbort_eq {d : Dev} {p : CmdPort} (h : WritePasses d p 0x20000 4) :
    platAbort p d = (d.countMgmt 0x74 p.code 1).platAbort p := platCtrl_write h (by decide)

@[simp] theorem Dev.countMgmt_startRefusal (d : Dev) (ev n v : Nat) (p : CmdPort) :
    (d.countMgmt ev n v).startRefusal p = d.startRefusal p :=
  Dev.countMgmt_fun (fun d => d.startRefusal p) d ev n v (fun _ _ _ _ => rfl)

/-- An accepted START begins a load for the port, whether or not it takes over a claim of the same cycle. -/
theorem Dev.platStart_plat {d : Dev} {p : CmdPort} (h : (d.startRefusal p).1 = 0) :
    (d.platStart p).plat = d.plat.begin_ p d.mclk := by
  unfold Dev.platStart
  dsimp only
  rw [if_pos h]
  split
  · exact Dev.log_plat _ _ _ _
  · rfl

theorem Dev.platStart_same_of_free {d : Dev} {p : CmdPort} (h : (d.startRefusal p).1 = 0) (hc : d.plat.claim = none) :
    SameBut [.plat] d (d.platStart p) := by
  unfold Dev.platStart
  dsimp only
  rw [if_pos h, hc]
  exact d.platAny_same _

theorem Dev.platStart_of_refused {d : Dev} {p : CmdPort} (h : (d.startRefusal p).1 ≠ 0) :
    d.platStart p = d.log 0x042 (d.startRefusal p).2 { part := p.partition, port := p.code, detail := [(d.startRefusal p).1] } :=
  if_neg h

/-- Settles O9. -/
theorem platStartObligation : Obligations.PlatStart := by
  unfold Obligations.PlatStart
  intro s p right
  refine ⟨fun hr => ?denied, fun hr hc ho => ?busy, fun hr hc hm => ?mode, fun hr hc h2 hx h10 => ?accepted,
    fun hw h0 => Gives.of_onDev rfl ?starts, fun hw h0 => Gives.of_onDev rfl ?refused⟩
  case denied => exact if_pos (by simpa [right] using hr)
  case busy =>
    rw [Dev.startRefusal, if_neg (by simpa [right] using hr), if_pos (by simp [hc, ho])]
  case mode =>
    rw [Dev.startRefusal, if_neg (by simpa [right] using hr), if_neg (by simp [hc])]
    exact if_pos (by simpa [or_assoc] using hm)
  case accepted =>
    rw [Dev.startRefusal, if_neg (by simpa [right] using hr), if_neg (by simp [hc])]
    exact if_neg (by simp [h2, hx, h10])
  case starts =>
    have h0' : ((s.dev.countMgmt 0x74 p.code 1).startRefusal p).1 = 0 := by simpa using h0
    have hplat := Dev.platStart_plat h0'
    rw [platStart_eq hw]
    refine ⟨?_, ?_, ?_, ?_, ?_, ?_, ?_, fun hc => Dev.counted_then ((Dev.platStart_same_of_free h0' (by simpa using hc)).mono (by decide)),
      Dev.counted_then (Dev.platStart_same _ _)⟩ <;>
      simp [hplat, PlatSt.begin_]
  case refused =>
    have h0' : ((s.dev.countMgmt 0x74 p.code 1).startRefusal p).1 ≠ 0 := by simpa using h0
    rw [platStart_eq hw, Dev.platStart_of_refused h0', Dev.countMgmt_startRefusal]
    exact ⟨fun hs hroom => Dev.log_records_of_room _ _ (by simpa using hs) (by simpa using hroom),
      Dev.counted_then (Dev.log_same _ _ _ _)⟩

end Sys2Proof.Machine

/-! PROOF. PLAT_BUFFER and the handover of a chunk (R65, R66). -/

namespace Sys2Proof.Machine

-- One theorem at a time, as in the tests: many at once would ask for more threads than the sandbox gives.
set_option Elab.async false

/-! ### The buffer -/

theorem toLe_getD (n v i : Nat) (h : i < n) : (toLe n v).getD i 0 = v / 256 ^ i % 256 := by
  induction n generalizing v i with
  | zero => omega
  | succ n ih =>
    cases i with
    | zero => simp [toLe]
    | succ i =>
      rw [toLe, List.getD_cons_succ, ih _ _ (by omega), Nat.div_div_eq_div_mul, Nat.pow_succ']

theorem foldl_wr_rd (g : Nat → Nat) (off n : Nat) (t : Tab Nat) (a : Nat) :
    ((List.range n).foldl (fun t i => t.wr (off + i) (g i)) t).rd a = if off ≤ a ∧ a < off + n then g (a - off) else t.rd a := by
  induction n with
  | zero => exact (if_neg (by omega)).symm
  | succ n ih =>
    rw [List.range_succ, List.foldl_append, List.foldl_cons, List.foldl_nil]
    by_cases ha : a = off + n
    · subst ha
      simp
    · rw [Tab.rd_wr_other _ _ _ _ ha, ih]
      congr 1
      simp only [eq_iff_iff]
      omega

/-- The buffer after a write: the bytes where they were written, every other byte as before (R66). -/
theorem PlatSt.fill_rd (s : PlatSt) (off : Nat) (bs : List Nat) (a : Nat) :
    (s.fill off bs).buf.rd a = if off ≤ a ∧ a < off + bs.length then bs.getD (a - off) 0 % 256 else s.buf.rd a :=
  foldl_wr_rd _ _ _ _ _

theorem platBufferWrite_eq {d : Dev} {p : CmdPort} {off : Fin 65536} {v : Word}
    (h : WritePasses d p (0x30000 + off.val / 4 * 4) v.toNat) : platBufferWrite p off v d =
      (d.countMgmt 0x74 p.code 1).platBufferWrite p (off.val / 4 * 4) (toLe 4 v.toNat) := by
  have hoff : off.val / 4 * 4 < 0x10000 := by omega
  rw [platBufferWrite]
  generalize off.val / 4 * 4 = o at h hoff ⊢
  have h1 : ¬ 0x30000 + o < 0x20000 := by omega
  have h2 : 0x30000 + o < 0x40000 := by omega
  have h3 : 0x30000 + o - 0x20000 = 0x10000 + o := by omega
  have hattr : (d.regAttr p (0x30000 + o)).form ≠ .wide := by
    rw [Dev.regAttr, if_neg (by omega), if_neg h1, if_pos h2, h3, Dev.platAttr]
    simp only [if_neg (show ¬ 0x10000 + o = 0x0 by omega), if_neg (show ¬ 0x10000 + o = 0x8 by omega),
      if_neg (show ¬ 0x10000 + o = 0x4 by omega)]
    rw [if_neg (by omega), if_neg (by omega), if_pos (by omega)]
    exact fun h => nomatch h
  rw [Dev.write4_word h hattr v.isLt, Dev.regWrite, if_neg (by omega), if_neg h1, if_pos h2, h3, Dev.platWrite,
    if_neg (by omega), if_neg (by omega), if_pos (by omega), Nat.add_sub_cancel_left]

theorem chunkHandover_eq {d : Dev} {p : CmdPort} {len : Fin 131072} (h : WritePasses d p 0x20008 len.val) :
    chunkHandover p len d = (d.countMgmt 0x74 p.code 1).platHandover p len.val := by
  have hlen : fld len.val 0 17 = len.val := by simp [fld, Nat.mod_eq_of_lt len.isLt]
  rw [chunkHandover, Dev.write4_word h (by simp [Dev.regAttr, Dev.platAttr, attrWO]) (Nat.lt_trans len.isLt (by decide))]
  simp [Dev.regWrite, Dev.platWrite, hlen]

/-- What leaves the mode apart, whatever STATUS_MODE shows: a change of it fires its event, and no more. -/
theorem Dev.watchMode_fires (d : Dev) (f : Dev → Dev) : SameBut [.evt, .pcie] (f d) (d.watchMode f) := by
  unfold Dev.watchMode
  exact .ite (.refl _ _) (Dev.fire_same _ _)

/-- The device that has taken a chunk of `len` bytes (R65). -/
def Dev.handedOver (len : Nat) (d : Dev) : Dev :=
  { d with plat := { d.plat with chunk := (List.range len).map (fun i => d.plat.buf.rd i), bufFree := false,
                                 handed := true, bytes := d.plat.bytes + len }
           mode.base := if d.mode.base == .m1 then .m2 else d.mode.base }

theorem Dev.platHandover_of_ok {d : Dev} {p : CmdPort} {len : Nat} (hp : d.holds p = true) (hs : d.plat.state = .receiving)
    (hf : d.plat.bufFree = true) (h8 : 8 ≤ len) (h64 : len ≤ 65536) (hm : len % 8 = 0) :
    d.platHandover p len = d.watchMode (Dev.handedOver len) := by
  rw [Dev.platHandover, if_neg (by simp [hp]), if_neg (by simp [hf]), if_neg (by simp [hs]), if_neg (by simp [hm]; omega)]
  rfl

/-- Settles O10. -/
theorem bufferAndHandover : Obligations.BufferAndHandover := by
  unfold Obligations.BufferAndHandover
  refine fun s p off v len => ⟨fun hw => ⟨fun hp hf => Gives.of_onDev rfl ?fills, fun hp => Gives.of_onDev rfl ?dropped⟩,
    fun hw hp hs hf h8 h64 hm => Gives.of_onDev rfl ?hands⟩
  case fills =>
    rw [platBufferWrite_eq hw, Dev.platBufferWrite, if_neg (by simpa [Dev.holds] using hp), if_neg (by simp [hf])]
    refine ⟨fun a => ?_, by simp [PlatSt.fill], Dev.counted_then (.mono (Dev.platAny_same _ _) (by decide))⟩
    refine (PlatSt.fill_rd _ _ _ _).trans ?_
    rw [length_toLe, Dev.countMgmt_plat]
    split
    · rw [toLe_getD _ _ _ (by omega), Nat.mod_mod]
    · rfl
  case dropped =>
    rw [platBufferWrite_eq hw, Dev.platBufferWrite, if_pos (by simpa [Dev.holds] using hp)]
    exact Dev.countMgmt_same _ _ _ _
  case hands =>
    have hfires := Dev.watchMode_fires (s.dev.countMgmt 0x74 p.code 1) (Dev.handedOver len.val)
    have hhand : SameBut (.plat :: .mode :: accessBlocks) (s.dev.countMgmt 0x74 p.code 1)
        (Dev.handedOver len.val (s.dev.countMgmt 0x74 p.code 1)) := by simp [sameBut_iff, Dev.handedOver]
    rw [chunkHandover_eq hw, Dev.platHandover_of_ok (by simpa [Dev.holds] using hp) (by simpa using hs) (by simpa using hf) h8 h64 hm]
    refine ⟨?_, ?_, ?_, ?_, ?_, Dev.counted_then (hhand.then hfires)⟩ <;>
      simp [hfires.plat, hfires.mode, Dev.handedOver]

end Sys2Proof.Machine

/-! PROOF. The checks of a chunk (R68, R69, R71): what they keep of the load. -/

namespace Sys2Proof.Machine

-- One theorem at a time, as in the tests: many at once would ask for more threads than the sandbox gives.
set_option Elab.async false

/-! ### What the checks keep -/

/-- What of a load the checks of a chunk never change: STATE, the bytes that have arrived, a waiting END and the holder. -/
def Dev.loading (d : Dev) : PlatState × List Nat × Bool × Option Nat := (d.plat.state, d.plat.img, d.plat.ended, d.nb.holder)

theorem loading_of_same {bs : List Block} {d e : Dev} (h : SameBut bs d e) (hb : .plat ∉ bs ∧ .nb ∉ bs := by decide) :
    Keeps Dev.loading d e := by
  rw [Keeps, Dev.loading, h.plat hb.1, h.nb hb.2, Dev.loading]

theorem Dev.setSide_loading (d : Dev) (k : Nat) (f : NeighbourSide → NeighbourSide) : Keeps Dev.loading d (d.setSide k f) := by
  unfold Dev.setSide
  exact .ite (.of_eq rfl) (.of_eq rfl)

theorem Dev.writeSection_loading (d : Dev) (s : PlatSec) : Keeps Dev.loading d (d.writeSection s) := by
  have hload : Keeps Dev.loading d (d.applyLoad s) := loading_of_same (Dev.applyLoad_same d s)
  unfold Dev.writeSection
  exact .ite ((loading_of_same (Dev.runAny_same d _)).trans (loading_of_same (Dev.setCore_same _ _ _)))
    (.ite (.ite (hload.trans (.of_eq rfl)) hload) (.ite (Dev.setSide_loading _ _ _) (.of_eq rfl)))

theorem Dev.passSection_loading (d : Dev) (sec : PlatSec) : Keeps Dev.loading d (d.passSection sec) := by
  unfold Dev.passSection
  exact .ite (.trans (.of_eq rfl) (Dev.writeSection_loading _ _)) (.of_eq rfl)

theorem Dev.walk_loading (d : Dev) (n : Nat) : Keeps Dev.loading d (d.walk n).1 := by
  induction n generalizing d with
  | zero => exact .refl _ _
  | succ n ih =>
    unfold Dev.walk
    dsimp only
    refine .ite_fst (.refl _ _) (.ite_fst (.refl _ _) ?_)
    split
    · exact .refl _ _
    · exact (Dev.passSection_loading _ _).trans (ih _)

theorem Dev.checkArrived_loading (d : Dev) : Keeps Dev.loading d d.checkArrived.1 := by
  unfold Dev.checkArrived
  dsimp only
  refine .ite_fst (Dev.walk_loading _ _) (.ite_fst (.refl _ _) ?_)
  split
  · exact .refl _ _
  · exact .trans (.of_eq rfl) (Dev.walk_loading _ _)

/-! ### Outside M2 nothing is written -/

theorem Dev.passSection_same_of_not_m2 {d : Dev} (h : d.mode.base ≠ .m2) (sec : PlatSec) : SameBut [.plat] d (d.passSection sec) := by
  rw [Dev.passSection, if_neg (by simpa using h)]
  exact Dev.platAny_same _ _

theorem Dev.walk_same_of_not_m2 {d : Dev} (h : d.mode.base ≠ .m2) (n : Nat) : SameBut [.plat] d (d.walk n).1 := by
  induction n generalizing d with
  | zero => exact .refl _ _
  | succ n ih =>
    unfold Dev.walk
    dsimp only
    refine .ite_fst (.refl _ _) (.ite_fst (.refl _ _) ?_)
    split
    · exact .refl _ _
    · have hpass := Dev.passSection_same_of_not_m2 h { type := leAt d.plat.img d.plat.nextOff 2, index := d.plat.nextIdx, offset := d.plat.nextOff, body := slice d.plat.img (d.plat.nextOff + 16) (leAt d.plat.img (d.plat.nextOff + 4) 4) }
      exact hpass.trans (ih (by rw [hpass.mode]; exact h))

theorem Dev.checkArrived_same_of_not_m2 {d : Dev} (h : d.mode.base ≠ .m2) : SameBut [.plat] d d.checkArrived.1 := by
  unfold Dev.checkArrived
  dsimp only
  refine .ite_fst (Dev.walk_same_of_not_m2 h _) (.ite_fst (.refl _ _) ?_)
  split
  · exact .refl _ _
  · refine (Dev.platAny_same d _).trans (Dev.walk_same_of_not_m2 ?_ _)
    exact h

/-! ### The first failure, and the clearing that follows it in M2 -/

/-- A rejection in M2 reports its code and begins the clearing (R71). -/
theorem Dev.platReject_of_m2 {d : Dev} (r : Reject) (h : d.mode.base = .m2) :
    let e := d.platReject r
    e.plat = { d.plat with reject := r, claim := none, bufFree := true, ended := false, chunk := [], clearing := true } ∧
      SameBut (.plat :: recordBlocks) d e := by
  have hlog := Dev.log_same d 0x041 5 { port := d.plat.source, detail := d.platDetail r }
  rw [Dev.platReject, if_pos (by simpa using h)]
  refine ⟨by simp, ?_⟩
  exact (hlog.mono (by decide)).trans (.then (.mono (Dev.platAny_same _ _) (by decide)) (Dev.platAny_same _ _))

/-- The device whose chunk has arrived at the checks. -/
def Dev.arrived (d : Dev) : Dev := { d with plat := { d.plat with img := d.plat.img ++ d.plat.chunk, chunk := [] } }

theorem bufferFree_of_pass {d : Dev} (hf : d.plat.bufFree = false) (hc : d.arrived.checkArrived.2 = none)
    (he : d.plat.ended = false) (hh : d.nb.holder = none) :
    bufferFree d = { d.arrived.checkArrived.1 with plat.bufFree := true } := by
  have hkeep : d.arrived.checkArrived.1.loading = d.arrived.loading := Dev.checkArrived_loading _
  have hended : d.arrived.checkArrived.1.plat.ended = false := (congrArg (·.2.2.1) hkeep).trans he
  have hholder : d.arrived.checkArrived.1.nb.holder = none := (congrArg (·.2.2.2) hkeep).trans hh
  rw [bufferFree, if_neg (by simp [hf])]
  dsimp only
  split
  · exact absurd (hc.symm.trans ‹_›) (by simp)
  · unfold Dev.arrived at hended hholder ⊢
    simp [hended, hholder]

theorem bufferFree_of_fail {d : Dev} {r : Reject} (hf : d.plat.bufFree = false) (hc : d.arrived.checkArrived.2 = some r) :
    bufferFree d = d.arrived.checkArrived.1.platReject r := by
  rw [bufferFree, if_neg (by simp [hf])]
  dsimp only
  split
  · rw [Option.some.inj (hc.symm.trans ‹_›)]
    rfl
  · exact absurd (hc.symm.trans ‹_›) (by simp)

/-- Settles O11. -/
theorem bufferChecked : Obligations.BufferChecked := by
  unfold Obligations.BufferChecked
  intro s hf d0
  have hkeep : d0.checkArrived.1.loading = s.dev.arrived.loading := Dev.checkArrived_loading _
  have hstate : d0.checkArrived.1.plat.state = s.dev.plat.state := congrArg (·.1) hkeep
  have himg : d0.checkArrived.1.plat.img = s.dev.plat.img ++ s.dev.plat.chunk := congrArg (·.2.1) hkeep
  have harrived : SameBut [.plat] s.dev d0 := Dev.platAny_same _ _
  refine ⟨fun hc he hh => Gives.of_onDev rfl ?pass, fun r hc hm => Gives.of_onDev rfl ?fail⟩
  case pass =>
    rw [bufferFree_of_pass hf hc he hh]
    refine ⟨rfl, himg, hstate, fun hm => ?_, ?_⟩
    · exact harrived.trans ((Dev.checkArrived_same_of_not_m2 (d := d0) hm).then (Dev.platAny_same _ _))
    · exact .trans (harrived.mono (by decide)) (.then (.mono (Dev.checkArrived_same _) (by decide)) (Dev.platAny_same _ _))
  case fail =>
    have hm' : d0.checkArrived.1.mode.base = .m2 := by rw [(Dev.checkArrived_same d0).mode]; exact hm
    obtain ⟨hplat, hsame⟩ := Dev.platReject_of_m2 r hm'
    rw [bufferFree_of_fail hf hc]
    refine ⟨congrArg (·.reject) hplat, congrArg (·.clearing) hplat, congrArg (·.claim) hplat,
      (congrArg (·.state) hplat).trans hstate, ?_⟩
    exact .trans (harrived.mono (by decide)) (.then (.mono (Dev.checkArrived_same _) (by decide)) hsame)

end Sys2Proof.Machine

/-! PROOF. The end of a load: END, ABORT, a broken stream, acceptance and the end of the clearing (R65 to R71, R84). -/

namespace Sys2Proof.Machine

-- One theorem at a time, as in the tests: many at once would ask for more threads than the sandbox gives.
set_option Elab.async false

theorem Dev.sendResult_sides (d : Dev) (k : Nat) :
    (d.sendResult k).nb.side0 = d.nb.side0 ∧ (d.sendResult k).nb.side1 = d.nb.side1 := by
  unfold Dev.sendResult
  split
  · simp [Dev.sendNeighbour]
  · simp

/-- A rejection outside M2 reads REJECTED at once (R69, R85). -/
theorem Dev.platReject_of_not_m2 {d : Dev} (r : Reject) (h : d.mode.base ≠ .m2) : (d.platReject r).plat =
    { d.plat with reject := r, claim := none, bufFree := true, ended := false, chunk := [], state := .rejected, secs := [] } := by
  rw [Dev.platReject, if_neg (by simpa using h), (Dev.sendResult_same _ _).plat]
  simp

/-- What every rejection reports, whatever the mode. -/
theorem Dev.platReject_reports (d : Dev) (r : Reject) :
    (d.platReject r).plat.reject = r ∧ (d.platReject r).plat.claim = none := by
  by_cases h : d.mode.base = .m2
  · obtain ⟨hplat, -⟩ := Dev.platReject_of_m2 r h
    exact ⟨congrArg (·.reject) hplat, congrArg (·.claim) hplat⟩
  · have hplat := Dev.platReject_of_not_m2 r h
    exact ⟨congrArg (·.reject) hplat, congrArg (·.claim) hplat⟩

@[simp] theorem Dev.countMgmt_endFail (d : Dev) (ev n v : Nat) (img : List Nat) (secs : List PlatSec) (bytes : Nat) :
    (d.countMgmt ev n v).endFail img secs bytes = d.endFail img secs bytes :=
  Dev.countMgmt_fun (fun d => d.endFail img secs bytes) d ev n v (fun _ _ _ _ => rfl)

/-- END waits while the buffer holds a chunk (R65). -/
theorem Dev.platEnd_of_busy {d : Dev} {p : CmdPort} (hp : d.holds p = true) (hs : d.plat.state = .receiving)
    (hf : d.plat.bufFree = false) : d.platEnd p = { d with plat := { d.plat with state := .validating, ended := true } } := by
  simp [Dev.platEnd, hp, hs, hf]

theorem Dev.platFinish_of_pass {d : Dev} (hh : d.plat.headerOk = true) (ha : d.plat.isAmend = false)
    (hc : d.endFail d.plat.img d.plat.secs d.plat.bytes = none) :
    d.platFinish = { d with plat := { d.plat with state := .applying, ended := false } } := by
  simp [Dev.platFinish, hh, hc, ha]

/-- A full image that passes its end checks goes to APPLYING (R68). -/
theorem Dev.platEnd_of_pass {d : Dev} {p : CmdPort} (hp : d.holds p = true) (hs : d.plat.state = .receiving)
    (hf : d.plat.bufFree = true) (hh : d.plat.headerOk = true) (ha : d.plat.isAmend = false)
    (hc : d.endFail d.plat.img d.plat.secs d.plat.bytes = none) :
    d.platEnd p = { d with plat := { d.plat with state := .applying, ended := false } } := by
  rw [Dev.platEnd, if_pos (by simp [hp, hs])]
  exact (if_pos hf).trans (Dev.platFinish_of_pass hh ha hc)

theorem Dev.platAbort_of_receiving {d : Dev} {p : CmdPort} (hp : d.holds p = true) (hs : d.plat.state = .receiving) :
    d.platAbort p = d.platStop 0x1D := if_pos (by simp [hp, hs])

/-- Settles O12. -/
theorem endOfLoad : Obligations.EndOfLoad := by
  unfold Obligations.EndOfLoad
  refine fun s p => ⟨fun hw hp hs => ⟨fun hf => Gives.of_onDev rfl ?waits, fun hf hh ha hc => Gives.of_onDev rfl ?applies⟩,
    fun hw hp hs => Gives.of_onDev rfl ?aborts, fun hc hh hs => Gives.of_onDev rfl ?broken,
    fun hc hh => Gives.of_onDev rfl ?unclaimed⟩
  case waits =>
    rw [platEnd_eq hw, Dev.platEnd_of_busy (by simpa [Dev.holds] using hp) (by simpa using hs) (by simpa using hf)]
    exact ⟨rfl, rfl, Dev.counted_then (.mono (Dev.platAny_same _ _) (by decide))⟩
  case applies =>
    rw [platEnd_eq hw, Dev.platEnd_of_pass (by simpa [Dev.holds] using hp) (by simpa using hs) (by simpa using hf)
      (by simpa using hh) (by simpa using ha) (by simpa using hc)]
    exact ⟨rfl, rfl, Dev.counted_then (.mono (Dev.platAny_same _ _) (by decide))⟩
  case aborts =>
    rw [platAbort_eq hw, Dev.platAbort_of_receiving (by simpa [Dev.holds] using hp) (by simpa using hs)]
    obtain ⟨hreject, hclaim⟩ := Dev.platReject_reports (s.dev.countMgmt 0x74 p.code 1)
      { code := 0x1D, section_ := 0xFFFF, detail := 0, offset := s.dev.plat.bytes }
    rw [Dev.platStop, Dev.countMgmt_plat]
    refine ⟨hreject, hclaim, fun hm => ?_, fun hm => ?_, Dev.counted_then (Dev.platReject_same _ _)⟩
    · obtain ⟨hplat, -⟩ := Dev.platReject_of_m2 (d := s.dev.countMgmt 0x74 p.code 1)
        { code := 0x1D, section_ := 0xFFFF, detail := 0, offset := s.dev.plat.bytes } (by simpa using hm)
      exact ⟨congrArg (·.clearing) hplat, (congrArg (·.state) hplat).trans (by simpa using hs)⟩
    · exact congrArg (·.state) (Dev.platReject_of_not_m2 (d := s.dev.countMgmt 0x74 p.code 1) _ (by simpa using hm))
  case broken =>
    rw [streamTimeout, if_pos (by simp [hc, hh, hs]), Dev.platStop]
    obtain ⟨hreject, hclaim⟩ := Dev.platReject_reports s.dev
      { code := 0x1C, section_ := 0xFFFF, detail := 0, offset := s.dev.plat.bytes }
    exact ⟨hreject, hclaim, Dev.platReject_same _ _⟩
  case unclaimed =>
    rw [claimTimeout, if_pos (by simp [hc, hh])]
    exact ⟨rfl, rfl, rfl, rfl, rfl, by simp [sameBut_iff]⟩

/-- Settles O13. -/
theorem acceptedOrCleared : Obligations.AcceptedOrCleared := by
  unfold Obligations.AcceptedOrCleared
  refine fun s => ⟨fun hs ha hm => Gives.of_onDev rfl ?accepted, fun hc => Gives.of_onDev rfl ?cleared⟩
  case accepted =>
    have hsame := platAccepted_same s.dev
    rw [platAccepted, if_pos (by simp [hs, ha, hm])] at hsame ⊢
    refine ⟨?_, ?_, ?_, ?_, ?_, ?_, hsame.mono (by decide)⟩
    · simp [(Dev.sendResult_same _ _).plat]
    · simp [(Dev.sendResult_same _ _).plat]
    · simp [(Dev.sendResult_same _ _).run]
    · simp [(Dev.sendResult_same _ _).run]
    · simp [(Dev.sendResult_same _ _).mode]
    · simp [(Dev.sendResult_same _ _).mode, hm]
  case cleared =>
    have hsame := clearingDone_same s.dev
    have hfires := Dev.watchMode_fires s.dev Dev.cleared
    have hsent := Dev.sendResult_same (s.dev.watchMode Dev.cleared) 5
    obtain ⟨hside0, hside1⟩ := Dev.sendResult_sides (s.dev.watchMode Dev.cleared) 5
    rw [clearingDone_of_clearing hc] at hsame ⊢
    refine ⟨?_, ?_, ?_, ?_, ?_, ?_, ?_, ?_, ?_, ?_, ?_, ?_, hsame.mono (by decide)⟩ <;>
      simp [hside0, hside1, hsent.plat, hsent.mode, hsent.fab, hsent.bnd, hsent.run, hfires.plat, hfires.mode, hfires.fab,
        hfires.bnd, hfires.run, hfires.nb, Dev.cleared, Dev.clearDest]

end Sys2Proof.Machine

/-! PROOF. What the link of a fabric port keeps of its state, whatever traffic and records do (R192, R197). -/

namespace Sys2Proof.Machine

-- One theorem at a time, as in the tests: many at once would ask for more threads than the sandbox gives.
set_option Elab.async false

/-- What traffic never moves in a link: its state, its fence and the cause of its last fall. -/
def Link.marks (l : Link) : Nat × Bool × Nat := (l.state, l.fenced, l.lastCause)

/-- The marks of every port. -/
def Dev.linkMarks (d : Dev) : Nat → Nat × Bool × Nat := fun p => (d.link p).marks

theorem linkMarks_of_same {bs : List Block} {d e : Dev} (h : SameBut bs d e) (hb : .ln ∉ bs := by decide) :
    Keeps Dev.linkMarks d e := by
  unfold Keeps Dev.linkMarks Dev.link
  rw [h.ln hb]

theorem Dev.once_linkMarks (d : Dev) (key : Nat) (f : Dev → Dev) (h : ∀ e, Keeps Dev.linkMarks e (f e)) :
    Keeps Dev.linkMarks d (d.once key f) := by
  unfold Dev.once
  exact .ite (.refl _ _) (.trans (.of_eq rfl) (h _))

theorem Dev.lnAny_linkMarks (d : Dev) (x : LinkSt) (h : (fun p => (x.link.rd p).marks) = d.linkMarks) :
    Keeps Dev.linkMarks d { d with ln := x } := h

theorem Dev.setLink_linkMarks (d : Dev) (p : Nat) (f : Link → Link) (h : ∀ l, (f l).marks = l.marks := by exact fun _ => rfl) :
    Keeps Dev.linkMarks d (d.setLink p f) := by
  funext q
  by_cases hq : q = p
  · subst hq
    simp [Dev.linkMarks, Dev.link, Dev.setLink, h]
  · simp [Dev.linkMarks, Dev.link, Dev.setLink, Tab.rd_upd_other _ _ _ _ hq]

theorem Dev.pushOut_linkMarks (d : Dev) (n ing v cells : Nat) : Keeps Dev.linkMarks d (d.pushOut n ing v cells) := by
  induction n generalizing d with
  | zero => exact .refl _ _
  | succ n ih =>
    rw [Dev.pushOut]
    exact .ite (.refl _ _) (.trans (linkMarks_of_same (Dev.pushOutOne_same _ _ _)) (ih _))

theorem Dev.enterVoq_linkMarks (d : Dev) (tile : Nat) (p : Pkt) : Keeps Dev.linkMarks d (d.enterVoq tile p) := by
  unfold Dev.enterVoq
  exact .ite (.trans (.ite (linkMarks_of_same (Dev.swAny_same _ _)) (.trans (linkMarks_of_same (Dev.swAny_same _ _))
      (linkMarks_of_same (Dev.setIng_same _ _ _)))) (Dev.setLink_linkMarks _ _ _)) (.ite (linkMarks_of_same
      (Dev.swAny_same _ _)) (.trans (linkMarks_of_same (Dev.swAny_same _ _)) (linkMarks_of_same (Dev.setIng_same _ _ _))))

theorem Dev.pushVoq_linkMarks (d : Dev) (tile : Nat) (p : Pkt) : Keeps Dev.linkMarks d (d.pushVoq tile p) := by
  unfold Dev.pushVoq
  exact .trans (.ite (Dev.pushOut_linkMarks _ _ _ _ _) (.refl _ _)) (Dev.enterVoq_linkMarks _ _ _)

theorem Dev.queueFab_linkMarks (d : Dev) (tile ing inVc p : Nat) (f : FPkt) (resend : Bool)
    (wr : Nat) : Keeps Dev.linkMarks d (d.queueFab tile ing inVc p f resend wr) := by
  unfold Dev.queueFab
  exact Dev.pushVoq_linkMarks _ _ _

theorem Dev.stopTests_linkMarks (d : Dev) (t : Nat) : Keeps Dev.linkMarks d (d.stopTests t) := by
  unfold Dev.stopTests
  exact Dev.lnAny_linkMarks _ _ rfl

theorem Dev.haltTests_linkMarks (d : Dev) (t : Option Nat) : Keeps Dev.linkMarks d (d.haltTests t) := by
  unfold Dev.haltTests
  split
  · exact Dev.stopTests_linkMarks _ _
  · exact .refl _ _

theorem Dev.uncFault_linkMarks (d : Dev) (bit source stop kind id detail sev : Nat) : Keeps Dev.linkMarks d
    (d.uncFault bit source stop kind id detail sev) := by
  unfold Dev.uncFault
  exact .ite (.trans (linkMarks_of_same (Dev.contAny_same _ _)) (linkMarks_of_same (Dev.contAny_same _ _))) (.trans
      (.trans (linkMarks_of_same (Dev.contAny_same _ _)) (Dev.haltTests_linkMarks _ _)) (linkMarks_of_same
      (Dev.faultLog_same _ _ _ _ _)))

theorem Dev.aerPhys_linkMarks (d : Dev) (p : Nat) (unc : Bool) (bit : Nat) (hdr : List Nat)
    (adv : Bool) : Keeps Dev.linkMarks d (d.aerPhys p unc bit hdr adv) := by
  unfold Dev.aerPhys
  exact .ite (.refl _ _) (.ite (.trans (linkMarks_of_same (Dev.setPport_same _ _ _)) (linkMarks_of_same
      (Dev.log_same _ _ _ _))) (.ite (.trans (.trans (linkMarks_of_same (Dev.setPport_same _ _ _)) (linkMarks_of_same
      (Dev.fire_same _ _))) (Dev.uncFault_linkMarks _ _ _ _ _ _ _ _)) (.trans (linkMarks_of_same
      (Dev.setPport_same _ _ _)) (linkMarks_of_same (Dev.log_same _ _ _ _)))))

theorem Dev.tlpErrorOf_linkMarks (d : Dev) (p q bit : Nat) (t tv : Tlp) (adv : Bool) : Keeps Dev.linkMarks d
    (d.tlpErrorOf p q bit t tv adv) := by
  unfold Dev.tlpErrorOf
  exact .trans (.trans (Dev.aerPhys_linkMarks _ _ _ _ _ _) (linkMarks_of_same (Dev.aerView_same _ _ _ _ _ _)))
      (linkMarks_of_same (Dev.dpcOn_same _ _ _ _))

theorem Dev.hubUr_linkMarks (d : Dev) (q fn : Nat) (t : Tlp) : Keeps Dev.linkMarks d (d.hubUr q fn t) := by
  unfold Dev.hubUr
  exact .ite (Dev.tlpErrorOf_linkMarks _ _ _ _ _ _ _) (linkMarks_of_same (Dev.aerView_same _ _ _ _ _ _))

theorem Dev.freeCells_linkMarks (d : Dev) (p : Pkt) (k n : Nat) : Keeps Dev.linkMarks d (d.freeCells p k n) := by
  unfold Dev.freeCells
  exact .ite (.refl _ _) (.ite (.ite (linkMarks_of_same (Dev.setIng_same _ _ _)) (.trans (linkMarks_of_same
      (Dev.setIng_same _ _ _)) (Dev.setLink_linkMarks _ _ _))) (.ite (.trans (linkMarks_of_same (Dev.setIng_same _ _ _))
      (linkMarks_of_same (Dev.emit_same _ _))) (linkMarks_of_same (Dev.setIng_same _ _ _))))

theorem Dev.freeRest_linkMarks (d : Dev) (p : Pkt) : Keeps Dev.linkMarks d (d.freeRest p) := by
  unfold Dev.freeRest
  exact Dev.freeCells_linkMarks _ _ _ _

theorem Dev.endPacket_linkMarks (d : Dev) (id : Nat) : Keeps Dev.linkMarks d (d.endPacket id) := by
  unfold Dev.endPacket
  dsimp only
  split
  · exact .refl _ _
  · exact .ite (.refl _ _) (.ite (.trans (.trans (.ite (.trans (linkMarks_of_same (Dev.swAny_same _ _))
      (Dev.setLink_linkMarks _ _ _)) (.trans (linkMarks_of_same (Dev.swAny_same _ _)) (linkMarks_of_same
      (Dev.leaveEpoch_same _ _)))) (.foldl _ (fun _ _ => .ite (.trans (Dev.freeRest_linkMarks _ _)
      (Dev.setLink_linkMarks _ _ _)) (Dev.freeRest_linkMarks _ _)) _ _)) (linkMarks_of_same (Dev.setIng_same _ _ _)))
      (.trans (.ite (.trans (linkMarks_of_same (Dev.swAny_same _ _)) (Dev.setLink_linkMarks _ _ _)) (.trans
      (linkMarks_of_same (Dev.swAny_same _ _)) (linkMarks_of_same (Dev.leaveEpoch_same _ _)))) (.foldl _ (fun _ _ => .ite
      (.trans (Dev.freeRest_linkMarks _ _) (Dev.setLink_linkMarks _ _ _)) (Dev.freeRest_linkMarks _ _)) _ _)))

theorem Dev.cutStreams_linkMarks (d : Dev) (p : Nat) : Keeps Dev.linkMarks d (d.cutStreams p) := by
  unfold Dev.cutStreams
  exact .foldl _ (fun _ _ => .trans (.ite (.trans (linkMarks_of_same (Dev.setIng_same _ _ _))
      (Dev.setLink_linkMarks _ _ _)) (.ite (.refl _ _) (Dev.endPacket_linkMarks _ _))) (linkMarks_of_same
      (Dev.swAny_same _ _))) _ _

theorem Dev.owe_linkMarks (d : Dev) (p vc units : Nat) : Keeps Dev.linkMarks d (d.owe p vc units) := by
  unfold Dev.owe
  exact .ite (Dev.setLink_linkMarks _ _ _) (.refl _ _)

theorem Dev.deliverCpl_linkMarks (d : Dev) (tile : Nat) (p0 : Pkt) (f : FPkt) : Keeps Dev.linkMarks d
    (d.deliverCpl tile p0 f) := by
  unfold Dev.deliverCpl
  split
  · exact .trans (Dev.owe_linkMarks _ _ _ _) (linkMarks_of_same (Dev.lateCpl_same _ _))
  · exact Dev.pushVoq_linkMarks _ _ _

theorem Dev.routeFab_linkMarks (d : Dev) (n tile ing inVc : Nat) (f : FPkt) (fwd resend : Bool) (wr : Nat) :
    Keeps Dev.linkMarks d (d.routeFab n tile ing inVc f fwd resend wr) := by
  induction n generalizing d tile ing inVc f fwd resend wr with
  | zero => exact .refl _ _
  | succ n ih =>
    have hcount (e : Dev) : Keeps Dev.linkMarks e (e.countTable 0x54 0 1) := linkMarks_of_same (Dev.countTable_same _ _ _ _)
    have hqueue (e : Dev) (p : Nat) (g : FPkt) :
        Keeps Dev.linkMarks e ((e.countTable 0x54 0 1).queueFab tile ing inVc p g resend wr) :=
      (hcount e).trans (Dev.queueFab_linkMarks _ _ _ _ _ _ _ _)
    have hreply (e : Dev) (hop : Bool) : Keeps Dev.linkMarks e
        (let e1 := e.unrouted f hop
         if f.order = 1 ∧ f.src ≠ d.run.switchId then e1.routeFab n tile 0xFF 0 (e1.fabReply f 1) false false
         else if f.kind = 0x10 then { e1 with sw.regIn := e1.sw.regIn ++ [e1.fabReply f 1] } else e1) :=
      .trans (linkMarks_of_same (Dev.unrouted_same e f hop)) (.ite (ih _ _ _ _ _ _ _ _) (.ite (.of_eq rfl) (.refl _ _)))
    rw [Dev.routeFab]
    refine .ite (hreply _ _) ?_
    cases d.wayOf f.src f.dest f.tc with
    | none => exact (hcount d).trans (hreply _ _)
    | port p => exact .ite ((hcount d).trans (hreply _ _)) (hqueue _ _ _)
    | wait p => exact hqueue _ _ _

theorem Dev.refuseFab_linkMarks (d : Dev) (tile : Nat) (f : FPkt) (status : Nat) : Keeps Dev.linkMarks d
    (d.refuseFab tile f status) := by
  unfold Dev.refuseFab
  exact .ite (.ite (Dev.deliverCpl_linkMarks _ _ _ _) (Dev.routeFab_linkMarks _ _ _ _ _ _ _ _ _)) (.refl _ _)

theorem Dev.answerRemoved_linkMarks (d : Dev) (x : Pkt) (status : Nat) : Keeps Dev.linkMarks d
    (d.answerRemoved x status) := by
  unfold Dev.answerRemoved
  dsimp only
  refine .ite ?_ ?_
  · exact .refl _ _
  · split
    · exact .ite (.refl _ _) (.ite (linkMarks_of_same (Dev.trAbort_same _ _)) (.trans (linkMarks_of_same
        (Dev.trRetire_same _ _ _)) (linkMarks_of_same (Dev.sendCpl_same _ _ _ _ _ _ _ _))))
    · split
      · exact .ite (.ite (.refl _ _) (linkMarks_of_same (Dev.sendCpl_same _ _ _ _ _ _ _ _)))
          (Dev.refuseFab_linkMarks _ _ _ _)
      · exact .ite (linkMarks_of_same (Dev.sendCpl_same _ _ _ _ _ _ _ _)) (.ite (linkMarks_of_same
          (Dev.engineTagged_same _ _ _ _)) (.refl _ _))

theorem Dev.fencePort_linkMarks (d : Dev) (p status : Nat) : Keeps Dev.linkMarks d (d.fencePort p status) := by
  unfold Dev.fencePort
  exact .trans (.trans (Dev.cutStreams_linkMarks _ _) (linkMarks_of_same (Dev.contAny_same _ _))) (.foldl _
      (fun _ _ => .trans (Dev.endPacket_linkMarks _ _) (Dev.answerRemoved_linkMarks _ _ _)) _ _)

theorem Dev.dpcFence_linkMarks (d old : Dev) : Keeps Dev.linkMarks d (d.dpcFence old) := by
  unfold Dev.dpcFence
  exact .foldl _ (fun _ _ => .trans (Dev.fencePort_linkMarks _ _ _) (linkMarks_of_same (Dev.retireToward_same _ _))) _ _

theorem Dev.refuseIn_linkMarks (d : Dev) (tile : Nat) (p0 : Pkt) (f : FPkt) (status : Nat) : Keeps Dev.linkMarks d
    (d.refuseIn tile p0 f status) := by
  unfold Dev.refuseIn
  exact .ite (.trans (.ite (linkMarks_of_same (Dev.emit_same _ _)) (Dev.owe_linkMarks _ _ _ _)) (linkMarks_of_same
      (Dev.sendCpl_same _ _ _ _ _ _ _ _))) (.trans (.ite (linkMarks_of_same (Dev.emit_same _ _))
      (Dev.owe_linkMarks _ _ _ _)) (Dev.refuseFab_linkMarks _ _ _ _))

theorem Dev.deliverMem_linkMarks (d : Dev) (tile : Nat) (p0 : Pkt) (f : FPkt) : Keeps Dev.linkMarks d
    (d.deliverMem tile p0 f) := by
  unfold Dev.deliverMem
  exact .ite (.trans (linkMarks_of_same (Dev.xlateMiss_same _ _ _)) (Dev.refuseIn_linkMarks _ _ _ _ _)) (.ite (.trans
      (linkMarks_of_same (Dev.fenceDiscard_same _)) (Dev.refuseIn_linkMarks _ _ _ _ _)) (.ite (.trans (.ite_fst
      (.refl _ _) (linkMarks_of_same (Dev.check_same _ _ _ _))) (Dev.refuseIn_linkMarks _ _ _ _ _)) (.trans (.ite (.trans
      (.ite_fst (.refl _ _) (linkMarks_of_same (Dev.check_same _ _ _ _))) (linkMarks_of_same (Dev.bndAny_same _ _)))
      (.ite_fst (.refl _ _) (linkMarks_of_same (Dev.check_same _ _ _ _)))) (Dev.pushVoq_linkMarks _ _ _))))

theorem Dev.deliverFab_linkMarks (d : Dev) (tile : Nat) (p0 : Pkt) (f : FPkt) : Keeps Dev.linkMarks d
    (d.deliverFab tile p0 f) := by
  unfold Dev.deliverFab
  exact .ite (.trans (Dev.owe_linkMarks _ _ _ _) (linkMarks_of_same (Dev.swAny_same _ _))) (.ite
      (Dev.deliverCpl_linkMarks _ _ _ _) (.ite (Dev.owe_linkMarks _ _ _ _) (.ite (.ite (.ite (.trans
      (Dev.owe_linkMarks _ _ _ _) (linkMarks_of_same (Dev.fenceDiscard_same _))) (Dev.pushVoq_linkMarks _ _ _)) (.trans
      (Dev.owe_linkMarks _ _ _ _) (linkMarks_of_same (Dev.xlateMiss_same _ _ _)))) (Dev.deliverMem_linkMarks _ _ _ _))))

theorem Dev.hubIssue_linkMarks (d : Dev) (q rid slot : Nat) (t0 : Tlp) (epoch : Option Nat) : Keeps Dev.linkMarks d
    (d.hubIssue q rid slot t0 epoch).1 := by
  unfold Dev.hubIssue
  dsimp only
  split
  · exact Dev.hubUr_linkMarks _ _ _ _
  · split
    · split
      · exact .ite (.refl _ _) (.ite (Dev.hubUr_linkMarks _ _ _ _) (.trans (Dev.tlpErrorOf_linkMarks _ _ _ _ _ _ _)
          (Dev.dpcFence_linkMarks _ _)))
      · refine .ite_fst ?_ ?_
        · exact linkMarks_of_same (Dev.fenceDiscard_same _)
        · refine .ite_fst ?_ ?_
          · split
            · exact linkMarks_of_same (Dev.aerView_same _ _ _ _ _ _)
            · refine .ite_fst ?_ ?_
              · exact linkMarks_of_same (Dev.hubWaits_same _ _ _)
              · refine .trans ?_ (linkMarks_of_same (Dev.pushEng_same _ _))
                refine .ite ?_ ?_
                · refine .trans ?_ (linkMarks_of_same (Dev.bndAny_same _ _))
                  refine .trans ?_ (linkMarks_of_same (Dev.hubWaits_same _ _ _))
                  split
                  · exact .trans (.ite_fst (linkMarks_of_same (Dev.trOpen_same _ _)) (.refl _ _)) (linkMarks_of_same
                      (Dev.travAny_same _ _))
                  · exact .ite_fst (linkMarks_of_same (Dev.trOpen_same _ _)) (.refl _ _)
                · refine .trans ?_ (linkMarks_of_same (Dev.hubWaits_same _ _ _))
                  split
                  · exact .trans (.ite_fst (linkMarks_of_same (Dev.trOpen_same _ _)) (.refl _ _)) (linkMarks_of_same
                      (Dev.travAny_same _ _))
                  · exact .ite_fst (linkMarks_of_same (Dev.trOpen_same _ _)) (.refl _ _)
          · exact .trans (.ite (linkMarks_of_same (Dev.bndAny_same _ _)) (.refl _ _)) (linkMarks_of_same
              (Dev.pushEng_same _ _))
    · split
      · exact .trans (.trans (linkMarks_of_same (Dev.countTile_same _ _ _ _ _ _)) (linkMarks_of_same
          (Dev.countGaz_same _ _))) (linkMarks_of_same (Dev.xlateMiss_same _ _ _))
      · refine .ite_fst ?_ ?_
        · exact .trans (.trans (linkMarks_of_same (Dev.countTile_same _ _ _ _ _ _)) (linkMarks_of_same
            (Dev.countGaz_same _ _))) (linkMarks_of_same (Dev.xlateMiss_same _ _ _))
        · refine .ite_fst ?_ ?_
          · exact .trans (linkMarks_of_same (Dev.countTile_same _ _ _ _ _ _)) (linkMarks_of_same (Dev.countGaz_same _ _))
          · refine .ite_fst ?_ ?_
            · exact .trans (.trans (linkMarks_of_same (Dev.countTile_same _ _ _ _ _ _)) (linkMarks_of_same
                (Dev.countGaz_same _ _))) (linkMarks_of_same (Dev.hubWaits_same _ _ _))
            · refine .ite_fst ?_ ?_
              · refine .trans ?_ (Dev.deliverFab_linkMarks _ _ _ _)
                refine .trans ?_ (linkMarks_of_same (Dev.hubWaits_same _ _ _))
                split
                · exact .trans (.ite_fst (.trans (.trans (linkMarks_of_same (Dev.countTile_same _ _ _ _ _ _))
                    (linkMarks_of_same (Dev.countGaz_same _ _))) (linkMarks_of_same (Dev.trOpen_same _ _))) (.trans
                    (linkMarks_of_same (Dev.countTile_same _ _ _ _ _ _)) (linkMarks_of_same (Dev.countGaz_same _ _))))
                    (linkMarks_of_same (Dev.travAny_same _ _))
                · exact .ite_fst (.trans (.trans (linkMarks_of_same (Dev.countTile_same _ _ _ _ _ _)) (linkMarks_of_same
                    (Dev.countGaz_same _ _))) (linkMarks_of_same (Dev.trOpen_same _ _))) (.trans (linkMarks_of_same
                    (Dev.countTile_same _ _ _ _ _ _)) (linkMarks_of_same (Dev.countGaz_same _ _)))
              · split
                · refine .trans ?_ (linkMarks_of_same (Dev.unrouted_same _ _ _))
                  refine .trans ?_ (linkMarks_of_same (Dev.hubWaits_same _ _ _))
                  split
                  · exact .trans (.ite_fst (.trans (.trans (linkMarks_of_same (Dev.countTile_same _ _ _ _ _ _))
                      (linkMarks_of_same (Dev.countGaz_same _ _))) (linkMarks_of_same (Dev.trOpen_same _ _))) (.trans
                      (linkMarks_of_same (Dev.countTile_same _ _ _ _ _ _)) (linkMarks_of_same (Dev.countGaz_same _ _))))
                      (linkMarks_of_same (Dev.travAny_same _ _))
                  · exact .ite_fst (.trans (.trans (linkMarks_of_same (Dev.countTile_same _ _ _ _ _ _)) (linkMarks_of_same
                      (Dev.countGaz_same _ _))) (linkMarks_of_same (Dev.trOpen_same _ _))) (.trans (linkMarks_of_same
                      (Dev.countTile_same _ _ _ _ _ _)) (linkMarks_of_same (Dev.countGaz_same _ _)))
                · refine .trans ?_ (Dev.pushVoq_linkMarks _ _ _)
                  refine .ite ?_ ?_
                  · refine .trans ?_ (linkMarks_of_same (Dev.bndAny_same _ _))
                    refine .trans ?_ (linkMarks_of_same (Dev.hubWaits_same _ _ _))
                    split
                    · exact .trans (.ite_fst (.trans (.trans (linkMarks_of_same (Dev.countTile_same _ _ _ _ _ _))
                        (linkMarks_of_same (Dev.countGaz_same _ _))) (linkMarks_of_same (Dev.trOpen_same _ _))) (.trans
                        (linkMarks_of_same (Dev.countTile_same _ _ _ _ _ _)) (linkMarks_of_same (Dev.countGaz_same _ _))))
                        (linkMarks_of_same (Dev.travAny_same _ _))
                    · exact .ite_fst (.trans (.trans (linkMarks_of_same (Dev.countTile_same _ _ _ _ _ _))
                        (linkMarks_of_same (Dev.countGaz_same _ _))) (linkMarks_of_same (Dev.trOpen_same _ _))) (.trans
                        (linkMarks_of_same (Dev.countTile_same _ _ _ _ _ _)) (linkMarks_of_same (Dev.countGaz_same _ _)))
                  · refine .trans ?_ (linkMarks_of_same (Dev.hubWaits_same _ _ _))
                    split
                    · exact .trans (.ite_fst (.trans (.trans (linkMarks_of_same (Dev.countTile_same _ _ _ _ _ _))
                        (linkMarks_of_same (Dev.countGaz_same _ _))) (linkMarks_of_same (Dev.trOpen_same _ _))) (.trans
                        (linkMarks_of_same (Dev.countTile_same _ _ _ _ _ _)) (linkMarks_of_same (Dev.countGaz_same _ _))))
                        (linkMarks_of_same (Dev.travAny_same _ _))
                    · exact .ite_fst (.trans (.trans (linkMarks_of_same (Dev.countTile_same _ _ _ _ _ _))
                        (linkMarks_of_same (Dev.countGaz_same _ _))) (linkMarks_of_same (Dev.trOpen_same _ _))) (.trans
                        (linkMarks_of_same (Dev.countTile_same _ _ _ _ _ _)) (linkMarks_of_same (Dev.countGaz_same _ _)))
                · refine .trans ?_ (Dev.pushVoq_linkMarks _ _ _)
                  refine .ite ?_ ?_
                  · refine .trans ?_ (linkMarks_of_same (Dev.bndAny_same _ _))
                    refine .trans ?_ (linkMarks_of_same (Dev.hubWaits_same _ _ _))
                    split
                    · exact .trans (.ite_fst (.trans (.trans (linkMarks_of_same (Dev.countTile_same _ _ _ _ _ _))
                        (linkMarks_of_same (Dev.countGaz_same _ _))) (linkMarks_of_same (Dev.trOpen_same _ _))) (.trans
                        (linkMarks_of_same (Dev.countTile_same _ _ _ _ _ _)) (linkMarks_of_same (Dev.countGaz_same _ _))))
                        (linkMarks_of_same (Dev.travAny_same _ _))
                    · exact .ite_fst (.trans (.trans (linkMarks_of_same (Dev.countTile_same _ _ _ _ _ _))
                        (linkMarks_of_same (Dev.countGaz_same _ _))) (linkMarks_of_same (Dev.trOpen_same _ _))) (.trans
                        (linkMarks_of_same (Dev.countTile_same _ _ _ _ _ _)) (linkMarks_of_same (Dev.countGaz_same _ _)))
                  · refine .trans ?_ (linkMarks_of_same (Dev.hubWaits_same _ _ _))
                    split
                    · exact .trans (.ite_fst (.trans (.trans (linkMarks_of_same (Dev.countTile_same _ _ _ _ _ _))
                        (linkMarks_of_same (Dev.countGaz_same _ _))) (linkMarks_of_same (Dev.trOpen_same _ _))) (.trans
                        (linkMarks_of_same (Dev.countTile_same _ _ _ _ _ _)) (linkMarks_of_same (Dev.countGaz_same _ _))))
                        (linkMarks_of_same (Dev.travAny_same _ _))
                    · exact .ite_fst (.trans (.trans (linkMarks_of_same (Dev.countTile_same _ _ _ _ _ _))
                        (linkMarks_of_same (Dev.countGaz_same _ _))) (linkMarks_of_same (Dev.trOpen_same _ _))) (.trans
                        (linkMarks_of_same (Dev.countTile_same _ _ _ _ _ _)) (linkMarks_of_same (Dev.countGaz_same _ _)))
    · exact Dev.hubUr_linkMarks _ _ _ _

theorem Dev.sendFab_linkMarks (d : Dev) (f : FPkt) : Keeps Dev.linkMarks d (d.sendFab f) := by
  unfold Dev.sendFab
  dsimp only
  split
  · exact .trans (linkMarks_of_same (Dev.countTable_same _ _ _ _)) (linkMarks_of_same (Dev.pushEng_same _ _))
  · exact .trans (linkMarks_of_same (Dev.countTable_same _ _ _ _)) (linkMarks_of_same (Dev.pushEng_same _ _))
  · exact Dev.routeFab_linkMarks _ _ _ _ _ _ _ _ _

theorem Dev.tallySend_linkMarks (d : Dev) (k : Coll) (kind sw coll handle r first count : Nat)
    (payload : List Nat) : Keeps Dev.linkMarks d (d.tallySend k kind sw coll handle r first count payload) := by
  unfold Dev.tallySend
  exact Dev.sendFab_linkMarks _ _

theorem Dev.toParent_linkMarks (d : Dev) (k : Coll) (kind r first count : Nat)
    (payload : List Nat) : Keeps Dev.linkMarks d (d.toParent k kind r first count payload) := by
  unfold Dev.toParent
  exact Dev.tallySend_linkMarks _ _ _ _ _ _ _ _ _ _

theorem Dev.toChild_linkMarks (d : Dev) (k : Coll) (v kind r first count : Nat)
    (payload : List Nat) : Keeps Dev.linkMarks d (d.toChild k v kind r first count payload) := by
  unfold Dev.toChild
  exact Dev.tallySend_linkMarks _ _ _ _ _ _ _ _ _ _

theorem Dev.abortSend_linkMarks (d : Dev) (c r reason origin from_ : Nat) : Keeps Dev.linkMarks d
    (d.abortSend c r reason origin from_) := by
  unfold Dev.abortSend
  exact .trans (.ite (.refl _ _) (Dev.toParent_linkMarks _ _ _ _ _ _ _)) (.foldl _ (fun _ _ => .ite (.refl _ _)
      (Dev.toChild_linkMarks _ _ _ _ _ _ _ _)) _ _)

theorem Dev.hubWrites_linkMarks (d : Dev) (q n tc a : Nat) (bs : List Nat) (epoch : Option Nat) :
    Keeps Dev.linkMarks d (d.hubWrites q n tc a bs epoch).1 := by
  unfold Dev.hubWrites
  refine .trans (.refl _ _) (.foldl_fst _ (fun acc c => ?_) _ _)
  dsimp only
  split
  next h => exact congrArg Prod.fst h ▸ Dev.hubIssue_linkMarks acc.1 _ _ _ _ _
  next _ h => exact congrArg Prod.fst h ▸ Dev.hubIssue_linkMarks acc.1 _ _ _ _ _

theorem Dev.fnWrite_linkMarks (d : Dev) (n tc a : Nat) (bs : List Nat) : Keeps Dev.linkMarks d (d.fnWrite n tc a bs) := by
  unfold Dev.fnWrite
  exact .ite (.refl _ _) (.foldl _ (fun _ _ => .ite (.trans (linkMarks_of_same (Dev.hubCheck_same _ _ _ _))
      (Dev.hubWrites_linkMarks _ _ _ _ _ _ _)) (linkMarks_of_same (Dev.hubCheck_same _ _ _ _))) _ _)

theorem Dev.fnSignal_linkMarks (d : Dev) (n vec tc : Nat) : Keeps Dev.linkMarks d (d.fnSignal n vec tc) := by
  unfold Dev.fnSignal
  exact .ite (.refl _ _) (.ite (.trans (linkMarks_of_same (Dev.countHub_same _ _ _ _)) (Dev.fnWrite_linkMarks _ _ _ _ _))
      (linkMarks_of_same (Dev.pcieAny_same _ _)))

theorem Dev.tallyRecords_linkMarks (d : Dev) (k : Coll) (r status flagsOr rf contributions tick : Nat)
    (skip : Nat → Bool) : Keeps Dev.linkMarks d (d.tallyRecords k r status flagsOr rf contributions tick skip) := by
  unfold Dev.tallyRecords
  exact .foldl _ (fun _ _ => .ite (.refl _ _) (.ite (.trans (Dev.fnWrite_linkMarks _ _ _ _ _)
      (Dev.fnSignal_linkMarks _ _ _ _)) (Dev.fnWrite_linkMarks _ _ _ _ _))) _ _

theorem Dev.abortNote_linkMarks (d : Dev) (c r reason origin : Nat) (skip : Nat → Bool) : Keeps Dev.linkMarks d
    (d.abortNote c r reason origin skip) := by
  unfold Dev.abortNote
  exact .trans (.trans (.trans (.trans (Dev.tallyRecords_linkMarks _ _ _ _ _ _ _ _ _) (linkMarks_of_same
      (Dev.tallyAny_same _ _))) (linkMarks_of_same (Dev.setColl_same _ _ _))) (linkMarks_of_same (Dev.log_same _ _ _ _)))
      (linkMarks_of_same (Dev.countHub_same _ _ _ _))

theorem Dev.tallyAbortAwaited_linkMarks (d : Dev) (c reason origin from_ : Nat)
    (skip : Nat → Bool) : Keeps Dev.linkMarks d (d.tallyAbortAwaited c reason origin from_ skip) := by
  unfold Dev.tallyAbortAwaited
  exact .trans (.trans (Dev.abortSend_linkMarks _ _ _ _ _ _) (Dev.abortNote_linkMarks _ _ _ _ _ _)) (linkMarks_of_same
      (Dev.setColl_same _ _ _))

theorem Dev.tallyAbort_linkMarks (d : Dev) (c reason origin from_ : Nat) (skip : Nat → Bool) : Keeps Dev.linkMarks d
    (d.tallyAbort c reason origin from_ skip) := by
  unfold Dev.tallyAbort
  exact .trans (.trans (Dev.abortSend_linkMarks _ _ _ _ _ _) (Dev.abortNote_linkMarks _ _ _ _ _ _)) (linkMarks_of_same
      (Dev.setColl_same _ _ _))

theorem Dev.abortHere_linkMarks (d : Dev) (c reason : Nat) : Keeps Dev.linkMarks d (d.abortHere c reason) := by
  unfold Dev.abortHere
  exact Dev.tallyAbort_linkMarks _ _ _ _ _ _

theorem Dev.addWrite_linkMarks (d : Dev) (c i off : Nat) (data : List Nat) (be poisoned : Bool) : Keeps Dev.linkMarks d
    (d.addWrite c i off data be poisoned) := by
  unfold Dev.addWrite
  exact .ite (Dev.abortHere_linkMarks _ _ _) (.ite (Dev.abortHere_linkMarks _ _ _) (.ite (Dev.abortHere_linkMarks _ _ _)
      (.trans (.trans (.foldl _ (fun _ _ => .ite (linkMarks_of_same (Dev.tallyMerge_same _ _ _ _ _ _ _))
      (linkMarks_of_same (Dev.tallyMerge_same _ _ _ _ _ _ _))) _ _) (linkMarks_of_same (Dev.setColl_same _ _ _)))
      (linkMarks_of_same (Dev.checkComplete_same _ _)))))

theorem Dev.addPartial_linkMarks (d : Dev) (c i : Nat) (f : FPkt) : Keeps Dev.linkMarks d (d.addPartial c i f) := by
  unfold Dev.addPartial
  dsimp only
  refine .ite ?_ ?_
  · exact linkMarks_of_same (Dev.tallyDiscard_same _)
  · refine .ite ?_ ?_
    · exact Dev.abortHere_linkMarks _ _ _
    · refine .ite ?_ ?_
      · exact Dev.abortHere_linkMarks _ _ _
      · split
        · exact Dev.abortHere_linkMarks _ _ _
        · exact .trans (.foldl _ (fun _ _ => linkMarks_of_same (Dev.tallyMerge_same _ _ _ _ _ _ _)) _ _)
            (linkMarks_of_same (Dev.setColl_same _ _ _))

theorem Dev.addDone_linkMarks (d : Dev) (c i : Nat) (f : FPkt) : Keeps Dev.linkMarks d (d.addDone c i f) := by
  unfold Dev.addDone
  exact .ite (linkMarks_of_same (Dev.tallyDiscard_same _)) (.ite (Dev.abortHere_linkMarks _ _ _) (.ite
      (Dev.abortHere_linkMarks _ _ _) (.ite (Dev.abortHere_linkMarks _ _ _) (.trans (linkMarks_of_same
      (Dev.setColl_same _ _ _)) (linkMarks_of_same (Dev.checkComplete_same _ _))))))

theorem Dev.tallyTake_linkMarks (d : Dev) (c : Nat) (h : HeldIn) : Keeps Dev.linkMarks d (d.tallyTake c h) := by
  unfold Dev.tallyTake
  dsimp only
  refine .ite ?_ ?_
  · exact linkMarks_of_same (Dev.tallyAny_same _ _)
  · split
    · split
      · exact .ite (Dev.addWrite_linkMarks _ _ _ _ _ _ _) (linkMarks_of_same (Dev.tallyDiscard_same _))
      · exact linkMarks_of_same (Dev.tallyDiscard_same _)
    · split
      · exact .ite (Dev.addPartial_linkMarks _ _ _ _) (Dev.addDone_linkMarks _ _ _ _)
      · exact linkMarks_of_same (Dev.tallyDiscard_same _)

theorem Dev.drainHold_linkMarks (d : Dev) (c : Nat) : Keeps Dev.linkMarks d (d.drainHold c) := by
  unfold Dev.drainHold
  exact .ite (.refl _ _) (.trans (linkMarks_of_same (Dev.tallyAny_same _ _)) (.foldl _
      (fun _ _ => Dev.tallyTake_linkMarks _ _ _) _ _))

theorem Dev.tallyMembers_linkMarks (d : Dev) (hit : Nat → Bool) (reason : Nat) : Keeps Dev.linkMarks d
    (d.tallyMembers hit reason) := by
  unfold Dev.tallyMembers
  exact .foldl _ (fun _ _ => .ite (.ite (.trans (.trans (.trans (.ite (Dev.tallyAbortAwaited_linkMarks _ _ _ _ _ _)
      (.refl _ _)) (Dev.tallyAbort_linkMarks _ _ _ _ _ _)) (linkMarks_of_same (Dev.setColl_same _ _ _)))
      (Dev.drainHold_linkMarks _ _)) (.ite (Dev.tallyAbortAwaited_linkMarks _ _ _ _ _ _) (.refl _ _))) (.refl _ _)) _ _

theorem Dev.dropFnPackets_linkMarks (d : Dev) (n : Nat) : Keeps Dev.linkMarks d (d.dropFnPackets n) := by
  unfold Dev.dropFnPackets
  exact .foldl _ (fun _ _ => Dev.endPacket_linkMarks _ _) _ _

theorem Dev.fnQuiesceOne_linkMarks (d : Dev) (n : Nat) (removed : Bool) : Keeps Dev.linkMarks d
    (d.fnQuiesceOne n removed) := by
  unfold Dev.fnQuiesceOne
  exact .trans (.trans (.trans (.trans (.trans (Dev.dropFnPackets_linkMarks _ _) (linkMarks_of_same
      (Dev.prefetchDrop_same _ _ _))) (linkMarks_of_same (Dev.travAny_same _ _))) (.foldl _ (fun _ _ => .trans
      (linkMarks_of_same (Dev.trRetire_same _ _ _)) (linkMarks_of_same (Dev.travAny_same _ _))) _ _)) (.foldl _
      (fun _ _ => linkMarks_of_same (Dev.queueOff_same _ _)) _ _)) (linkMarks_of_same (Dev.pcieAny_same _ _))

theorem Dev.fnQuiesce_linkMarks (d : Dev) (ns : List Nat) (removed : Bool) (reason : Nat) : Keeps Dev.linkMarks d
    (d.fnQuiesce ns removed reason) := by
  unfold Dev.fnQuiesce
  exact .ite (.ite (linkMarks_of_same (Dev.travAny_same _ _)) (.refl _ _)) (.trans (.trans (.ite (linkMarks_of_same
      (Dev.travAny_same _ _)) (.refl _ _)) (Dev.tallyMembers_linkMarks _ _ _)) (.foldl _
      (fun _ _ => Dev.fnQuiesceOne_linkMarks _ _ _) _ _))

theorem Dev.parentQuiesce_linkMarks (d : Dev) (q reason : Nat) : Keeps Dev.linkMarks d (d.parentQuiesce q reason) := by
  unfold Dev.parentQuiesce
  exact .ite (.trans (Dev.fnQuiesce_linkMarks _ _ _ _) (Dev.fnQuiesce_linkMarks _ _ _ _)) (Dev.fnQuiesce_linkMarks _ _ _ _)

theorem Dev.svcReset_linkMarks (d : Dev) (q reason : Nat) : Keeps Dev.linkMarks d (d.svcReset q reason) := by
  unfold Dev.svcReset
  exact .ite (.trans (Dev.parentQuiesce_linkMarks _ _ _) (linkMarks_of_same (Dev.resetJob_same _ _))) (.trans (.trans
      (Dev.parentQuiesce_linkMarks _ _ _) (linkMarks_of_same (Dev.resetJob_same _ _))) (linkMarks_of_same
      (Dev.pcieAny_same _ _)))

theorem Dev.resetBelow_linkMarks (d : Dev) (q : Nat) : Keeps Dev.linkMarks d (d.resetBelow q) := by
  unfold Dev.resetBelow
  exact .trans (.foldl _ (fun _ _ => .ite (linkMarks_of_same (Dev.flrAssigned_same _ _ _)) (linkMarks_of_same
      (Dev.commandLink_same _ _ _))) _ _) (Dev.svcReset_linkMarks _ _ _)

theorem Dev.partResetBegin_linkMarks (d : Dev) (q cause : Nat) : Keeps Dev.linkMarks d (d.partResetBegin q cause) := by
  unfold Dev.partResetBegin
  exact .ite (linkMarks_of_same (Dev.pcieAny_same _ _)) (.trans (.trans (.trans (.trans (.trans (.ite (.trans
      (linkMarks_of_same (Dev.pcieAny_same _ _)) (linkMarks_of_same (Dev.commandLink_same _ _ _))) (linkMarks_of_same
      (Dev.pcieAny_same _ _))) (Dev.resetBelow_linkMarks _ _)) (linkMarks_of_same (Dev.clearCfg_same _ _))) (.foldl _
      (fun _ _ => linkMarks_of_same (Dev.trRetire_same _ _ _)) _ _)) (.foldl _ (fun _ _ => linkMarks_of_same
      (Dev.setPport_same _ _ _)) _ _)) (linkMarks_of_same (Dev.pcieAny_same _ _)))

/-! ### The states alone -/

/-- The link states of every port. -/
def Dev.linkStates (d : Dev) : Nat → Nat := fun p => (d.link p).state

theorem Keeps.linkStates {d e : Dev} (h : Keeps Dev.linkMarks d e) : Keeps Dev.linkStates d e :=
  funext fun p => congrArg Prod.fst (congrFun h p)

theorem linkStates_of_same {bs : List Block} {d e : Dev} (h : SameBut bs d e) (hb : .ln ∉ bs := by decide) :
    Keeps Dev.linkStates d e := (linkMarks_of_same h hb).linkStates

theorem Dev.lnAny_linkStates (d : Dev) (x : LinkSt) (h : (fun p => (x.link.rd p).state) = d.linkStates) :
    Keeps Dev.linkStates d { d with ln := x } := h

theorem Dev.partResetBegin_linkStates (d : Dev) (q cause : Nat) : Keeps Dev.linkStates d (d.partResetBegin q cause) :=
  (Dev.partResetBegin_linkMarks d q cause).linkStates

end Sys2Proof.Machine

/-! PROOF. Run-mode entry, row by row (Table 3.9, R84, R89, R100, R291). -/

namespace Sys2Proof.Machine

-- One theorem at a time, as in the tests: many at once would ask for more threads than the sandbox gives.
set_option Elab.async false

/-! ### The boot port goes to electrical idle -/

/-- The PCI Express ports. -/
def Dev.pports (d : Dev) : Tab PciePort := d.pcie.port

theorem pports_of_same {bs : List Block} {d e : Dev} (h : SameBut bs d e) (hb : .pcie ∉ bs := by decide) :
    Keeps Dev.pports d e := by
  rw [Keeps, Dev.pports, h.pcie hb, Dev.pports]

theorem pports_of_pending {d e : Dev} (h : OnlyPending d e) : Keeps Dev.pports d e := by
  obtain ⟨t, ht⟩ := h
  rw [Keeps, Dev.pports, ht, Dev.pports]

theorem Dev.pcieAny_pports (d : Dev) (x : PcieSt) (h : x.port = d.pports) : Keeps Dev.pports d { d with pcie := x } := h

theorem Dev.lnAny_now (d : Dev) (x : LinkSt) : Keeps Dev.now d { d with ln := x } := rfl

theorem Dev.setCfgWord_pports (d : Dev) (fn w v : Nat) : Keeps Dev.pports d (d.setCfgWord fn w v) := by
  unfold Dev.setCfgWord
  exact Dev.pcieAny_pports _ _ rfl

theorem Dev.bridgeMsi_pports (d : Dev) (fn : Nat) : Keeps Dev.pports d (d.bridgeMsi fn) := by
  unfold Dev.bridgeMsi
  exact .ite (.refl _ _) (.ite (pports_of_same (Dev.sendMsi_same _ _)) (Dev.setCfgWord_pports _ _ _ _))

theorem Dev.slotEvent_pports (d : Dev) (fn bit : Nat) : Keeps Dev.pports d (d.slotEvent fn bit) := by
  unfold Dev.slotEvent
  exact .ite (.trans (Dev.setCfgWord_pports _ _ _ _) (Dev.bridgeMsi_pports _ _)) (Dev.setCfgWord_pports _ _ _ _)

theorem Dev.setLane_linkStates (d : Dev) (t n : Nat) (f : Lane → Lane) : Keeps Dev.linkStates d (d.setLane t n f) := by
  unfold Dev.setLane
  exact Dev.lnAny_linkStates _ _ rfl

theorem Dev.sendLane_linkStates (d : Dev) (t n : Nat) (bs : List Nat) : Keeps Dev.linkStates d (d.sendLane t n bs) := by
  unfold Dev.sendLane
  exact .trans (Dev.setLane_linkStates _ _ _ _) (linkStates_of_same (Dev.putWords_same _ _ _ _))
theorem Dev.setLink_now (d : Dev) (p : Nat) (f : Link → Link) : Keeps Dev.now d (d.setLink p f) := by
  unfold Dev.setLink
  exact Dev.lnAny_now _ _

theorem Dev.setLane_now (d : Dev) (t n : Nat) (f : Lane → Lane) : Keeps Dev.now d (d.setLane t n f) := by
  unfold Dev.setLane
  exact Dev.lnAny_now _ _

theorem Dev.putWords_now (d : Dev) (t n : Nat) (ws : List Nat) : Keeps Dev.now d (d.putWords t n ws) := by
  unfold Dev.putWords
  exact .ite (.of_eq rfl) (.refl _ _)

theorem Dev.sendLane_now (d : Dev) (t n : Nat) (bs : List Nat) : Keeps Dev.now d (d.sendLane t n bs) := by
  unfold Dev.sendLane
  exact .trans (Dev.setLane_now _ _ _ _) (Dev.putWords_now _ _ _ _)

theorem Dev.beginLane_now (d : Dev) (t n p logical : Nat) : Keeps Dev.now d (d.beginLane t n p logical) := by
  unfold Dev.beginLane
  exact .trans (Dev.setLane_now _ _ _ _) (Dev.sendLane_now _ _ _ _)

theorem Dev.startTraining_now (d : Dev) (p : Nat) : Keeps Dev.now d (d.startTraining p) := by
  unfold Dev.startTraining
  exact .trans (.trans (.trans (Dev.lnAny_now _ _) (Dev.setLink_now _ _ _)) (.foldl _ (fun _ _ => .ite (.refl _ _)
      (Dev.beginLane_now _ _ _ _ _)) _ _)) (.foldl _ (fun _ _ => .ite (.refl _ _) (.ite (Dev.beginLane_now _ _ _ _ _)
      (Dev.beginLane_now _ _ _ _ _))) _ _)

/-- A link that falls is inactive and has no width. -/
theorem Dev.linkFall_pport (d : Dev) (p : Nat) :
    ((d.linkFall p).pport p).dlActive = false ∧ ((d.linkFall p).pport p).width = 0 := by
  unfold Dev.linkFall
  extract_lets was d1 d2
  have hfall : (d1.pport p).dlActive = false ∧ (d1.pport p).width = 0 := by simp [d1, Dev.pport, Dev.setPport]
  have hkeep (e : Dev) (h : Keeps Dev.pports d1 e) : (e.pport p).dlActive = false ∧ (e.pport p).width = 0 := by
    rw [Dev.pport, show e.pcie.port = d1.pcie.port from h]
    exact hfall
  have hfire : Keeps Dev.pports d1 d2 := pports_of_pending (Dev.fire_pending _ _)
  split
  · split
    · exact hkeep _ (hfire.trans (.foldl _ (fun _ _ => Dev.slotEvent_pports _ _ _) _ _))
    · exact hkeep _ hfire
  · exact hfall

theorem Dev.commandLink_idle {d : Dev} {p : Nat} (ha : (d.pport p).adminDown = false) (ht : (d.pport p).dpcTriggered = false) :
    ((d.commandLink p 4).pport p).dlActive = false ∧ ((d.commandLink p 4).pport p).width = 0 := by
  simp only [Dev.commandLink, ha, ht]
  exact Dev.linkFall_pport _ _

/-! ### Tables written in one pass -/

theorem foldl_wr_range_rd {α : Type} [DecidableEq α] [Inhabited α] (g : Nat → α) (n : Nat) (t : Tab α) (a : Nat) :
    ((List.range n).foldl (fun t i => t.wr i (g i)) t).rd a = if a < n then g a else t.rd a := by
  induction n with
  | zero => simp
  | succ n ih =>
    rw [List.range_succ, List.foldl_append, List.foldl_cons, List.foldl_nil]
    by_cases ha : a = n
    · simp [ha]
    · rw [Tab.rd_wr_other _ _ _ _ ha, ih]
      simp only [show a < n + 1 ↔ a < n by omega]

theorem Dev.planesReady_rd (d : Dev) {k : Nat} (hk : k < 9) :
    d.planesReady.rd k = { state := if k < 8 then 1 else if d.part.planeOff then 2 else 0 } := by
  rw [Dev.planesReady, foldl_wr_range_rd]
  exact if_pos hk

/-! ### The S ports train -/

theorem Dev.beginLane_linkStates (d : Dev) (t n p l : Nat) : Keeps Dev.linkStates d (d.beginLane t n p l) := by
  unfold Dev.beginLane
  exact .trans (Dev.setLane_linkStates _ _ _ _) (Dev.sendLane_linkStates _ _ _ _)

/-- Training begins on the port itself and leaves the link state of every other port. -/
theorem Dev.startTraining_linkStates (d : Dev) (p q : Nat) :
    (d.startTraining p).linkStates q = if q = p then 1 else d.linkStates q := by
  unfold Dev.startTraining
  extract_lets t spares src d0 d1 d2
  have hlanes : Keeps Dev.linkStates d1 d2 := by
    refine .foldl _ (fun e n => ?_) _ _
    dsimp only
    exact .ite (.refl _ _) (Dev.beginLane_linkStates _ _ _ _ _)
  have hspares : Keeps Dev.linkStates d2 ((spares.filter (fun n => d2.spareHere t n)).foldl (fun e n =>
      let l := e.lane t n
      if l.state = 11 then e
      else if l.serves = 0x1F then e.beginLane t n p 0x1F
      else e.beginLane t n p (l.serves - 2 * portSlot p)) d2) := by
    refine .foldl _ (fun e n => ?_) _ _
    dsimp only
    exact .ite (.refl _ _) (.ite (Dev.beginLane_linkStates _ _ _ _ _) (Dev.beginLane_linkStates _ _ _ _ _))
  refine (congrFun (hlanes.trans hspares) q).trans ?_
  by_cases hq : q = p
  · simp [hq, d1, Dev.linkStates, Dev.link, Dev.setLink]
  · simp [hq, d1, d0, src, Dev.linkStates, Dev.link, Dev.setLink, Tab.rd_upd_other]

theorem foldl_startTraining_linkStates (l : List Nat) (d : Dev) (q : Nat) :
    (l.foldl (fun e p => e.startTraining p) d).linkStates q = if q ∈ l then 1 else d.linkStates q := by
  induction l generalizing d with
  | nil => simp
  | cons p l ih =>
    rw [List.foldl_cons, ih, Dev.startTraining_linkStates]
    by_cases hq : q = p <;> simp [hq]

theorem Dev.watchMode_now (d : Dev) (f : Dev → Dev) : (d.watchMode f).now = (f d).now := by
  unfold Dev.watchMode
  dsimp only
  split
  · rfl
  · exact (Dev.fire_clock _ _).1

theorem Dev.isS_congr {d e : Dev} (hr : e.run = d.run) (hp : e.part = d.part) : e.isS = d.isS := by
  funext p
  have hports : e.ports = d.ports := by simp only [Dev.ports, Dev.tiles, hp]
  simp only [Dev.isS, hports, Dev.role, Dev.cutWidth, hr]

theorem Dev.sPorts_congr {d e : Dev} (hr : e.run = d.run) (hp : e.part = d.part) : e.sPorts = d.sPorts := by
  rw [Dev.sPorts, Dev.isS_congr hr hp, Dev.ports, Dev.tiles, hp]
  rfl

/-! ### The cores -/

theorem foldl_setCore_rd (g : Nat → Core → Core) (n : Nat) (d : Dev) (c : Nat) :
    ((List.range n).foldl (fun e k => e.setCore k (g k)) d).cores.core.rd c =
      if c < n then g c (d.cores.core.rd c) else d.cores.core.rd c := by
  induction n with
  | zero => simp
  | succ n ih =>
    rw [List.range_succ, List.foldl_append, List.foldl_cons, List.foldl_nil, Dev.setCore]
    by_cases hc : c = n
    · subst hc
      simp [ih]
    · rw [Tab.rd_upd_other _ _ _ _ hc, ih]
      simp only [show c < n + 1 ↔ c < n by omega]

/-! ### The rows -/

theorem bootPortRelease_of_accepted {d : Dev} (h : d.mode.entry = .accepted) :
    ∃ e : Dev, e = ((if d.isBoot 0 then d.commandLink 0 4 else d).endpointReset).applyTiles ∧ bootPortRelease d =
      { e with
        mode := { e.mode with entry := .tilesSet, t8Open := e.is7144 && e.role 8 != 0 }
        pcie.capBus := e.pcie.capBus.del 0
        ln.tile := (List.range e.tiles).foldl (fun (t : Tab TileSt) k => t.wr k { pll0 := true, pll1 := !bitAt e.part.pllOff k }) []
        sw.plane := e.planesReady } :=
  ⟨_, rfl, if_neg (by simp [h])⟩

theorem Dev.activate_fires (d : Dev) : SameBut [.evt, .pcie] d.activated d.activate := by
  rw [Dev.activate_eq]
  exact .ite (Dev.fire_same _ _) (.refl _ _)

/-- A seal that takes force fires its event (R74). -/
theorem Dev.activate_sealed {d : Dev} (h : d.activate.run.sealed = true) : d.activate.evt.status.getLsbD 0x045 = true := by
  rw [(Dev.activate_fires d).run] at h
  rw [Dev.activate_eq, if_pos (show d.activeCfg.sealed = true from h)]
  exact Dev.fire_sets _ _ (by simp [Dev.sourcePresent]) (by decide)

/-- The levels of R75 for an image without a Debug Ceiling section. -/
theorem Dev.activeCfg_ceiling {d : Dev} (h : d.plat.secs.any (fun x => x.type == 0x0F) = false) {c : Nat} (hc : c < 5) :
    d.activeCfg.ceiling.rd c = if d.activeCfg.sealed then 0 else 3 := by
  simp only [Dev.activeCfg, h, Bool.false_eq_true, if_false]
  exact (foldl_wr_range_rd (fun _ => if d.activeCfg.sealed then 0 else 3) 5 ([] : Tab Nat) c).trans (if_pos hc)

theorem Dev.startCores_rd (d : Dev) {c : Nat} (hc : c < 5) : d.startCores.cores.core.rd c =
    (d.cores.core.rd c).start (d.run.firmware.rd c) c (if c = 4 then .standby else .running) :=
  (foldl_setCore_rd (fun k x => x.start (d.run.firmware.rd k) k (if k = 4 then .standby else .running)) 5 d c).trans (if_pos hc)

theorem NeighbourSide.hold_copy (n : NeighbourSide) : n.hold.copy = n.copy ∧ (n.hold.copy ≠ [] → n.hold.state = 1) := by
  cases h : n.copy.isEmpty <;> simp_all [NeighbourSide.hold]

/-- The device in the run mode of its image. -/
def Dev.withRunMode (d : Dev) : Dev :=
  { d with mode := { d.mode with base := (Mode.ofNum d.run.runMode).getD d.mode.base, entry := .none } }

/-- After the mode changes the ports train and the tick is joined; what follows leaves mode, tick and links alone. -/
theorem runModeEntered_of_started {d : Dev} (h : d.mode.entry = .coresStarted) :
    let d1 := d.watchMode Dev.withRunMode
    let trained := d1.sPorts.foldl (fun e p => e.startTraining p) d1
    (runModeEntered d).mode = d1.mode ∧ (runModeEntered d).tick = trained.joinTick.tick ∧
      Keeps Dev.linkStates trained (runModeEntered d) := by
  intro d1 trained
  let d2 := trained.joinTick
  let d3 := d2.hPorts.foldl (fun e p => e.commandLink p 1) d2
  let final := if d3.perstActs then ((List.range d3.tiles).filter (fun t => !bitAt d3.mode.perst t)).foldl
    (fun e t => (e.tilePartitions t).foldl (fun x q => x.partResetBegin q 0) e) d3 else d3
  have hrow : runModeEntered d = final := if_neg (by simp [h])
  have htrained : SameBut [.ln] d1 trained := .foldl _ (fun _ _ => Dev.startTraining_same _ _) _ _
  have hjoin : SameBut [.tick] trained d2 := Dev.joinTick_same _
  have hcommand : SameBut [.pcie, .sw, .evt] d2 d3 := .foldl _ (fun _ _ => Dev.commandLink_same _ _ _) _ _
  have hreset : SameBut (.jobs :: .ln :: .sw :: .tally :: .trav :: .fab :: .bnd :: .cont :: recordBlocks) d3 final :=
    .ite (.foldl _ (fun _ _ => .foldl _ (fun _ _ => Dev.partResetBegin_same _ _ _) _ _) _ _) (.refl _ _)
  have hlinks : Keeps Dev.linkStates d3 final :=
    .ite (.foldl _ (fun _ _ => .foldl _ (fun _ _ => Dev.partResetBegin_linkStates _ _ _) _ _) _ _) (.refl _ _)
  rw [hrow]
  refine ⟨by rw [hreset.mode, hcommand.mode, hjoin.mode, htrained.mode], by rw [hreset.tick, hcommand.tick], ?_⟩
  exact ((linkStates_of_same hjoin).trans (linkStates_of_same hcommand)).trans hlinks

/-- Settles O14. -/
theorem runModeEntry : Obligations.RunModeEntry := by
  unfold Obligations.RunModeEntry
  intro s g
  refine ⟨fun h => Gives.of_onDev rfl ?release, fun h => Gives.of_onDev rfl ?activate, fun h => Gives.of_onDev rfl ?cores,
    fun b h hb => Gives.of_onDev rfl ?entered⟩
  case release =>
    have hsame := bootPortRelease_same s.dev
    obtain ⟨e, he, hrow⟩ := bootPortRelease_of_accepted h
    have hidle : SameBut [.pcie, .sw, .evt] s.dev (if s.dev.isBoot 0 then s.dev.commandLink 0 4 else s.dev) :=
      .ite (Dev.commandLink_same _ _ _) (.refl _ _)
    have hreset := hidle.then (Dev.endpointReset_same _)
    have hmode : e.mode = s.dev.mode := by rw [he, (Dev.applyTiles_same _).mode, hreset.mode]
    have hpart : e.part = s.dev.part := by rw [he, (Dev.applyTiles_same _).part, hreset.part]
    have hrun : e.run = { s.dev.run with tile := g.tile, cut := g.cut } := by
      rw [he, Dev.applyTiles, hreset.run, hreset.plat]
    rw [hrow] at hsame ⊢
    refine ⟨?_, hrun, fun t ht => ?_, fun k hk => ?_, ?_, fun hboot hadmin hdpc => ?_, fun w hw => ?_, hsame.mono (by decide)⟩
    · simp [hmode, hpart, Dev.is7144, Dev.role]
    · have htile : t < e.tiles := by rwa [Dev.tiles, hpart]
      simp only [foldl_wr_range_rd, if_pos htile, hpart]
      exact ⟨trivial, trivial⟩
    · simp [Dev.planesReady_rd _ (Nat.lt_trans hk (by decide)), hk]
    · simp [Dev.planesReady_rd _ (show 8 < 9 by decide), hpart]
    · have hport : e.pcie.port = (s.dev.commandLink 0 4).pcie.port := by
        rw [he, if_pos hboot]
        rfl
      have hlink := Dev.commandLink_idle hadmin hdpc
      rw [Dev.pport] at hlink ⊢
      rwa [hport]
    · rw [he]
      exact Dev.endpointReset_cfg _ hw
  case activate =>
    have hsame := runStateActivate_same s.dev
    have hfires := Dev.activate_fires { s.dev with mode.entry := .activated }
    rw [runStateActivate, if_neg (by simp [h])] at hsame ⊢
    refine ⟨?_, ?_, fun hc => ?_, fun hc c h5 => ?_, fun k hk => ?_, ?_, ?_, ?_, ?_, ?_, fun hsealed => ?_, hsame.mono (by decide)⟩
    · rw [hfires.mode]
      simp [Dev.activated]
    · rw [hfires.run]
      rfl
    · rw [hfires.run]
      exact if_pos hc
    · rw [hfires.run]
      exact Dev.activeCfg_ceiling hc h5
    · rw [hfires.nb]
      obtain rfl | rfl : k = 0 ∨ k = 1 := by omega
      · exact NeighbourSide.hold_copy _
      · exact NeighbourSide.hold_copy _
    · rw [hfires.fab]
      exact Nat.succ_pos _
    · rw [hfires.fab]
      exact Nat.add_lt_of_lt_sub (Nat.mod_lt _ (by decide))
    · rw [hfires.fab]
      simp [Dev.activated]
    · rw [hfires.fab]
      simp [Dev.activated]
    · rw [hfires.bnd]
      simp [Dev.activated]
    · exact Dev.activate_sealed hsealed
  case cores =>
    have hsame := coresStart_same s.dev
    rw [coresStart, if_neg (by simp [h])] at hsame ⊢
    refine ⟨(Dev.startCores_same _).mode, fun c hc => ?_, hsame⟩
    have hcore := Dev.startCores_rd { s.dev with mode.entry := .coresStarted } hc
    refine ⟨congrArg Core.state hcore, congrArg Core.role hcore, ?_, ?_⟩
    · rw [hcore]
      simp [Core.start]
    · obtain rfl | rfl | rfl | rfl | rfl : c = 0 ∨ c = 1 ∨ c = 2 ∨ c = 3 ∨ c = 4 := by omega
      all_goals rfl
  case entered =>
    have hsame := runModeEntered_same s.dev
    have hfires := Dev.watchMode_fires s.dev Dev.withRunMode
    obtain ⟨hmode, htick, hlink⟩ := runModeEntered_of_started h
    have hports := Dev.sPorts_congr (hsame.run.trans hfires.run.symm) (hsame.part.trans hfires.part.symm)
    have hnow : ((s.dev.watchMode Dev.withRunMode).sPorts.foldl (fun e p => e.startTraining p)
        (s.dev.watchMode Dev.withRunMode)).now = s.dev.now := by
      rw [Keeps.foldl _ (fun _ _ => Dev.startTraining_now _ _), Dev.watchMode_now]
      rfl
    have hrun : ((s.dev.watchMode Dev.withRunMode).sPorts.foldl (fun e p => e.startTraining p)
        (s.dev.watchMode Dev.withRunMode)).run = s.dev.run := by
      rw [(SameBut.foldl _ (fun _ _ => Dev.startTraining_same _ _) _ _).run, hfires.run]
      rfl
    refine ⟨?_, ?_, ?_, ?_, ?_, fun p hp => ?_, hsame.run, hsame.plat, hsame.part⟩
    · rw [hmode, hfires.mode]
      simp [Dev.withRunMode, hb]
    · rw [htick]
      rfl
    · rw [htick]
      exact hnow
    · rw [htick]
      rfl
    · rw [htick, Dev.joinTick, hrun]
    · rw [hports] at hp
      refine (congrFun hlink p).trans ?_
      rw [foldl_startTraining_linkStates, if_pos hp]

end Sys2Proof.Machine

/-! PROOF. The neighbour exchange at the device that needs a Plat (R88, R92, R93, R95, R96). -/

namespace Sys2Proof.Machine

-- One theorem at a time, as in the tests: many at once would ask for more threads than the sandbox gives.
set_option Elab.async false

/-! ### Messages that the ring brings -/

theorem Dev.ringIn_of_hears {d : Dev} (h : Hears d) (o : Out) (f : Dev → Dev) : d.ringIn o f = f d := by
  obtain ⟨hdie, hopen⟩ := h
  simp [Dev.ringIn, hdie, hopen]

theorem Dev.ringIn_of_bypass {d : Dev} (h : d.pkg.srDie = false) (o : Out) (f : Dev → Dev) :
    d.ringIn o f = { d with out := o :: d.out } := by
  simp [Dev.ringIn, h]

/-- What leaves changes nothing but the outputs. -/
theorem Dev.outAny_same (d : Dev) (o : List Out) : SameBut [] d { d with out := o } := fun b _ => by cases b <;> rfl

theorem Dev.sendNeighbour_out (d : Dev) (pair type offset : Nat) (body : List Nat) :
    (d.sendNeighbour pair type offset body).out = d.shown [.neighbour pair (neighbourMsg type offset body)] := rfl

theorem Dev.emit_emit_out (d : Dev) (a b : Out) : ((d.emit a).emit b).out = d.shown [b, a] := by
  cases h : d.mode.railFail <;> simp [Dev.shown, h, withLines]

/-- NEED_PLAT goes out on both pairs while nothing claims the loader (R93). -/
theorem needPlatRepeat_of_waiting {d : Dev} (hm : d.mode.base = .m1) (hs : d.strap 2 = true) (hc : d.plat.claim = none) :
    needPlatRepeat d =
      let body := toLe 4 (if d.is7144 then 0x7144 else 0x7080) ++ toLe 4 d.part.siliconRev
      (d.sendNeighbour 0 0x21 0 body).sendNeighbour 1 0x21 0 body :=
  if_pos (by simp [hm, hs, hc])

/-! ### OFFER (R95) -/

theorem Dev.declineHolder_of_none {d : Dev} (h : d.nb.holder = none) : d.declineHolder = d := by
  simp [Dev.declineHolder, h]

/-- The device that takes an offer: the holder it streams from, and the ACCEPT that it answers. -/
def Dev.takeOffer (d : Dev) (cycle pair id len : Nat) : Dev :=
  ({ d with nb := { d.nb with holder := some pair, offerCycle := cycle, offerId := id, nextOff := 0, filled := 0, length := len } }).sendNeighbour
    (replyPair pair) 0x23 0 (toLe 8 id)

theorem Dev.takeOffer_same (d : Dev) (cycle pair id len : Nat) : SameBut [.nb] d (d.takeOffer cycle pair id len) :=
  (Dev.nbAny_same d _).then (Dev.sendNeighbour_same _ _ _ _ _)

theorem Dev.platStart_of_free {d : Dev} {p : CmdPort} (h : (d.startRefusal p).1 = 0) (hc : d.plat.claim = none) :
    d.platStart p = { d with plat := d.plat.begin_ p d.mclk } := by
  unfold Dev.platStart
  dsimp only
  rw [if_pos h, hc]
  rfl

theorem Dev.platBufferWrite_of_free {d : Dev} {p : CmdPort} {off : Nat} {bs : List Nat} (hp : d.holds p = true)
    (hf : d.plat.bufFree = true) : d.platBufferWrite p off bs = { d with plat := d.plat.fill off bs } := by
  simp [Dev.platBufferWrite, hp, hf]

theorem offer_first {d : Dev} {pair : Fin 2} {id len target rev : Nat} (h : Hears d) (hm : d.mode.base = .m1)
    (hs : d.strap 2 = true) (hh : d.nb.holder = none) (hr : (d.startRefusal .ring).1 = 0) :
    offer pair id len target rev d = (d.platStart .ring).takeOffer d.mclk pair.val id len := by
  rw [offer, Dev.neighbourIn, Dev.ringIn_of_hears h]
  simp only [hm, hs, hh, hr]
  rfl

theorem offer_later {d : Dev} {pair : Fin 2} {id len target rev held : Nat} (h : Hears d) (hm : d.mode.base ≠ .m0)
    (hh : d.nb.holder = some held) (hn : pair ≠ 0 ∨ held ≠ 1 ∨ d.nb.offerCycle ≠ d.mclk) :
    offer pair id len target rev d = d.sendNeighbour (replyPair pair.val) 0x24 0 (toLe 8 id) := by
  rw [offer, Dev.neighbourIn, Dev.ringIn_of_hears h]
  dsimp only
  rw [if_neg hm, if_neg (by simp [hh]), if_neg]
  rintro ⟨hp, h1, hc, -⟩
  rw [hh, Option.some.injEq] at h1
  obtain hn | hn | hn := hn
  · exact hn (Fin.ext hp)
  · exact hn h1
  · exact hn hc

theorem offer_instead {d : Dev} {id len target rev : Nat} (h : Hears d) (hm : d.mode.base ≠ .m0)
    (hh : d.nb.holder = some 1) (hc : d.nb.offerCycle = d.mclk) (hn : d.nb.nextOff = 0) (hr : d.holds .ring = true) :
    offer 0 id len target rev d = d.declineHolder.takeOffer d.mclk 0 id len := by
  rw [offer, Dev.neighbourIn, Dev.ringIn_of_hears h]
  dsimp only
  rw [if_neg hm, if_neg (by simp [hh]), if_pos ⟨rfl, hh, hc, hn, hr⟩]
  rfl

/-! ### DATA (R96) -/

theorem data_of_hears {d : Dev} {pair : Fin 2} {off : Nat} {body : List Byte} (h : Hears d)
    (hh : d.nb.holder = some pair.val) (hr : d.holds .ring = true) (hl : body.length ≤ 256) (h8 : body.length % 8 = 0) :
    data pair off body d = if off ≠ d.nb.nextOff then d.platStop 0x1C
      else
        let d1 := d.platBufferWrite .ring d.nb.filled (body.map BitVec.toNat)
        let filled := d.nb.filled + body.length
        let next := d.nb.nextOff + body.length
        if filled = 65536 ∨ next = d.nb.length then
          ({ d1 with nb.nextOff := next, nb.filled := 0 }).platHandover .ring filled
        else { d1 with nb.nextOff := next, nb.filled := filled } := by
  rw [data, Dev.neighbourIn, Dev.ringIn_of_hears h]
  exact if_pos ⟨hh, hr, by simp [neighbourBody, hl, h8]⟩

theorem getD_map_toNat (body : List Byte) (k : Nat) : (body.map BitVec.toNat).getD k 0 = (body.getD k 0).toNat := by
  rw [List.getD_eq_getElem?_getD, List.getD_eq_getElem?_getD, List.getElem?_map]
  cases body[k]? <;> rfl

/-- Settles O15. -/
theorem neighbourRequester : Obligations.NeighbourRequester := by
  unfold Obligations.NeighbourRequester
  intro s pair id len target rev off body back
  refine ⟨fun hm hs hc => Gives.of_onDev rfl ?need, fun hp => Gives.of_onDev rfl ?bypass,
    fun h hm hs hh hc hr => Gives.of_onDev rfl ?first, fun held h hm hh => ⟨fun hn => Gives.of_onDev rfl ?later,
      fun hp h1 hc hn hr hrail hout => Gives.of_onDev rfl ?instead_⟩,
    fun h hh hr => ⟨fun hl h8 ho => Gives.of_onDev rfl ?broken, fun hl h8 ho hf hfill hlast => Gives.of_onDev rfl ?fills,
      fun hst hf => Gives.of_onDev rfl ?done⟩⟩
  case need =>
    rw [needPlatRepeat_of_waiting hm hs hc]
    exact ⟨Dev.emit_emit_out _ _ _, (Dev.sendNeighbour_same _ _ _ _ _).trans (Dev.sendNeighbour_same _ _ _ _ _)⟩
  case bypass =>
    rw [offer, Dev.neighbourIn, Dev.ringIn_of_bypass hp]
    exact ⟨rfl, Dev.outAny_same _ _⟩
  case first =>
    have hplat := Dev.platStart_plat hr
    have hsame := Dev.platStart_same_of_free hr hc
    rw [offer_first h hm hs hh hr]
    refine ⟨?_, ?_, rfl, rfl, ?_, (hsame.mono (by decide)).trans ((Dev.takeOffer_same _ _ _ _ _).mono (by decide))⟩
    · exact congrArg PlatSt.state hplat
    · exact congrArg PlatSt.source hplat
    · rw [Dev.platStart_of_free hr hc]
      rfl
  case later =>
    rw [offer_later h hm hh hn]
    exact ⟨rfl, Dev.sendNeighbour_same _ _ _ _ _⟩
  case instead_ =>
    subst hp h1
    rw [offer_instead h hm hh hc hn hr]
    refine ⟨rfl, rfl, ?_, (Dev.declineHolder_same _).trans (Dev.takeOffer_same _ _ _ _ _)⟩
    simp [Dev.takeOffer, Dev.sendNeighbour, Dev.declineHolder, hh, hout, Dev.shown, hrail, swapOut, replyPair, withLines,
      Out.onLine, Out.ringBlocks]
  case broken =>
    rw [data_of_hears h hh hr hl h8, if_pos ho, Dev.platStop]
    obtain ⟨hreject, hclaim⟩ := Dev.platReject_reports s.dev
      { code := 0x1C, section_ := 0xFFFF, detail := 0, offset := s.dev.plat.bytes }
    exact ⟨by rw [hreject], hclaim, Dev.platReject_same _ _⟩
  case fills =>
    rw [data_of_hears h hh hr hl h8, if_neg (by simp [ho])]
    dsimp only
    rw [if_neg (by omega), Dev.platBufferWrite_of_free hr hf]
    refine ⟨rfl, rfl, fun k hk => ?_, by simp [sameBut_iff]⟩
    refine (PlatSt.fill_rd _ _ _ _).trans ?_
    rw [if_pos (by simp [hk]), Nat.add_sub_cancel_left, getD_map_toNat]
    exact Nat.mod_eq_of_lt (body.getD k 0).isLt
  case done =>
    rw [neighbourDone, Dev.neighbourIn, Dev.ringIn_of_hears h, if_pos hh, Dev.platEnd_of_busy hr hst hf]
    exact ⟨rfl, rfl, Dev.platAny_same _ _⟩

end Sys2Proof.Machine

/-! PROOF. The neighbour exchange at the device that holds a copy (R94 to R96, R98, R99). -/

namespace Sys2Proof.Machine

-- One theorem at a time, as in the tests: many at once would ask for more threads than the sandbox gives.
set_option Elab.async false

theorem Dev.startStream_same (d : Dev) (s : Nat) : SameBut [.jobs] d (d.startStream s) := by
  unfold Dev.startStream
  dsimp only
  split
  · exact .mono (Dev.jobsAny_same _ _) (by decide)
  · exact .then (.mono (Dev.tickFree_same _) (by decide)) (Dev.startInternal_same _ _)

theorem Dev.endStream_same (d : Dev) (s : Nat) (st : JobState) (result : Nat) : SameBut (.jobs :: recordBlocks) d
    (d.endStream s st result) := by
  unfold Dev.endStream
  split
  · exact .mono (Dev.endJob_same _ _ _ _ _) (by decide)
  · exact .refl _ _

theorem Dev.withdraw_same (d : Dev) (s : Nat) : SameBut (.nb :: .jobs :: recordBlocks) d (d.withdraw s) := by
  unfold Dev.withdraw
  exact .ite (.then (.mono (Dev.setSide_same _ _ _) (by decide)) (Dev.endStream_same _ _ _ _)) (.refl _ _)

theorem Dev.streamStep_same (d : Dev) (s phase : Nat) : SameBut [.nb] d (d.streamStep s phase) := by
  unfold Dev.streamStep
  exact .ite (.then (.mono (Dev.setSide_same _ _ _) (by decide)) (Dev.sendNeighbour_same _ _ _ _ _)) (.ite (.ite (.mono
      (Dev.setSide_same _ _ _) (by decide)) (.then (.mono (Dev.setSide_same _ _ _) (by decide)) (as := [])
      (fun b _ => by cases b <;> rfl))) (.then (.mono (Dev.setSide_same _ _ _) (by decide))
      (Dev.sendNeighbour_same _ _ _ _ _)))

theorem Dev.stepStream_same (d : Dev) (k : Nat) : SameBut (.nb :: .jobs :: recordBlocks) d (d.stepStream k) := by
  unfold Dev.stepStream
  exact .ite (.mono (Dev.endJob_same _ _ _ _ _) (by decide)) (.then (.then (.mono (Dev.streamStep_same _ _ _) (by decide))
      (Dev.tickFree_same _)) (Dev.setJob_same _ _ _))

/-! ### One side of the neighbour store -/

@[simp] theorem Dev.setSide_side_same (d : Dev) {s : Nat} (h : s < 2) (f : NeighbourSide → NeighbourSide) :
    (d.setSide s f).nb.side s = f (d.nb.side s) := by
  obtain rfl | rfl : s = 0 ∨ s = 1 := by omega
  all_goals rfl

theorem Dev.setSide_side_other (d : Dev) {s : Nat} (h : s < 2) (f : NeighbourSide → NeighbourSide) :
    (d.setSide s f).nb.side (1 - s) = d.nb.side (1 - s) := by
  obtain rfl | rfl : s = 0 ∨ s = 1 := by omega
  all_goals rfl

theorem sideOf_lt (pair : Fin 2) : sideOf pair.val < 2 := by
  unfold sideOf
  omega

/-! ### The outputs and the status of the mode -/

theorem mem_shown {d : Dev} (h : d.mode.railFail = false) (o : Out) : o ∈ d.shown [o] := by
  simp [Dev.shown, h, withLines]

/-- Writing an entry that has no more of a property than the one before leaves open whether any entry has it. -/
theorem Tab.any_ins {α : Type} [Inhabited α] (t : Tab α) (i : Nat) (v : α) (P : α → Bool) (ho : P (t.rd i) = false)
    (hn : P v = false) : (t.ins i v).any (fun e => P e.2) = t.any (fun e => P e.2) := by
  induction t with
  | nil => simp [Tab.ins, hn]
  | cons x t ih =>
    obtain ⟨k, w⟩ := x
    unfold Tab.ins
    split
    next hk =>
      have hrd : Tab.rd ((k, w) :: t) i = Tab.rd t i := if_neg (Nat.ne_of_lt hk)
      rw [List.any_cons, List.any_cons, ih (by rwa [hrd] at ho)]
    next hk =>
      split
      next hki =>
        have hw : P w = false := by rwa [show Tab.rd ((k, w) :: t) i = w from if_pos hki] at ho
        simp [hn, hw]
      next => simp [hn]

theorem Tab.any_upd {α : Type} [Inhabited α] [DecidableEq α] (t : Tab α) (i : Nat) (f : α → α) (P : α → Bool)
    (ho : P (t.rd i) = false) (hn : P (f (t.rd i)) = false) (hd : f (t.rd i) ≠ default) :
    (t.upd i f).any (fun e => P e.2) = t.any (fun e => P e.2) := by
  rw [Tab.upd, Tab.wr, Tab.wrD, if_neg hd, Tab.any_ins t i _ P ho hn]

/-- Nothing that STATUS_MODE shows has changed. -/
theorem Dev.modeStatus_congr {d e : Dev} (hm : e.mode = d.mode) (hco : e.cores = d.cores)
    (hct : e.cont = d.cont) (h8 : e.m8 = d.m8) : e.modeStatus = d.modeStatus := by
  simp only [Dev.modeStatus, Dev.haltedCores, Dev.m9, Dev.inRun, Dev.anyIsolated, hm, hco, hct, h8]

theorem Dev.watchMode_of_eq {d : Dev} {f : Dev → Dev} (h : (f d).modeStatus = d.modeStatus) : d.watchMode f = f d := if_pos h

/-! ### The step of a stream job -/

theorem Dev.setJob_m8 {d : Dev} {k : Nat} {f : Job → Job} (ho : (d.job k).isService = false)
    (hn : (f (d.job k)).isService = false) (hd : f (d.job k) ≠ default) : (d.setJob k f).m8 = d.m8 :=
  Tab.any_upd d.jobs.slot k f (fun j => j.isService && (j.state == .running || j.state == .committing))
    (by simp [show (d.jobs.slot.rd k).isService = false from ho]) (by simp [show (f (d.jobs.slot.rd k)).isService = false from hn]) hd

/-- The SVC has taken up job `k`, which is no repair (R116). -/
def Dev.takeUp (d : Dev) (k : Nat) (j : Job) : Dev :=
  { (({ d with jobs.lastTurn := j.order }).setJob k (fun x => { x with state := .running, locked := false })) with
    jobs.suspended := none }

theorem Dev.takeUp_same (d : Dev) (k : Nat) (j : Job) : SameBut [.jobs] d (d.takeUp k j) := by
  refine .then ((Dev.jobsAny_same d _).then (Dev.setJob_same _ k _)) (Dev.jobsAny_same _ _)

theorem Dev.takeUp_job (d : Dev) (k : Nat) (j : Job) :
    (d.takeUp k j).job k = { d.jobs.slot.rd k with state := .running, locked := false } := by
  simp [Dev.takeUp, Dev.job, Dev.setJob]

theorem jobStep_of_stream {d : Dev} {inp : StepIn} {k : Nat} {j : Job} (hr : d.svcRuns = true)
    (hw : d.tick.windowOpen.rd 3 = true) (hs : d.suspendedJob = none) (hp : d.pickJob = some (k, j))
    (hop : j.op = 0x81) (hc : j.cancel = false) (ha : j.abandon = false) (hh : inp.held = false) :
    jobStep inp d = d.watchMode (fun e => (e.takeUp k j).stepOf k inp) := by
  have hrepair : j.isRepair = false := by simp [Job.isRepair, hop]
  unfold jobStep
  rw [if_neg (by simp [hr, hw])]
  simp only [hs, hp, hrepair, hc, ha, hh, Dev.runStep]
  rfl

/-- Job `k` of side `s` has taken its step at `phase`. -/
def Dev.streamed (d : Dev) (k s : Nat) (j : Job) : Dev :=
  ((d.takeUp k j).streamStep s j.phase).tickFree.setJob k (fun x => { x with phase := 1, progress := d.freeVal 32 })

theorem Dev.streamed_same (d : Dev) (k s : Nat) (j : Job) : SameBut [.jobs, .nb] d (d.streamed k s j) :=
  .then (.then (.then (.mono (Dev.takeUp_same d k j) (by decide)) (Dev.streamStep_same _ _ _)) (Dev.tickFree_same _))
    (Dev.setJob_same _ _ _)

theorem Dev.streamStep_jobs (d : Dev) (k s : Nat) (j : Job) :
    ((d.takeUp k j).streamStep s j.phase).tickFree.jobs = (d.takeUp k j).jobs := by
  rw [(Dev.tickFree_same _).jobs, (Dev.streamStep_same _ _ _).jobs]

theorem Dev.setJob_job (d : Dev) (k : Nat) (f : Job → Job) : (d.setJob k f).job k = f (d.job k) := Tab.rd_upd_same _ _ _

theorem Dev.streamStep_job {d : Dev} {k : Nat} {j : Job} (hk : d.jobs.slot.rd k = j) (s : Nat) :
    ((d.takeUp k j).streamStep s j.phase).tickFree.job k = { j with state := .running, locked := false } := by
  rw [Dev.job, Dev.streamStep_jobs, ← hk]
  exact Dev.takeUp_job d k _

theorem Dev.streamed_job {d : Dev} {k : Nat} {j : Job} (hk : d.jobs.slot.rd k = j) (s : Nat) : (d.streamed k s j).job k =
    { j with state := .running, locked := false, phase := 1, progress := d.freeVal 32 } := by
  rw [Dev.streamed, Dev.setJob_job, Dev.streamStep_job hk]

theorem Dev.streamed_m8 {d : Dev} {k : Nat} {j : Job} (hk : d.jobs.slot.rd k = j) (hop : j.op = 0x81) (s : Nat) :
    (d.streamed k s j).m8 = d.m8 := by
  have htaken : (d.takeUp k j).m8 = d.m8 := by
    show (Dev.setJob { d with jobs.lastTurn := j.order } k (fun x => { x with state := .running, locked := false })).m8 =
      Dev.m8 { d with jobs.lastTurn := j.order }
    refine Dev.setJob_m8 ?_ ?_ (fun h => nomatch congrArg Job.state h)
    · simp [Dev.job, hk, Job.isService, hop]
    · simp [Dev.job, hk, Job.isService, hop]
  have hjob := Dev.streamStep_job hk s
  rw [Dev.streamed, Dev.setJob_m8]
  · rw [← htaken, Dev.m8, Dev.jobList, Dev.streamStep_jobs]
    rfl
  · simp [hjob, Job.isService, hop]
  · simp [hjob, Job.isService, hop]
  · rw [hjob]
    exact fun h => nomatch congrArg Job.state h

/-- A step of a stream job of side `s` that does not end the job; STATUS_MODE shows what it did before. -/
theorem jobStep_of_streamed {d : Dev} {inp : StepIn} {k s : Nat} {j : Job} (hr : d.svcRuns = true)
    (hw : d.tick.windowOpen.rd 3 = true) (hs : d.suspendedJob = none) (hp : d.pickJob = some (k, j))
    (hk : d.jobs.slot.rd k = j) (hop : j.op = 0x81) (harg : j.arg0 = s) (hc : j.cancel = false) (ha : j.abandon = false)
    (hh : inp.held = false) (hend : j.phase = 0 ∨ ((d.nb.side s).state ≠ 4 ∧ (d.nb.side s).state ≠ 5)) :
    jobStep inp d = d.streamed k s j := by
  have hstep : (d.takeUp k j).stepOf k inp = d.streamed k s j := by
    have hnot : ¬ (j.phase ≠ 0 ∧ (((d.takeUp k j).nb.side s).state = 4 ∨ ((d.takeUp k j).nb.side s).state = 5)) := by
      rintro ⟨h0, h45⟩
      obtain h | ⟨h4, h5⟩ := hend
      · exact h0 h
      · exact h45.elim h4 h5
    simp only [Dev.stepOf, Dev.stepStream, Dev.takeUp_job, hk, hop, harg]
    rw [if_neg hnot]
    rfl
  have hsame := Dev.streamed_same d k s j
  rw [jobStep_of_stream hr hw hs hp hop hc ha hh, Dev.watchMode_of_eq, hstep]
  rw [hstep]
  exact Dev.modeStatus_congr hsame.mode hsame.cores hsame.cont (Dev.streamed_m8 hk hop s)

/-! ### What a step sends (R94, R96) -/

theorem Dev.streamStep_offer (d : Dev) {s phase : Nat} (h : s < 2) (hp : phase = 0) :
    ((d.streamStep s phase).nb.side s).state = 2 ∧ (d.streamStep s phase).out = d.shown [.neighbour s (neighbourMsg 0x22 0
      (slice (d.nb.side s).copy 0x18 8 ++ slice (d.nb.side s).copy 8 4 ++ slice (d.nb.side s).copy 0xE 2 ++ slice (d.nb.side s).copy 0x10 2))] := by
  subst hp
  obtain rfl | rfl : s = 0 ∨ s = 1 := by omega
  all_goals exact ⟨rfl, rfl⟩

theorem Dev.streamStep_data {d : Dev} {s phase : Nat} (h : s < 2) (hp : phase ≠ 0) (hr : d.mode.railFail = false)
    (hl : (d.nb.side s).sent < (d.nb.side s).copy.length) :
    let n := d.nb.side s
    let len := min 256 (n.copy.length - n.sent)
    ((d.streamStep s phase).nb.side s).sent = n.sent + len ∧
      .neighbour s (neighbourMsg 0x25 n.sent (slice n.copy n.sent len)) ∈ (d.streamStep s phase).out := by
  intro n len
  have hrow : d.streamStep s phase = { d.setSide s (fun m => { m with sent := n.sent + len }) with
      out := withData d.out s n.sent n.copy.length (slice n.copy n.sent len) } := by
    rw [Dev.streamStep, if_neg hp, if_pos hl, if_neg (by simp [hr])]
  rw [hrow]
  exact ⟨congrArg (·.sent) (Dev.setSide_side_same d h _), List.mem_cons_self ..⟩

theorem Dev.streamStep_done {d : Dev} {s phase : Nat} (h : s < 2) (hp : phase ≠ 0) (hr : d.mode.railFail = false)
    (hl : (d.nb.side s).copy.length ≤ (d.nb.side s).sent) : ((d.streamStep s phase).nb.side s).done = true ∧
      .neighbour s (neighbourMsg 0x27 (d.nb.side s).copy.length []) ∈ (d.streamStep s phase).out := by
  have hrow : d.streamStep s phase = (d.setSide s (fun m => { m with done := true })).sendNeighbour s 0x27 (d.nb.side s).copy.length [] := by
    rw [Dev.streamStep, if_neg hp, if_neg (Nat.not_lt.2 hl)]
  rw [hrow]
  refine ⟨congrArg (·.done) (Dev.setSide_side_same d h _), mem_shown ?_ _⟩
  rw [(Dev.setSide_same _ _ _).mode]
  exact hr

theorem Dev.withdraw_side {d : Dev} {s : Nat} (h : s < 2) (h2 : (d.nb.side s).state = 2) :
    ((d.withdraw s).nb.side s).state = 1 ∧ ((d.withdraw s).nb.side s).copy = (d.nb.side s).copy := by
  rw [Dev.withdraw, if_pos h2, (Dev.endStream_same _ _ _ _).nb, Dev.setSide_side_same _ h]
  exact ⟨rfl, rfl⟩

/-- A side in state 4 returns to 1 when its neighbour asks again (R99). -/
def Dev.readyAgain (d : Dev) (s : Nat) : Dev :=
  if (d.nb.side s).state = 4 then d.setSide s (fun n => { n with state := 1 }) else d

theorem Dev.readyAgain_spec (d : Dev) {s : Nat} (h : s < 2) : ((d.readyAgain s).nb.side s).copy = (d.nb.side s).copy ∧
    (d.readyAgain s).nb.side (1 - s) = d.nb.side (1 - s) ∧ SameBut [.nb] d (d.readyAgain s) := by
  unfold Dev.readyAgain
  split
  · exact ⟨congrArg (·.copy) (Dev.setSide_side_same d h _), Dev.setSide_side_other d h _, Dev.setSide_same _ _ _⟩
  · exact ⟨rfl, rfl, .refl _ _⟩

theorem Dev.readyAgain_state (d : Dev) {s : Nat} (h : s < 2) (h5 : (d.nb.side s).state ≠ 5) :
    ((d.readyAgain s).nb.side s).state ≠ 4 ∧ ((d.readyAgain s).nb.side s).state ≠ 5 := by
  unfold Dev.readyAgain
  split
  · simp [h]
  · exact ⟨‹_›, h5⟩

theorem needPlat_of_offer {d : Dev} {pair : Fin 2} {part rev : Nat} (h : Hears d)
    (h5 : (d.nb.side (sideOf pair.val)).state ≠ 5) (hr : d.inRun = true) (hc : (d.nb.side (sideOf pair.val)).copy ≠ [])
    (hp : leAt (d.nb.side (sideOf pair.val)).copy 0xE 2 = part)
    (hv : leAt (d.nb.side (sideOf pair.val)).copy 0x10 2 ≤ rev) :
    needPlat pair part rev d = (d.readyAgain (sideOf pair.val)).startStream (sideOf pair.val) := by
  obtain ⟨hcopy, -, hsame⟩ := Dev.readyAgain_spec d (sideOf_lt pair)
  obtain ⟨h4, h5⟩ := Dev.readyAgain_state d (sideOf_lt pair) h5
  have hrun : (d.readyAgain (sideOf pair.val)).inRun = true := by
    rw [Dev.inRun, hsame.mode]
    exact hr
  rw [needPlat, Dev.neighbourIn, Dev.ringIn_of_hears h]
  have hmay : (d.readyAgain (sideOf pair.val)).mayOffer ((d.readyAgain (sideOf pair.val)).nb.side (sideOf pair.val)) part rev = true := by
    simp [Dev.mayOffer, hrun, hcopy, hc, hp, hv, h4, h5]
  exact if_pos hmay

theorem Dev.startStream_starts {d : Dev} {s k : Nat} (hj : d.streamJob s = none) (hf : d.freeSlot = some k) :
    ∃ t, d.startStream s = d.tickFree.putJob k { state := .queued, internal := true, source := 0, op := 0x81, arg0 := s, total := t } := by
  refine ⟨d.freeVal 32, ?_⟩
  have hf' : d.tickFree.freeSlot = some k := hf
  simp only [Dev.startStream, hj, Dev.startInternal, hf']
  rfl

theorem neighbourResult_of_copy {d : Dev} {pair : Fin 2} {state code sec : Nat} (h : Hears d)
    (hc : (d.nb.side (sideOf pair.val)).copy ≠ []) : neighbourResult pair state code sec d =
      if state = 5 then (d.setSide (sideOf pair.val) (fun n => { n with state := if state = 5 then 5 else 4, code := code % 256 })).log 0x044 2
        { port := 3, inst := sideOf pair.val, detail := [code, sec] }
      else d.setSide (sideOf pair.val) (fun n => { n with state := if state = 5 then 5 else 4, code := code % 256 }) := by
  rw [neighbourResult, Dev.neighbourIn, Dev.ringIn_of_hears h]
  exact if_neg (by simpa using hc)

/-- Settles O16. -/
theorem neighbourHolder : Obligations.NeighbourHolder := by
  unfold Obligations.NeighbourHolder
  intro s pair part rev id off code sec inp side n jobAt
  have hside : side < 2 := sideOf_lt pair
  refine ⟨fun h => ⟨fun h5 => Gives.of_onDev rfl ?stopped, fun k h5 hr hc hp hv hj hf => Gives.of_onDev rfl ?starts,
      fun h2 hid => Gives.of_onDev rfl ?accepted, fun h2 hid => Gives.of_onDev rfl ?declined,
      fun h3 ho h0 hlen ha => Gives.of_onDev rfl ?acked, fun hc => Gives.of_onDev rfl ?rejected,
      fun hc => Gives.of_onDev rfl ?finished⟩,
    fun h2 => Gives.of_onDev rfl ?withdrawn, fun k j hp hj h0 => Gives.of_onDev rfl ?offers,
    fun k j hp hj h1 (h3 : (s.dev.nb.side side).state = 3) hrail => ⟨fun hl => Gives.of_onDev rfl ?sends, fun hl => Gives.of_onDev rfl ?ends⟩⟩
  case stopped =>
    have h5' : (s.dev.nb.side (sideOf pair.val)).state = 5 := h5
    rw [needPlat, Dev.neighbourIn, Dev.ringIn_of_hears h]
    simp [h5', Dev.mayOffer]
  case starts =>
    have h5' : (s.dev.nb.side (sideOf pair.val)).state ≠ 5 := h5
    rw [needPlat_of_offer h h5' hr hc hp hv]
    obtain ⟨hcopy, hother, hsame⟩ := Dev.readyAgain_spec s.dev hside
    have hstream : (s.dev.readyAgain side).streamJob side = none := by
      rw [Dev.streamJob, Dev.jobList, hsame.jobs]
      exact hj
    have hfree : (s.dev.readyAgain side).freeSlot = some k := by
      rw [Dev.freeSlot, hsame.jobs]
      exact hf
    obtain ⟨t, hstart⟩ := Dev.startStream_starts hstream hfree
    have hstarted := Dev.startStream_same (s.dev.readyAgain side) side
    refine ⟨?_, ?_, ?_, ?_, ?_, ?_, (hsame.mono (by decide)).then hstarted⟩
    · rw [show sideOf pair.val = side from rfl, hstart]
      simp [Dev.putJob]
    · rw [show sideOf pair.val = side from rfl, hstart]
      simp [Dev.putJob]
    · rw [show sideOf pair.val = side from rfl, hstart]
      simp [Dev.putJob]
    · rw [show sideOf pair.val = side from rfl, hstart]
      simp [Dev.putJob]
    · exact (congrArg (fun x => (NeighbourSt.side x side).copy) hstarted.nb).trans hcopy
    · exact (congrArg (fun x => NeighbourSt.side x (1 - side)) hstarted.nb).trans hother
  case accepted =>
    rw [accept, Dev.neighbourIn, Dev.ringIn_of_hears h]
    dsimp only
    rw [if_pos ⟨h2, hid⟩]
    have hset := Dev.setSide_side_same s.dev hside (fun m => { m with state := 3, sent := 0, acked := 0, done := false })
    exact ⟨congrArg (·.state) hset, congrArg (·.sent) hset, congrArg (·.copy) hset, Dev.setSide_same _ _ _⟩
  case declined =>
    rw [decline, Dev.neighbourIn, Dev.ringIn_of_hears h]
    rw [if_pos (by exact hid)]
    exact ⟨(Dev.withdraw_side hside h2).1, (Dev.withdraw_side hside h2).2, Dev.withdraw_same _ _⟩
  case acked =>
    have hwaits : n.waits = true := by simp [NeighbourSide.waits, ← ho, h0, hlen, ha]
    rw [chunkAck, Dev.neighbourIn, Dev.ringIn_of_hears h]
    dsimp only
    rw [if_pos ⟨h3, hwaits, ho⟩]
    have hset : ((s.dev.setSide side (fun m => { m with acked := off })).nb.side side) = { n with acked := off } :=
      Dev.setSide_side_same s.dev hside _
    refine ⟨congrArg (·.acked) hset, ?_, Dev.setSide_same _ _ _⟩
    refine (congrArg (·.ready 1) hset).trans ?_
    simp [NeighbourSide.ready, NeighbourSide.waits, h3, ho]
  case rejected =>
    have hset := Dev.setSide_side_same s.dev hside (fun n => { n with state := 5, code := code % 256 })
    rw [neighbourResult_of_copy h (by exact hc), if_pos rfl, if_pos rfl]
    have hlog := Dev.log_same (s.dev.setSide side (fun n => { n with state := 5, code := code % 256 })) 0x044 2
      { port := 3, inst := side, detail := [code, sec] }
    refine ⟨?_, ?_, .then (.mono (Dev.setSide_same _ _ _) (by decide)) hlog⟩
    · exact (congrArg (fun x => (NeighbourSt.side x side).state) hlog.nb).trans (congrArg (·.state) hset)
    · exact (congrArg (fun x => (NeighbourSt.side x side).code) hlog.nb).trans (congrArg (·.code) hset)
  case finished =>
    have hset := Dev.setSide_side_same s.dev hside (fun n => { n with state := 4, code := code % 256 })
    rw [neighbourResult_of_copy h (by exact hc), if_neg (by decide), if_neg (by decide)]
    exact ⟨congrArg (·.state) hset, congrArg (·.code) hset, Dev.setSide_same _ _ _⟩
  case withdrawn =>
    exact ⟨(Dev.withdraw_side hside h2).1, (Dev.withdraw_side hside h2).2, Dev.withdraw_same _ _⟩
  case offers =>
    obtain ⟨hr, hw, hs, hk, hop, harg, hc, ha, hh⟩ := hj
    have hjob := Dev.streamed_job hk side
    obtain ⟨hstate, hout⟩ := Dev.streamStep_offer (s.dev.takeUp k j) hside h0
    rw [jobStep_of_streamed hr hw hs hp hk hop harg hc ha hh (.inl h0)]
    exact ⟨congrArg (·.state) hjob, hstate, congrArg (·.phase) hjob, hout, (Dev.streamed_same _ _ _ _).mono (by decide)⟩
  case sends =>
    obtain ⟨hr, hw, hs, hk, hop, harg, hc, ha, hh⟩ := hj
    obtain ⟨hsent, hmem⟩ := Dev.streamStep_data (d := s.dev.takeUp k j) hside (by omega : j.phase ≠ 0) hrail hl
    rw [jobStep_of_streamed hr hw hs hp hk hop harg hc ha hh (.inr ⟨by omega, by omega⟩)]
    exact ⟨hsent, hmem, (Dev.streamed_same _ _ _ _).mono (by decide)⟩
  case ends =>
    obtain ⟨hr, hw, hs, hk, hop, harg, hc, ha, hh⟩ := hj
    obtain ⟨hdone, hmem⟩ := Dev.streamStep_done (d := s.dev.takeUp k j) hside (by omega : j.phase ≠ 0) hrail hl
    rw [jobStep_of_streamed hr hw hs hp hk hop harg hc ha hh (.inr ⟨by omega, by omega⟩)]
    exact ⟨hdone, hmem, (Dev.streamed_same _ _ _ _).mono (by decide)⟩

end Sys2Proof.Machine

/-! PROOF. The survey tick: budgets, states, marks, delay exchanges and edges (R103 to R117, R518). -/

namespace Sys2Proof.Machine

-- One theorem at a time, as in the tests: many at once would ask for more threads than the sandbox gives.
set_option Elab.async false

/-! ### Step budgets (R117) -/

theorem budgetEnd_none {d : Dev} {c : Fin 5} (h : d.tick.windowOpen.rd c = true) :
    budgetEnd c 0 d = { d with tick.windowOpen := d.tick.windowOpen.wr c false } := by
  simp [budgetEnd, h]

theorem budgetEnd_overrun {d : Dev} {c : Fin 5} {n : Nat} (h : d.tick.windowOpen.rd c = true) (hn : 0 < n)
    (hr : d.roleWorks c = true) : budgetEnd c n d =
      (({ d with tick.windowOpen := d.tick.windowOpen.wr c false, tick.carry := d.tick.carry.upd c (· + n),
                 tick.overrunTicks := d.tick.overrunTicks.upd c (fun n => satAdd 16 n 1) }).countMgmt 0x71 (d.cores.roleMap.rd c - 1) n).log
        0x025 2 { inst := d.cores.roleMap.rd c - 1, detail := [c, n] } := by
  rw [budgetEnd, if_neg (by simp [h])]
  exact if_neg (by simp [hr]; omega)

theorem satAdd_one_16 (n : Nat) : satAdd 16 n 1 = min 65535 (n + 1) := by
  unfold satAdd
  omega

/-- Settles O22. -/
theorem budgetCloses : Obligations.BudgetCloses := by
  unfold Obligations.BudgetCloses
  refine fun s c n h => ⟨Gives.of_onDev rfl ?inTime, fun hn hr => Gives.of_onDev rfl ?overrun⟩
  case inTime =>
    rw [budgetEnd_none h]
    exact ⟨by simp, rfl, Dev.tickAny_same _ _⟩
  case overrun =>
    rw [budgetEnd_overrun h hn hr]
    refine ⟨by simp, by simp, by simp [satAdd_one_16], Dev.log_sets _ _ _ _ (by simp [Dev.sourcePresent]) (by decide), ?_⟩
    exact .then (.then (.mono (Dev.tickAny_same _ _) (by decide)) (Dev.countMgmt_same _ _ _ _)) (Dev.log_same _ _ _ _)

/-! ### States (Table 4.2, R103, R109, R112, R518) -/

theorem Dev.tickState_evt_of_holdover {d : Dev} (h : d.tick.state ≠ .holdover) :
    (d.tickState .holdover).evt.status.getLsbD 0x021 = true ∧ bitAt (d.tickState .holdover).cont.corStatus 4 = true := by
  rw [Dev.tickState, if_neg h]
  refine ⟨?_, by simp [Dev.corFault_sets, bitAt_setBit_same]⟩
  exact Dev.corFault_grows _ _ _ _ _ _ (Dev.fire_sets _ _ (by simp [Dev.sourcePresent]) (by decide))

/-- A tick state other than HOLDOVER brings a record and no fault. -/
theorem Dev.tickState_same_of_ne {d : Dev} {s : TickState} (h : s ≠ .holdover) : SameBut (.tick :: recordBlocks) d (d.tickState s) := by
  unfold Dev.tickState
  dsimp only
  rw [if_neg h]
  exact .ite (.refl _ _) (.then (.mono (Dev.tickAny_same _ _) (by decide)) (Dev.log_same _ _ _ _))

theorem Dev.freeRun_same (d : Dev) : SameBut (.tick :: recordBlocks) d d.freeRun := by
  have hfollow : SameBut (.tick :: recordBlocks) d (d.follow none) := .mono (Dev.tickAny_same _ _) (by decide)
  unfold Dev.freeRun
  exact .then (hfollow.trans (Dev.tickState_same_of_ne (by decide))) (Dev.tickAny_same _ _)

theorem Dev.freeRun_tick (d : Dev) : d.freeRun.tick.state = .freeRun ∧ d.freeRun.tick.parent = none ∧
    d.freeRun.tick.sourceId = 0 ∧ d.freeRun.tick.depth = 0 := by
  simp [Dev.freeRun, Dev.tickState_tick, Dev.follow]

theorem Dev.sendsMarks_of {d : Dev} (hj : d.tick.joined = true) (hs : d.run.tickSource = 0)
    (h : d.run.tickSourceRole = true ∨ (d.tick.state = .locked ∧ d.tick.slew = 0) ∨ d.tick.state = .holdover) :
    d.sendsMarks = true := by
  simpa [Dev.sendsMarks, hj, hs, or_assoc] using h

theorem tickMarkSend_ring {d : Dev} (h : d.sendsMarks = true) (hs : d.run.tickSource = 0) : tickMarkSend d =
    (d.emit (.mark 0 d.ownMark.sourceId d.ownMark.depth d.ownMark.period d.ownMark.holdover d.ownMark.number d.ownMark.remain)).emit
      (.mark 1 d.ownMark.sourceId d.ownMark.depth d.ownMark.period d.ownMark.holdover d.ownMark.number d.ownMark.remain) := by
  rw [tickMarkSend, if_neg (by simp [h])]
  exact if_pos hs

/-- Settles O18. -/
theorem tickStates : Obligations.TickStates := by
  unfold Obligations.TickStates
  refine fun s => ⟨fun hj hs h => Gives.of_onDev rfl ?marks, fun hf hs hl => Gives.of_onDev rfl ?missed,
    fun hf hh => Gives.of_onDev rfl ?holdover, fun hf ha hs hi => Gives.of_onDev rfl ?quiet,
    fun hf ha hs hr => Gives.of_onDev rfl ?edges⟩
  case marks =>
    rw [tickMarkSend_ring (Dev.sendsMarks_of hj hs h) hs]
    exact ⟨(Dev.emit_same _ _).trans (Dev.emit_same _ _), _, rfl, rfl, rfl, Dev.emit_emit_out _ _ _⟩
  case missed =>
    have hne : (Dev.tick { s.dev with tick.run := 0 }).state ≠ .holdover := by simp [hl]
    obtain ⟨hevt, hcor⟩ := Dev.tickState_evt_of_holdover hne
    rw [tickInMissed, if_pos ⟨hf, hs, hl⟩]
    refine ⟨by simp [Dev.tickState_tick], by simp [Dev.tickState_tick], by simp [Dev.tickState_tick], hevt, hcor, ?_⟩
    exact .then (.mono (Dev.tickAny_same _ _) (by decide)) (Dev.tickState_same _ _)
  case holdover =>
    obtain ⟨hstate, hparent, hid, hdepth⟩ := Dev.freeRun_tick s.dev
    rw [holdoverTimeout, if_pos ⟨hf, hh⟩]
    exact ⟨hstate, hparent, hid, hdepth, Dev.freeRun_same _⟩
  case quiet =>
    obtain ⟨hstate, hparent, -, -⟩ := Dev.freeRun_tick s.dev
    rw [acquiringTimeout, if_pos ⟨hf, ha, by simp [hs, hi]⟩]
    exact ⟨hstate, hparent, Dev.freeRun_same _⟩
  case edges =>
    obtain ⟨hstate, -, -, -⟩ := Dev.freeRun_tick s.dev
    rw [acquiringTimeout, if_pos ⟨hf, ha, by simp [hs, hr]⟩]
    exact ⟨hstate, Dev.freeRun_same _⟩

/-! ### Marks (R88, R104 to R106) -/

theorem tickMark_of_reach {d : Dev} {k : Nat} (h : 2 ≤ k ∨ Hears d) (m : Mark) (t : Nat) : tickMark k m t d = d.takeMark k m t := by
  unfold tickMark
  split
  · exact Dev.ringIn_of_hears (h.resolve_left (by omega)) _ _
  · rfl

/-- The input that a mark is accepted on (R104). -/
def Dev.noted (d : Dev) (k : Nat) (m : Mark) : Dev :=
  { d with tick.inputs := d.tick.inputs.upd k (fun x => { x with seen := true, sourceId := m.sourceId, depth := m.depth, holdover := m.holdover, age := 0 })
           tick.announced := true }

theorem takeMark_of_parent {d : Dev} {k : Nat} {m : Mark} {t : Nat} (hj : d.tick.joined = true)
    (hr : d.run.tickSourceRole = false) (hi : d.tickInput k = true) (hp : m.period = d.run.tickPeriod) (hd : m.depth ≤ 30)
    (hk : d.tick.parent = some k) : d.takeMark k m t = (d.noted k m).parentMark m t := by
  simp [Dev.takeMark, hj, hr, hi, hp, Nat.not_lt.2 hd, hk, Dev.noted]

theorem TickSt.learn_state (t : TickSt) (place ahead : Nat) : (t.learn place ahead).state = t.state := by
  unfold TickSt.learn
  split
  · split <;> rfl
  · dsimp only
    split
    · rfl
    · split <;> split <;> rfl

/-- With the exchanges done, a mark of the parent of a LOCKED follower places the coming boundary (R106). -/
theorem parentMark_of_steady {d : Dev} (he : d.tick.exchanges = 8) (hl : d.tick.state = .locked)
    (hs : d.tick.steady = true) (m : Mark) (t : Nat) (hlast : d.tick.last < t + m.remain - d.tick.hopDelay) :
    ∃ u : TickSt, u.state = .locked ∧
      d.parentMark m t = { d with tick := { u with next := t + m.remain - d.tick.hopDelay } } := by
  let t1 : TickSt := { d.tick with sourceId := m.sourceId, depth := m.depth + 1, run := d.tick.run + 1 }
  have ht1 : t1.steady = true := hs
  refine ⟨t1.learn (t + m.remain - d.tick.hopDelay) 0, (TickSt.learn_state _ _ _).trans hl, ?_⟩
  unfold Dev.parentMark
  dsimp only
  rw [if_neg (by omega)]
  split
  next => exact if_pos ⟨ht1, hlast⟩
  next hx => exact nomatch hl.symm.trans hx
  next hx _ => exact absurd hl hx

/-- Settles O19. -/
theorem marksAccepted : Obligations.MarksAccepted := by
  unfold Obligations.MarksAccepted
  refine fun s k m t => ⟨fun hk hp => Gives.of_onDev rfl ?bypass, fun hk h hj hm => Gives.of_onDev rfl ?repeats,
    fun hj h => ⟨fun hr hc => Gives.of_onDev rfl ?conflict, fun hr hc => Gives.of_onDev rfl ?again, fun hr hi =>
      ⟨fun hp hm => Gives.of_onDev rfl ?mismatch, fun hp hd => Gives.of_onDev rfl ?deep,
        fun hp hd hk he => Gives.of_onDev rfl ?early, fun hp hd hk he hl hs hlast => Gives.of_onDev rfl ?places⟩⟩⟩
  case bypass =>
    rw [tickMark, if_pos hk, Dev.ringIn_of_bypass hp]
    exact ⟨rfl, Dev.outAny_same _ _⟩
  case repeats =>
    rw [tickMark_of_reach (.inr h), Dev.takeMark, if_pos (by simp [hj]), if_pos ⟨hk, hm⟩, Dev.repeatMark]
    exact ⟨⟨_, Nat.sub_le _ _, rfl⟩, (Dev.emit_same _ _).trans (Dev.tickFree_same _)⟩
  case conflict =>
    rw [tickMark_of_reach h, Dev.takeMark, if_neg (by simp [hj]), if_pos hr, if_neg (by simp [hc])]
    exact ⟨by simp, by simp, by simp, Dev.log_sets _ _ _ _ (by simp [Dev.sourcePresent]) (by decide),
      .then (.mono (Dev.tickAny_same _ _) (by decide)) (Dev.log_same _ _ _ _)⟩
  case again =>
    rw [tickMark_of_reach h, Dev.takeMark, if_neg (by simp [hj]), if_pos hr, if_pos hc]
  case mismatch =>
    rw [tickMark_of_reach h, Dev.takeMark, if_neg (by simp [hj]), if_neg (by simp [hr]), if_neg (by simp [hi]), if_pos hp,
      if_neg (by simp [hm])]
    exact ⟨by simp, by simp, by simp, Dev.log_sets _ _ _ _ (by simp [Dev.sourcePresent]) (by decide),
      .then (.mono (Dev.tickAny_same _ _) (by decide)) (Dev.log_same _ _ _ _)⟩
  case deep =>
    rw [tickMark_of_reach h, Dev.takeMark, if_neg (by simp [hj]), if_neg (by simp [hr]), if_neg (by simp [hi]),
      if_neg (by simp [hp]), if_pos hd]
  case early =>
    rw [tickMark_of_reach h, takeMark_of_parent hj hr hi hp hd hk, Dev.parentMark, if_pos (by exact he)]
    exact ⟨rfl, rfl, rfl, rfl, .trans (Dev.tickAny_same _ _) (Dev.tickAny_same _ _)⟩
  case places =>
    rw [tickMark_of_reach h, takeMark_of_parent hj hr hi hp hd hk]
    obtain ⟨u, hu, heq⟩ := parentMark_of_steady (d := s.dev.noted k m) he hl hs m t hlast
    rw [heq]
    exact ⟨rfl, hu, .trans (Dev.tickAny_same _ _) (Dev.tickAny_same _ _)⟩

/-! ### The delay exchange (R104, R106) -/

/-- Settles O20. -/
theorem delayExchangeObligation : Obligations.DelayExchange := by
  unfold Obligations.DelayExchange
  refine fun s k id x t hf hk h => ⟨fun hp he => Gives.of_onDev rfl ?request, fun hm => Gives.of_onDev rfl ?answer,
    fun t1 hp ho => Gives.of_onDev rfl ?response, fun b hp hb hne hage => Gives.of_onDev rfl ?change⟩
  case request =>
    simp only [delayExchange, hp, hf, Nat.not_le.2 he, hk, Bool.not_true, Bool.false_or, decide_false, Bool.false_and, Bool.false_eq_true,
      if_false, if_true]
    exact ⟨by simp, rfl, .trans (Dev.tickAny_same _ _) (.mono (Dev.emit_same _ _) (by decide))⟩
  case answer =>
    rw [delayReq, if_pos hk, Dev.ringIn_of_hears h, if_neg hm]
    exact ⟨rfl, Dev.emit_same _ _⟩
  case response =>
    rw [delayResp, if_pos hk, Dev.ringIn_of_hears h, Dev.takeDelay, if_neg (by simp [hp]), ho]
    dsimp only
    rw [if_neg (by omega)]
    exact ⟨rfl, rfl, by simp, Dev.tickAny_same _ _⟩
  case change =>
    rw [parentChange, hp, hb]
    dsimp only
    rw [if_pos ⟨hf, hne, hage⟩]
    exact ⟨rfl, rfl, rfl, Dev.tickAny_same _ _⟩

/-! ### TICK_IN (R108, R109) -/

/-- An edge near its instant, with no correction under way, places the coming boundary. -/
theorem tickInEdge_of_near {d : Dev} {t : Nat} (hf : d.follows = true) (hs : d.run.tickSource = 2)
    (hl : d.tick.state = .locked) (hg : d.edgeNear (t - d.tick.lastEdge.getD 0) = true) (hst : d.tick.steady = true)
    (hlast : d.tick.last < d.edgePlace t) (hp : 2 * (d.edgePlace t - d.tick.next) ≤ d.period) :
    tickInEdge t d = { d with tick := { ((d.takeEdge t (d.tick.run + 1)).tick.learn (d.edgePlace t) 0) with next := d.edgePlace t } } := by
  have hst' : (d.takeEdge t (d.tick.run + 1)).tick.steady = true := hst
  have hlast' : (d.takeEdge t (d.tick.run + 1)).tick.last < d.edgePlace t := hlast
  unfold tickInEdge
  dsimp only
  rw [if_neg (by simp [hf, hs]), if_pos hl, if_pos hg, if_neg (by simpa [hst'] using hlast'), if_neg (by exact Nat.not_lt.2 hp)]
  rfl

/-- What an edge takes is not the rate's. -/
theorem TickSt.learn_edges (t : TickSt) (place ahead : Nat) : (t.learn place ahead).lastEdge = t.lastEdge ∧
    (t.learn place ahead).nextNumber = t.nextNumber ∧ (t.learn place ahead).numberLoad = t.numberLoad := by
  unfold TickSt.learn
  split
  · split <;> exact ⟨rfl, rfl, rfl⟩
  · dsimp only
    split
    · exact ⟨rfl, rfl, rfl⟩
    · split <;> split <;> exact ⟨rfl, rfl, rfl⟩

/-- The first edge of an acquiring follower. -/
theorem tickInEdge_of_first {d : Dev} {t : Nat} (hf : d.follows = true) (hs : d.run.tickSource = 2)
    (ha : d.tick.state = .acquiring) (hn : d.tick.lastEdge = none) : tickInEdge t d = d.takeEdge t 1 := by
  simp [tickInEdge, hf, hs, ha, hn, Dev.takeEdge]

/-! ### Writes of a 64-bit register in one access (R10) -/

/-- The state of a port after both halves of the register at `base` were written. -/
def Dev.halvesTaken (d : Dev) (p : CmdPort) (base lo : Nat) : Dev :=
  (d.setPort p (fun s => { s with staged := s.staged.wr base (some lo) })).setPort p
    (fun s => { s with staged := s.staged.wr base none })

theorem Dev.halvesTaken_same (d : Dev) (p : CmdPort) (base lo : Nat) : SameBut [.port] d (d.halvesTaken p base lo) :=
  .trans (Dev.setPort_same _ _ _) (Dev.setPort_same _ _ _)

/-- An 8-byte write that passes every check writes the whole register. -/
theorem Dev.busWrite8_ok {d : Dev} {p : CmdPort} {a v : Nat} (h : d.reach p a 8 true (some v) = .ok)
    (hl : d.regLocked (d.regAttr p a) = false) (hv : v < 2 ^ 64) : (d.busWrite p a 8 v).1 =
      ((d.countMgmt 0x74 p.code 1).halvesTaken p (d.regAttr p a).base (v % 2 ^ 32)).regWrite p (d.regAttr p a).base v := by
  have hhalves : v % 2 ^ 32 + 2 ^ 32 * (v / 2 ^ 32 % 2 ^ 32) = v := by omega
  simp only [Dev.busWrite, h, hl, Dev.countAccess, Dev.commitHalves, Bool.false_eq_true, if_false, if_true]
  rw [show ((d.countMgmt 0x74 p.code 1).setPort p _).portSt p = _ from Tab.rd_upd_same .. ]
  simp only [Tab.rd_wr_same, hhalves]
  rfl

theorem tickNumberLoad_eq {d : Dev} {p : CmdPort} {v : DWord} (h : d.reach p 0x10058 8 true (some v.toNat) = .ok)
    (hl : d.regLocked (d.regAttr p 0x10058) = false) :
    tickNumberLoad p v d = ((d.countMgmt 0x74 p.code 1).halvesTaken p 0x10058 (v.toNat % 2 ^ 32)).writeNumberLoad p v.toNat := by
  have hbase : (d.regAttr p 0x10058).base = 0x10058 := by simp [Dev.regAttr, Dev.globalAttr, attrWO64, wideBase]
  rw [tickNumberLoad, Dev.busWrite8_ok h hl v.isLt, hbase]
  simp [Dev.regWrite, Dev.globalWrite]

/-- Settles O21. -/
theorem tickInEdges : Obligations.TickInEdges := by
  unfold Obligations.TickInEdges
  refine fun s t p v => ⟨fun hf hs => ⟨fun hl hg => Gives.of_onDev rfl ?ignored, fun hl hg1 hg2 hst hlast hp => Gives.of_onDev rfl ?taken,
    fun ha hn => Gives.of_onDev rfl ?first⟩, fun h hl => ⟨fun hs => Gives.of_onDev rfl ?load, fun hs => Gives.of_onDev rfl ?dropped⟩⟩
  case ignored =>
    have hgap : s.dev.edgeNear (t - s.dev.tick.lastEdge.getD 0) = false := by simpa [Dev.edgeNear] using hg
    unfold tickInEdge
    dsimp only
    rw [if_neg (by simp [hf, hs]), if_pos hl, if_neg (by simp [hgap])]
  case taken =>
    rw [tickInEdge_of_near hf hs hl (by simp [Dev.edgeNear, hg1, hg2]) hst hlast hp]
    obtain ⟨hedge, hnumber, hload⟩ := TickSt.learn_edges (s.dev.takeEdge t (s.dev.tick.run + 1)).tick (s.dev.edgePlace t) 0
    exact ⟨rfl, hedge, hnumber, hload, Dev.tickAny_same _ _⟩
  case first =>
    rw [tickInEdge_of_first hf hs ha hn]
    exact ⟨rfl, rfl, ha, Dev.tickAny_same _ _⟩
  case load =>
    rw [tickNumberLoad_eq h hl, Dev.writeNumberLoad, if_neg (by simpa [Dev.halvesTaken] using hs)]
    exact ⟨rfl, Dev.counted_then (.then (.mono (Dev.halvesTaken_same _ _ _ _) (by decide)) (Dev.tickAny_same _ _))⟩
  case dropped =>
    rw [tickNumberLoad_eq h hl, Dev.writeNumberLoad, if_pos (by simpa [Dev.halvesTaken] using hs), Dev.dropped64]
    exact ⟨by simp [Dev.halvesTaken], Dev.log_sets _ _ _ _ (by simp [Dev.sourcePresent]) (by decide),
      Dev.counted_then (.then (.mono (Dev.halvesTaken_same _ _ _ _) (by decide)) (Dev.log_same _ _ _ _))⟩

end Sys2Proof.Machine

/-! PROOF. The work of a boundary: the refutation of O17 (R305, R314). -/

namespace Sys2Proof.Machine

-- One theorem at a time, as in the tests: many at once would ask for more threads than the sandbox gives.
set_option Elab.async false

/-- What a command gives holds of the state that its row computes. -/
theorem Gives.holds {c : Instr} {s : State} {f : Dev → Dev} {P : Dev → Prop} (h : Gives c s P)
    (hc : exec c s = .next (s.onDev f)) : P (f s.dev) := by
  obtain ⟨e, he, hp⟩ := h
  have heq : s.onDev f = { s with dev := e } := Host.Outcome.next.inj (hc.symm.trans he)
  have hdev : f s.dev = e := congrArg State.dev heq
  exact hdev ▸ hp

/-- A device in M4 whose H port 9 is shared by partitions 0 and 1, with function 0 of the port assigned to partition 0,
and with an accepted commit of Routing-ID entry 1 that is due at the next boundary. -/
def sharingDevice : Dev :=
  { mode := { base := .m4, authSel := 4 }
    run := { runMode := 4, switchId := 5, tile := [(0, { role := 1, rateMax := 4 }), (1, { role := 1, rateMax := 4 })],
             cut := [(0, 4), (8, 3), (9, 2), (12, 3)],
             part := [(0, { present := true, upstream := 0, down := 2 ^ 9 }), (1, { present := true, upstream := 12, down := 2 ^ 9 })],
             tickSourceRole := true }
    tick := { joined := true, started := true, state := .source, next := 16384 }
    pcie.port := [(9, { share := { asg := [(0, { valid := true })] } })]
    commits := [(false, .rid [(1, 5)])] }

/-- The boundary that makes the commit effective also writes the entry of the shared port (R314). -/
theorem sharingDevice_rid : (tickBoundary sharingDevice).fab.rid ≠ wrAll sharingDevice.fab.rid [(1, 5)] := by decide +kernel

/-- Refutes O17: at the boundary at which a commit of Routing-ID entries takes effect, the entries of a shared port follow
its assignments (R314), so that the table holds more than the old one with the committed entries written. -/
theorem not_boundaryWork : ¬ Obligations.BoundaryWork := by
  unfold Obligations.BoundaryWork
  intro h
  obtain ⟨-, -, -, -, hrid, -⟩ := h { dev := sharingDevice }
  obtain ⟨heq, -⟩ := (hrid [(1, 5)] rfl rfl (by decide)).holds rfl
  exact sharingDevice_rid heq

end Sys2Proof.Machine

/-! PROOF. Jobs: submission and the job slots' control words (R119 to R125). -/

namespace Sys2Proof.Machine

-- One theorem at a time, as in the tests: many at once would ask for more threads than the sandbox gives.
set_option Elab.async false

/-! ### JOB[s].CTRL (R119, R124, R125) -/

theorem Dev.regAttr_jobCtrl (d : Dev) (p : CmdPort) {k : Nat} (hk : k < 64) : (d.regAttr p (jobCtrlAddr k)).form = .word := by
  have ha : ¬ jobCtrlAddr k < 0x10000 := by unfold jobCtrlAddr; omega
  have hb : jobCtrlAddr k < 0x20000 := by unfold jobCtrlAddr; omega
  have ho : jobCtrlAddr k - 0x10000 = 0x410 + 32 * k := by unfold jobCtrlAddr; omega
  rw [Dev.regAttr, if_neg ha, if_pos hb, ho, Dev.globalAttr]
  iterate 17 rw [if_neg (by omega)]
  rw [if_pos (by omega)]
  dsimp only
  rw [if_neg (by omega), if_pos (by omega)]
  rfl

theorem Dev.regWrite_jobCtrl (d : Dev) (p : CmdPort) {k : Nat} (hk : k < 64) (v : Nat) :
    d.regWrite p (jobCtrlAddr k) v = d.writeJobCtrl p (jobCtrlAddr k) k v := by
  have ha : ¬ jobCtrlAddr k < 0x10000 := by unfold jobCtrlAddr; omega
  have hb : jobCtrlAddr k < 0x20000 := by unfold jobCtrlAddr; omega
  have ho : jobCtrlAddr k - 0x10000 = 0x410 + 32 * k := by unfold jobCtrlAddr; omega
  have hs : (0x410 + 32 * k - 0x400) / 32 = k := by omega
  have hw : 0x10000 + (0x410 + 32 * k) = jobCtrlAddr k := by unfold jobCtrlAddr; omega
  rw [Dev.regWrite, if_neg ha, if_pos hb, ho, Dev.globalWrite]
  iterate 8 rw [if_neg (by omega)]
  rw [if_pos (by omega), if_pos (by omega), hs, hw]

/-- A write of JOB[s].CTRL that passes its checks. -/
theorem jobCtrl_write {d : Dev} {p : CmdPort} {k : Fin 64} {v : Nat} (h : WritePasses d p (jobCtrlAddr k) v) (hv : v < 2 ^ 32) :
    d.write4 p (jobCtrlAddr k) v = (d.countMgmt 0x74 p.code 1).writeJobCtrl p (jobCtrlAddr k) k v := by
  rw [Dev.write4_word h (by simp [Dev.regAttr_jobCtrl _ _ k.isLt]) hv, Dev.regWrite_jobCtrl _ _ k.isLt]

/-- The handle names the job that occupies slot `k`. -/
def Dev.holdsHandle (d : Dev) (k h : Nat) : Prop := (d.job k).state ≠ .free ∧ h = d.handle k

theorem Dev.holdsHandle_counted (d : Dev) (k h ev n v : Nat) : (d.countMgmt ev n v).holdsHandle k h ↔ d.holdsHandle k h := by
  simp [Dev.holdsHandle, Dev.job, Dev.handle]

/-- A handle that is not the slot's is dropped at severity Note. -/
theorem Dev.writeJobCtrl_of_other {d : Dev} {k h c : Nat} (p : CmdPort) (a : Nat) (hh : ¬ d.holdsHandle k h)
    (hlt : h < 65536) (hc : c < 65536) :
    d.writeJobCtrl p a k (c + 65536 * h) = d.dropped p a (c + 65536 * h) 1 := by
  have hf : fld (c + 65536 * h) 16 16 = h := by unfold fld; omega
  rw [Dev.writeJobCtrl, hf]
  exact if_pos (by simpa [Dev.holdsHandle, Decidable.imp_iff_not_or] using hh)

theorem Dev.writeJobCtrl_of_holds {d : Dev} {k h c : Nat} (p : CmdPort) (a : Nat) (hh : d.holdsHandle k h)
    (hlt : h < 65536) (hc : c < 65536) : d.writeJobCtrl p a k (c + 65536 * h) =
      let d1 := if bitAt (c + 65536 * h) 0 then d.setJob k (fun j => { j with cancel := true }) else d
      if !bitAt (c + 65536 * h) 1 then d1 else if (d.job k).ended then d1.releaseSlot k else d1.dropped p a (c + 65536 * h) 1 := by
  have hf : fld (c + 65536 * h) 16 16 = h := by unfold fld; omega
  rw [Dev.writeJobCtrl, hf]
  exact if_neg (by simpa [Dev.holdsHandle] using hh)

/-- RELEASE of an ended job frees its slot. -/
theorem Dev.writeJobCtrl_release {d : Dev} {k h : Nat} (p : CmdPort) (a : Nat) (hh : d.holdsHandle k h) (hlt : h < 65536)
    (he : (d.job k).ended = true) : d.writeJobCtrl p a k (2 + 65536 * h) = d.releaseSlot k := by
  have h0 : bitAt (2 + 65536 * h) 0 = false := by simp [bitAt]; omega
  have h1 : bitAt (2 + 65536 * h) 1 = true := by simp [bitAt]; omega
  simp [Dev.writeJobCtrl_of_holds p a hh hlt (by decide : 2 < 65536), h0, h1, he]

/-- RELEASE of an active job is dropped. -/
theorem Dev.writeJobCtrl_release_active {d : Dev} {k h : Nat} (p : CmdPort) (a : Nat) (hh : d.holdsHandle k h)
    (hlt : h < 65536) (he : (d.job k).ended = false) :
    d.writeJobCtrl p a k (2 + 65536 * h) = d.dropped p a (2 + 65536 * h) 1 := by
  have h0 : bitAt (2 + 65536 * h) 0 = false := by simp [bitAt]; omega
  have h1 : bitAt (2 + 65536 * h) 1 = true := by simp [bitAt]; omega
  simp [Dev.writeJobCtrl_of_holds p a hh hlt (by decide : 2 < 65536), h0, h1, he]

/-- CANCEL marks the job. -/
theorem Dev.writeJobCtrl_cancel {d : Dev} {k h : Nat} (p : CmdPort) (a : Nat) (hh : d.holdsHandle k h) (hlt : h < 65536) :
    d.writeJobCtrl p a k (1 + 65536 * h) = d.setJob k (fun j => { j with cancel := true }) := by
  have h0 : bitAt (1 + 65536 * h) 0 = true := by simp [bitAt]; omega
  have h1 : bitAt (1 + 65536 * h) 1 = false := by simp [bitAt]; omega
  simp [Dev.writeJobCtrl_of_holds p a hh hlt (by decide : 1 < 65536), h0, h1]

theorem Job.not_free_of_ended {j : Job} (h : j.ended = true) : j.state ≠ .free := by
  intro hf
  simp [Job.ended, hf] at h

/-- What a dropped write of a control word leaves. -/
theorem Dev.dropped_counted (d : Dev) (p : CmdPort) (a v sev : Nat) :
    ((d.countMgmt 0x74 p.code 1).dropped p a v sev).evt.status.getLsbD 0x04A = true ∧
      SameBut recordBlocks d ((d.countMgmt 0x74 p.code 1).dropped p a v sev) :=
  ⟨Dev.log_sets _ _ _ _ (by simp [Dev.sourcePresent]) (by decide), Dev.counted_then (Dev.dropped_same _ _ _ _ _)⟩

/-- Settles O24. -/
theorem jobControl : Obligations.JobControl := by
  unfold Obligations.JobControl
  refine fun s p k h => ⟨fun hw => ⟨fun hh he => Gives.of_onDev rfl ?release, fun hh => Gives.of_onDev rfl ?kept⟩,
    fun hw => ⟨fun hh hj => Gives.of_onDev rfl ?cancel, fun hh => Gives.of_onDev rfl ?other⟩⟩
  case release =>
    have hd : s.dev.holdsHandle k h := ⟨Job.not_free_of_ended he, hh⟩
    rw [jobRelease, jobCtrl_write hw (by omega),
      Dev.writeJobCtrl_release p _ ((Dev.holdsHandle_counted _ _ _ _ _ _).2 hd) h.isLt (by simpa [Dev.job] using he)]
    refine ⟨by simp [Dev.releaseSlot], by simp [Dev.releaseSlot], fun n hn => ?_,
      Dev.counted_then (.mono (Dev.releaseSlot_same _ _) (by decide))⟩
    simp [Dev.releaseSlot, Tab.rd_wr_other _ _ _ _ hn]
  case kept =>
    rw [jobRelease, jobCtrl_write hw (by omega)]
    by_cases hd : s.dev.holdsHandle k h
    · rw [Dev.writeJobCtrl_release_active p _ ((Dev.holdsHandle_counted _ _ _ _ _ _).2 hd) h.isLt
        (by simpa [Dev.job] using hh.resolve_left (absurd hd.2))]
      exact Dev.dropped_counted _ _ _ _ _
    · rw [Dev.writeJobCtrl_of_other p _ (by simpa [Dev.holdsHandle_counted] using hd) h.isLt (by decide)]
      exact Dev.dropped_counted _ _ _ _ _
  case cancel =>
    rw [jobCancel, jobCtrl_write hw (by omega),
      Dev.writeJobCtrl_cancel p _ ((Dev.holdsHandle_counted _ _ _ _ _ _).2 ⟨hj, hh⟩) h.isLt]
    refine ⟨by simp [Dev.setJob, Dev.job], fun n hn => ?_, Dev.counted_then (.mono (Dev.setJob_same _ _ _) (by decide))⟩
    simp [Dev.setJob, Tab.rd_upd_other _ _ _ _ hn]
  case other =>
    have hd : ¬ (s.dev.countMgmt 0x74 p.code 1).holdsHandle k h := by
      rw [Dev.holdsHandle_counted]
      exact fun hd => hh hd.2
    rw [jobCancel, jobCtrl_write hw (by omega), Dev.writeJobCtrl_of_other p _ hd h.isLt (by decide)]
    exact Dev.dropped_counted _ _ _ _ _

/-! ### JOB_GO (R119 to R122) -/

/-- Every row of a job operation is JOB_GO with that operation staged (notes/assumptions/52.md). -/
theorem exec_goWith {p : CmdPort} {op : Nat} {c : Instr} (s : State) (h : (op, c) ∈ [(1, Instr.gazetteerLoad p), (2, Instr.bearingLoad p),
    (3, Instr.boundaryLoad p), (4, Instr.functionReset p), (5, Instr.laneSwap p), (6, Instr.pllSwap p), (7, Instr.planeSwap p),
    (8, Instr.sramRowSwap p), (9, Instr.scrub p), (10, Instr.linkRetrain p), (11, Instr.widthSpeedChange p)]) :
    op ≤ 11 ∧ exec c s = .next (s.onDev (fun d => d.goWith p op)) := by
  simp only [List.mem_cons, Prod.mk.injEq, List.not_mem_nil, or_false] at h
  rcases h with ⟨rfl, rfl⟩ | ⟨rfl, rfl⟩ | ⟨rfl, rfl⟩ | ⟨rfl, rfl⟩ | ⟨rfl, rfl⟩ | ⟨rfl, rfl⟩ | ⟨rfl, rfl⟩ | ⟨rfl, rfl⟩ | ⟨rfl, rfl⟩ |
    ⟨rfl, rfl⟩ | ⟨rfl, rfl⟩ <;> exact ⟨by decide, rfl⟩

theorem goWith_eq {d : Dev} {p : CmdPort} {op : Nat} (ho : (d.portSt p).jobOp = op) (h : WritePasses d p 0x10128 1) :
    d.goWith p op = (d.countMgmt 0x74 p.code 1).jobGo p := by
  rw [Dev.goWith, if_pos ho, Dev.write4_word h (by simp [Dev.regAttr, Dev.globalAttr, attrWO]) (by decide)]
  simp [Dev.regWrite, Dev.globalWrite, bitAt]

theorem Dev.submitCode_counted (d : Dev) (p : CmdPort) (r : Request) (ev n v : Nat) :
    (d.countMgmt ev n v).submitCode p r = d.submitCode p r :=
  Dev.countMgmt_fun (fun d => d.submitCode p r) d ev n v (fun _ _ _ _ => rfl)

theorem Dev.freeSlot_counted (d : Dev) (ev n v : Nat) : (d.countMgmt ev n v).freeSlot = d.freeSlot :=
  Dev.countMgmt_fun (fun d => d.freeSlot) d ev n v (fun _ _ _ _ => rfl)

theorem Dev.portSt_counted (d : Dev) (p : CmdPort) (ev n v : Nat) : (d.countMgmt ev n v).portSt p = d.portSt p := by
  simp [Dev.portSt]

theorem Dev.freeSlot_lt {d : Dev} {k : Nat} (h : d.freeSlot = some k) : k < 64 :=
  List.mem_range.1 (List.mem_of_find?_eq_some h)

/-- The functions that an accepted FUNCTION_RESET resets. -/
def Dev.resetFns (d : Dev) (r : Request) : List Nat :=
  if r.op ≠ 4 then [] else if r.a0 = 0 then (d.parentFns 0).filter d.fnOn else [r.a0]

/-- The job of an accepted request. -/
def Dev.requested (d : Dev) (p : CmdPort) (r : Request) : Job :=
  { state := .queued, source := sourceCode p, op := r.op, arg0 := r.a0, arg1 := r.a1, arg2 := r.a2, arg3 := r.a3,
    tenant := if d.isSteward p then none else d.tenantOf p, space := jobSpace p, total := d.jobTotal r,
    staged := (d.resetFns r).foldl (fun t n => t.ins n 1) [] }

/-- The device as an accepted request leaves it before the job takes its slot: a function reset quiesces (R375). -/
def Dev.accepted (d : Dev) (r : Request) (k : Nat) : Dev :=
  let d1 := if r.op ≠ 4 then d else if r.a0 = 0 then d.parentQuiesce 0 0x0B else d.fnQuiesce [r.a0] false 0x0B
  { d1 with trav.fn := (d.resetFns r).foldl (fun t n => t.upd n (fun f => { f with job := k + 1 })) d1.trav.fn }

theorem Dev.accepted_same (d : Dev) (r : Request) (k : Nat) :
    SameBut (.ln :: .sw :: .tally :: .trav :: .fab :: .bnd :: .cont :: recordBlocks) d (d.accepted r k) := by
  unfold Dev.accepted
  exact .then (.ite (.refl _ _) (.ite (Dev.parentQuiesce_same _ _ _) (Dev.fnQuiesce_same _ _ _ _))) (Dev.travAny_same _ _)

theorem Dev.accepted_of_other {d : Dev} {r : Request} (h : r.op ≠ 4) (k : Nat) : d.accepted r k = d := by
  simp [Dev.accepted, Dev.resetFns, h]

theorem Dev.jobGo_of_accepted {d : Dev} {p : CmdPort} {k : Nat} (hc : d.submitCode p (d.portSt p).request = 0)
    (hk : d.freeSlot = some k) : d.jobGo p =
      ((d.accepted (d.portSt p).request k).putJob k (d.requested p (d.portSt p).request)).setPort p (fun s => { s with
        jobIssued := pack [(16, ((d.accepted (d.portSt p).request k).putJob k (d.requested p (d.portSt p).request)).handle k)] }) := by
  rw [Dev.jobGo, if_pos hc, hk]
  rfl

theorem Dev.jobGo_of_refused {d : Dev} {p : CmdPort} (hc : d.submitCode p (d.portSt p).request ≠ 0) : d.jobGo p =
    (d.setPort p (fun s => { s with jobIssued := d.submitCode p (d.portSt p).request })).log 0x027
      (if d.submitCode p (d.portSt p).request = 2 ∨ d.submitCode p (d.portSt p).request = 6 then 5 else 1)
      { part := p.partition, port := p.code, detail := [d.submitCode p (d.portSt p).request] } := by
  rw [Dev.jobGo, if_neg hc]

theorem PortSt.request_op {s : PortSt} {op : Nat} (h : s.jobOp = op) (hop : op ≤ 11) : s.request.op = op := by
  rw [PortSt.request, h]
  exact Nat.mod_eq_of_lt (by omega)

/-- The handle of the slot that an accepted request takes. -/
theorem Dev.accepted_handle {d : Dev} {k : Nat} (hk : k < 64) (r : Request) (j : Job) :
    pack [(16, ((d.accepted r k).putJob k j).handle k)] = 65536 * (64 * (d.jobs.gen.rd k + 1) + k) := by
  have hgen : ((d.accepted r k).putJob k j).jobs.gen = d.jobs.gen := congrArg (·.gen) (Dev.accepted_same d r k).jobs
  rw [Dev.handle, if_pos hk, hgen]
  simp [pack, Nat.mul_comm]

/-- Settles O23. -/
theorem jobSubmission : Obligations.JobSubmission := by
  unfold Obligations.JobSubmission
  refine fun s p op c r => ⟨?mode, ?op, ?noTenant, ?steward, ?argument, ?full, fun hc hop hw => ⟨fun k hcode hk => ?accepted, fun hcode => ?refused⟩⟩
  case mode =>
    intro hm
    rw [Dev.submitCode, if_pos (by simp [hm])]
  case op =>
    intro hm ho
    rw [Dev.submitCode, if_neg (by simp [hm]), if_pos ho]
  case noTenant =>
    intro hm h1 h2 hs ht
    rw [Dev.submitCode, if_neg (by simp [hm]), if_neg (by omega), if_pos (by simp [Dev.maySubmit, hs, ht])]
  case steward =>
    intro hm h1 h2 h4 hs
    have hmay : s.dev.maySubmit p r = false := by
      rw [Dev.maySubmit, hs]
      cases s.dev.tenantOf p <;> simp [h4]
    rw [Dev.submitCode, if_neg (by simp [hm]), if_neg (by omega), if_pos (by simp [hmay])]
  case argument =>
    intro hm h9 hs ha
    have harg : s.dev.argCode p r = 4 := by simp [Dev.argCode, h9, Dev.scrubArgs, ha]
    rw [Dev.submitCode, if_neg (by simp [hm]), if_neg (by omega), if_neg (by simp [Dev.maySubmit, hs]), harg]
    rfl
  case full =>
    intro hm h1 h2 hmay harg hfull
    rw [Dev.submitCode, if_neg (by simp [hm]), if_neg (by omega), if_neg (by simp [hmay]), if_neg (by simp [harg]), if_pos hfull]
  case accepted =>
    obtain ⟨hle, hexec⟩ := exec_goWith s hc
    refine Gives.of_onDev hexec ?_
    have hreq := PortSt.request_op hop hle
    rw [goWith_eq hop hw, Dev.jobGo_of_accepted (k := k) (by rw [Dev.portSt_counted, Dev.submitCode_counted]; exact hcode)
      (by rw [Dev.freeSlot_counted]; exact hk), Dev.portSt_counted]
    have hjobs : ((s.dev.countMgmt 0x74 p.code 1).accepted (s.dev.portSt p).request k).jobs = s.dev.jobs := by
      rw [(Dev.accepted_same _ _ _).jobs, Dev.countMgmt_jobs]
    refine ⟨?_, ?_, ?_, ?_, ?_, ?_, ?_, fun h4 => ⟨fun n hn => ?_, ?_⟩⟩
    · simp [Dev.putJob, Dev.requested]
    · simpa [Dev.putJob, Dev.requested] using hreq
    · simp [Dev.putJob, Dev.requested]
    · simp [Dev.putJob, Dev.requested]
    · simp [Dev.putJob, Dev.requested, PortSt.request]
    · simp [Dev.putJob, Dev.requested, PortSt.request]
    · rw [Dev.accepted_handle (Dev.freeSlot_lt hk)]
      simp [Dev.portSt, Dev.setPort]
    · simp [Dev.putJob, hjobs, Tab.rd_wr_other _ _ _ _ hn]
    · rw [Dev.accepted_of_other (by rw [hreq]; exact h4)]
      exact Dev.counted_then (.then (.mono (Dev.putJob_same _ _ _) (by decide)) (Dev.setPort_same _ _ _))
  case refused =>
    obtain ⟨hle, hexec⟩ := exec_goWith s hc
    refine Gives.of_onDev hexec ?_
    rw [goWith_eq hop hw, Dev.jobGo_of_refused (by rw [Dev.portSt_counted, Dev.submitCode_counted]; exact hcode),
      Dev.portSt_counted, Dev.submitCode_counted]
    exact ⟨by simp [Dev.portSt, Dev.setPort], Dev.log_sets _ _ _ _ (by simp [Dev.sourcePresent]) (by decide),
      Dev.counted_then (.then (.mono (Dev.setPort_same _ _ _) (by decide)) (Dev.log_same _ _ _ _))⟩

end Sys2Proof.Machine

/-! PROOF. The steps of jobs (R32, R116, R117, R123 to R125). -/

namespace Sys2Proof.Machine

-- One theorem at a time, as in the tests: many at once would ask for more threads than the sandbox gives.
set_option Elab.async false

/-- A job other than a repair takes its turn. -/
def Dev.turn (d : Dev) (j : Job) : Dev := if j.isRepair then d else { d with jobs.lastTurn := j.order }

theorem Dev.turn_same (d : Dev) (j : Job) : SameBut [.jobs] d (d.turn j) := .ite (.refl _ _) (Dev.jobsAny_same _ _)

theorem Dev.turn_slot (d : Dev) (j : Job) : (d.turn j).jobs.slot = d.jobs.slot := by
  unfold Dev.turn
  split <;> rfl

theorem Dev.turn_job (d : Dev) (j : Job) (k : Nat) : (d.turn j).job k = d.job k := by
  rw [Dev.job, Dev.turn_slot, Dev.job]

theorem Dev.turn_now (d : Dev) (j : Job) : (d.turn j).now = d.now := by
  unfold Dev.turn
  split <;> rfl

/-- A job whose step the SVC takes up, and holds inside it at the end of its window when `held` is true. -/
def Job.taken (held : Bool) (j : Job) : Job := { j with state := .running, locked := held && j.mayLock }

/-- The SVC takes up a step of job `k`, and is suspended inside it when `held` is true. -/
def Dev.stepping (d : Dev) (k : Nat) (held : Bool) : Dev :=
  { (d.setJob k (Job.taken held)) with jobs.suspended := if held then some k else none }

theorem Dev.stepping_same (d : Dev) (k : Nat) (held : Bool) : SameBut [.jobs] d (d.stepping k held) :=
  .trans (Dev.setJob_same _ _ _) (Dev.jobsAny_same _ _)

theorem Dev.stepping_job (d : Dev) (k : Nat) (held : Bool) : (d.stepping k held).job k = (d.job k).taken held :=
  Dev.setJob_job d k (Job.taken held)

theorem Dev.stepping_other (d : Dev) {k n : Nat} (held : Bool) (h : n ≠ k) :
    (d.stepping k held).jobs.slot.rd n = d.jobs.slot.rd n := Tab.rd_upd_other d.jobs.slot k n (Job.taken held) h

theorem Dev.runStep_eq (d : Dev) (k : Nat) (inp : StepIn) :
    d.runStep k inp = if inp.held then d.stepping k inp.held else (d.stepping k inp.held).stepOf k inp := rfl

/-- The window is open and the SVC works. -/
def Dev.stepsRun (d : Dev) : Prop := d.svcRuns = true ∧ d.tick.windowOpen.rd 3 = true

theorem jobStep_of_idle {d : Dev} (inp : StepIn) (h : d.svcRuns = false ∨ d.tick.windowOpen.rd 3 = false) : jobStep inp d = d :=
  if_pos (by rcases h with h | h <;> simp [h])

theorem jobStep_of_picked {d : Dev} {inp : StepIn} {k : Nat} {j : Job} (h : d.stepsRun) (hs : d.suspendedJob = none)
    (hp : d.pickJob = some (k, j)) (hc : j.cancel = false) (ha : j.abandon = false) :
    jobStep inp d = d.watchMode (fun e => (e.turn j).runStep k inp) := by
  rw [jobStep, if_neg (by simp [h.1, h.2]), hs, hp]
  simp [hc, ha, Dev.turn]

theorem jobStep_of_suspended {d : Dev} {inp : StepIn} {k : Nat} {j : Job} (h : d.stepsRun) (hs : d.suspendedJob = some (k, j)) :
    jobStep inp d = d.watchMode (fun e => e.runStep k inp) := by
  rw [jobStep, if_neg (by simp [h.1, h.2]), hs]

theorem jobStep_of_cancelled {d : Dev} {inp : StepIn} {k : Nat} {j : Job} (h : d.stepsRun) (hs : d.suspendedJob = none)
    (hp : d.pickJob = some (k, j)) (hc : j.cancel = true) (hcan : (d.turn j).cancellable j = true) :
    jobStep inp d = d.watchMode (fun e => (e.turn j).cancelJob k) := by
  rw [jobStep, if_neg (by simp [h.1, h.2]), hs, hp]
  unfold Dev.watchMode
  have : (d.turn j).cancellable j = (if j.isRepair then d else { d with jobs.lastTurn := j.order }).cancellable j := rfl
  dsimp only
  rw [← this, hcan]
  simp [hc, Dev.turn]

/-! ### SCRUB (R420) -/

/-- 8 KiB have been scrubbed. -/
def Job.scrubbed (j : Job) : Job := { j with progress := min j.total (j.progress + 8192) }

/-- A step of SCRUB that finds nothing and does not end the job. -/
def Dev.scrubbed (d : Dev) (k : Nat) : Dev :=
  (d.stepping k false).setJob k Job.scrubbed

theorem Dev.scrubbed_same (d : Dev) (k : Nat) : SameBut [.jobs] d (d.scrubbed k) :=
  .trans (Dev.stepping_same _ _ _) (Dev.setJob_same _ _ _)

theorem Dev.scrubbed_job {d : Dev} {k : Nat} (hp : (d.job k).progress + 8192 < (d.job k).total) : (d.scrubbed k).job k =
    { (d.job k).taken false with progress := (d.job k).progress + 8192 } := by
  have hmin : min (d.job k).total ((d.job k).progress + 8192) = (d.job k).progress + 8192 := by omega
  rw [Dev.scrubbed, Dev.setJob_job, Dev.stepping_job]
  exact congrArg (fun n => { (d.job k).taken false with progress := n }) hmin

theorem Dev.scrubbed_other (d : Dev) {k n : Nat} (h : n ≠ k) : (d.scrubbed k).jobs.slot.rd n = d.jobs.slot.rd n :=
  (Tab.rd_upd_other (d.stepping k false).jobs.slot k n Job.scrubbed h).trans (Dev.stepping_other _ _ h)

theorem Dev.runStep_scrub {d : Dev} {k : Nat} {inp : StepIn} (ho : (d.job k).op = 9) (hh : inp.held = false)
    (hf : inp.found = []) (hp : (d.job k).progress + 8192 < (d.job k).total) : d.runStep k inp = d.scrubbed k := by
  have hjob := d.stepping_job k false
  have hop : ((d.stepping k false).job k).op = 9 := by rw [hjob]; exact ho
  have hleft : ¬ ((d.stepping k false).job k).total ≤ ((d.stepping k false).job k).progress + 8192 := by
    rw [hjob]
    exact Nat.not_le.2 hp
  have hstep : (d.stepping k false).stepOf k inp = (d.stepping k false).stepScrub k inp := by simp [Dev.stepOf, hop]
  rw [Dev.runStep_eq, hh, if_neg (by decide), hstep, Dev.stepScrub]
  simp only [hf, List.filter_nil, List.foldl_nil, ite_self]
  exact if_neg hleft

/-! ### Cancellation (R124) -/

theorem Dev.dropReads_same (d : Dev) (k : Nat) : SameBut [.trav] d (d.dropReads k) := by
  unfold Dev.dropReads
  exact .foldl _ (fun _ _ => .ite (Dev.travAny_same _ _) (.refl _ _)) _ _

theorem Dev.endJob_of_external {d : Dev} {k : Nat} (h : (d.job k).internal = false) (st : JobState) (result detail : Nat) :
    (d.endJob k st result detail).job k =
      { d.job k with state := st, result := result, detail := detail % 2 ^ 24, locked := false } := by
  have hint : (d.jobs.slot.rd k).internal = false := h
  rw [Dev.endJob, hint]
  dsimp only
  rw [if_neg (by decide), Dev.job, Dev.fire_jobs, Tab.rd_wr_same, Dev.job, hint]

/-- What a job that ends CANCELLED has staged is reverted. -/
def Job.reverted (j : Job) : Job := { j with staged := [], stagedWide := [] }

/-- A cancelled SCRUB ends with its progress. -/
theorem Dev.cancelJob_scrub {d : Dev} {k : Nat} (ho : (d.job k).op = 9) (hi : (d.job k).internal = false)
    (ha : (d.job k).abandon = false) : ((d.cancelJob k).job k).state = .cancelled ∧ ((d.cancelJob k).job k).result = 1 ∧
      ((d.cancelJob k).job k).detail = (d.job k).progress % 2 ^ 24 ∧
      SameBut (.jobs :: .trav :: recordBlocks) d (d.cancelJob k) := by
  have hjob : (d.dropReads k).job k = d.job k := by rw [Dev.job, (Dev.dropReads_same d k).jobs, Dev.job]
  have heq : d.cancelJob k = ((d.dropReads k).setJob k Job.reverted).endJob k .cancelled 1 (d.job k).progress := by
    unfold Dev.cancelJob
    dsimp only
    rw [if_neg (by simp [ha]), if_neg (by simp [ho]), if_neg (by simp [ho]), if_neg (by simp [ho]), if_neg (by simp [ho])]
    rfl
  have hset : ((d.dropReads k).setJob k Job.reverted).job k = (d.job k).reverted := by rw [Dev.setJob_job, hjob]
  have hend := Dev.endJob_of_external (d := (d.dropReads k).setJob k Job.reverted) (by rw [hset]; exact hi) .cancelled 1 (d.job k).progress
  rw [heq, hend]
  exact ⟨rfl, rfl, rfl, .then (.then (.mono (Dev.dropReads_same _ _) (by decide)) (Dev.setJob_same _ _ _)) (Dev.endJob_same _ _ _ _ _)⟩

/-! ### Bulk loads (R126) -/

/-- With every entry staged, the step of a GAZETTEER_LOAD is its commit step. -/
theorem Dev.runStep_load {d : Dev} {k : Nat} {inp : StepIn} (ho : (d.job k).op = 1) (h0 : (d.job k).phase = 0)
    (hp : (d.job k).progress = (d.job k).total) (hh : inp.held = false) :
    d.runStep k inp = ((d.stepping k false).setJob k (fun j => { j with state := .committing })).queueCommit (.job k) := by
  have hjob := d.stepping_job k false
  have hop : ((d.stepping k false).job k).op = 1 := by rw [hjob]; exact ho
  have hphase : ((d.stepping k false).job k).phase = 0 := by rw [hjob]; exact h0
  have hdone : ((d.stepping k false).job k).progress = ((d.stepping k false).job k).total := by rw [hjob]; exact hp
  rw [Dev.runStep_eq, hh, if_neg (by decide)]
  simp [Dev.stepOf, Dev.stepLoad, hop, hphase, hdone, Dev.commitJob]

theorem Dev.queueCommit_job (d : Dev) (k : Nat) :
    d.queueCommit (.job k) = { d with commits := d.commits ++ [(d.tickCycleHere, .job k)] } := rfl

theorem Dev.suspendedJob_spec {d : Dev} {k : Nat} {j : Job} (h : d.suspendedJob = some (k, j)) : d.job k = j := by
  unfold Dev.suspendedJob at h
  split at h
  · split at h
    · obtain ⟨rfl, rfl⟩ := Prod.mk.inj (Option.some.inj h)
      rfl
    · cases h
  · cases h

theorem Dev.tickCycleHere_congr {d e : Dev} (ht : e.tick = d.tick) (hn : e.now = d.now) : e.tickCycleHere = d.tickCycleHere := by
  rw [Dev.tickCycleHere, Dev.mclk, ht, hn, Dev.tickCycleHere, Dev.mclk]

/-- Settles O25. -/
theorem jobSteps : Obligations.JobSteps := by
  unfold Obligations.JobSteps
  refine fun s inp => ⟨fun h => Gives.of_onDev rfl (jobStep_of_idle inp h), fun k j hpick hr hw hs hj ho =>
      ⟨fun hc hi hst hph ha => Gives.of_onDev rfl ?cancelled, fun hc ha hh hf hp => Gives.of_onDev rfl ?scrubbed⟩,
    fun k j hpick hr hw hs hj hc ha => ⟨fun hh => Gives.of_onDev rfl ?held, fun hh ho h0 hp => Gives.of_onDev rfl ?commits⟩,
    fun k j hs hr hw ho h0 hh hf hp => Gives.of_onDev rfl ?resumed⟩
  case cancelled =>
    have hcan : (s.dev.turn j).cancellable j = true := by
      simp [Dev.cancellable, ho, hph, hst]
    rw [jobStep_of_cancelled ⟨hr, hw⟩ hs hpick hc hcan]
    have hjob : (s.dev.turn j).job k = j := (Dev.turn_job _ _ _).trans hj
    obtain ⟨hstate, hresult, hdetail, hsame⟩ := Dev.cancelJob_scrub (d := s.dev.turn j) (k := k) (by rw [hjob]; exact ho)
      (by rw [hjob]; exact hi) (by rw [hjob]; exact ha)
    have hfires := Dev.watchMode_fires s.dev (fun e => (e.turn j).cancelJob k)
    have hall : SameBut (.jobs :: .trav :: recordBlocks) s.dev ((s.dev.turn j).cancelJob k) :=
      .trans (.mono (Dev.turn_same _ _) (by decide)) hsame
    rw [hjob] at hdetail
    exact ⟨by rw [hfires.jobs]; exact hstate, by rw [hfires.jobs]; exact hresult, by rw [hfires.jobs]; exact hdetail,
      hfires.cont.trans hall.cont, hfires.part.trans hall.part⟩
  case scrubbed =>
    have hjob : (s.dev.turn j).job k = j := (Dev.turn_job _ _ _).trans hj
    have hrun : (s.dev.turn j).runStep k inp = (s.dev.turn j).scrubbed k :=
      Dev.runStep_scrub (by rw [hjob]; exact ho) hh hf (by rw [hjob]; exact hp)
    have hdone := Dev.scrubbed_job (d := s.dev.turn j) (k := k) (by rw [hjob]; exact hp)
    have hfires := Dev.watchMode_fires s.dev (fun e => (e.turn j).runStep k inp)
    rw [jobStep_of_picked ⟨hr, hw⟩ hs hpick hc ha]
    rw [hrun] at hfires
    rw [hjob] at hdone
    refine ⟨?_, ?_, fun n hn => ?_, ?_⟩
    · rw [hfires.jobs]
      exact congrArg Job.state hdone
    · rw [hfires.jobs]
      exact congrArg Job.progress hdone
    · rw [hfires.jobs, Dev.scrubbed_other _ hn, Dev.turn_slot]
    · exact .then (.then (.mono (Dev.turn_same _ _) (by decide)) (Dev.scrubbed_same _ _)) hfires
  case held =>
    have hrun : (s.dev.turn j).runStep k inp = (s.dev.turn j).stepping k true := by rw [Dev.runStep_eq, hh, if_pos rfl]
    have hjob : ((s.dev.turn j).stepping k true).jobs.slot.rd k = j.taken true := by
      rw [← hj, ← Dev.job, Dev.stepping_job, Dev.turn_job, Dev.job]
    have hfires := Dev.watchMode_fires s.dev (fun e => (e.turn j).runStep k inp)
    rw [jobStep_of_picked ⟨hr, hw⟩ hs hpick hc ha]
    rw [hrun] at hfires
    refine ⟨?_, ?_, ?_, ?_⟩
    · rw [hfires.jobs]
      exact congrArg Job.state hjob
    · rw [hfires.jobs]
      rfl
    · rw [hfires.jobs]
      exact (congrArg Job.progress hjob).trans rfl
    · exact .then (.then (.mono (Dev.turn_same _ _) (by decide)) (Dev.stepping_same _ _ _)) hfires
  case commits =>
    have hjob : (s.dev.turn j).job k = j := (Dev.turn_job _ _ _).trans hj
    have hrun := Dev.runStep_load (d := s.dev.turn j) (k := k) (inp := inp) (by rw [hjob]; exact ho) (by rw [hjob]; exact h0)
      (by rw [hjob]; exact hp) hh
    have hfires := Dev.watchMode_fires s.dev (fun e => (e.turn j).runStep k inp)
    rw [jobStep_of_picked ⟨hr, hw⟩ hs hpick hc ha]
    rw [hrun] at hfires
    have hstep : SameBut [.jobs] s.dev (((s.dev.turn j).stepping k false).setJob k (fun j => { j with state := .committing })) :=
      .trans (.trans (Dev.turn_same _ _) (Dev.stepping_same _ _ _)) (Dev.setJob_same _ _ _)
    refine ⟨?_, ?_, ?_⟩
    · rw [hfires.jobs, Dev.queueCommit_job]
      exact congrArg Job.state (Dev.setJob_job ((s.dev.turn j).stepping k false) k _)
    · rw [hfires.commits, Dev.queueCommit_job]
      have hnow : (((s.dev.turn j).stepping k false).setJob k (fun j => { j with state := .committing })).now = s.dev.now := Dev.turn_now _ _
      rw [hstep.commits, Dev.tickCycleHere_congr hstep.tick hnow]
    · exact .then (.then (.mono hstep (by decide)) (Dev.commitsAny_same _ _)) hfires
  case resumed =>
    have hjob : s.dev.job k = j := Dev.suspendedJob_spec hs
    have hrun : s.dev.runStep k inp = s.dev.scrubbed k :=
      Dev.runStep_scrub (by rw [hjob]; exact ho) hh hf (by rw [hjob]; exact hp)
    have hdone := Dev.scrubbed_job (d := s.dev) (k := k) (by rw [hjob]; exact hp)
    have hfires := Dev.watchMode_fires s.dev (fun e => e.runStep k inp)
    rw [jobStep_of_suspended ⟨hr, hw⟩ hs]
    rw [hrun] at hfires
    rw [hjob] at hdone
    refine ⟨?_, ?_, fun n hn => ?_, ?_⟩
    · rw [hfires.jobs]
      exact congrArg Job.progress hdone
    · rw [hfires.jobs]
      rfl
    · rw [hfires.jobs, Dev.scrubbed_other _ hn]
    · exact .then (.mono (Dev.scrubbed_same _ _) (by decide)) hfires

end Sys2Proof.Machine

/-! PROOF. What the operations on lanes, spares and PLLs touch (R128 to R161), and what sending leaves of the lanes. -/

namespace Sys2Proof.Machine

-- One theorem at a time, as in the tests: many at once would ask for more threads than the sandbox gives.
set_option Elab.async false

theorem Dev.sendTrain_same (d : Dev) (t n : Nat) : SameBut [.ln] d (d.sendTrain t n) := by
  unfold Dev.sendTrain
  exact .ite (.mono (Dev.sendLane_same _ _ _ _) (by decide)) (.refl _ _)

theorem Dev.trainingFailed_same (d : Dev) (p : Nat) : SameBut (.jobs :: .ln :: recordBlocks) d (d.trainingFailed p) := by
  unfold Dev.trainingFailed
  exact .then (.then (.mono (Dev.setLink_same _ _ _) (by decide)) (Dev.log_same _ _ _ _)) (Dev.endPortJobs_same _ _ _ _ _ _)

theorem Dev.trainingCheck_same (d : Dev) (p : Nat) : SameBut (.jobs :: .ln :: recordBlocks) d (d.trainingCheck p) := by
  unfold Dev.trainingCheck
  exact .ite (.mono (Dev.trainingFailed_same _ _) (by decide)) (.refl _ _)

theorem Dev.failLane_same (d : Dev) (t n : Nat) : SameBut (.jobs :: .ln :: .cont :: recordBlocks) d (d.failLane t n) := by
  unfold Dev.failLane
  dsimp only
  split
  · exact .mono (Dev.setLane_same _ _ _ _) (by decide)
  · exact .ite (.then (.then (.then (.mono (Dev.setLane_same _ _ _ _) (by decide)) (Dev.setLane_same _ _ _ _))
      (Dev.setLane_same _ _ _ _)) (Dev.corFault_same _ _ _ _ _)) (.then (.mono (Dev.setLane_same _ _ _ _) (by decide))
      (Dev.trainingCheck_same _ _))

theorem Dev.failMirror_same (d : Dev) (p result detail : Nat) : SameBut (.jobs :: .ln :: recordBlocks) d
    (d.failMirror p result detail) := by
  unfold Dev.failMirror
  exact .ite (.then (.mono (Dev.setLink_same _ _ _) (by decide)) (Dev.endPortJobs_same _ _ _ _ _ _)) (.refl _ _)

theorem Dev.applyBlock_same (d : Dev) (p start code : Nat) : SameBut [.ln] d (d.applyBlock p start code) := by
  unfold Dev.applyBlock
  exact .foldl _ (fun _ _ => .ite (.mono (Dev.setLane_same _ _ _ _) (by decide)) (.ite (.mono (Dev.setLane_same _ _ _ _)
      (by decide)) (.mono (Dev.setLane_same _ _ _ _) (by decide)))) _ _

theorem Dev.alignOut_same (d : Dev) (p width : Nat) (lanes : List Nat) : SameBut [.ln] d (d.alignOut p width lanes) := by
  unfold Dev.alignOut
  exact .trans (.mono (Dev.setLink_same _ _ _) (by decide)) (.foldl _ (fun _ _ => .mono (Dev.sendLane_same _ _ _ _)
      (by decide)) _ _)

theorem Dev.sendAlign_same (d : Dev) (p : Nat) : SameBut [.ln] d (d.sendAlign p) := by
  unfold Dev.sendAlign
  exact .mono (Dev.alignOut_same _ _ _ _) (by decide)

theorem Dev.degrade_same (d : Dev) (p cap : Nat) : SameBut (.tick :: .jobs :: .ln :: .sw :: .fab :: .bnd :: .cont ::
    recordBlocks) d (d.degrade p cap) := by
  unfold Dev.degrade
  dsimp only
  split
  · exact .mono (Dev.linkDown_same _ _ _) (by decide)
  · exact .then (.then (.then (.mono (Dev.applyBlock_same _ _ _ _) (by decide)) (Dev.setLink_same _ _ _))
      (Dev.sendAlign_same _ _)) (Dev.log_same _ _ _ _)

theorem Dev.laneGone_same (d : Dev) (p n : Nat) : SameBut (.tick :: .jobs :: .ln :: .sw :: .fab :: .bnd :: .cont ::
    recordBlocks) d (d.laneGone p n) := by
  unfold Dev.laneGone
  exact .ite (.ite (.then (.then (.ite (.mono (Dev.spareExhausted_same _ _ _) (by decide)) (.refl _ _))
      (Dev.endPortJobs_same _ _ _ _ _ _)) (Dev.degrade_same _ _ _)) (.then (.then (.ite (.mono
      (Dev.spareExhausted_same _ _ _) (by decide)) (.refl _ _)) (Dev.endPortJobs_same _ _ _ _ _ _))
      (Dev.linkDown_same _ _ _))) (.ite (.mono (Dev.spareExhausted_same _ _ _) (by decide)) (.refl _ _))

theorem Dev.spareFails_same (d : Dev) (t n : Nat) : SameBut (.tick :: .jobs :: .ln :: .sw :: .fab :: .bnd :: .cont ::
    recordBlocks) d (d.spareFails t n) := by
  unfold Dev.spareFails
  dsimp only
  split
  · split
    · exact .ite (.then (.mono (Dev.setLane_same _ _ _ _) (by decide)) (Dev.log_same _ _ _ _)) (.ite (.then (.then (.mono
        (Dev.setLane_same _ _ _ _) (by decide)) (Dev.log_same _ _ _ _)) (Dev.failMirror_same _ _ _ _)) (.then (.then (.then
        (.mono (Dev.setLane_same _ _ _ _) (by decide)) (Dev.log_same _ _ _ _)) (Dev.failMirror_same _ _ _ _))
        (Dev.laneGone_same _ _ _)))
    · exact .then (.mono (Dev.setLane_same _ _ _ _) (by decide)) (Dev.log_same _ _ _ _)
  · exact .then (.mono (Dev.setLane_same _ _ _ _) (by decide)) (Dev.log_same _ _ _ _)

theorem Dev.sendSwap_same (d : Dev) (p : Nat) (ack : Bool) (x s : Nat) (refused : Bool) : SameBut [.ln] d
    (d.sendSwap p ack x s refused) := by
  unfold Dev.sendSwap
  exact .foldl _ (fun _ _ => .mono (Dev.sendLane_same _ _ _ _) (by decide)) _ _

theorem Dev.startCutover_same (d : Dev) (p x s : Nat) (auto : Bool) : SameBut [.ln] d (d.startCutover p x s auto) := by
  unfold Dev.startCutover
  exact .ite (.then (.mono (Dev.setLink_same _ _ _) (by decide)) (Dev.sendSwap_same _ _ _ _ _ _)) (.ite (.mono
      (Dev.setLink_same _ _ _) (by decide)) (.refl _ _))

theorem Dev.spareCount_same (d : Dev) (kind elem : Nat) : SameBut [.cont] d (d.spareCount kind elem).1 := by
  unfold Dev.spareCount
  exact .mono (Dev.contAny_same _ _) (by decide)

theorem Dev.laneHealth_same (d : Dev) (t n : Nat) : SameBut (.jobs :: .cont :: recordBlocks) d (d.laneHealth t n) := by
  unfold Dev.laneHealth
  dsimp only
  split
  · exact .ite (.ite (.then (.then (.then (.mono (Dev.fire_same _ _) (by decide)) (Dev.corFault_same _ _ _ _ _))
      (Dev.spareCount_same _ _ _)) (Dev.startInternal_same _ _)) (.then (.then (.then (.mono (Dev.fire_same _ _)
      (by decide)) (Dev.corFault_same _ _ _ _ _)) (Dev.spareCount_same _ _ _)) (Dev.spareExhausted_same _ _ _))) (.then
      (.then (.mono (Dev.fire_same _ _) (by decide)) (Dev.corFault_same _ _ _ _ _)) (Dev.spareCount_same _ _ _))
  · exact .then (.then (.mono (Dev.fire_same _ _) (by decide)) (Dev.corFault_same _ _ _ _ _)) (Dev.spareCount_same _ _ _)

theorem Dev.alignDeskew_same (d : Dev) (p : Nat) : SameBut [.ln] d (d.alignDeskew p) := by
  unfold Dev.alignDeskew
  exact .mono (Dev.alignOut_same _ _ _ _) (by decide)

theorem Dev.endFfe_same (d : Dev) (t n : Nat) : SameBut (.jobs :: .ln :: .cont :: recordBlocks) d (d.endFfe t n) := by
  unfold Dev.endFfe
  dsimp only
  refine .ite ?_ ?_
  · refine .ite ?_ ?_
    · exact .mono (Dev.failLane_same _ _ _) (by decide)
    · refine .ite ?_ ?_
      · exact .ite (.then (.mono (Dev.setLane_same _ _ _ _) (by decide)) (Dev.sendLane_same _ _ _ _)) (.mono
          (Dev.setLane_same _ _ _ _) (by decide))
      · split
        · exact .then (.mono (Dev.setLane_same _ _ _ _) (by decide)) (Dev.alignDeskew_same _ _)
        · exact .mono (Dev.setLane_same _ _ _ _) (by decide)
  · exact .mono (Dev.sendTrain_same _ _ _) (by decide)

theorem Dev.takeSpareOk_same (d : Dev) (p ok : Nat) : SameBut [.ln] d (d.takeSpareOk p ok) := by
  unfold Dev.takeSpareOk
  exact .foldl _ (fun _ _ => .ite (.then (.mono (Dev.lnAny_same _ _) (by decide)) (Dev.setLane_same _ _ _ _)) (.mono
      (Dev.lnAny_same _ _) (by decide))) _ _

theorem Dev.askPreset_same (d : Dev) (t n : Nat) : SameBut [] d (d.askPreset t n) := by
  unfold Dev.askPreset
  exact .mono (Dev.emit_same _ _) (by decide)

theorem Dev.takeEq_same (d0 : Dev) (t n p : Nat) (e : EqTs) : SameBut [.pcie, .ln] d0 (d0.takeEq t n p e) := by
  unfold Dev.takeEq
  exact .ite (.ite (.ite (.ite (.mono (Dev.setPport_same _ _ _) (by decide)) (.refl _ _)) (.then (.then (.ite (.mono
      (Dev.setPport_same _ _ _) (by decide)) (.refl _ _)) (Dev.setLane_same _ _ _ _)) (Dev.askPreset_same _ _ _))) (.ite
      (.then (.then (.ite (.mono (Dev.setPport_same _ _ _) (by decide)) (.refl _ _)) (Dev.setLane_same _ _ _ _))
      (Dev.askPreset_same _ _ _)) (.ite (.mono (Dev.setPport_same _ _ _) (by decide)) (.refl _ _)))) (.ite (.then (.ite
      (.mono (Dev.setPport_same _ _ _) (by decide)) (.refl _ _)) (Dev.emit_same _ _)) (.then (.then (.ite (.mono
      (Dev.setPport_same _ _ _) (by decide)) (.refl _ _)) (Dev.setLane_same _ _ _ _)) (Dev.emit_same _ _)))

theorem Dev.startReplay_same (d : Dev) (p r why : Nat) : SameBut (.ln :: .cont :: recordBlocks) d
    (d.startReplay p r why) := by
  unfold Dev.startReplay
  exact .ite (.refl _ _) (.then (.mono (Dev.setLink_same _ _ _) (by decide)) (Dev.corFault_same _ _ _ _ _))

theorem Dev.resume_same (d : Dev) (p : Nat) : SameBut (.tick :: .jobs :: .ln :: .sw :: .fab :: .bnd :: .cont :: recordBlocks)
    d (d.resume p) := by
  unfold Dev.resume
  dsimp only
  split
  · refine .ite ?_ ?_
    · exact .then (.then (.then (.mono (Dev.setLink_same _ _ _) (by decide)) (Dev.startReplay_same _ _ _ _))
        (Dev.setLink_same _ _ _)) (Dev.startCutover_same _ _ _ _ _)
    · split
      · exact .then (.then (.then (.mono (Dev.setLink_same _ _ _) (by decide)) (Dev.startReplay_same _ _ _ _))
          (Dev.setLink_same _ _ _)) (Dev.laneGone_same _ _ _)
      · exact .then (.then (.mono (Dev.setLink_same _ _ _) (by decide)) (Dev.startReplay_same _ _ _ _))
          (Dev.setLink_same _ _ _)
  · split
    · exact .then (.then (.mono (Dev.setLink_same _ _ _) (by decide)) (Dev.startReplay_same _ _ _ _))
        (Dev.laneGone_same _ _ _)
    · exact .then (.mono (Dev.setLink_same _ _ _) (by decide)) (Dev.startReplay_same _ _ _ _)

theorem Dev.swapRecord_same (d : Dev) (t n s : Nat) : SameBut (.cont :: recordBlocks) d (d.swapRecord t n s) := by
  unfold Dev.swapRecord
  exact .then (.mono (Dev.fire_same _ _) (by decide)) (Dev.corFault_same _ _ _ _ _)

theorem Dev.cutoverDone_same (d : Dev) (p : Nat) : SameBut (.tick :: .jobs :: .ln :: .sw :: .fab :: .bnd :: .cont ::
    recordBlocks) d (d.cutoverDone p) := by
  unfold Dev.cutoverDone
  dsimp only
  refine .then ?_ (Dev.resume_same _ _)
  refine .ite ?_ ?_
  · refine .then ?_ (Dev.failMirror_same _ _ _ _)
    refine .foldl _ (fun e x => ?_) _ _
    split
    · exact .then (.then (.mono (Dev.swapRecord_same _ _ _ _) (by decide)) (Dev.jobsAny_same _ _)) (Dev.endJob_same _ _ _ _ _)
    · exact .ite (.then (.mono (Dev.swapRecord_same _ _ _ _) (by decide)) (Dev.startInternal_same _ _)) (.mono
        (Dev.swapRecord_same _ _ _ _) (by decide))
  · refine .foldl _ (fun e x => ?_) _ _
    split
    · exact .then (.then (.mono (Dev.swapRecord_same _ _ _ _) (by decide)) (Dev.jobsAny_same _ _)) (Dev.endJob_same _ _ _ _ _)
    · exact .ite (.then (.mono (Dev.swapRecord_same _ _ _ _) (by decide)) (Dev.startInternal_same _ _)) (.mono
        (Dev.swapRecord_same _ _ _ _) (by decide))

theorem Dev.alignPause_same (d : Dev) (p : Nat) (ls : List (Nat × Nat)) : SameBut
    (.tick :: .jobs :: .ln :: .sw :: .fab :: .bnd :: .cont :: recordBlocks) d (d.alignPause p ls) := by
  unfold Dev.alignPause
  exact .ite (.then (.trans (.foldl _ (fun _ _ => .mono (Dev.setLane_same _ _ _ _) (by decide)) _ _) (.foldl _
      (fun _ _ => .mono (Dev.setLane_same _ _ _ _) (by decide)) _ _)) (Dev.cutoverDone_same _ _)) (.then (.trans (.foldl _
      (fun _ _ => .mono (Dev.setLane_same _ _ _ _) (by decide)) _ _) (.foldl _ (fun _ _ => .mono (Dev.setLane_same _ _ _ _)
      (by decide)) _ _)) (Dev.resume_same _ _))

theorem Dev.moveLane_same (d : Dev) (p x s : Nat) : SameBut [.ln] d (d.moveLane p x s) := by
  unfold Dev.moveLane
  dsimp only
  split
  · exact .refl _ _
  · exact .then (.mono (Dev.setLane_same _ _ _ _) (by decide)) (Dev.setLane_same _ _ _ _)

theorem Dev.swapAnswer_same (d : Dev) (p : Nat) (b : SwapBlk) (no : Bool) : SameBut [.ln] d (d.swapAnswer p b no) := by
  unfold Dev.swapAnswer
  exact .mono (Dev.sendSwap_same _ _ _ _ _ _) (by decide)

theorem Dev.swapGo_same (d : Dev) (p : Nat) (b : SwapBlk) (xs : List (Nat × Nat)) : SameBut [.ln] d (d.swapGo p b xs) := by
  unfold Dev.swapGo
  exact .then (.then (.then (.foldl _ (fun _ _ => .mono (Dev.moveLane_same _ _ _ _) (by decide)) _ _)
      (Dev.swapAnswer_same _ _ _ _)) (Dev.setLink_same _ _ _)) (Dev.sendAlign_same _ _)

theorem Dev.swapLost_same (d : Dev) (p x : Nat) : SameBut (.jobs :: .ln :: recordBlocks) d (d.swapLost p x) := by
  unfold Dev.swapLost
  dsimp only
  split
  · exact .refl _ _
  · exact .ite (.then (.foldl _ (fun _ _ => .mono (Dev.endJob_same _ _ _ _ _) (by decide)) _ _) (Dev.setLink_same _ _ _))
      (.foldl _ (fun _ _ => .mono (Dev.endJob_same _ _ _ _ _) (by decide)) _ _)

theorem Dev.sendMargin_same (d : Dev) (p : Nat) (m : Margin) : SameBut [.ln] d (d.sendMargin p m) := by
  unfold Dev.sendMargin
  exact .mono (Dev.setLink_same _ _ _) (by decide)

theorem Dev.sendExchange_same (d : Dev) (p : Nat) (m : Margin) : SameBut [.ln] d (d.sendExchange p m) := by
  unfold Dev.sendExchange
  exact .then (.mono (Dev.sendMargin_same _ _ _) (by decide)) (Dev.setLink_same _ _ _)

theorem Dev.mirrorSelect_same (d : Dev) (p : Nat) : SameBut [.jobs, .ln] d (d.mirrorSelect p) := by
  unfold Dev.mirrorSelect
  dsimp only
  split
  · exact .ite (.trans (.ite (.then (.mono (Dev.setLink_same _ _ _) (by decide)) (Dev.sendMargin_same _ _ _)) (.then (.mono
      (Dev.setLink_same _ _ _) (by decide)) (Dev.sendExchange_same _ _ _))) (.foldl _ (fun _ _ => .mono
      (Dev.jobsAny_same _ _) (by decide)) _ _)) (.refl _ _)
  · exact .refl _ _

theorem Dev.pllMove_same (d : Dev) (t : Nat) : SameBut (.ln :: .sw :: .cont :: recordBlocks) d (d.pllMove t) := by
  unfold Dev.pllMove
  exact .then (.then (.trans (.mono (Dev.lnAny_same _ _) (by decide)) (.foldl _ (fun _ _ => .ite (.then (.mono
      (Dev.setLink_same _ _ _) (by decide)) (Dev.sendAlign_same _ _)) (.ite (.mono (Dev.commandLink_same _ _ _) (by decide))
      (.refl _ _))) _ _)) (Dev.fire_same _ _)) (Dev.corFault_same _ _ _ _ _)

theorem Dev.dropStaging_same (d : Dev) (p : Nat) : SameBut [.sw, .bnd] d (d.dropStaging p) := by
  unfold Dev.dropStaging
  exact .trans (.mono (Dev.swAny_same _ _) (by decide)) (.foldl _ (fun _ _ => .mono (Dev.leaveEpoch_same _ _)
      (by decide)) _ _)

theorem Dev.linkError_same (d : Dev) (p : Nat) (unc : Bool) (bit : Nat) : SameBut (.ln :: .sw :: .cont :: recordBlocks) d
    (d.linkError p unc bit) := by
  unfold Dev.linkError
  exact .ite (.then (.trans (.mono (Dev.aerPhys_same _ _ _ _ _ _) (by decide)) (.foldl _ (fun _ _ => .mono
      (Dev.aerView_same _ _ _ _ _ _) (by decide)) _ _)) (Dev.dpcOn_same _ _ _ _)) (.trans (.mono
      (Dev.aerPhys_same _ _ _ _ _ _) (by decide)) (.foldl _ (fun _ _ => .mono (Dev.aerView_same _ _ _ _ _ _)
      (by decide)) _ _))

theorem Dev.dlDown_same (d : Dev) (p : Nat) : SameBut (.jobs :: .ln :: .sw :: .tally :: .trav :: .fab :: .bnd :: .cont ::
    recordBlocks) d (d.dlDown p) := by
  unfold Dev.dlDown
  dsimp only
  refine .ite ?_ ?_
  · exact .refl _ _
  · refine .ite ?_ ?_
    · exact .then (.then (.then (.mono (Dev.linkFall_same _ _) (by decide)) (Dev.setPport_same _ _ _))
        (Dev.clearCfg_same _ _)) (Dev.pcieAny_same _ _)
    · split
      · exact .then (.then (.mono (Dev.linkFall_same _ _) (by decide)) (Dev.setPport_same _ _ _))
          (Dev.partResetBegin_same _ _ _)
      · exact .ite (.then (.then (.mono (Dev.linkFall_same _ _) (by decide)) (Dev.setPport_same _ _ _))
          (Dev.dropStaging_same _ _)) (.then (.then (.then (.mono (Dev.linkFall_same _ _) (by decide))
          (Dev.setPport_same _ _ _)) (Dev.dropStaging_same _ _)) (Dev.linkError_same _ _ _ _))

theorem Dev.pllGone_same (d : Dev) (t : Nat) : SameBut (.tick :: .jobs :: .ln :: .sw :: .tally :: .trav :: .fab :: .bnd ::
    .cont :: recordBlocks) d (d.pllGone t) := by
  unfold Dev.pllGone
  exact .trans (.then (.mono (Dev.fire_same _ _) (by decide)) (Dev.uncFault_same _ _ _ _ _ _ _ _)) (.foldl _
      (fun _ _ => .ite (.mono (Dev.linkDown_same _ _ _) (by decide)) (.ite (.mono (Dev.dlDown_same _ _) (by decide))
      (.refl _ _))) _ _)

theorem Dev.sendPattern_same (d : Dev) (t n : Nat) : SameBut [] d (d.sendPattern t n) := by
  unfold Dev.sendPattern
  exact .ite (.refl _ _) (.mono (Dev.emit_same _ _) (by decide))

theorem Dev.enterTest_same (d : Dev) (t n : Nat) : SameBut (.tick :: .jobs :: .ln :: .sw :: .tally :: .trav :: .fab :: .bnd
    :: .cont :: recordBlocks) d (d.enterTest t n) := by
  unfold Dev.enterTest
  dsimp only
  refine .ite ?_ ?_
  · exact .ite (.mono (Dev.setLane_same _ _ _ _) (by decide)) (.refl _ _)
  · split
    · exact .ite (.then (.then (.mono (Dev.setLane_same _ _ _ _) (by decide)) (Dev.sendPattern_same _ _ _))
        (Dev.linkDown_same _ _ _)) (.ite (.then (.then (.mono (Dev.setLane_same _ _ _ _) (by decide))
        (Dev.sendPattern_same _ _ _)) (Dev.dlDown_same _ _)) (.then (.mono (Dev.setLane_same _ _ _ _) (by decide))
        (Dev.sendPattern_same _ _ _)))
    · exact .then (.mono (Dev.setLane_same _ _ _ _) (by decide)) (Dev.sendPattern_same _ _ _)

theorem Dev.sendBack_same (d : Dev) (t n : Nat) (words : List Nat) : SameBut [] d (d.sendBack t n words) := by
  unfold Dev.sendBack
  exact .ite (.mono (Dev.emit_same _ _) (by decide)) (.refl _ _)

/-! ### Lanes and links, read and written -/

theorem laneKey_ne {t t' n n' : Nat} (hn : n < 18) (hn' : n' < 18) (h : n ≠ n') : laneKey t n ≠ laneKey t' n' := by
  unfold laneKey
  omega

theorem Dev.lane_setLane_same (d : Dev) (t n : Nat) (f : Lane → Lane) : (d.setLane t n f).lane t n = f (d.lane t n) :=
  Tab.rd_upd_same _ _ _

theorem Dev.lane_setLane_other (d : Dev) {t n t' n' : Nat} (f : Lane → Lane) (h : laneKey t' n' ≠ laneKey t n) :
    (d.setLane t n f).lane t' n' = d.lane t' n' := Tab.rd_upd_other _ _ _ _ h

theorem Dev.lane_setLink (d : Dev) (p t n : Nat) (f : Link → Link) : (d.setLink p f).lane t n = d.lane t n := rfl

theorem Dev.link_setLane (d : Dev) (p t n : Nat) (f : Lane → Lane) : (d.setLane t n f).link p = d.link p := rfl

theorem Dev.link_setLink_same (d : Dev) (p : Nat) (f : Link → Link) : (d.setLink p f).link p = f (d.link p) :=
  Tab.rd_upd_same _ _ _

theorem Dev.lane_of_same {bs : List Block} {d e : Dev} (h : SameBut bs d e) (t n : Nat) (hb : .ln ∉ bs := by decide) :
    e.lane t n = d.lane t n := by
  rw [Dev.lane, h.ln hb, Dev.lane]

theorem Dev.link_of_same {bs : List Block} {d e : Dev} (h : SameBut bs d e) (p : Nat) (hb : .ln ∉ bs := by decide) :
    e.link p = d.link p := by
  rw [Dev.link, h.ln hb, Dev.link]

theorem spareLane_ge (n : Nat) : 16 ≤ spareLane n ∧ spareLane n < 18 := by
  unfold spareLane
  split <;> omega

/-! ### What sending leaves -/

/-- Every lane apart from its scrambler. -/
def Dev.laneRest (d : Dev) : Nat → Lane := fun k => { d.ln.lane.rd k with scram := none }

theorem laneRest_of_same {bs : List Block} {d e : Dev} (h : SameBut bs d e) (hb : .ln ∉ bs := by decide) :
    Keeps Dev.laneRest d e := by
  unfold Keeps Dev.laneRest
  rw [h.ln hb]

/-- A field of a lane other than the scrambler. -/
theorem Keeps.lane {d e : Dev} (h : Keeps Dev.laneRest d e) (t n : Nat) :
    ({ e.lane t n with scram := none } : Lane) = { d.lane t n with scram := none } := congrFun h (laneKey t n)

theorem Dev.setLink_laneRest (d : Dev) (p : Nat) (f : Link → Link) : Keeps Dev.laneRest d (d.setLink p f) := rfl

/-- What a change of one lane that keeps all but its scrambler leaves. -/
theorem Dev.setLane_laneRest (d : Dev) (t n : Nat) (f : Lane → Lane)
    (h : ∀ l, ({ f l with scram := none } : Lane) = { l with scram := none } := by exact fun _ => rfl) :
    Keeps Dev.laneRest d (d.setLane t n f) := by
  funext k
  by_cases hk : k = laneKey t n
  · subst hk
    simp [Dev.laneRest, Dev.setLane, h]
  · simp [Dev.laneRest, Dev.setLane, Tab.rd_upd_other _ _ _ _ hk]

theorem Dev.sendLane_laneRest (d : Dev) (t n : Nat) (bs : List Nat) : Keeps Dev.laneRest d (d.sendLane t n bs) :=
  .trans (Dev.setLane_laneRest d t n _) (laneRest_of_same (Dev.putWords_same _ _ _ _))

theorem Dev.sendTrain_laneRest (d : Dev) (t n : Nat) : Keeps Dev.laneRest d (d.sendTrain t n) := by
  unfold Dev.sendTrain
  exact .ite (Dev.sendLane_laneRest _ _ _ _) (.refl _ _)

theorem Dev.sendSwap_laneRest (d : Dev) (p : Nat) (ack : Bool) (x s : Nat) (refused : Bool) :
    Keeps Dev.laneRest d (d.sendSwap p ack x s refused) := by
  unfold Dev.sendSwap
  exact .foldl _ (fun _ _ => Dev.sendLane_laneRest _ _ _ _) _ _

theorem Dev.alignOut_laneRest (d : Dev) (p width : Nat) (lanes : List Nat) : Keeps Dev.laneRest d (d.alignOut p width lanes) := by
  unfold Dev.alignOut
  exact .trans (Dev.setLink_laneRest _ _ _) (.foldl _ (fun _ _ => Dev.sendLane_laneRest _ _ _ _) _ _)

theorem Dev.sendAlign_laneRest (d : Dev) (p : Nat) : Keeps Dev.laneRest d (d.sendAlign p) := Dev.alignOut_laneRest _ _ _ _

/-- The links of every port. -/
def Dev.links (d : Dev) : Tab Link := d.ln.link

theorem links_of_same {bs : List Block} {d e : Dev} (h : SameBut bs d e) (hb : .ln ∉ bs := by decide) : Keeps Dev.links d e := by
  rw [Keeps, Dev.links, h.ln hb, Dev.links]

theorem Keeps.link {d e : Dev} (h : Keeps Dev.links d e) (p : Nat) : e.link p = d.link p := congrArg (Tab.rd · p) h

theorem Dev.setLane_links (d : Dev) (t n : Nat) (f : Lane → Lane) : Keeps Dev.links d (d.setLane t n f) := rfl

theorem Dev.sendLane_links (d : Dev) (t n : Nat) (bs : List Nat) : Keeps Dev.links d (d.sendLane t n bs) :=
  .trans (Dev.setLane_links d t n _) (links_of_same (Dev.putWords_same _ _ _ _))

theorem Dev.sendSwap_links (d : Dev) (p : Nat) (ack : Bool) (x s : Nat) (refused : Bool) :
    Keeps Dev.links d (d.sendSwap p ack x s refused) := by
  unfold Dev.sendSwap
  exact .foldl _ (fun _ _ => Dev.sendLane_links _ _ _ _) _ _

/-- A burst advances the port's ALIGN_SEQ and leaves the rest of its link. -/
theorem Dev.sendAlign_link (d : Dev) (p : Nat) :
    (d.sendAlign p).link p = { d.link p with alignSeq := ((d.link p).alignSeq + 1) % 2 ^ 32 } := by
  unfold Dev.sendAlign Dev.alignOut
  rw [Keeps.link (.foldl _ (fun _ _ => Dev.sendLane_links _ _ _ _) _ _), Dev.link_setLink_same]

/-- The lanes of every tile. -/
def Dev.lanes (d : Dev) : Tab Lane := d.ln.lane

theorem lanes_of_same {bs : List Block} {d e : Dev} (h : SameBut bs d e) (hb : .ln ∉ bs := by decide) : Keeps Dev.lanes d e := by
  rw [Keeps, Dev.lanes, h.ln hb, Dev.lanes]

theorem Keeps.laneAt {d e : Dev} (h : Keeps Dev.lanes d e) (t n : Nat) : e.lane t n = d.lane t n :=
  congrArg (Tab.rd · (laneKey t n)) h

theorem Dev.setLink_lanes (d : Dev) (p : Nat) (f : Link → Link) : Keeps Dev.lanes d (d.setLink p f) := rfl

theorem Dev.trainingCheck_lanes (d : Dev) (p : Nat) : Keeps Dev.lanes d (d.trainingCheck p) := by
  unfold Dev.trainingCheck Dev.trainingFailed
  exact .ite (.trans (.trans (Dev.setLink_lanes _ _ _) (lanes_of_same (Dev.log_same _ _ _ _)))
    (lanes_of_same (Dev.endPortJobs_same _ _ _ _ _ _))) (.refl _ _)

end Sys2Proof.Machine

/-! PROOF. Training of a lane: detection, clock recovery, block lock and its failures (R132, R141, R145, Table 5.4). -/

namespace Sys2Proof.Machine

-- One theorem at a time, as in the tests: many at once would ask for more threads than the sandbox gives.
set_option Elab.async false

/-! ### Where what arrives goes (R501, R503) -/

theorem Dev.lanesIn_of_die {d : Dev} {t : Nat} (h : d.atDie t = true) (ns what : List Nat) (f : Dev → Dev) :
    d.lanesIn t ns what f = f d := if_pos h

theorem Dev.laneIn_of_die {d : Dev} {t : Nat} (h : d.atDie t = true) (n : Nat) (what : List Nat) (f : Dev → Dev) :
    d.laneIn t n what f = f d := by
  rw [Dev.laneIn, Dev.lanesIn_of_die h, ite_self]

theorem Dev.laneIn_of_bypass {d : Dev} {t n : Nat} (h : d.atDie t = false) (hl : (d.lane t n).loop = 0) (what : List Nat)
    (f : Dev → Dev) : d.laneIn t n what f =
      if what = [] then d else { d with out := .through [18 * t + t8Mate n] what :: d.out } := by
  rw [Dev.laneIn, if_neg (by simp [hl]), Dev.lanesIn, if_neg (by simp [h])]
  simp

/-! ### Block lock (R132) -/

theorem blockLock_of_invalid {d : Dev} {t : Fin 9} {n : Fin 18} {run : List Nat} (h : runValid (d.heard t n run) = false) :
    blockLock t n run d = d := if_pos (by simp [h])

/-- A lane as the descrambler leaves it after a run. -/
def Dev.fed (d : Dev) (t n : Nat) (run : List Nat) : Lane :=
  { d.lane t n with descram := (descramBlocks (d.lane t n).descram (d.heard t n run)).1 }

/-- A hunting lane that has heard a run. -/
def Dev.hunts (d : Dev) (t n : Nat) (run : List Nat) : Dev :=
  d.setLane t n (fun l => ({ l with descram := (descramBlocks (d.lane t n).descram (d.heard t n run)).1 } : Lane).lockRun
    (d.heard t n run) (descramBlocks (d.lane t n).descram (d.heard t n run)).2)

theorem blockLock_of_hunt {d : Dev} {t : Fin 9} {n : Fin 18} {run : List Nat} (hs : (d.lane t n).state = 3)
    (h : runValid (d.heard t n run) = true) : blockLock t n run d = (d.hunts t n run).sendTrain t n := by
  rw [blockLock, if_neg (by simp [h]), if_pos hs]
  rfl

/-- What a run does to a hunting lane, apart from its scrambler. -/
theorem blockLock_lane {d : Dev} {t : Fin 9} {n : Fin 18} {run : List Nat} (hs : (d.lane t n).state = 3)
    (h : runValid (d.heard t n run) = true) : ({ (blockLock t n run d).lane t n with scram := none } : Lane) =
      { (d.fed t n run).lockRun (d.heard t n run) (descramBlocks (d.lane t n).descram (d.heard t n run)).2 with scram := none } := by
  rw [blockLock_of_hunt hs h, (Dev.sendTrain_laneRest _ _ _).lane, Dev.hunts, Dev.lane_setLane_same]
  rfl

theorem blockLock_hunt_same {d : Dev} {t : Fin 9} {n : Fin 18} {run : List Nat} (hs : (d.lane t n).state = 3)
    (h : runValid (d.heard t n run) = true) : SameBut [.ln] d (blockLock t n run d) := by
  rw [blockLock_of_hunt hs h]
  exact .trans (Dev.setLane_same _ _ _ _) (Dev.sendTrain_same _ _ _)

theorem Lane.lockRun_control {l : Lane} {run plain : List Nat} (hk : runKind ctrlHeader run = true)
    (hc : l.confirm = true → idleOrTrain plain = true) : l.lockRun run plain = l.hunted := by
  unfold Lane.lockRun
  cases h : l.confirm
  · simp [hk]
  · simp [hk, hc h]

theorem Lane.lockRun_data {l : Lane} {run plain : List Nat} (hc : l.confirm = false) (hk : runKind dataHeader run = true)
    (hn : runKind ctrlHeader run = false) :
    l.lockRun run plain = { l with polInv := true, confirm := true, descram := 2 ^ 58 - 1 - l.descram } := by
  simp [Lane.lockRun, hc, hk, hn]

theorem Lane.lockRun_mixed {l : Lane} {run plain : List Nat} (hc : l.confirm = false) (hk : runKind dataHeader run = false)
    (hn : runKind ctrlHeader run = false) : l.lockRun run plain = l := by
  simp [Lane.lockRun, hc, hk, hn]

theorem Lane.lockRun_refuted {l : Lane} {run plain : List Nat} (hc : l.confirm = true)
    (h : runKind ctrlHeader run = false ∨ idleOrTrain plain = false) :
    l.lockRun run plain = { l with confirm := false, polInv := false } := by
  rcases h with h | h <;> simp [Lane.lockRun, hc, h]

/-- A run of 64 blocks has headers of one kind only. -/
theorem runKind_ctrl_of_data {run : List Nat} (hv : runValid run = true) (h : runKind dataHeader run = true) :
    runKind ctrlHeader run = false := by
  cases run with
  | nil => simp [runValid] at hv
  | cons b bs =>
    have hb : blockHeader b = dataHeader := by
      simp only [runKind, List.all_cons, Bool.and_eq_true, beq_iff_eq] at h
      exact h.1
    simp [runKind, hb, dataHeader, ctrlHeader]

/-! ### A lane exceeds its limit (R145) -/

theorem Dev.failLane_of_alone {d : Dev} {t n : Nat} (h : ∀ p, (d.lane t n).port = some p → n < 16 → (d.link p).state = 1 →
    d.spareReady p n = false) : ∃ x : Dev, (x = d.setLane t n (fun l => { l with state := 12, lock := false, cdr := false })) ∧
      (d.failLane t n = x ∨ ∃ p, d.failLane t n = x.trainingCheck p) := by
  refine ⟨_, rfl, ?_⟩
  unfold Dev.failLane
  dsimp only
  split
  · exact .inl rfl
  next p hp =>
    refine .inr ⟨p, if_neg ?_⟩
    rintro ⟨hn, hs, hr⟩
    have hready := h p hp hn hs
    have hspare := spareLane_ge n
    have hother : laneKey (portTile p) (spareLane n) ≠ laneKey t n := laneKey_ne hspare.2 (by omega) (by omega)
    rw [Dev.spareReady, Dev.lane_setLane_other _ _ hother] at hr
    exact absurd (hready.symm.trans hr) (by decide)

/-- The spare of lane `n`'s half has taken the place of a lane that exceeded its limit. -/
def Dev.spareSteps (d : Dev) (t n : Nat) : Dev :=
  ((d.setLane t n (fun l => { l with state := 12, lock := false, cdr := false })).setLane t n
    (fun x => { x with state := 10, retired := true, logical := 0x1F })).setLane t (spareLane n)
      (fun x => { x with state := 9, serves := n, logical := (d.lane t n).logical })

theorem Dev.spareSteps_same (d : Dev) (t n : Nat) : SameBut [.ln] d (d.spareSteps t n) :=
  .trans (.trans (Dev.setLane_same _ _ _ _) (Dev.setLane_same _ _ _ _)) (Dev.setLane_same _ _ _ _)

theorem Dev.spareSteps_lane (d : Dev) {t n : Nat} (hn : n < 18) (h : n < 16) : (d.spareSteps t n).lane t n =
    { d.lane t n with state := 10, lock := false, cdr := false, retired := true, logical := 0x1F } := by
  have hspare := spareLane_ge n
  rw [Dev.spareSteps, Dev.lane_setLane_other _ _ (laneKey_ne hn hspare.2 (by omega)), Dev.lane_setLane_same, Dev.lane_setLane_same]

theorem Dev.spareSteps_spare (d : Dev) (t n : Nat) : ((d.spareSteps t n).lane t (spareLane n)).state = 9 ∧
    ((d.spareSteps t n).lane t (spareLane n)).serves = n ∧
    ((d.spareSteps t n).lane t (spareLane n)).logical = (d.lane t n).logical := by
  rw [Dev.spareSteps, Dev.lane_setLane_same]
  exact ⟨rfl, rfl, rfl⟩

/-- A standby spare takes the place of a lane that exceeds its limit. -/
theorem Dev.failLane_of_spare {d : Dev} {t n p : Nat} (hp : (d.lane t n).port = some p) (hn : n < 16) (hs : (d.link p).state = 1)
    (hr : d.spareReady p n = true) :
    d.failLane t n = (d.spareSteps t n).corFault 5 (laneNumber t (spareLane n)) (laneNumber t n) := by
  have hspare := spareLane_ge n
  have hother : laneKey (portTile p) (spareLane n) ≠ laneKey t n := laneKey_ne hspare.2 (by omega) (by omega)
  have hready : (d.setLane t n (fun l => { l with state := 12, lock := false, cdr := false })).spareReady p n = true := by
    rw [Dev.spareReady, Dev.lane_setLane_other _ _ hother]
    exact hr
  unfold Dev.failLane
  dsimp only
  rw [hp]
  exact if_pos ⟨hn, hs, hready⟩

/-- Settles O26. -/
theorem laneTraining : Obligations.LaneTraining := by
  unfold Obligations.LaneTraining
  rintro s t n heads loads _ rfl
  refine ⟨fun ht hl hr => ⟨Gives.of_onDev rfl ?through, Gives.of_onDev rfl ?noSignal, Gives.of_onDev rfl ?noClock⟩,
    fun ht hs => Gives.of_onDev rfl ?signal, fun ht hs => Gives.of_onDev rfl ?clock,
    fun ht hv => Gives.of_onDev rfl ?invalid,
    fun ht hs hv => ⟨fun hc hk => Gives.of_onDev rfl ?control, fun hc hk => Gives.of_onDev rfl ?data,
      fun hc hn hk => Gives.of_onDev rfl ?mixed, fun hc hk hi => Gives.of_onDev rfl ?confirmed,
      fun hc h => Gives.of_onDev rfl ?refuted⟩,
    fun ht h4 h9 hv => Gives.of_onDev rfl ?again,
    fun hs => ⟨fun h => Gives.of_onDev rfl ?failed, fun p hp hn h1 hr => Gives.of_onDev rfl ?spare⟩⟩
  case through => rw [Dev.laneIn_of_bypass ht hl, if_neg hr]
  case noSignal => rw [Dev.laneIn_of_bypass ht hl, if_pos rfl]
  case noClock => rw [Dev.laneIn_of_bypass ht hl, if_pos rfl]
  case signal => rw [Dev.laneIn_of_die ht, signalDetect, if_pos hs]
  case clock =>
    have heq : cdrLock t n s.dev = (s.dev.setLane t n (fun l => { l with state := 3, cdr := true })).sendTrain t n := if_pos hs
    have hlane := (Dev.sendTrain_laneRest (s.dev.setLane t n (fun l => { l with state := 3, cdr := true })) t n).lane t n
    rw [Dev.lane_setLane_same] at hlane
    rw [Dev.laneIn_of_die ht, heq]
    exact ⟨(congrArg Lane.state hlane :), (congrArg Lane.cdr hlane :), rfl, .trans (Dev.setLane_same _ _ _ _) (Dev.sendTrain_same _ _ _)⟩
  case invalid => rw [Dev.laneIn_of_die ht, blockLock_of_invalid hv]
  case control =>
    have hlane := blockLock_lane hs hv
    rw [Lane.lockRun_control (l := s.dev.fed t n (lineBlocks heads loads)) hk (fun h => absurd (hc.symm.trans h) (by decide))] at hlane
    rw [Dev.laneIn_of_die ht]
    exact ⟨(congrArg Lane.lock hlane :), (congrArg Lane.state hlane :), (congrArg Lane.polInv hlane :), blockLock_hunt_same hs hv⟩
  case data =>
    have hlane := blockLock_lane hs hv
    rw [Lane.lockRun_data (l := s.dev.fed t n (lineBlocks heads loads)) hc hk (runKind_ctrl_of_data hv hk)] at hlane
    rw [Dev.laneIn_of_die ht]
    exact ⟨(congrArg Lane.polInv hlane :), (congrArg Lane.confirm hlane :), (congrArg Lane.state hlane :).trans hs,
      (congrArg Lane.lock hlane :), blockLock_hunt_same hs hv⟩
  case mixed =>
    have hlane := blockLock_lane hs hv
    rw [Lane.lockRun_mixed (l := s.dev.fed t n (lineBlocks heads loads)) hc hk hn] at hlane
    rw [Dev.laneIn_of_die ht]
    exact ⟨(congrArg Lane.state hlane :).trans hs, (congrArg Lane.lock hlane :), (congrArg Lane.polInv hlane :), blockLock_hunt_same hs hv⟩
  case confirmed =>
    have hlane := blockLock_lane hs hv
    rw [Lane.lockRun_control hk (fun _ => hi)] at hlane
    rw [Dev.laneIn_of_die ht]
    exact ⟨(congrArg Lane.lock hlane :), (congrArg Lane.confirm hlane :), (congrArg Lane.polInv hlane :), (congrArg Lane.state hlane :),
      blockLock_hunt_same hs hv⟩
  case refuted =>
    have hlane := blockLock_lane hs hv
    rw [Lane.lockRun_refuted (l := s.dev.fed t n (lineBlocks heads loads)) hc h] at hlane
    rw [Dev.laneIn_of_die ht]
    exact ⟨(congrArg Lane.polInv hlane :), (congrArg Lane.confirm hlane :), (congrArg Lane.state hlane :).trans hs,
      (congrArg Lane.lock hlane :), blockLock_hunt_same hs hv⟩
  case again =>
    have heq : blockLock t n (lineBlocks heads loads) s.dev = (s.dev.setLane t n
        (fun l => { l with lock := true, descram := (s.dev.fed t n (lineBlocks heads loads)).descram })).sendBack t n (lineBlocks heads loads) := by
      rw [blockLock, if_neg (by simp [hv]), if_neg (by omega), if_pos (.inl ⟨h4, h9⟩)]
      rfl
    rw [Dev.laneIn_of_die ht, heq, Dev.lane_of_same (Dev.sendBack_same _ _ _ _), Dev.lane_setLane_same]
    exact ⟨rfl, rfl, .then (.mono (Dev.setLane_same _ _ _ _) (by decide)) (Dev.sendBack_same _ _ _ _)⟩
  case failed =>
    have heq : trainingTimeout t n s.dev = s.dev.failLane t n := if_pos hs
    obtain ⟨x, hx, hfail⟩ := Dev.failLane_of_alone h
    have hlane : (s.dev.failLane t n).lane t n = { s.dev.lane t n with state := 12, lock := false, cdr := false } := by
      rcases hfail with hfail | ⟨p, hfail⟩
      · rw [hfail, hx, Dev.lane_setLane_same]
      · rw [hfail, (Dev.trainingCheck_lanes _ _).laneAt, hx, Dev.lane_setLane_same]
    have hsame : SameBut (.ln :: .jobs :: recordBlocks) s.dev (s.dev.failLane t n) := by
      have hset : SameBut [.ln] s.dev x := hx ▸ Dev.setLane_same _ _ _ _
      rcases hfail with hfail | ⟨p, hfail⟩
      · rw [hfail]
        exact .mono hset (by decide)
      · rw [hfail]
        exact .then (.mono hset (by decide)) (Dev.trainingCheck_same _ _)
    rw [heq, hlane]
    exact ⟨rfl, rfl, rfl, hsame⟩
  case spare =>
    have heq : trainingTimeout t n s.dev = s.dev.failLane t n := if_pos hs
    have hcor := Dev.corFault_same (s.dev.spareSteps t n) 5 (laneNumber t (spareLane n)) (laneNumber t n) 1
    have hlane := Dev.spareSteps_lane s.dev (t := t) n.isLt hn
    obtain ⟨hstate, hserves, hlogical⟩ := Dev.spareSteps_spare s.dev t n
    rw [heq, Dev.failLane_of_spare hp hn h1 hr, Dev.lane_of_same hcor, Dev.lane_of_same hcor, Dev.link_of_same hcor, hlane]
    exact ⟨rfl, rfl, hstate, hserves, hlogical, h1, by simp [Dev.corFault_sets, bitAt_setBit_same],
      .then (.mono (Dev.spareSteps_same _ _ _) (by decide)) hcor⟩

end Sys2Proof.Machine

/-! PROOF. Windows of the figure of merit, and coefficient requests (R132, R135 to R144). -/

namespace Sys2Proof.Machine

-- One theorem at a time, as in the tests: many at once would ask for more threads than the sandbox gives.
set_option Elab.async false

/-! ### FOM windows (R138 to R141) -/

/-- A lane with the headers and the checked bits of a window counted. -/
def Lane.counted (l : Lane) (w : WindowCount) : Lane := (l.badHeaders w.bad).checked w.bits w.errs

/-- What counting leaves of a lane. -/
theorem Lane.counted_eq (l : Lane) (w : WindowCount) : ∃ b e, l.counted w =
    { l with hdrErr := satAdd 32 l.hdrErr w.bad, sawBad := l.sawBad || decide (0 < w.bad), prbsBits := b, prbsErr := e } := by
  unfold Lane.counted Lane.checked
  split
  · exact ⟨_, _, rfl⟩
  · exact ⟨l.prbsBits, l.prbsErr, rfl⟩

/-- The FOM is below the floor, or a header was invalid in lock. -/
def Lane.sick (l : Lane) (fom : Nat) : Bool := decide (fom < l.floor) || l.sawBad

/-- A lane after the FOM window that gave `fom`. -/
def Lane.windowed (l : Lane) (fom : Nat) (sick : Bool) : Lane :=
  ({ l with fom := fom, sawBad := false, health := if sick then satAdd 16 l.health 1 else l.health } : Lane).adapt fom

/-- The device after counting a window's headers and bits. -/
def Dev.countedWindow (d : Dev) (t n : Nat) (w : WindowCount) : Dev := d.setLane t n (fun l => l.counted w)

theorem Dev.countedWindow_lane (d : Dev) (t n : Nat) (w : WindowCount) :
    (d.countedWindow t n w).lane t n = (d.lane t n).counted w := Dev.lane_setLane_same _ _ _ _

theorem fomWindowEnd_of_frozen {d : Dev} {t : Fin 9} {n : Fin 18} {w : WindowCount} (hm : d.mode.base ≠ .m0)
    (hf : (d.lane t n).frozen = true) (eye spacing : Nat) :
    fomWindowEnd t n eye spacing w.bad w.bits w.errs d = d.countedWindow t n w := by
  have hfrozen : ((d.countedWindow t n w).lane t n).frozen = true := by
    obtain ⟨b, e, heq⟩ := (d.lane t n).counted_eq w
    rw [Dev.countedWindow_lane, heq]
    exact hf
  rw [fomWindowEnd, if_neg hm]
  exact if_pos (.inr hfrozen)

/-- A window measures: the lane takes its FOM, and an unhealthy one counts HEALTH. -/
def Dev.windowed (d : Dev) (t n : Nat) (w : WindowCount) (fom : Nat) : Dev :=
  let d1 := (d.countedWindow t n w).setLane t n (fun l => l.windowed fom (((d.lane t n).counted w).sick fom))
  if ((d.lane t n).counted w).sick fom then d1.laneHealth t n else d1

theorem fomWindowEnd_of_measured {d : Dev} {t : Fin 9} {n : Fin 18} {w : WindowCount} (hm : d.mode.base ≠ .m0)
    (hf : (d.lane t n).frozen = false)
    (hs : (d.lane t n).hEq.on = true ∨ (4 ≤ (d.lane t n).state ∧ (d.lane t n).state ≤ 9 ∧ (d.lane t n).state ≠ 8)) (eye spacing : Nat) :
    fomWindowEnd t n eye spacing w.bad w.bits w.errs d =
      if (d.lane t n).hEq.on then
        ((d.windowed t n w (fomOf eye spacing)).setLane t n (fun l => { l with hEq := l.hEq.measured (fomOf eye spacing) })).askPreset t n
      else (d.windowed t n w (fomOf eye spacing)).endFfe t n := by
  obtain ⟨b, e, heq⟩ := (d.lane t n).counted_eq w
  have hlane := (d.countedWindow_lane t n w).trans heq
  have hfrozen : ((d.countedWindow t n w).lane t n).frozen = false := (congrArg Lane.frozen hlane :).trans hf
  have hstate : ((d.countedWindow t n w).lane t n).state = (d.lane t n).state := (congrArg Lane.state hlane :)
  have hon : ((d.countedWindow t n w).lane t n).hEq = (d.lane t n).hEq := (congrArg Lane.hEq hlane :)
  have hgoes : ¬ (((d.countedWindow t n w).hLane t n || ((d.countedWindow t n w).lane t n).hEq.on) = false ∧
      (((d.countedWindow t n w).lane t n).state < 4 ∨ 9 < ((d.countedWindow t n w).lane t n).state) ∧
      ((d.countedWindow t n w).lane t n).state ≠ 11 ∨ ((d.countedWindow t n w).lane t n).frozen = true) := by
    rw [hfrozen, hstate, hon]
    rintro (⟨hh, hout, -⟩ | h)
    · rcases hs with hs | ⟨h4, h9, -⟩
      · simp [hs] at hh
      · omega
    · cases h
  rw [fomWindowEnd, if_neg hm]
  refine (if_neg hgoes).trans ?_
  rw [Dev.windowed, ← Dev.countedWindow_lane, ← hon]
  by_cases h : ((d.countedWindow t n w).lane t n).hEq.on = true
  · exact (if_pos h).trans (if_pos h).symm
  · have h8 : ((d.countedWindow t n w).lane t n).state ≠ 8 := by
      rw [hstate]
      rw [hon] at h
      exact (hs.resolve_left h).2.2
    exact ((if_neg h).trans (if_neg (fun hh => h8 hh.1))).trans (if_neg h).symm

/-- What a window does to the lane; its HEALTH work touches no lane. -/
theorem Dev.windowed_lane (d : Dev) (t n : Nat) (w : WindowCount) (fom : Nat) :
    (d.windowed t n w fom).lane t n = ((d.lane t n).counted w).windowed fom (((d.lane t n).counted w).sick fom) := by
  unfold Dev.windowed
  dsimp only
  split
  · rw [Dev.lane_of_same (Dev.laneHealth_same _ _ _), Dev.lane_setLane_same, Dev.countedWindow_lane]
  · rw [Dev.lane_setLane_same, Dev.countedWindow_lane]

theorem Dev.windowed_same (d : Dev) (t n : Nat) (w : WindowCount) (fom : Nat) :
    SameBut (.ln :: .jobs :: .cont :: recordBlocks) d (d.windowed t n w fom) := by
  unfold Dev.windowed Dev.countedWindow
  exact .ite (.then (.trans (.mono (Dev.setLane_same _ _ _ _) (by decide)) (.mono (Dev.setLane_same _ _ _ _) (by decide)))
    (Dev.laneHealth_same _ _ _)) (.trans (.mono (Dev.setLane_same _ _ _ _) (by decide)) (.mono (Dev.setLane_same _ _ _ _) (by decide)))

theorem Dev.windowed_same_of_well {d : Dev} {t n : Nat} {w : WindowCount} {fom : Nat}
    (h : ((d.lane t n).counted w).sick fom = false) : SameBut [.ln] d (d.windowed t n w fom) := by
  unfold Dev.windowed Dev.countedWindow
  dsimp only
  rw [h, if_neg (by decide)]
  exact .trans (Dev.setLane_same _ _ _ _) (Dev.setLane_same _ _ _ _)

/-- Beyond its search a lane only sends, and in service it does not even that. -/
theorem Dev.endFfe_of_other {d : Dev} {t n : Nat} (h : (d.lane t n).state ≠ 5) : d.endFfe t n = d.sendTrain t n :=
  if_neg (fun hh => h hh.1)

theorem Dev.sendTrain_of_ready {d : Dev} {t n : Nat} (h : (d.lane t n).state = 7) : d.sendTrain t n = d :=
  if_neg (by simp [h])

/-- In service a window changes no search. -/
theorem Lane.windowed_of_ready {l : Lane} (h : l.state = 7) (fom : Nat) (sick : Bool) : l.windowed fom sick =
    { l with fom := fom, sawBad := false, health := if sick then satAdd 16 l.health 1 else l.health } := by
  unfold Lane.windowed Lane.adapt
  rw [if_neg (by simp [h]), if_neg (by simp [h])]

/-- The better of the CTLE setting found and the present one. -/
def Lane.ctleBetter (l : Lane) (fom : Nat) : Nat × Nat :=
  match l.ctleBest with
  | some b => if b.1 < fom then (fom, l.ctle) else b
  | none => (fom, l.ctle)

/-- A window of CTLE keeps the better setting and moves on. -/
theorem Lane.windowed_of_ctle {l : Lane} (h : l.state = 4) (hc : l.ctle < 15) (fom : Nat) (sick : Bool) : l.windowed fom sick =
    { l with fom := fom, sawBad := false, health := if sick then satAdd 16 l.health 1 else l.health,
             ctle := l.ctle + 1, ctleBest := some (l.ctleBetter fom) } := by
  unfold Lane.windowed Lane.adapt
  rw [if_pos (by exact h)]
  exact if_neg (by exact Nat.ne_of_lt hc)

theorem Lane.ask_keeps (l : Lane) (back : Bool) : (l.ask back).hEq = l.hEq ∧ (l.ask back).pre = l.pre ∧ (l.ask back).fom = l.fom := by
  unfold Lane.ask
  dsimp only
  split <;> exact ⟨rfl, rfl, rfl⟩

theorem Lane.tryNext_keeps (l : Lane) : l.tryNext.hEq = l.hEq ∧ l.tryNext.pre = l.pre ∧ l.tryNext.fom = l.fom := by
  unfold Lane.tryNext
  split
  · exact ⟨rfl, rfl, rfl⟩
  · split
    · exact Lane.ask_keeps _ _
    · split
      · exact Lane.ask_keeps _ _
      · exact ⟨rfl, rfl, rfl⟩

theorem Lane.adapt_keeps (l : Lane) (fom : Nat) :
    (l.adapt fom).hEq = l.hEq ∧ (l.adapt fom).pre = l.pre ∧ (l.adapt fom).fom = l.fom := by
  unfold Lane.adapt
  split
  · dsimp only
    split <;> exact ⟨rfl, rfl, rfl⟩
  · split
    · split
      · exact Lane.tryNext_keeps _
      · split
        · exact Lane.ask_keeps _ _
        · exact Lane.tryNext_keeps _
      · exact ⟨rfl, rfl, rfl⟩
    · exact ⟨rfl, rfl, rfl⟩

theorem Lane.counted_sick {l : Lane} {w : WindowCount} (fom : Nat) :
    (l.counted w).sick fom = (decide (fom < l.floor) || (l.sawBad || decide (0 < w.bad))) := by
  obtain ⟨b, e, heq⟩ := l.counted_eq w
  rw [heq, Lane.sick]

/-- Settles O27. -/
theorem fomWindows : Obligations.FomWindows := by
  unfold Obligations.FomWindows
  refine fun s t n eye spacing bad bits errs _ hm => ⟨fun hf => Gives.of_onDev rfl ?frozen,
    fun hf hs hb hfl hon => Gives.of_onDev rfl ?well, fun hf hs hbad => Gives.of_onDev rfl ?sick,
    fun hf hs hc hb hfl hon => Gives.of_onDev rfl ?ctle, fun hf hon => Gives.of_onDev rfl ?search⟩
  case frozen =>
    obtain ⟨b, e, heq⟩ := (s.dev.lane t n).counted_eq ⟨bad, bits, errs⟩
    rw [fomWindowEnd_of_frozen hm hf, Dev.countedWindow_lane, heq]
    exact ⟨rfl, rfl, rfl, Dev.setLane_same _ _ _ _⟩
  case well =>
    obtain ⟨b, e, heq⟩ := (s.dev.lane t n).counted_eq ⟨0, bits, errs⟩
    have hsick : ((s.dev.lane t n).counted ⟨0, bits, errs⟩).sick (fomOf eye spacing) = false := by
      simp [Lane.counted_sick, hb, hfl]
    have hlane := (s.dev.windowed_lane t n ⟨0, bits, errs⟩ (fomOf eye spacing)).trans (Lane.windowed_of_ready (by rw [heq]; exact hs) _ _)
    rw [heq] at hlane hsick
    rw [hsick] at hlane
    have hstate : ((s.dev.windowed t n ⟨0, bits, errs⟩ (fomOf eye spacing)).lane t n).state = 7 := (congrArg Lane.state hlane :).trans hs
    have hend : fomWindowEnd t n eye spacing 0 bits errs s.dev = s.dev.windowed t n ⟨0, bits, errs⟩ (fomOf eye spacing) := by
      rw [fomWindowEnd_of_measured (w := ⟨0, bits, errs⟩) hm hf (.inr ⟨by omega, by omega, by omega⟩), if_neg (by simp [hon]),
        Dev.endFfe_of_other (by omega), Dev.sendTrain_of_ready hstate]
    rw [hend, hlane]
    exact ⟨rfl, rfl, rfl, rfl, rfl, hs, Dev.windowed_same_of_well (by rw [heq]; exact hsick)⟩
  case sick =>
    obtain ⟨b, e, heq⟩ := (s.dev.lane t n).counted_eq ⟨bad, bits, errs⟩
    have hsick : ((s.dev.lane t n).counted ⟨bad, bits, errs⟩).sick (fomOf eye spacing) = true := by
      rw [Lane.counted_sick]
      rcases hbad with h | h | h <;> simp [h]
    have hlane := (s.dev.windowed_lane t n ⟨bad, bits, errs⟩ (fomOf eye spacing)).trans (Lane.windowed_of_ready (by rw [heq]; exact hs) _ _)
    rw [heq] at hlane hsick
    rw [hsick] at hlane
    have hstate : ((s.dev.windowed t n ⟨bad, bits, errs⟩ (fomOf eye spacing)).lane t n).state = 7 := (congrArg Lane.state hlane :).trans hs
    have hsame := s.dev.windowed_same t n ⟨bad, bits, errs⟩ (fomOf eye spacing)
    rw [fomWindowEnd_of_measured (w := ⟨bad, bits, errs⟩) hm hf (.inr ⟨by omega, by omega, by omega⟩)]
    split
    · rw [Dev.lane_of_same (Dev.askPreset_same _ _ _), Dev.lane_setLane_same, hlane]
      exact ⟨rfl, rfl, rfl, rfl, .then (.then hsame (Dev.setLane_same _ _ _ _)) (Dev.askPreset_same _ _ _)⟩
    · rw [Dev.endFfe_of_other (by omega), Dev.sendTrain_of_ready hstate, hlane]
      exact ⟨rfl, rfl, rfl, rfl, hsame⟩
  case ctle =>
    obtain ⟨b, e, heq⟩ := (s.dev.lane t n).counted_eq ⟨0, bits, errs⟩
    have hsick : ((s.dev.lane t n).counted ⟨0, bits, errs⟩).sick (fomOf eye spacing) = false := by
      simp [Lane.counted_sick, hb, hfl]
    have hlane := (s.dev.windowed_lane t n ⟨0, bits, errs⟩ (fomOf eye spacing)).trans
      (Lane.windowed_of_ctle (by rw [heq]; exact hs) (by rw [heq]; exact hc) _ _)
    have hstate : ((s.dev.windowed t n ⟨0, bits, errs⟩ (fomOf eye spacing)).lane t n).state = 4 := by
      rw [hlane, heq]
      exact hs
    have hend : fomWindowEnd t n eye spacing 0 bits errs s.dev = (s.dev.windowed t n ⟨0, bits, errs⟩ (fomOf eye spacing)).sendTrain t n := by
      rw [fomWindowEnd_of_measured (w := ⟨0, bits, errs⟩) hm hf (.inr ⟨by omega, by omega, by omega⟩), if_neg (by simp [hon]),
        Dev.endFfe_of_other (by omega)]
    have hrest := (Dev.sendTrain_laneRest (s.dev.windowed t n ⟨0, bits, errs⟩ (fomOf eye spacing)) t n).lane t n
    rw [hlane, heq] at hrest
    rw [hend]
    refine ⟨(congrArg Lane.ctle hrest :), (congrArg Lane.state hrest :).trans hs, .trans (Dev.windowed_same_of_well hsick) (Dev.sendTrain_same _ _ _),
      fun best hbest => ?_⟩
    refine (congrArg Lane.ctleBest hrest :).trans ?_
    simp only [Lane.ctleBetter, hbest]
    split <;> rfl
  case search =>
    obtain ⟨b, e, heq⟩ := (s.dev.lane t n).counted_eq ⟨bad, bits, errs⟩
    have hlane := s.dev.windowed_lane t n ⟨bad, bits, errs⟩ (fomOf eye spacing)
    rw [heq] at hlane
    have hkeeps (l : Lane) (x : Nat) (b : Bool) : (l.windowed x b).hEq = l.hEq ∧ (l.windowed x b).pre = l.pre ∧ (l.windowed x b).fom = x :=
      Lane.adapt_keeps _ _
    rw [fomWindowEnd_of_measured (w := ⟨bad, bits, errs⟩) hm hf (.inl hon), if_pos hon, Dev.lane_of_same (Dev.askPreset_same _ _ _),
      Dev.lane_setLane_same, hlane]
    dsimp only
    rw [(hkeeps _ _ _).1, (hkeeps _ _ _).2.1, (hkeeps _ _ _).2.2]
    exact ⟨rfl, rfl, rfl, .then (.then (s.dev.windowed_same t n ⟨bad, bits, errs⟩ (fomOf eye spacing)) (Dev.setLane_same _ _ _ _)) (Dev.askPreset_same _ _ _)⟩

end Sys2Proof.Machine

/-! PROOF. Coefficient requests in TRAIN blocks, and training sets of H lanes (R135, R136, R142, R144). -/

namespace Sys2Proof.Machine

-- One theorem at a time, as in the tests: many at once would ask for more threads than the sandbox gives.
set_option Elab.async false

/-! ### What SPARE_OK leaves of a lane (R147) -/

/-- Whether a lane is in FFE, and its transmitter's set with its answer. -/
def Lane.txSet (l : Lane) : Bool × Nat × Nat × Nat × Nat := (l.state == 5, l.pre, l.main, l.post, l.coefAck)

/-- The sets of every lane. -/
def Dev.sets (d : Dev) : Nat → Bool × Nat × Nat × Nat × Nat := fun k => (d.ln.lane.rd k).txSet

theorem Dev.setLane_sets {d : Dev} {t n : Nat} {f : Lane → Lane}
    (h : (f (d.lane t n)).txSet = (d.lane t n).txSet) :
    Keeps Dev.sets d (d.setLane t n f) := by
  funext k
  by_cases hk : k = laneKey t n
  · subst hk
    exact (congrArg Lane.txSet (Dev.lane_setLane_same d t n f)).trans h
  · simp [Dev.sets, Dev.setLane, Tab.rd_upd_other _ _ _ _ hk]

theorem Dev.takeSpareOk_sets (d : Dev) (p ok : Nat) : Keeps Dev.sets d (d.takeSpareOk p ok) := by
  unfold Dev.takeSpareOk
  refine .foldl _ (fun e s => ?_) _ _
  dsimp only
  split
  next h =>
    have h8 : ((e.lane (portTile p) s).state == 8) = true := (Bool.and_eq_true_iff.1 h).2
    have h5 : ((e.lane (portTile p) s).state == 5) = false := by
      rw [beq_iff_eq] at h8
      simp [h8]
    refine .trans (.of_eq rfl) (Dev.setLane_sets (d := { e with ln.tile := _ }) ?_)
    exact congrArg (fun b => (b, (e.lane (portTile p) s).pre, (e.lane (portTile p) s).main, (e.lane (portTile p) s).post,
      (e.lane (portTile p) s).coefAck)) h5.symm
  · exact .of_eq rfl

theorem Dev.sendTrain_sets (d : Dev) (t n : Nat) : Keeps Dev.sets d (d.sendTrain t n) := by
  funext k
  have h := congrFun (Dev.sendTrain_laneRest d t n) k
  exact (congrArg Lane.txSet h :)

/-! ### Requests on a Sherix lane (R135, R142) -/

/-- The lane has answered the request of a TRAIN block. -/
def Dev.answers (d : Dev) (t n : Nat) (b : TrainBlk) : Dev :=
  d.setLane t n (fun l => { ((l.serveRequest b.preReq b.postReq).takeAck b.ack) with far := b, rxLogical := b.logical })

/-- The device has taken a TRAIN block, and its SPARE_OK. -/
def Dev.heardTrain (d : Dev) (t n : Nat) (b : TrainBlk) : Dev :=
  match (d.lane t n).port with
  | some p => (d.answers t n b).takeSpareOk p b.spareOk
  | none => d.answers t n b

theorem train_of_none {d : Dev} {t : Fin 9} {n : Fin 18} {b : TrainBlk} (hb : b.eq = none) (h3 : 3 ≤ (d.lane t n).state)
    (h6 : (d.lane t n).state ≤ 6) : train t n b d = (d.heardTrain t n b).endFfe t n := by
  unfold train
  dsimp only
  rw [hb]
  exact if_neg (by omega)

theorem Dev.heardTrain_sets (d : Dev) (t n : Nat) (b : TrainBlk) : Keeps Dev.sets (d.answers t n b) (d.heardTrain t n b) := by
  unfold Dev.heardTrain
  split
  · exact Dev.takeSpareOk_sets _ _ _
  · exact .refl _ _

theorem Dev.heardTrain_same (d : Dev) (t n : Nat) (b : TrainBlk) : SameBut [.ln] d (d.heardTrain t n b) := by
  unfold Dev.heardTrain Dev.answers
  split
  · exact .trans (Dev.setLane_same _ _ _ _) (Dev.takeSpareOk_same _ _ _)
  · exact Dev.setLane_same _ _ _ _

/-- A lane whose transmitter has taken a set. -/
def Lane.withSet (l : Lane) (pre post : Nat) : Lane := { l with pre := pre, post := post, main := 48 - pre - post, coefAck := 0 }

theorem Lane.takeAck_of_other {l : Lane} (h : l.state ≠ 5) (ack : Nat) : l.takeAck ack = l := if_pos h

theorem Lane.serveRequest_state (l : Lane) (pre post : Nat) : (l.serveRequest pre post).state = l.state := by
  simp only [Lane.serveRequest, apply_ite Lane.state, ite_self]

/-- What a request leaves of the set of a lane that does not search, and of the device. -/
theorem train_spec {d : Dev} {t : Fin 9} {n : Fin 18} {b : TrainBlk} (hb : b.eq = none)
    (hs : (d.lane t n).state = 3 ∨ (d.lane t n).state = 4 ∨ (d.lane t n).state = 6) {l : Lane}
    (hl : (d.lane t n).serveRequest b.preReq b.postReq = l) :
    ((train t n b d).lane t n).pre = l.pre ∧ ((train t n b d).lane t n).main = l.main ∧ ((train t n b d).lane t n).post = l.post ∧
      ((train t n b d).lane t n).coefAck = l.coefAck ∧ SameBut [.ln] d (train t n b d) := by
  have h5 : (d.lane t n).state ≠ 5 := by omega
  have hstate : l.state ≠ 5 := by
    rw [← hl, Lane.serveRequest_state]
    exact h5
  have hlane : (d.answers t n b).lane t n = { l with far := b, rxLogical := b.logical } := by
    rw [Dev.answers, Dev.lane_setLane_same, hl, Lane.takeAck_of_other hstate]
  have hkept := congrFun (Dev.heardTrain_sets d t n b) (laneKey t n)
  have hset : Dev.sets (d.answers t n b) (laneKey t n) = l.txSet :=
    (congrArg Lane.txSet hlane :)
  have hother : ((d.heardTrain t n b).lane t n).state ≠ 5 := by
    have h : (((d.heardTrain t n b).lane t n).state == 5) = (l.state == 5) := (congrArg Prod.fst (hkept.trans hset) :)
    have hfalse : (l.state == 5) = false := by simpa using hstate
    simpa using h.trans hfalse
  have hall := (congrFun (Dev.sendTrain_sets (d.heardTrain t n b) t n) (laneKey t n)).trans (hkept.trans hset)
  obtain ⟨-, hrest⟩ := Prod.mk.inj hall
  obtain ⟨hpre, hrest⟩ := Prod.mk.inj hrest
  obtain ⟨hmain, hrest⟩ := Prod.mk.inj hrest
  obtain ⟨hpost, hack⟩ := Prod.mk.inj hrest
  rw [train_of_none hb (by omega) (by omega), Dev.endFfe_of_other hother]
  exact ⟨hpre, hmain, hpost, hack, .trans (Dev.heardTrain_same _ _ _ _) (Dev.sendTrain_same _ _ _)⟩

/-! ### Training sets of H lanes (R144) -/

/-- A port in Recovery.Equalization shows the phase of the set that arrived. -/
def Dev.equalising (d : Dev) (p phase : Nat) : Dev :=
  if (d.pport p).mayTrain then d.setPport p (fun s => { s with ltssm := 0x10 + phase % 4 }) else d

theorem Dev.equalising_same (d : Dev) (p phase : Nat) : SameBut [.pcie] d (d.equalising p phase) :=
  .ite (Dev.setPport_same _ _ _) (.refl _ _)

theorem Dev.equalising_out (d : Dev) (p phase : Nat) : (d.equalising p phase).out = d.out := by
  unfold Dev.equalising
  split <;> rfl

theorem Dev.evalPhase_of_same {bs : List Block} {d e : Dev} (h : SameBut bs d e) (p : Nat) (hb : .run ∉ bs := by decide) :
    e.evalPhase p = d.evalPhase p := by
  rw [Dev.evalPhase, Dev.upstreamOf, h.run hb, Dev.evalPhase, Dev.upstreamOf]

theorem Dev.cutPort_of_same {bs : List Block} {d e : Dev} (h : SameBut bs d e) (t n : Nat) (hb : .run ∉ bs := by decide) :
    e.cutPort t n = d.cutPort t n := by
  unfold Dev.cutPort Dev.cutWidth
  rw [h.run hb]

theorem Dev.shown_congr {d e : Dev} (hm : e.mode = d.mode) (ho : e.out = d.out) (os : List Out) : e.shown os = d.shown os := by
  rw [Dev.shown, hm, ho, Dev.shown]

theorem train_of_eq {d : Dev} {t : Fin 9} {n : Fin 18} {b : TrainBlk} {q : EqTs} {p : Nat} (hb : b.eq = some q)
    (hp : d.cutPort t n = some p) (hh : d.isH p = true) (hn : n.val < 16) : train t n b d = d.takeEq t n p q := by
  unfold train
  dsimp only
  rw [hb, hp]
  exact if_pos (by simp [hh, hn])

/-- A lane whose transmitter answers a request of the partner's training set. -/
def Lane.asked (l : Lane) (q : EqTs) : Lane :=
  let l1 := if q.phase = 0 then { l with hEq := {} } else l
  match q.coefs with
  | some (a, b) => { l1 with pre := a, post := b, main := 48 - a - b }
  | none => l1

/-- In the partner's phase a request is answered with the set that is then in force. -/
theorem Dev.takeEq_of_request {d : Dev} {t n p : Nat} {q : EqTs} (hph : q.phase ≠ d.evalPhase p) (h1 : q.phase ≠ 1) :
    d.takeEq t n p q = ((d.equalising p q.phase).setLane t n (fun l => l.asked q)).emit
      (.eqTs (laneKey t n) { phase := q.phase, usePreset := q.usePreset, preset := q.preset,
                             pre := ((d.lane t n).asked q).pre, main := ((d.lane t n).asked q).main,
                             post := ((d.lane t n).asked q).post, reject := q.coefs.isNone, fs := 48, lf := 12 }) := by
  have hlane : ((d.equalising p q.phase).setLane t n (fun l => l.asked q)).lane t n = (d.lane t n).asked q := by
    rw [Dev.lane_setLane_same, Dev.lane_of_same (Dev.equalising_same _ _ _)]
  have hphase : q.phase ≠ (d.equalising p q.phase).evalPhase p := by
    rw [Dev.evalPhase_of_same (Dev.equalising_same _ _ _)]
    exact hph
  rw [← hlane]
  exact (if_neg hphase).trans (if_neg h1)

/-- What the answer to a request leaves. -/
theorem Dev.takeEq_request_spec {d : Dev} {t n p : Nat} {q : EqTs} (hph : q.phase ≠ d.evalPhase p) (h1 : q.phase ≠ 1) :
    (d.takeEq t n p q).lane t n = (d.lane t n).asked q ∧ (d.takeEq t n p q).out = d.shown [.eqTs (laneKey t n)
      { phase := q.phase, usePreset := q.usePreset, preset := q.preset, pre := ((d.lane t n).asked q).pre,
        main := ((d.lane t n).asked q).main, post := ((d.lane t n).asked q).post, reject := q.coefs.isNone, fs := 48, lf := 12 }] := by
  rw [Dev.takeEq_of_request hph h1]
  constructor
  · rw [Dev.lane_of_same (Dev.emit_same _ _), Dev.lane_setLane_same, Dev.lane_of_same (Dev.equalising_same _ _ _)]
  · exact Dev.shown_congr (Dev.equalising_same d p q.phase).mode (Dev.equalising_out _ _ _) _

/-- In the phase that this end evaluates the search begins with preset 0. -/
theorem Dev.takeEq_of_search {d : Dev} {t n p : Nat} {q : EqTs} (hph : q.phase = d.evalPhase p)
    (hon : (d.lane t n).hEq.on = false) (hk : (d.lane t n).hEq.kept = none) :
    d.takeEq t n p q = ((d.equalising p q.phase).setLane t n (fun l => { l with hEq := { on := true } })).askPreset t n := by
  have hlane : (d.equalising p q.phase).lane t n = d.lane t n := Dev.lane_of_same (Dev.equalising_same _ _ _) _ _
  have hphase : q.phase = (d.equalising p q.phase).evalPhase p := by
    rw [Dev.evalPhase_of_same (Dev.equalising_same _ _ _)]
    exact hph
  have hoff : (!((d.equalising p q.phase).lane t n).hEq.on) = true := by rw [hlane, hon]; rfl
  have hnone : ¬ ((d.equalising p q.phase).lane t n).hEq.kept.isSome = true := by rw [hlane, hk]; decide
  exact (if_pos hphase).trans ((if_pos hoff).trans (if_neg hnone))

/-- Settles O28. -/
theorem trainRequests : Obligations.TrainRequests := by
  unfold Obligations.TrainRequests
  refine fun s t n b ht => ⟨fun hb hs hpre hpost => ⟨fun hx hq1 hq2 hlt hle => Gives.of_onDev rfl ?up, fun hx hq1 hq2 hlt hle => Gives.of_onDev rfl ?down,
    fun h => Gives.of_onDev rfl ?refused⟩, fun q hq p hp hh hn => ⟨fun hph h1 c hc => Gives.of_onDev rfl ?applied,
      fun hph h1 hc => Gives.of_onDev rfl ?rejected, fun hph hon hk => Gives.of_onDev rfl ?search⟩⟩
  all_goals rw [Dev.laneIn_of_die ht]
  case up =>
    have hserve : (s.dev.lane t n).serveRequest b.preReq b.postReq = (s.dev.lane t n).withSet (s.dev.lane t n).pre ((s.dev.lane t n).post + 1) := by
      unfold Lane.serveRequest Lane.withSet
      simp [hq1, hq2, hx]
      omega
    obtain ⟨h1, h2, h3, h4, hsame⟩ := train_spec hb hs hserve
    exact ⟨h3, h1, by rw [h1, h2, h3]; dsimp only [Lane.withSet]; omega, h4, hsame⟩
  case down =>
    have hserve : (s.dev.lane t n).serveRequest b.preReq b.postReq = (s.dev.lane t n).withSet ((s.dev.lane t n).pre - 1) (s.dev.lane t n).post := by
      unfold Lane.serveRequest Lane.withSet
      simp [hq1, hq2, hx]
      omega
    obtain ⟨h1, h2, h3, h4, hsame⟩ := train_spec hb hs hserve
    exact ⟨by rw [h1]; dsimp only [Lane.withSet]; omega, h3, by rw [h1, h2, h3]; dsimp only [Lane.withSet]; omega, h4, hsame⟩
  case refused =>
    have hserve : (s.dev.lane t n).serveRequest b.preReq b.postReq = { s.dev.lane t n with coefAck := 1 } := by
      unfold Lane.serveRequest
      rcases h with ⟨hq1, hq2, h⟩ | ⟨hq1, hq2, h⟩ <;> simp [hq1, hq2] <;> grind
    obtain ⟨h1, h2, h3, h4, hsame⟩ := train_spec hb hs hserve
    exact ⟨h3, h1, h2, h4, hsame⟩
  case applied =>
    have hasked : (s.dev.lane t n).asked q = { (if q.phase = 0 then { s.dev.lane t n with hEq := {} } else s.dev.lane t n) with
        pre := c.1, post := c.2, main := 48 - c.1 - c.2 } := by
      simp only [Lane.asked, hc]
    obtain ⟨hlane, hout⟩ := Dev.takeEq_request_spec (t := t) (n := n) hph h1
    rw [train_of_eq hq hp hh hn, hlane, hout, hasked, hc]
    exact ⟨rfl, rfl, rfl, rfl, .mono (Dev.takeEq_same _ _ _ _ _) (by decide)⟩
  case rejected =>
    have hasked : ((s.dev.lane t n).asked q).pre = (s.dev.lane t n).pre ∧ ((s.dev.lane t n).asked q).post = (s.dev.lane t n).post ∧
        ((s.dev.lane t n).asked q).main = (s.dev.lane t n).main := by
      simp only [Lane.asked, hc]
      split <;> exact ⟨rfl, rfl, rfl⟩
    obtain ⟨hpre, hpost, hmain⟩ := hasked
    obtain ⟨hlane, hout⟩ := Dev.takeEq_request_spec (t := t) (n := n) hph h1
    rw [train_of_eq hq hp hh hn, hlane, hout, hpre, hpost, hmain, hc]
    exact ⟨rfl, rfl, rfl, rfl, .mono (Dev.takeEq_same _ _ _ _ _) (by decide)⟩
  case search =>
    have hset : SameBut [.ln, .pcie] s.dev ((s.dev.equalising p q.phase).setLane t n (fun l => { l with hEq := { on := true } })) :=
      .trans (.mono (Dev.equalising_same _ _ _) (by decide)) (.mono (Dev.setLane_same _ _ _ _) (by decide))
    have hsame := Dev.takeEq_same s.dev t n p q
    rw [Dev.takeEq_of_search hph hon hk] at hsame
    rw [train_of_eq hq hp hh hn, Dev.takeEq_of_search hph hon hk, Dev.lane_of_same (Dev.askPreset_same _ _ _), Dev.lane_setLane_same]
    refine ⟨rfl, ?_, .mono hsame (by decide)⟩
    have hphase (x : Dev) (h : SameBut [.ln, .pcie] s.dev x) : x.evalPhase ((x.cutPort t n).getD 0) = q.phase := by
      rw [Dev.cutPort_of_same h, hp, Dev.evalPhase_of_same h, hph]
      rfl
    rw [Dev.askPreset, hphase _ hset, Dev.lane_setLane_same]
    exact Dev.shown_congr hset.mode (Dev.equalising_out _ _ _) _

end Sys2Proof.Machine

/-! PROOF. Spare lanes: failures, cut-overs, requests and answers (R132, R148 to R151). -/

namespace Sys2Proof.Machine

-- One theorem at a time, as in the tests: many at once would ask for more threads than the sandbox gives.
set_option Elab.async false

/-! ### What depends on the configuration alone -/

theorem Dev.sparePort_of_same {bs : List Block} {d e : Dev} (h : SameBut bs d e) (t n : Nat) (hr : .run ∉ bs := by decide)
    (hp : .part ∉ bs := by decide) : e.sparePort t n = d.sparePort t n := by
  unfold Dev.sparePort Dev.cutWidth
  dsimp only
  rw [Dev.isS_congr (h.run hr) (h.part hp), h.run hr]

theorem Dev.sourcePresent_of_variant {d : Dev} (h : d.is7144 = true) (k : Nat) : d.sourcePresent k = true := by
  rw [Dev.sourcePresent, h]
  rfl

/-! ### Fields of a lane whose scrambler alone may have moved -/

theorem Keeps.lane_state {d e : Dev} (h : Keeps Dev.laneRest d e) (t n : Nat) : (e.lane t n).state = (d.lane t n).state :=
  (congrArg Lane.state (h.lane t n) :)

theorem Keeps.lane_retired {d e : Dev} (h : Keeps Dev.laneRest d e) (t n : Nat) : (e.lane t n).retired = (d.lane t n).retired :=
  (congrArg Lane.retired (h.lane t n) :)

theorem Keeps.lane_serves {d e : Dev} (h : Keeps Dev.laneRest d e) (t n : Nat) : (e.lane t n).serves = (d.lane t n).serves :=
  (congrArg Lane.serves (h.lane t n) :)

theorem Keeps.lane_logical {d e : Dev} (h : Keeps Dev.laneRest d e) (t n : Nat) : (e.lane t n).logical = (d.lane t n).logical :=
  (congrArg Lane.logical (h.lane t n) :)

theorem Dev.setLane_rd_other (d : Dev) {t n k : Nat} (f : Lane → Lane) (h : k ≠ laneKey t n) :
    (d.setLane t n f).ln.lane.rd k = d.ln.lane.rd k := Tab.rd_upd_other _ _ _ _ h

/-! ### Loss of block lock (R132, R148, R149) -/

/-- A lane that has lost block lock, with its invalid headers counted. -/
def Lane.lost (bad : Nat) (l : Lane) : Lane := { (l.badHeaders bad) with lock := false }

/-- A standby spare that failed, without a mirror swap onto it. -/
def Dev.spareDown (d : Dev) (t n : Nat) : Dev :=
  (d.setLane t n (fun l => { l with state := 12, lock := false })).log (srcTile t 1) 2 { inst := laneNumber t n, detail := [laneNumber t n] }

theorem Dev.spareDown_same (d : Dev) (t n : Nat) : SameBut (.ln :: recordBlocks) d (d.spareDown t n) :=
  .then (.mono (Dev.setLane_same _ _ _ _) (by decide)) (Dev.log_same _ _ _ _)

theorem Dev.spareFails_of_unmirrored {d : Dev} {t n : Nat} (h : ∀ q, d.sparePort t n = some q → (d.link q).mirror = none) :
    d.spareFails t n = d.spareDown t n := by
  have hlink (q : Nat) : (d.spareDown t n).link q = d.link q :=
    Dev.link_of_same (Dev.log_same (d.setLane t n (fun l => { l with state := 12, lock := false })) _ _ _) q
  have hport := Dev.sparePort_of_same (d.spareDown_same t n) t n
  unfold Dev.spareFails
  dsimp only
  split
  next p hp =>
    have hq : (d.link p).mirror = none := h p (hport.symm.trans hp)
    rw [show ((d.setLane t n (fun l => { l with state := 12, lock := false })).log (srcTile t 1) 2
      { inst := laneNumber t n, detail := [laneNumber t n] }).link p = d.link p from hlink p, hq]
    rfl
  · rfl

theorem blockLockLoss_of_spare {d : Dev} {t : Fin 9} {n : Fin 18} {bad : Nat} (hs : (d.lane t n).state = 8) (hl : (d.lane t n).lock = true) :
    blockLockLoss t n bad d = (d.setLane t n (Lane.lost bad)).spareFails t n := by
  rw [blockLockLoss, if_neg (by simp [hl])]
  exact if_pos hs

/-- A hard cut-over of logical lane `x` begins. -/
def Dev.cutoverBegun (d : Dev) (p x s : Nat) (auto : Bool) : Dev :=
  (d.setLink p (fun l => { l.paused .swapWait with swaps := [(x, s)], swapInit := auto })).sendSwap p false x s false

theorem Dev.startCutover_of_up {d : Dev} {p : Nat} (h : (d.link p).state = 2 ∨ (d.link p).state = 3) (x s : Nat) (auto : Bool) :
    d.startCutover p x s auto = d.cutoverBegun p x s auto := if_pos h

theorem Dev.cutoverBegun_same (d : Dev) (p x s : Nat) (auto : Bool) : SameBut [.ln] d (d.cutoverBegun p x s auto) :=
  .trans (Dev.setLink_same _ _ _) (Dev.sendSwap_same _ _ _ _ _ _)

theorem Dev.cutoverBegun_link (d : Dev) (p x s : Nat) (auto : Bool) : (d.cutoverBegun p x s auto).link p =
    { (d.link p).paused .swapWait with swaps := [(x, s)], swapInit := auto } := by
  rw [Dev.cutoverBegun, (Dev.sendSwap_links _ _ _ _ _ _).link, Dev.link_setLink_same]

theorem Dev.cutoverBegun_laneRest (d : Dev) (p x s : Nat) (auto : Bool) : Keeps Dev.laneRest d (d.cutoverBegun p x s auto) :=
  .trans (Dev.setLink_laneRest _ _ _) (Dev.sendSwap_laneRest _ _ _ _ _ _)

theorem Dev.spareReady_setLane {d : Dev} {p t n m : Nat} (hn : n < 16) (f : Lane → Lane) :
    (d.setLane t n f).spareReady p m = d.spareReady p m := by
  have hspare := spareLane_ge m
  rw [Dev.spareReady, Dev.lane_setLane_other _ _ (laneKey_ne hspare.2 (by omega) (by omega)),
    Dev.sparePort_of_same (Dev.setLane_same _ _ _ _), Dev.spareReady]

theorem Dev.policy_setLane (d : Dev) (t n : Nat) (f : Lane → Lane) (k : Nat) : (d.setLane t n f).policy k = d.policy k := rfl

theorem Dev.portFenced_setLane (d : Dev) (t n : Nat) (f : Lane → Lane) (p : Nat) : (d.setLane t n f).portFenced p = d.portFenced p := rfl

/-- An active lane of a port in INIT or UP that loses lock goes over to its spare. -/
theorem blockLockLoss_of_active {d : Dev} {t : Fin 9} {n : Fin 18} {p bad : Nat} (hn : n.val < 16) (hs : (d.lane t n).state = 7)
    (hl : (d.lane t n).lock = true) (hx : (d.lane t n).logical < 16) (hp : (d.lane t n).port = some p)
    (hup : (d.link p).state = 2 ∨ (d.link p).state = 3) (hm : (d.link p).mirror = none) (hr : d.spareReady p n = true)
    (he : (d.policy 0).enable = true) (hf : d.portFenced p = false) : blockLockLoss t n bad d =
      (d.setLane t n (Lane.lost bad)).cutoverBegun p (d.lane t n).logical (spareLane n) true := by
  rw [blockLockLoss, if_neg (by simp [hl])]
  dsimp only
  rw [if_neg (by omega), if_neg (by simp [Lane.inService, hs]; omega), hp]
  dsimp only
  rw [if_neg (by rw [Dev.link_setLane, hm]; simp; omega), if_pos (by rw [Dev.link_setLane, hm]; simp [Dev.spareReady_setLane hn, Dev.policy_setLane, Dev.portFenced_setLane, hr, he, hf]),
    Dev.link_setLane, hm, Dev.startCutover_of_up (by simpa [Dev.link_setLane] using hup)]
  rfl

/-! ### Moving a lane to its spare (R150) -/

/-- Lane `n` of tile `t` is RETIRED, and spare `s` carries logical lane `x` in its place. -/
def Dev.moved (d : Dev) (t n x s : Nat) : Dev :=
  (d.setLane t n (fun l => { l with state := 10, retired := true, logical := 0x1F, rxLogical := 0x1F, lock := false, cdr := false })).setLane t s
    (fun l => { l with state := 9, serves := n, logical := x, rxLogical := (d.lane t n).rxLogical })

theorem Dev.moveLane_of_some {d : Dev} {p x s n : Nat} (h : d.laneOf p x = some n) : d.moveLane p x s = d.moved (portTile p) n x s := by
  unfold Dev.moveLane
  dsimp only
  rw [h]
  rfl

theorem Dev.moved_same (d : Dev) (t n x s : Nat) : SameBut [.ln] d (d.moved t n x s) :=
  .trans (Dev.setLane_same _ _ _ _) (Dev.setLane_same _ _ _ _)

theorem Dev.moved_links (d : Dev) (t n x s : Nat) : Keeps Dev.links d (d.moved t n x s) := rfl

theorem Dev.moved_lane (d : Dev) {t n s : Nat} (x : Nat) (hn : n < 18) (hs : s < 18) (h : n ≠ s) : (d.moved t n x s).lane t n =
    { d.lane t n with state := 10, retired := true, logical := 0x1F, rxLogical := 0x1F, lock := false, cdr := false } := by
  rw [Dev.moved, Dev.lane_setLane_other _ _ (laneKey_ne hn hs h), Dev.lane_setLane_same]

theorem Dev.moved_spare (d : Dev) (t n x s : Nat) : ((d.moved t n x s).lane t s).state = 9 ∧
    ((d.moved t n x s).lane t s).serves = n ∧ ((d.moved t n x s).lane t s).logical = x := by
  rw [Dev.moved, Dev.lane_setLane_same]
  exact ⟨rfl, rfl, rfl⟩

theorem Dev.swapSpare_bounds (d : Dev) (p spare : Nat) : 16 ≤ d.swapSpare p spare ∧ d.swapSpare p spare < 18 := by
  unfold Dev.swapSpare
  split
  · omega
  · split <;> omega

/-- The state of a port's link at the end of `swapGo`. -/
def Link.acknowledged (l : Link) (xs : List (Nat × Nat)) : Link :=
  { (if l.state = 4 then { l with pause := .swapAlign } else l.paused .swapAlign) with swaps := xs }

/-- The lane moves, the request is acknowledged, and ALIGN bursts follow (R150). -/
def Dev.swapped (d : Dev) (p : Nat) (b : SwapBlk) (n x s : Nat) : Dev :=
  (((d.moved (portTile p) n x s).swapAnswer p b false).setLink p (fun l => l.acknowledged [(x, s)])).sendAlign p

theorem Dev.swapGo_of_one {d : Dev} {p x s n : Nat} (b : SwapBlk) (h : d.laneOf p x = some n) :
    d.swapGo p b [(x, s)] = d.swapped p b n x s := by
  rw [Dev.swapGo, List.foldl_cons, List.foldl_nil, Dev.moveLane_of_some h]
  rfl

theorem Dev.swapped_laneRest (d : Dev) (p : Nat) (b : SwapBlk) (n x s : Nat) :
    Keeps Dev.laneRest (d.moved (portTile p) n x s) (d.swapped p b n x s) :=
  .trans (.trans (Dev.sendSwap_laneRest _ _ _ _ _ _) (Dev.setLink_laneRest _ _ _)) (Dev.sendAlign_laneRest _ _)

theorem Dev.swapped_link (d : Dev) (p : Nat) (b : SwapBlk) (n x s : Nat) : (d.swapped p b n x s).link p =
    { (d.link p).acknowledged [(x, s)] with alignSeq := (((d.link p).acknowledged [(x, s)]).alignSeq + 1) % 2 ^ 32 } := by
  rw [Dev.swapped, Dev.sendAlign_link, Dev.link_setLink_same, Dev.swapAnswer, (Dev.sendSwap_links _ _ _ _ _ _).link,
    (Dev.moved_links _ _ _ _ _).link]

theorem Dev.swapped_same (d : Dev) (p : Nat) (b : SwapBlk) (n x s : Nat) : SameBut [.ln] d (d.swapped p b n x s) :=
  .trans (.trans (.trans (Dev.moved_same _ _ _ _ _) (Dev.swapAnswer_same _ _ _ _)) (Dev.setLink_same _ _ _)) (Dev.sendAlign_same _ _)

/-- A request for a lane whose spare stands by is served at once. -/
theorem swapRequest_of_ready {d : Dev} {p : Fin 72} {b : SwapBlk} {n : Nat} (hS : d.isS p = true)
    (hup : (d.link p).state = 2 ∨ (d.link p).state = 3) (hpause : (d.link p).pause = .none)
    (hs : (d.lane (portTile p) (d.swapSpare p b.spare)).state = 8)
    (hp : d.sparePort (portTile p) (d.swapSpare p b.spare) = some p.val) (hnamed : d.laneNamed p b.logical = some n) :
    swapRequest p b d = d.swapGo p b [((d.lane (portTile p) n).logical, d.swapSpare p b.spare)] := by
  unfold swapRequest
  dsimp only
  rw [if_neg (by simp [hS]; omega), if_neg (by simp [hpause]), hnamed]
  dsimp only [Option.map_some]
  rw [if_neg (by simp [hpause]), if_pos ⟨by omega, by simp [hs, hp]⟩]

/-! ### Answers to this end's request (R150, R151) -/

/-- The acknowledged lane moves at the initiator. -/
theorem swapAcknowledge_of_accepted {d : Dev} {p : Fin 72} {b : SwapBlk} {n s : Nat} (hst : (d.link p).state = 4)
    (hpause : (d.link p).pause = .swapWait) (hr : b.refused = false) (hw : (d.link p).swaps = [(b.logical, s)])
    (hl : d.laneOf p b.logical = some n) : swapAcknowledge p b d =
      ((d.moved (portTile p) n b.logical s).setLink p (fun l => { l with pause := .swapAlign })).sendAlign p := by
  unfold swapAcknowledge
  dsimp only
  rw [if_pos ⟨hst, hpause, by simp [hw]⟩, if_neg (by simp [hr]), hw, List.foldl_cons, List.foldl_nil, Dev.moveLane_of_some hl]

/-- Without a mirror swap, a lost request ends jobs and touches no lane and no link. -/
theorem Dev.swapLost_of_unmirrored {d : Dev} {p x : Nat} (h : (d.link p).mirror = none) :
    SameBut (.jobs :: recordBlocks) d (d.swapLost p x) := by
  unfold Dev.swapLost
  split
  · exact .refl _ _
  · dsimp only
    rw [if_neg (by simp [h])]
    exact .foldl _ (fun _ _ => Dev.endJob_same _ _ _ _ _) _ _

/-- The link of a port whose pause has ended. -/
def Link.resumed (l : Link) : Link :=
  { l with state := if l.fromInit then 2 else 3, pause := .none, swaps := [], swapInit := false, fromInit := false }

theorem Dev.hasLock_resumed (d : Dev) (p t n : Nat) : (d.setLink p Link.resumed).hasLock t n = d.hasLock t n := by
  have hdata : (d.setLink p Link.resumed).dataLane t n = d.dataLane t n := by
    unfold Dev.dataLane
    rw [Dev.lane_setLink]
    split
    next q hq =>
      by_cases h : q = p
      · subst h
        rw [Dev.link_setLink_same]
        rfl
      · rw [show (d.setLink p Link.resumed).link q = d.link q from Tab.rd_upd_other _ _ _ _ h]
    · rfl
  rw [Dev.hasLock, hdata, Dev.lane_setLink, Dev.hasLock]

/-- A pause ends with nothing unacknowledged and nothing that waited for it. -/
theorem Dev.resume_of_quiet {d : Dev} {p : Nat} (ha : (d.link p).a = (d.link p).n) (hq : (d.link p).swapQueue = [])
    (hall : (d.activeLanes p).all (fun n => d.hasLock (portTile p) n) = true) : d.resume p = d.setLink p Link.resumed := by
  have hlink : (d.setLink p Link.resumed).link p = (d.link p).resumed := Dev.link_setLink_same _ _ _
  have hreplay : (d.setLink p Link.resumed).startReplay p (d.link p).a 2 = d.setLink p Link.resumed := by
    rw [Dev.startReplay, hlink]
    exact if_pos ha
  have hfind : ((d.setLink p Link.resumed).activeLanes p).find? (fun n => !(d.setLink p Link.resumed).hasLock (portTile p) n) = none := by
    rw [List.find?_eq_none]
    intro n hn
    have hlock := List.all_eq_true.1 hall n hn
    rw [Dev.hasLock_resumed, hlock]
    decide
  unfold Dev.resume
  extract_lets d1 t
  have hd1 : d1 = d.setLink p Link.resumed := hreplay
  rw [hd1, hlink, show (d.link p).resumed.swapQueue = [] from hq]
  dsimp only
  rw [hfind]

theorem Dev.activeLanes_of_same {bs : List Block} {d e : Dev} (h : SameBut bs d e) (p : Nat) (hl : .ln ∉ bs := by decide)
    (hr : .run ∉ bs := by decide) : e.activeLanes p = d.activeLanes p := by
  unfold Dev.activeLanes Dev.portLanes Dev.cutWidth Dev.carrier Dev.lane
  rw [h.ln hl, h.run hr]

theorem Dev.hasLock_of_same {bs : List Block} {d e : Dev} (h : SameBut bs d e) (t n : Nat) (hl : .ln ∉ bs := by decide) :
    e.hasLock t n = d.hasLock t n := by
  unfold Dev.hasLock Dev.dataLane Dev.lane Dev.link
  rw [h.ln hl]

/-- A refusal ends the pause of the initiator. -/
theorem swapAcknowledge_of_refused {d : Dev} {p : Fin 72} {b : SwapBlk} (hst : (d.link p).state = 4)
    (hpause : (d.link p).pause = .swapWait) (hr : b.refused = true) (hm : (d.link p).mirror = none)
    (hw : (d.link p).swaps.any (fun x => x.1 == b.logical) = true) (hq : (d.link p).swapQueue = []) (ha : (d.link p).a = (d.link p).n)
    (hall : (d.activeLanes p).all (fun n => d.hasLock (portTile p) n) = true) :
    swapAcknowledge p b d = (d.swapLost p b.logical).setLink p Link.resumed := by
  have hsame := Dev.swapLost_of_unmirrored (x := b.logical) hm
  have hlink := Dev.link_of_same hsame p
  unfold swapAcknowledge
  dsimp only
  rw [if_pos ⟨hst, hpause, hw⟩, if_pos hr, Dev.resume_of_quiet (by rw [hlink]; exact ha) (by rw [hlink]; exact hq)]
  rw [Dev.activeLanes_of_same hsame, List.all_eq_true]
  intro n hn
  rw [Dev.hasLock_of_same hsame]
  exact List.all_eq_true.1 hall n hn

/-- Settles O29. -/
theorem spareLanes : Obligations.SpareLanes := by
  unfold Obligations.SpareLanes
  refine fun s t n p b bad => ⟨fun hl => Gives.of_onDev rfl ?idle, fun hs hl hm => Gives.of_onDev rfl ?spare,
    fun hn hs hl hx hp hup hm hr he hf => Gives.of_onDev rfl ?cutover,
    fun hd hS hup hpause hs hp hnamed hof hne => Gives.of_onDev rfl ?requested,
    fun hd hst hpause hr hw hl hne => Gives.of_onDev rfl ?acknowledged,
    fun hd hst hpause hr hm hw hq hi ha hall => Gives.of_onDev rfl ?refused⟩
  case idle => exact if_pos (by simp [hl])
  case spare =>
    have hlane : (((s.dev.setLane t n (Lane.lost bad)).spareDown t n).lane t n) = { (s.dev.lane t n).lost bad with state := 12, lock := false } := by
      rw [Dev.spareDown, Dev.lane_of_same (Dev.log_same _ _ _ _), Dev.lane_setLane_same, Dev.lane_setLane_same]
    rw [show blockLockLoss t n bad s.dev = _ from blockLockLoss_of_spare hs hl, Dev.spareFails_of_unmirrored (d := s.dev.setLane t n (Lane.lost bad)) (fun q hq => hm q ((Dev.sparePort_of_same (Dev.setLane_same s.dev t n (Lane.lost bad)) t n).symm.trans hq)), hlane]
    refine ⟨rfl, rfl, rfl, fun h => ?_, fun x hx => ?_, .then (.mono (Dev.setLane_same _ _ _ _) (by decide)) (Dev.spareDown_same _ _ _)⟩
    · exact Dev.log_sets _ _ _ _ (Dev.sourcePresent_of_variant h _) (by unfold srcTile; omega)
    · rw [Dev.spareDown, (Dev.log_same _ _ _ _).ln, Dev.setLane_rd_other _ _ hx, Dev.setLane_rd_other _ _ hx]
  case cutover =>
    have hrest := (Dev.cutoverBegun_laneRest (s.dev.setLane t n (Lane.lost bad)) p (s.dev.lane t n).logical (spareLane n) true).lane t n
    rw [Dev.lane_setLane_same] at hrest
    rw [blockLockLoss_of_active hn hs hl hx hp hup hm hr he hf, Dev.cutoverBegun_link]
    exact ⟨rfl, rfl, rfl, (congrArg Lane.lock hrest :), (congrArg Lane.hdrErr hrest :), rfl,
      .trans (Dev.setLane_same _ _ _ _) (Dev.cutoverBegun_same _ _ _ _ _)⟩
  case requested =>
    obtain ⟨h16, h18⟩ := s.dev.swapSpare_bounds p b.spare
    have hrest := Dev.swapped_laneRest s.dev p b n (s.dev.lane (portTile p) n).logical (s.dev.swapSpare p b.spare)
    have hlane := Dev.moved_lane s.dev (t := portTile p) (s.dev.lane (portTile p) n).logical n.isLt h18 hne
    obtain ⟨hstate, hserves, hlogical⟩ := Dev.moved_spare s.dev (portTile p) n (s.dev.lane (portTile p) n).logical (s.dev.swapSpare p b.spare)
    have h4 : ¬ (s.dev.link p).state = 4 := by omega
    have hack (xs : List (Nat × Nat)) : ((s.dev.link p).acknowledged xs).state = 4 ∧ ((s.dev.link p).acknowledged xs).pause = .swapAlign := by
      rw [Link.acknowledged, if_neg h4]
      exact ⟨rfl, rfl⟩
    rw [Dev.lanesIn_of_die hd, swapRequest_of_ready hS hup hpause hs hp hnamed, Dev.swapGo_of_one b hof, Dev.swapped_link,
      hrest.lane_state, hrest.lane_state, hrest.lane_retired, hrest.lane_serves, hrest.lane_logical, hlane]
    have hlinks := hack [((s.dev.lane (portTile p) n).logical, s.dev.swapSpare p b.spare)]
    exact ⟨rfl, rfl, hstate, hserves, hlogical, hlinks.1, hlinks.2, Dev.swapped_same _ _ _ _ _ _⟩
  case acknowledged =>
    have hrest : Keeps Dev.laneRest (s.dev.moved (portTile p) n b.logical 17)
        (((s.dev.moved (portTile p) n b.logical 17).setLink p (fun l => { l with pause := .swapAlign })).sendAlign p) :=
      .trans (Dev.setLink_laneRest _ _ _) (Dev.sendAlign_laneRest _ _)
    have hlane := Dev.moved_lane s.dev (t := portTile p) b.logical n.isLt (by decide) hne
    obtain ⟨hstate, hserves, hlogical⟩ := Dev.moved_spare s.dev (portTile p) n b.logical 17
    rw [Dev.lanesIn_of_die hd, swapAcknowledge_of_accepted hst hpause hr hw hl, Dev.sendAlign_link, Dev.link_setLink_same,
      (Dev.moved_links _ _ _ _ _).link, hrest.lane_state, hrest.lane_state, hrest.lane_logical, hrest.lane_serves, hlane]
    exact ⟨rfl, hstate, hlogical, hserves, hst, rfl,
      .trans (.trans (Dev.moved_same _ _ _ _ _) (Dev.setLink_same _ _ _)) (Dev.sendAlign_same _ _)⟩
  case refused =>
    have hsame := Dev.swapLost_of_unmirrored (x := b.logical) hm
    rw [Dev.lanesIn_of_die hd, swapAcknowledge_of_refused hst hpause hr hm hw hq ha hall, Dev.link_setLink_same, Dev.link_of_same hsame]
    refine ⟨?_, rfl, rfl, (congrArg LinkSt.lane hsame.ln :), .trans (.mono hsame (by decide)) (.mono (Dev.setLink_same _ _ _) (by decide))⟩
    simp [Link.resumed, hi]

end Sys2Proof.Machine

/-! PROOF. ALIGN bursts, block matches and lane PLLs (R150, R153, R156). -/

namespace Sys2Proof.Machine

-- One theorem at a time, as in the tests: many at once would ask for more threads than the sandbox gives.
set_option Elab.async false

/-! ### Received lane numbers -/

/-- Every lane apart from the number that the last burst gave it. -/
def Dev.laneUnnumbered (d : Dev) : Nat → Lane := fun k => { d.ln.lane.rd k with rxLogical := 0 }

theorem Keeps.laneUnnumbered {d e : Dev} (h : Keeps Dev.laneUnnumbered d e) (t n : Nat) :
    ({ e.lane t n with rxLogical := 0 } : Lane) = { d.lane t n with rxLogical := 0 } := congrFun h (laneKey t n)

theorem Keeps.unnumbered_state {d e : Dev} (h : Keeps Dev.laneUnnumbered d e) (t n : Nat) : (e.lane t n).state = (d.lane t n).state :=
  (congrArg Lane.state (h.laneUnnumbered t n) :)

theorem Keeps.unnumbered_lock {d e : Dev} (h : Keeps Dev.laneUnnumbered d e) (t n : Nat) : (e.lane t n).lock = (d.lane t n).lock :=
  (congrArg Lane.lock (h.laneUnnumbered t n) :)

theorem Keeps.unnumbered_logical {d e : Dev} (h : Keeps Dev.laneUnnumbered d e) (t n : Nat) : (e.lane t n).logical = (d.lane t n).logical :=
  (congrArg Lane.logical (h.laneUnnumbered t n) :)

theorem Keeps.unnumbered_serves {d e : Dev} (h : Keeps Dev.laneUnnumbered d e) (t n : Nat) : (e.lane t n).serves = (d.lane t n).serves :=
  (congrArg Lane.serves (h.laneUnnumbered t n) :)

theorem Keeps.unnumbered_port {d e : Dev} (h : Keeps Dev.laneUnnumbered d e) (t n : Nat) : (e.lane t n).port = (d.lane t n).port :=
  (congrArg Lane.port (h.laneUnnumbered t n) :)

/-- The lanes of a burst with the numbers that it gave them. -/
def Dev.numbered (d : Dev) (t : Nat) (ls : List (Nat × Nat)) : Dev :=
  ls.foldl (fun e x => e.setLane t x.1 (fun l => { l with rxLogical := x.2 })) d

theorem Dev.numbered_same (d : Dev) (t : Nat) (ls : List (Nat × Nat)) : SameBut [.ln] d (d.numbered t ls) :=
  .foldl _ (fun _ _ => Dev.setLane_same _ _ _ _) _ _

theorem Dev.numbered_links (d : Dev) (t : Nat) (ls : List (Nat × Nat)) : Keeps Dev.links d (d.numbered t ls) :=
  .foldl _ (fun _ _ => Dev.setLane_links _ _ _ _) _ _

theorem Dev.setLane_unnumbered (d : Dev) (t n x : Nat) :
    Keeps Dev.laneUnnumbered d (d.setLane t n (fun l => { l with rxLogical := x })) := by
  funext k
  by_cases hk : k = laneKey t n
  · subst hk
    simp [Dev.laneUnnumbered, Dev.setLane]
  · rw [Dev.laneUnnumbered, Dev.setLane_rd_other d _ hk, Dev.laneUnnumbered]

theorem Dev.numbered_unnumbered (d : Dev) (t : Nat) (ls : List (Nat × Nat)) : Keeps Dev.laneUnnumbered d (d.numbered t ls) :=
  .foldl _ (fun _ _ => Dev.setLane_unnumbered _ _ _ _) _ _

theorem Dev.activeLanes_numbered (d : Dev) (p t : Nat) (ls : List (Nat × Nat)) : (d.numbered t ls).activeLanes p = d.activeLanes p := by
  have hk := d.numbered_unnumbered t ls
  have hrun := (d.numbered_same t ls).run
  unfold Dev.activeLanes Dev.portLanes Dev.carrier Lane.inService Dev.cutWidth
  simp only [hk.unnumbered_serves, hk.unnumbered_state, hk.unnumbered_logical, hrun]

theorem Dev.hasLock_numbered (d : Dev) (t t' n : Nat) (ls : List (Nat × Nat)) : (d.numbered t ls).hasLock t' n = d.hasLock t' n := by
  have hk := d.numbered_unnumbered t ls
  unfold Dev.hasLock Dev.dataLane
  simp only [hk.unnumbered_lock, hk.unnumbered_port, (d.numbered_links t ls).link]

/-- A burst with every active lane in it ends a PLL pause (R156). -/
theorem alignBurst_of_whole {d : Dev} {p : Fin 72} {a : AlignBurst} (hS : d.isS p = true) (hst : (d.link p).state = 4)
    (hpause : (d.link p).pause = .pll) (hq : (d.link p).swapQueue = []) (ha : (d.link p).a = (d.link p).n)
    (hin : (d.activeLanes p).all (fun n => a.inStep.any (fun x => x.1 == n)) = true)
    (hall : (d.activeLanes p).all (fun n => d.hasLock (portTile p) n) = true) :
    alignBurst p a d = (d.numbered (portTile p) a.inStep).setLink p Link.resumed := by
  have hlink := (d.numbered_links (portTile p) a.inStep).link p
  have hlost : (d.activeLanes p).filter (fun n => !a.inStep.any (fun x => x.1 == n)) = [] := by
    rw [List.filter_eq_nil_iff]
    intro n hn
    simpa using List.all_eq_true.1 hin n hn
  have hpart : alignBurst p a d = d.alignPause p a.inStep := by
    unfold alignBurst
    simp [hS, hst, hpause]
  rw [hpart, ← Dev.resume_of_quiet (d := d.numbered (portTile p) a.inStep) (by rw [hlink]; exact ha) (by rw [hlink]; exact hq)
    (by simp only [Dev.activeLanes_numbered, Dev.hasLock_numbered]; exact hall)]
  unfold Dev.alignPause
  dsimp only
  rw [hlost]
  exact if_neg (fun h => absurd ((congrArg Link.pause hlink).symm.trans h) (by rw [hpause]; decide))

/-! ### Block matches (R153) -/

/-- A message into the queue of the margin slot leaves the rest of the link. -/
theorem Link.pushMargin_rest (l : Link) (m : Margin) :
    ({ l.pushMargin m with mq := l.mq, mAge := l.mAge, marginDrop := l.marginDrop } : Link) = l := by
  unfold Link.pushMargin
  dsimp only
  repeat' split
  all_goals rfl

theorem Link.pushMargin_selOwn (l : Link) (m : Margin) : (l.pushMargin m).selOwn = l.selOwn :=
  (congrArg Link.selOwn (l.pushMargin_rest m) :)

theorem Link.pushMargin_mirrorOwn (l : Link) (m : Margin) : (l.pushMargin m).mirrorOwn = l.mirrorOwn :=
  (congrArg Link.mirrorOwn (l.pushMargin_rest m) :)

theorem Link.pushMargin_mirrorPeer (l : Link) (m : Margin) : (l.pushMargin m).mirrorPeer = l.mirrorPeer :=
  (congrArg Link.mirrorPeer (l.pushMargin_rest m) :)

theorem Link.pushMargin_mirror (l : Link) (m : Margin) : (l.pushMargin m).mirror = l.mirror :=
  (congrArg Link.mirror (l.pushMargin_rest m) :)

/-- The link of a port that has found its match. -/
def Link.matched (l : Link) : Link := { l with mirrorOwn := true }

/-- What the queue becomes depends on the queue alone. -/
theorem Link.pushMargin_mq_congr {l l' : Link} (m : Margin) (hq : l'.mq = l.mq) (ha : l'.mAge = l.mAge) :
    (l'.pushMargin m).mq = (l.pushMargin m).mq := by
  unfold Link.pushMargin
  simp only [hq, ha]
  split
  · split
    · rfl
    · cases victim l.mq (fun x => x.msg.type != 0x08) with
      | none => rfl
      | some v =>
        dsimp only
        split <;> rfl
  · split
    · rfl
    · split
      · cases youngest l.mq (fun x => x.msg.rank != 1) <;> rfl
      · cases youngest l.mq (fun x => decide (m.rank < x.msg.rank)) <;> rfl

/-- An exchange that has sent its first message. -/
def Link.opened (l : Link) (m : Margin) : Link := { l.pushMargin m with ex := (l.pushMargin m).ex ++ [({ msg := m } : Exchange)] }

theorem Link.opened_mirror (l : Link) (m : Margin) : (l.opened m).mirror = l.mirror := l.pushMargin_mirror m

theorem Link.opened_mirrorOwn (l : Link) (m : Margin) : (l.opened m).mirrorOwn = l.mirrorOwn := l.pushMargin_mirrorOwn m

theorem Link.opened_mirrorPeer (l : Link) (m : Margin) : (l.opened m).mirrorPeer = l.mirrorPeer := l.pushMargin_mirrorPeer m

theorem Link.opened_selOwn (l : Link) (m : Margin) : (l.opened m).selOwn = l.selOwn := l.pushMargin_selOwn m

theorem Link.opened_mq (l : Link) (m : Margin) : (l.opened m).mq = (l.pushMargin m).mq := rfl

theorem Dev.sendMargin_link (d : Dev) (p : Nat) (m : Margin) : (d.sendMargin p m).link p = (d.link p).pushMargin m :=
  Dev.link_setLink_same _ _ _

theorem Dev.sendExchange_link (d : Dev) (p : Nat) (m : Margin) : (d.sendExchange p m).link p = (d.link p).opened m := by
  rw [Dev.sendExchange, Dev.link_setLink_same, Dev.sendMargin_link, Link.opened]

theorem Dev.sendMargin_lanes (d : Dev) (p : Nat) (m : Margin) : Keeps Dev.lanes d (d.sendMargin p m) := rfl

theorem Dev.sendExchange_lanes (d : Dev) (p : Nat) (m : Margin) : Keeps Dev.lanes d (d.sendExchange p m) := rfl

/-- The SWAP_MATCHED of a mirror pair. -/
def matchedMargin (m : Nat × Nat × Nat) (k : Nat) : Margin :=
  { type := 0x12, body := pack [(0, m.1), (5, m.2.1 - 16), (16, m.2.2), (32, k % 65536)] }

/-- The device whose port has found its match and told the far end. -/
def Dev.matched (d : Dev) (p k : Nat) (m : Nat × Nat × Nat) : Dev := (d.setLink p Link.matched).sendExchange p (matchedMargin m k)

theorem Dev.matched_same (d : Dev) (p k : Nat) (m : Nat × Nat × Nat) : SameBut [.ln] d (d.matched p k m) :=
  .trans (Dev.setLink_same _ _ _) (Dev.sendExchange_same _ _ _)

theorem Dev.matched_lanes (d : Dev) (p k : Nat) (m : Nat × Nat × Nat) : Keeps Dev.lanes d (d.matched p k m) :=
  .trans (Dev.setLink_lanes _ _ _) (Dev.sendExchange_lanes _ _ _)

theorem Dev.matched_link (d : Dev) (p k : Nat) (m : Nat × Nat × Nat) :
    (d.matched p k m).link p = (d.link p).matched.opened (matchedMargin m k) := by
  rw [Dev.matched, Dev.sendExchange_link, Dev.link_setLink_same]

theorem mirrorMatch_of_up {d : Dev} {p : Fin 72} {k : Nat} {m : Nat × Nat × Nat} (hm : (d.link p).mirror = some m)
    (hst : (d.link p).state = 3) (hown : (d.link p).mirrorOwn = false) : mirrorMatch p k d = (d.matched p k m).mirrorSelect p := by
  unfold mirrorMatch
  dsimp only
  rw [hm]
  exact if_pos (by simp [Link.live, hst, hown])

/-- Until the far end has matched nothing is selected. -/
theorem Dev.mirrorSelect_of_waiting {d : Dev} {p : Nat} (h : (d.link p).mirrorPeer = false) : d.mirrorSelect p = d := by
  unfold Dev.mirrorSelect
  dsimp only
  split
  · exact if_neg (by simp [h])
  · rfl

/-- The link of an end that has selected the spare. -/
def Link.selecting (l : Link) : Link := { l with selOwn := true }

theorem Dev.mirrorSelect_lanes (d : Dev) (p : Nat) : Keeps Dev.lanes d (d.mirrorSelect p) := by
  unfold Dev.mirrorSelect
  dsimp only
  split
  · refine .ite (.trans (x := ite _ _ _) (.ite ?_ ?_) (lanes_of_same (.foldl _ (fun _ _ => Dev.jobsAny_same _ _) _ _))) (.refl _ _)
    · exact .trans (Dev.setLink_lanes _ _ _) (Dev.sendMargin_lanes _ _ _)
    · exact .trans (Dev.setLink_lanes _ _ _) (Dev.sendExchange_lanes _ _ _)
  · exact .refl _ _

/-- Once both ends have matched, this end selects the spare. -/
theorem Dev.mirrorSelect_of_both {d : Dev} {p : Nat} {m : Nat × Nat × Nat} (hm : (d.link p).mirror = some m)
    (hown : (d.link p).mirrorOwn = true) (hpeer : (d.link p).mirrorPeer = true) (hsel : (d.link p).selOwn = false) :
    ((d.mirrorSelect p).link p).mirrorOwn = true ∧ ((d.mirrorSelect p).link p).selOwn = true := by
  unfold Dev.mirrorSelect
  extract_lets l
  rw [show l.mirror = some m from hm]
  dsimp only
  rw [if_pos (by simp [l, hown, hpeer, hsel])]
  rw [Keeps.link (links_of_same (.foldl _ (fun _ _ => Dev.jobsAny_same _ _) _ _))]
  have hlink : (d.setLink p (fun l => { l with selOwn := true })).link p = (d.link p).selecting := Dev.link_setLink_same _ _ _
  split
  · rw [Dev.sendMargin_link, hlink, Link.pushMargin_mirrorOwn, Link.pushMargin_selOwn]
    exact ⟨hown, rfl⟩
  · rw [Dev.sendExchange_link, hlink, Link.opened]
    exact ⟨(Link.pushMargin_mirrorOwn _ _).trans hown, Link.pushMargin_selOwn _ _⟩

/-! ### Lane PLLs (R156) -/

/-- A tile that has lost one of its lane PLLs. -/
def TileSt.lostPll (pll : Fin 2) (s : TileSt) : TileSt := if pll.val = 0 then { s with pll0 := false } else { s with pll1 := false }

def Dev.lostPll (d : Dev) (t : Nat) (pll : Fin 2) : Dev := { d with ln.tile := d.ln.tile.upd t (TileSt.lostPll pll) }

theorem Dev.lostPll_same (d : Dev) (t : Nat) (pll : Fin 2) : SameBut [.ln] d (d.lostPll t pll) := Dev.lnAny_same _ _

theorem Dev.lostPll_tile (d : Dev) (t : Nat) (pll : Fin 2) :
    (d.lostPll t pll).ln.tile.rd t = (d.ln.tile.rd t).lostPll pll := Tab.rd_upd_same _ _ _

/-- A lane PLL of a tile loses lock: with the PLL in use gone the tile moves to its spare, or its links fall. -/
theorem pllLockLoss_eq {d : Dev} {t : Fin 9} {pll : Fin 2}
    (hhad : (if pll.val = 0 then (d.ln.tile.rd t).pll0 else (d.ln.tile.rd t).pll1) = true) : pllLockLoss t pll d =
      if (d.ln.tile.rd t).onPll1 = (pll.val == 1) then
        if pll.val = 0 ∧ (d.ln.tile.rd t).pll1 = true ∧ ((d.lostPll t pll).policy 1).enable = true ∧ ((d.lostPll t pll).tileIsolated t) = false then
          (((d.lostPll t pll).pllMove t).startInternal { op := 0x06, arg0 := t, total := 1, phase := 9 }).1
        else (if pll.val = 0 ∧ (d.ln.tile.rd t).pll1 = false then (d.lostPll t pll).spareExhausted 1 t else d.lostPll t pll).pllGone t
      else d.lostPll t pll := by
  unfold pllLockLoss
  dsimp only
  rw [hhad]
  rfl

/-- A PLL that carries no lane brings no more than its own loss. -/
theorem pllLockLoss_of_unused {d : Dev} {t : Fin 9} {pll : Fin 2}
    (hhad : (if pll.val = 0 then (d.ln.tile.rd t).pll0 else (d.ln.tile.rd t).pll1) = true)
    (hne : (d.ln.tile.rd t).onPll1 ≠ (pll.val == 1)) : pllLockLoss t pll d = d.lostPll t pll := by
  rw [pllLockLoss_eq hhad, if_neg hne]

/-- A PLL in use that is lost without a spare takes the tile's links with it. -/
theorem pllLockLoss_of_last {d : Dev} {t : Fin 9} (h0 : (d.ln.tile.rd t).pll0 = true) (hon : (d.ln.tile.rd t).onPll1 = false)
    (h1 : (d.ln.tile.rd t).pll1 = false) : pllLockLoss t 0 d = ((d.lostPll t 0).spareExhausted 1 t).pllGone t := by
  rw [pllLockLoss_eq (pll := 0) h0, hon, if_pos (show false = ((0 : Fin 2).val == 1) from rfl), if_neg (by rw [h1]; simp), if_pos ⟨rfl, h1⟩]

/-- A PLL in use that is lost with a spare: the tile moves. -/
theorem pllLockLoss_of_spared {d : Dev} {t : Fin 9} (h0 : (d.ln.tile.rd t).pll0 = true) (hon : (d.ln.tile.rd t).onPll1 = false)
    (h1 : (d.ln.tile.rd t).pll1 = true) (hp : (d.policy 1).enable = true) (hi : d.tileIsolated t = false) :
    pllLockLoss t 0 d =
      (((d.lostPll t 0).pllMove t).startInternal { op := 0x06, arg0 := t, total := 1, phase := 9 }).1 := by
  rw [pllLockLoss_eq (pll := 0) h0, hon, if_pos (show false = ((0 : Fin 2).val == 1) from rfl), if_pos ⟨rfl, h1, hp, hi⟩]

theorem Dev.role_of_same {bs : List Block} {d e : Dev} (h : SameBut bs d e) (t : Nat) (hr : .run ∉ bs := by decide) :
    e.role t = d.role t := by
  rw [Dev.role, h.run hr, Dev.role]

/-- A tile that is Off has no port of either kind. -/
theorem Dev.isS_of_off {d : Dev} {t s : Nat} (h : d.role t = 0) (hs : s < 8) : d.isS (8 * t + s) = false := by
  have ht : portTile (8 * t + s) = t := by unfold portTile; omega
  simp [Dev.isS, ht, h]

theorem Dev.isH_of_off {d : Dev} {t s : Nat} (h : d.role t = 0) (hs : s < 8) : d.isH (8 * t + s) = false := by
  have ht : portTile (8 * t + s) = t := by unfold portTile; omega
  simp [Dev.isH, ht, h]

theorem List.foldl_eq_self_of_mem {α β : Type} {f : β → α → β} {x : β} {l : List α} (h : ∀ a ∈ l, f x a = x) : l.foldl f x = x := by
  induction l with
  | nil => rfl
  | cons a l ih =>
    rw [List.foldl_cons, h a List.mem_cons_self]
    exact ih (fun b hb => h b (List.mem_cons_of_mem _ hb))

/-- What the loss of both PLLs of a tile records. -/
def Dev.pllFault (d : Dev) (t : Nat) : Dev := (d.fire (srcTile t 3)).uncFault 11 t t 1 t 0 3

theorem Dev.pllGone_of_off {d : Dev} {t : Nat} (h : d.role t = 0) : d.pllGone t = d.pllFault t := by
  have hr : (d.pllFault t).role t = 0 :=
    (Dev.role_of_same (Dev.uncFault_same _ _ _ _ _ _ _ _) t).trans ((Dev.role_of_same (Dev.fire_same _ _) t).trans h)
  unfold Dev.pllGone
  rw [Dev.pllFault] at hr ⊢
  refine List.foldl_eq_self_of_mem (fun s hs => ?_)
  have h8 := List.mem_range.1 hs
  exact (if_neg (by rw [show _ = false from Dev.isS_of_off hr h8]; decide)).trans
    (if_neg (by rw [show Dev.isH _ _ = false from Dev.isH_of_off hr h8]; simp))

/-- Outside M10 an uncorrectable fault of a tile leaves its lanes. -/
theorem Dev.uncFault_ln {d : Dev} (bit source stop kind id detail sev : Nat) (h : d.mode.base ≠ .m10) :
    (d.uncFault bit source stop kind id detail sev).ln = d.ln := by
  unfold Dev.uncFault
  dsimp only
  cases hf : d.isFatal bit with
  | true =>
    rw [if_pos (by simp [h])]
  | false =>
    simp only [Bool.false_and, Bool.false_eq_true, if_false, Dev.haltTests]
    exact (Dev.faultLog_same _ _ _ _ _).ln

/-- The tile whose lanes PLL 1 now carries. -/
def TileSt.moved (s : TileSt) : TileSt := { s with onPll1 := true }

def Dev.onSpare (d : Dev) (t : Nat) : Dev := { d with ln.tile := d.ln.tile.upd t TileSt.moved }

theorem Dev.pllMove_of_off {d : Dev} {t : Nat} (h : d.role t = 0) :
    d.pllMove t = ((d.onSpare t).fire (srcTile t 2)).corFault 5 t t 2 := by
  have hr : (d.onSpare t).role t = 0 := h
  unfold Dev.pllMove
  extract_lets lanes d1 d2
  have hmoved : d2 = d.onSpare t := by
    unfold d2
    rw [show d1 = d.onSpare t from rfl]
    refine List.foldl_eq_self_of_mem (fun s hs => ?_)
    have h8 := List.mem_range.1 hs
    dsimp only
    rw [Dev.isS_of_off hr h8, Dev.isH_of_off hr h8]
    rfl
  rw [hmoved]

/-- Settles O30. -/
theorem alignAndPll : Obligations.AlignAndPll := by
  unfold Obligations.AlignAndPll
  refine fun s p t a k => ⟨fun hd hst => Gives.of_onDev rfl ?down, fun hd hS hst hpause hq ha hin hall => Gives.of_onDev rfl ?whole,
    fun m hm hst hown hpeer => Gives.of_onDev rfl ?waiting, fun m hm hst hown hpeer hsel => Gives.of_onDev rfl ?both,
    fun h0 hon => Gives.of_onDev rfl ?unused0, fun h1 hon => Gives.of_onDev rfl ?unused1,
    fun h0 hon h1 hm hv hr => Gives.of_onDev rfl ?last, fun h0 hon h1 hp hi hr => Gives.of_onDev rfl ?spared⟩
  case down =>
    rw [Dev.lanesIn_of_die hd, alignBurst]
    simp [hst]
  case whole =>
    have hk := s.dev.numbered_unnumbered (portTile p) a.inStep
    rw [Dev.lanesIn_of_die hd, alignBurst_of_whole hS hst hpause hq ha hin hall, Dev.link_setLink_same, (Dev.numbered_links _ _ _).link]
    exact ⟨rfl, rfl, fun n => ⟨hk.unnumbered_state _ n, hk.unnumbered_lock _ n, hk.unnumbered_logical _ n⟩,
      .trans (Dev.numbered_same _ _ _) (Dev.setLink_same _ _ _)⟩
  case waiting =>
    have hlink := s.dev.matched_link p k m
    have hwait : ((s.dev.matched p k m).link p).mirrorPeer = false := by
      rw [hlink, Link.opened_mirrorPeer]
      exact hpeer
    rw [show mirrorMatch p k s.dev = _ from mirrorMatch_of_up hm hst hown, Dev.mirrorSelect_of_waiting hwait, hlink,
      Link.opened_mirrorOwn, Link.opened_selOwn, Link.opened_mq]
    exact ⟨rfl, rfl, Dev.sendExchange_lanes _ _ _, Dev.matched_same _ _ _ _, Link.pushMargin_mq_congr _ rfl rfl⟩
  case both =>
    have hlink := s.dev.matched_link p k m
    have hboth := Dev.mirrorSelect_of_both (d := s.dev.matched p k m) (p := p) (m := m)
      (by rw [hlink, Link.opened_mirror]; exact hm) (by rw [hlink, Link.opened_mirrorOwn, Link.matched])
      (by rw [hlink, Link.opened_mirrorPeer]; exact hpeer) (by rw [hlink, Link.opened_selOwn]; exact hsel)
    rw [show mirrorMatch p k s.dev = _ from mirrorMatch_of_up hm hst hown]
    have hlanes : Keeps Dev.lanes s.dev ((s.dev.matched p k m).mirrorSelect p) :=
      .trans (Dev.matched_lanes _ _ _ _) (Dev.mirrorSelect_lanes _ _)
    exact ⟨hboth.1, hboth.2, hlanes,
      .trans (.mono (Dev.matched_same s.dev p k m) (by decide)) (.mono (Dev.mirrorSelect_same _ _) (by decide))⟩
  case unused0 =>
    rw [show pllLockLoss t 0 s.dev = _ from pllLockLoss_of_unused h0 (by rw [hon]; decide), Dev.lostPll_tile]
    exact ⟨rfl, hon, rfl, Dev.lostPll_same _ _ _⟩
  case unused1 =>
    rw [show pllLockLoss t 1 s.dev = _ from pllLockLoss_of_unused h1 (by rw [hon]; decide), Dev.lostPll_tile]
    exact ⟨rfl, hon, rfl, Dev.lostPll_same _ _ _⟩
  case last =>
    have hsame : SameBut (.cont :: recordBlocks) (s.dev.lostPll t 0) ((s.dev.lostPll t 0).spareExhausted 1 t) := Dev.spareExhausted_same _ _ _
    have hfire := Dev.fire_same ((s.dev.lostPll t 0).spareExhausted 1 t) (srcTile t 3)
    have hln : (((s.dev.lostPll t 0).spareExhausted 1 t).pllFault t).ln = (s.dev.lostPll t 0).ln := by
      rw [Dev.pllFault, Dev.uncFault_ln _ _ _ _ _ _ _ (by rw [hfire.mode, hsame.mode]; exact hm), hfire.ln, hsame.ln]
    have hsource : ((s.dev.lostPll t 0).spareExhausted 1 t).sourcePresent (srcTile t 3) = true :=
      Dev.sourcePresent_of_variant (by rw [Dev.is7144, hsame.part]; exact hv) _
    rw [show pllLockLoss t 0 s.dev = _ from pllLockLoss_of_last h0 hon h1, Dev.pllGone_of_off ((Dev.role_of_same hsame t).trans hr),
      hln, Dev.lostPll_tile]
    exact ⟨rfl, Dev.uncFault_grows _ _ _ _ _ _ _ _ _ (Dev.fire_sets _ _ hsource (by unfold srcTile; omega)),
      Dev.uncFault_sets _ _ _ _ _ _ _ _, rfl⟩
  case spared =>
    have hcor : SameBut (.cont :: recordBlocks) ((s.dev.lostPll t 0).onSpare t)
        ((((s.dev.lostPll t 0).onSpare t).fire (srcTile t 2)).corFault 5 t t 2) :=
      .trans (.mono (Dev.fire_same _ _) (by decide)) (Dev.corFault_same _ _ _ _ _)
    have hjob := Dev.startInternal_same ((((s.dev.lostPll t 0).onSpare t).fire (srcTile t 2)).corFault 5 t t 2)
      { op := 0x06, arg0 := t, total := 1, phase := 9 }
    have htile : ((s.dev.lostPll t 0).onSpare t).ln.tile.rd t = ((s.dev.ln.tile.rd t).lostPll 0).moved :=
      (Tab.rd_upd_same _ _ _).trans (congrArg TileSt.moved (Dev.lostPll_tile _ _ _))
    rw [show pllLockLoss t 0 s.dev = _ from pllLockLoss_of_spared h0 hon h1 hp hi,
      Dev.pllMove_of_off ((Dev.role_of_same (Dev.lostPll_same _ _ _) t).trans hr), hjob.ln, hjob.cont, hcor.ln, htile]
    exact ⟨rfl, rfl, (congrArg (bitAt · 5) (Dev.corFault_sets _ _ _ _ _)).trans (bitAt_setBit_same _ _), rfl,
      .then (.then (.then (.mono (Dev.lostPll_same _ _ _) (by decide)) (Dev.lnAny_same _ _)) hcor) hjob⟩

end Sys2Proof.Machine

/-! PROOF. The lane registers: the refutation of O31 (R157, R86). -/

namespace Sys2Proof.Machine

-- One theorem at a time, as in the tests: many at once would ask for more threads than the sandbox gives.
set_option Elab.async false

/-- A device in M10 whose H port 8, a downstream port of partition 0, has a link up. -/
def fatalTestDevice : Dev :=
  { mode := { base := .m10, authSel := 4 }
    run := { runMode := 3, switchId := 5, tile := [(0, { role := 1, rateMax := 4 }), (1, { role := 1, rateMax := 4 })],
             cut := [(0, 4), (8, 4)], part := [(0, { present := true, upstream := 0, down := 2 ^ 8 })] }
    pcie.port := [(8, { dlActive := true, width := 4, rate := 4 })] }


theorem fatalTestDevice_passes : WritePasses fatalTestDevice .ring (laneAddr 1 0 0x40) 1 := by decide +kernel

/-- LOOP takes the link down, a Surprise Down whose Fatal fault concerns tile 1, and in M10 that stops the tests of the tile. -/
theorem fatalTestDevice_loop : ((loopWrite .ring 1 0 1 fatalTestDevice).lane 1 0).loop ≠ 1 := by decide +kernel

/-- Refutes O31: a loop in M10 takes the link of a downstream H port down; its Surprise Down is a Fatal fault (R223), with which
the tests of the tile stop (R86), so that LOOP does not hold what was written. -/
theorem not_laneRegisters : ¬ Obligations.LaneRegisters := by
  unfold Obligations.LaneRegisters
  intro h
  obtain ⟨-, hloop, -⟩ := h { dev := fatalTestDevice } .ring 1 0 1 0 0 0 0 0 0
  obtain ⟨heq, -⟩ := (hloop fatalTestDevice_passes rfl (by decide)).holds rfl
  exact fatalTestDevice_loop heq

end Sys2Proof.Machine

/-! PROOF. The class of a received flit (R167, R171, R172, R174). -/

namespace Sys2Proof.Machine

-- One theorem at a time, as in the tests: many at once would ask for more threads than the sandbox gives.
set_option Elab.async false

/-! ### What every received flit does to its link -/

/-- The messages heard lately, one flit older. -/
def Link.aged (l : Link) : Link :=
  { l with recent := (l.recent.map (fun r => (r.1, r.2.1, r.2.2 + 1))).filter (fun r => decide (r.2.2 < 64)) }

def Link.corrected (n : Nat) (l : Link) : Link := { l with fecCorr := satAdd 32 l.fecCorr n }

def Link.uncorrectable (l : Link) : Link := { l with fecUncorr := satAdd 32 l.fecUncorr 1 }

def Link.unmatched (l : Link) : Link := { l with crcErr := satAdd 32 l.crcErr 1 }

def Link.early (l : Link) : Link := { l with ahead := satAdd 16 l.ahead 1 }

def Link.repeated (l : Link) : Link := { l with dup := satAdd 16 l.dup 1 }

def Link.acked (ack : Nat) (l : Link) : Link := { l with lastAck := ack }

def Link.raised (l : Link) : Link := { l with nakOut := true }

/-- The device whose FEC has corrected `n` symbols of a flit. -/
def Dev.decoded (d : Dev) (p n : Nat) : Dev :=
  ((d.setLink p Link.aged).setLink p (Link.corrected n)).countTile (portTile p) 0x0A (portSlot p) 0 n

theorem Dev.decoded_same (d : Dev) (p n : Nat) : SameBut (.ln :: accessBlocks) d (d.decoded p n) :=
  .then (.mono (.trans (Dev.setLink_same _ _ _) (Dev.setLink_same _ _ _)) (by decide)) (Dev.countTile_same _ _ _ _ _ _)

theorem Dev.decoded_link (d : Dev) (p n : Nat) : (d.decoded p n).link p = (d.link p).aged.corrected n := by
  rw [Dev.decoded, Dev.link_of_same (Dev.countTile_same _ _ _ _ _ _), Dev.link_setLink_same, Dev.link_setLink_same]

theorem Dev.raiseNak_same (d : Dev) (p : Nat) (f : Link → Link) : SameBut [.ln] d (d.raiseNak p f) := Dev.setLink_same _ _ _

theorem Dev.raiseNak_link (d : Dev) (p : Nat) (f : Link → Link) :
    (d.raiseNak p f).link p = (f (d.link p)).raised := Dev.link_setLink_same _ _ _

section
variable {d : Dev} {p : Fin 72} {f : RawFlit}

theorem Dev.flitReceive_of_uncorrectable (hS : d.isS p = true) (hst : (d.link p).state = 3)
    (hr : fecDecode (fecWord f.bytes) (if (d.link p).rate = 0 then [] else f.erased.take 4) = none) :
    d.flitReceive p f = (d.setLink p Link.aged).raiseNak p Link.uncorrectable := by
  unfold Dev.flitReceive
  extract_lets l d0
  rw [if_neg (by simp [hS, l, hst]), hr]
  rfl

/-- An intact flit is classed by its sequence. -/
theorem Dev.flitReceive_of_decoded {w : List Nat} {n : Nat} (hS : d.isS p = true) (hst : (d.link p).state = 3)
    (hr : fecDecode (fecWord f.bytes) (if (d.link p).rate = 0 then [] else f.erased.take 4) = some (w, n)) :
    d.flitReceive p f =
      if crc64Seed ((fecUnmsg w).take 232) (leAt (fecUnmsg w) 0xE8 8) < 4096 then
        (d.decoded p n).takeFlit p (fecUnmsg w) (crc64Seed ((fecUnmsg w).take 232) (leAt (fecUnmsg w) 0xE8 8))
      else (d.decoded p n).raiseNak p Link.unmatched := by
  unfold Dev.flitReceive
  extract_lets l d0
  rw [if_neg (by simp [hS, l, hst]), hr]
  rfl

end

/-! ### Fresh fields (R172, R173) -/

/-- With nothing outstanding an acknowledgement is noted and frees nothing. -/
theorem Dev.takeFresh_of_quiet {d : Dev} {p : Nat} (ack : Nat) (h : (d.link p).n = (d.link p).a) :
    (d.takeFresh p ack false).link p = (d.link p).acked ack ∧ SameBut [.ln] d (d.takeFresh p ack false) := by
  have hnone : ¬ seqSub ack (d.link p).a < seqSub (d.link p).n (d.link p).a := by
    rw [h]
    unfold seqSub
    omega
  unfold Dev.takeFresh
  dsimp only
  rw [if_neg hnone]
  exact ⟨Dev.link_setLink_same _ _ _, Dev.setLink_same _ _ _⟩

/-- The Fresh fields and the margin slot of a flit, acted on. -/
def Dev.fresh (d : Dev) (p : Fin 72) (bs : List Nat) : Dev :=
  (d.takeFresh p (FlitHdr.ofWord (leAt bs 0 8)).ackSeq (FlitHdr.ofWord (leAt bs 0 8)).nak).takeMargin p (Margin.ofBytes (slice bs 8 16))

section
variable {d : Dev} {p : Fin 72} {bs : List Nat}

/-- A flit that asks for nothing. -/
theorem Dev.fresh_of_quiet (hna : (d.link p).n = (d.link p).a) (hnak : (FlitHdr.ofWord (leAt bs 0 8)).nak = false)
    (hm : (Margin.ofBytes (slice bs 8 16)).type = 0) :
    (d.fresh p bs).link p = (d.link p).acked (FlitHdr.ofWord (leAt bs 0 8)).ackSeq ∧ SameBut [.ln] d (d.fresh p bs) := by
  have hquiet : d.fresh p bs = d.takeFresh p (FlitHdr.ofWord (leAt bs 0 8)).ackSeq false := by
    unfold Dev.fresh Dev.takeMargin
    dsimp only
    rw [if_pos hm, hnak]
  rw [hquiet]
  exact Dev.takeFresh_of_quiet _ hna

/-! ### The classes (R174) -/

theorem Dev.takeFlit_of_early {s : Nat} (h1 : 1 ≤ seqSub s (d.link p).e) (h2 : seqSub s (d.link p).e ≤ 1023) :
    d.takeFlit p bs s = (d.raiseNak p Link.early).fresh p bs := by
  unfold Dev.takeFlit
  dsimp only
  exact (if_neg (by omega)).trans (if_pos h2)

theorem Dev.takeFlit_of_repeated {s : Nat} (h : 3072 ≤ seqSub s (d.link p).e) (hk : (FlitHdr.ofWord (leAt bs 0 8)).kind = 1) :
    d.takeFlit p bs s = (d.setLink p Link.repeated).fresh p bs := by
  unfold Dev.takeFlit
  dsimp only
  rw [hk]
  exact (if_neg (by omega)).trans ((if_neg (by omega)).trans (if_pos h))

theorem Dev.takeFlit_of_next {s : Nat} (h : seqSub s (d.link p).e = 0) (hk : (FlitHdr.ofWord (leAt bs 0 8)).kind = 1)
    (hok : (FlitHdr.ofWord (leAt bs 0 8)).ok (slice bs 0x18 208) = true) (hon : ((d.fresh p bs).link p).state = 3) :
    d.takeFlit p bs s = (d.fresh p bs).takeStored p (FlitHdr.ofWord (leAt bs 0 8)) (slice bs 0x18 208) := by
  unfold Dev.takeFlit
  extract_lets l hdr gap chunks fresh on d1
  have hd : d1 = d.fresh p bs := rfl
  rw [if_pos h, if_neg (by simp [chunks, hdr, hok]), hd]
  exact if_pos (by simp [hdr, on, hk, hon])

end

/-! ### An accepted flit without chunks (R172) -/

theorem Dev.rxPackets_of_short {d : Dev} {p v : Nat} (h : ((d.link p).rx.rd v).length < 16) (n : Nat) : d.rxPackets n p v = d := by
  cases n with
  | zero => rfl
  | succ n =>
    unfold Dev.rxPackets
    exact if_pos h

theorem Dev.auditCheck_of_none {d : Dev} {p : Nat} (h : (d.link p).auditIn = none) : d.auditCheck p = d := by
  unfold Dev.auditCheck
  dsimp only
  rw [h]

/-- A receive stream that nothing joins stays empty. -/
theorem Tab.rd_upd_append_nil {α : Type} [DecidableEq α] (t : Tab (List α)) (i j : Nat) : (t.upd i (· ++ [])).rd j = t.rd j := by
  by_cases h : j = i
  · subst h
    rw [Tab.rd_upd_same, List.append_nil]
  · exact Tab.rd_upd_other _ _ _ _ h

section
variable {d : Dev} {p : Nat} {h : FlitHdr} {chunks : List Nat}

theorem Dev.takeStored_of_empty (hf : h.fill = 0) (hs : h.split = 0) (hu : 0 < h.crUnits)
    (hrx : (d.link p).rx = []) (hau : (d.link p).auditIn = none) :
    SameBut [.ln] d (d.takeStored p h chunks) ∧ ((d.takeStored p h chunks).link p).nakOut = false ∧
    ((d.takeStored p h chunks).link p).e = ((d.link p).e + 1) % 4096 ∧
    ((d.takeStored p h chunks).link p).avail = (d.link p).avail.upd h.crVc (· + h.crUnits) := by
  unfold Dev.takeStored
  extract_lets charge d1
  have hlink : d1.link p = _ := Dev.link_setLink_same _ _ _
  have hshort (v : Nat) : ((d1.link p).rx.rd v).length < 16 := by
    rw [hlink]
    dsimp only
    rw [hf, hs, hrx]
    simp only [Nat.mul_zero, Nat.sub_zero, slice, List.range_zero, List.map_nil]
    rw [Tab.rd_upd_append_nil, Tab.rd_upd_append_nil]
    exact Nat.zero_lt_succ 15
  rw [Dev.rxPackets_of_short (hshort _), Dev.rxPackets_of_short (hshort _), Dev.auditCheck_of_none (by rw [hlink]; dsimp only [Link.corrected, Link.aged]; exact hau), hlink]
  exact ⟨Dev.setLink_same _ _ _, rfl, rfl, if_neg (by omega)⟩

end

/-! ### The row -/

theorem FlitHdr.split_le_fill {h : FlitHdr} {chunks : List Nat} (hok : h.ok chunks = true) : h.split ≤ h.fill := by
  simp only [FlitHdr.ok, Bool.and_eq_true, decide_eq_true_eq] at hok
  omega

/-- On a device whose register requests and hub are empty the row is the flit's own effect. -/
theorem flitReceive_of_idle {d : Dev} {bs : List Block} {p : Fin 72} {f : RawFlit} (hr : d.sw.regIn = []) (hh : d.sw.hubIn = [])
    (hsame : SameBut bs d (d.flitReceive p f)) (hs : .sw ∉ bs := by decide) : flitReceive p f d = d.flitReceive p f :=
  Dev.settleIn_of_empty (by rw [hsame.sw hs]; exact hr) (by rw [hsame.sw hs]; exact hh)

/-- Settles O32. -/
theorem flitClasses : Obligations.FlitClasses := by
  unfold Obligations.FlitClasses
  intro s p f hd hS hst hreg hhub l r
  refine ⟨fun hr => Gives.of_onDev rfl ?uncorrectable, fun w n hr => ?_⟩
  case uncorrectable =>
    have hrow := Dev.flitReceive_of_uncorrectable hS hst hr
    have hsame : SameBut [.ln] s.dev (s.dev.flitReceive p f) := by
      rw [hrow]
      exact .trans (Dev.setLink_same _ _ _) (Dev.raiseNak_same _ _ _)
    rw [Dev.lanesIn_of_die hd, flitReceive_of_idle hreg hhub hsame]
    rw [hrow] at hsame ⊢
    rw [Dev.raiseNak_link, Dev.link_setLink_same]
    exact ⟨rfl, rfl, rfl, hsame⟩
  intro bs q h
  have hdec := s.dev.decoded_same p n
  have hlink := s.dev.decoded_link p n
  have hrow : s.dev.flitReceive p f = if q < 4096 then (s.dev.decoded p n).takeFlit p bs q
    else (s.dev.decoded p n).raiseNak p Link.unmatched := Dev.flitReceive_of_decoded hS hst hr
  clear_value q bs
  refine ⟨fun hq => Gives.of_onDev rfl ?unmatched, fun hq hna hnak hm => ⟨fun h1 h2 => Gives.of_onDev rfl ?early,
    fun h1 hk => Gives.of_onDev rfl ?repeated, fun he hk hf _ _ hok hrx hau hu => Gives.of_onDev rfl ?next⟩⟩
  case unmatched =>
    rw [if_neg (Nat.not_lt.2 hq)] at hrow
    have hsame : SameBut (.ln :: accessBlocks) s.dev (s.dev.flitReceive p f) := by
      rw [hrow]
      exact .then hdec (Dev.raiseNak_same _ _ _)
    rw [Dev.lanesIn_of_die hd, flitReceive_of_idle hreg hhub hsame]
    rw [hrow] at hsame ⊢
    rw [Dev.raiseNak_link, hlink]
    dsimp only [Link.raised, Link.unmatched, Link.corrected, Link.aged]
    exact ⟨rfl, rfl, rfl, hsame⟩
  case early =>
    rw [if_pos hq, Dev.takeFlit_of_early (by rw [hlink]; dsimp only [Link.corrected, Link.aged]; exact h1) (by rw [hlink]; dsimp only [Link.corrected, Link.aged]; exact h2)] at hrow
    have hnak' := Dev.raiseNak_link (s.dev.decoded p n) p Link.early
    have hfresh := Dev.fresh_of_quiet (d := (s.dev.decoded p n).raiseNak p Link.early) (p := p) (bs := bs)
      (by rw [hnak', hlink]; dsimp only [Link.raised, Link.early, Link.corrected, Link.aged]; exact hna) hnak hm
    have hsame : SameBut (.ln :: accessBlocks) s.dev (s.dev.flitReceive p f) := by
      rw [hrow]
      exact .then (.then hdec (Dev.raiseNak_same _ _ _)) hfresh.2
    rw [Dev.lanesIn_of_die hd, flitReceive_of_idle hreg hhub hsame]
    rw [hrow] at hsame ⊢
    rw [hfresh.1, hnak', hlink]
    dsimp only [Link.acked, Link.raised, Link.early, Link.corrected, Link.aged]
    exact ⟨rfl, rfl, rfl, rfl, hsame⟩
  case repeated =>
    rw [if_pos hq, Dev.takeFlit_of_repeated (by rw [hlink]; dsimp only [Link.corrected, Link.aged]; exact h1) hk] at hrow
    have hdup := Dev.link_setLink_same (s.dev.decoded p n) p Link.repeated
    have hfresh := Dev.fresh_of_quiet (d := (s.dev.decoded p n).setLink p Link.repeated) (p := p) (bs := bs)
      (by rw [hdup, hlink]; dsimp only [Link.repeated, Link.corrected, Link.aged]; exact hna) hnak hm
    have hsame : SameBut (.ln :: accessBlocks) s.dev (s.dev.flitReceive p f) := by
      rw [hrow]
      exact .then (.then hdec (Dev.setLink_same _ _ _)) hfresh.2
    rw [Dev.lanesIn_of_die hd, flitReceive_of_idle hreg hhub hsame]
    rw [hrow] at hsame ⊢
    rw [hfresh.1, hdup, hlink]
    dsimp only [Link.acked, Link.repeated, Link.corrected, Link.aged]
    exact ⟨rfl, rfl, rfl, rfl, hsame⟩
  case next =>
    have hfresh := Dev.fresh_of_quiet (d := s.dev.decoded p n) (p := p) (bs := bs) (by rw [hlink]; dsimp only [Link.corrected, Link.aged]; exact hna) hnak hm
    have hnext : seqSub q ((s.dev.decoded p n).link p).e = 0 := by
      rw [hlink, show ((s.dev.link p).aged.corrected n).e = q from he.symm, seqSub]
      omega
    have hsplit : h.split = 0 := by
      have hle := FlitHdr.split_le_fill hok
      omega
    rw [if_pos hq, Dev.takeFlit_of_next hnext hk hok (by rw [hfresh.1, hlink]; dsimp only [Link.acked, Link.corrected, Link.aged]; exact hst)] at hrow
    have hstored := Dev.takeStored_of_empty (d := (s.dev.decoded p n).fresh p bs) (p := p) (h := h) (chunks := slice bs 0x18 208)
      hf hsplit hu (by rw [hfresh.1, hlink]; dsimp only [Link.acked, Link.corrected, Link.aged]; exact hrx) (by rw [hfresh.1, hlink]; dsimp only [Link.acked, Link.corrected, Link.aged]; exact hau)
    obtain ⟨hframe, hnakOut, hE, havail⟩ := hstored
    have hsame : SameBut (.ln :: accessBlocks) s.dev (s.dev.flitReceive p f) := by
      rw [hrow]
      exact .then (.then hdec hfresh.2) hframe
    rw [Dev.lanesIn_of_die hd, flitReceive_of_idle hreg hhub hsame]
    rw [hrow] at hsame ⊢
    rw [hnakOut, hE, havail, hfresh.1, hlink]
    dsimp only [Link.acked, Link.corrected, Link.aged]
    exact ⟨rfl, rfl, Tab.rd_upd_same _ _ _, fun v hv => Tab.rd_upd_other _ _ _ _ hv, hsame⟩

end Sys2Proof.Machine

/-! PROOF. Sending flits: the refutation of O33 (R255). -/

namespace Sys2Proof.Machine

-- One theorem at a time, as in the tests: many at once would ask for more threads than the sandbox gives.
set_option Elab.async false

/-- A device with S port 8 UP and nothing to send, whose staging arbiter still holds a deficit of VC 0 from the last packet. -/
def deficitDevice : Dev :=
  { mode := { base := .m3, authSel := 4 }
    run := { runMode := 3, switchId := 5, tile := [(0, { role := 1, rateMax := 4 }), (1, { role := 2, rateMax := 1 })],
             cut := [(0, 4), (8, 4)], part := [(0, { present := true, upstream := 0, down := 0 })] }
    ln := { link := [(8, { state := 3 })] }
    sw.drr := [(72, { cur := 0, left := [(0, 5)] })] }

/-- A VC with nothing to send keeps no deficit (R255), so that the arbiter of the port changes. -/
theorem deficitDevice_drr : (flitSend 8 deficitDevice).sw.drr ≠ deficitDevice.sw.drr := by decide +kernel

/-- Refutes O33: the flit that a port with nothing to send lets go takes the deficit that its arbiter held for a VC, which
lies outside the links. -/
theorem not_flitSending : ¬ Obligations.FlitSending := by
  unfold Obligations.FlitSending
  intro h
  obtain ⟨hidle, -⟩ := h { dev := deficitDevice } 8 (by decide +kernel) (by decide +kernel) (by decide +kernel) (by decide +kernel)
    (by decide +kernel) (by decide +kernel)
  obtain ⟨-, -, -, -, hsame⟩ := (hidle (by decide +kernel) (by decide +kernel)).holds rfl
  exact deficitDevice_drr (congrArg SwSt.drr hsame.sw)

end Sys2Proof.Machine

/-! PROOF. A link that goes down with a cut-through packet in it: the refutation of O34 and O35 (R391). -/

namespace Sys2Proof.Machine

-- One theorem at a time, as in the tests: many at once would ask for more threads than the sandbox gives.
set_option Elab.async false

/-- A device with S port 8 in state `st`, part of a packet in its receive stream, of which one cell is between the tiles and
the rest still to come: an access in flight of Boundary epoch 1. -/
def cutDevice (st : Nat) : Dev :=
  { mode := { base := .m3, authSel := 4 }
    run := { runMode := 3, switchId := 5, tile := [(0, { role := 1, rateMax := 4 }), (1, { role := 2, rateMax := 1 })],
             cut := [(0, 4), (8, 4)], part := [(0, { present := true, upstream := 0, down := 0 })] }
    ln := { link := [(8, { state := st, rx := [(0, [0])] })] }
    sw := { writing := [(64, 2)], unconf := [{ tile := 1, pkt := { ing := 8, epoch := some 1 } }] }
    bnd := { epoch := 1, flight := [(1, 1)] } }

/-- The packet ends with the link, and its access leaves flight. -/
theorem cutDevice_linkDown : (peerTimeout 8 (cutDevice 4)).bnd.flight ≠ (cutDevice 4).bnd.flight := by decide +kernel

/-- Refutes O34: a link that goes down cuts off the packet that is coming in, whose access leaves the Boundary epoch that it
was counted in. -/
theorem not_linkDownCauses : ¬ Obligations.LinkDownCauses := by
  unfold Obligations.LinkDownCauses
  intro h
  obtain ⟨-, hdown, -⟩ := h { dev := cutDevice 4 } 8 (by decide +kernel)
  obtain ⟨-, -, -, -, -, -, -, -, -, hsame⟩ := (hdown (.peerTimeout 8, 9) (by simp) (by decide) (by decide) (fun _ => rfl)
    rfl rfl rfl (by decide +kernel)).holds rfl
  exact cutDevice_linkDown (congrArg BndSt.flight hsame.bnd)

/-- So it ends when an INIT of another width takes the link down. -/
theorem cutDevice_init : (init 8 0 0 1 0 7 (cutDevice 2)).bnd.flight ≠ (cutDevice 2).bnd.flight := by decide +kernel

/-- Refutes O35: an INIT of another width takes the link down, and with it the packet that is coming in, whose access leaves
the Boundary epoch that it was counted in. -/
theorem not_linkBringUp : ¬ Obligations.LinkBringUp := by
  unfold Obligations.LinkBringUp
  intro h
  obtain ⟨-, -, hdown, -⟩ := h { dev := cutDevice 2 } 8 0 0 0 []
  obtain ⟨-, -, -, hsame⟩ := (hdown rfl (by decide +kernel) rfl rfl rfl).holds rfl
  exact cutDevice_init (congrArg BndSt.flight hsame.bnd)

end Sys2Proof.Machine

/-! PROOF. The exchanges of the margin slot: the refutation of O36 (R119, R195). -/

namespace Sys2Proof.Machine

-- One theorem at a time, as in the tests: many at once would ask for more threads than the sandbox gives.
set_option Elab.async false

/-- A device with S port 64 UP whose request for a width change waits for its answer, as an internal job of slot 5. -/
def widthDevice : Dev :=
  { mode := { base := .m3, authSel := 4 }
    run := { runMode := 3, switchId := 5, tile := [(0, { role := 1, rateMax := 4 }), (8, { role := 2, rateMax := 1 })],
             cut := [(0, 4), (64, 4)], part := [(0, { present := true, upstream := 0, down := 0 })] }
    jobs.slot := [(5, { state := .running, internal := true, op := 0x0B, arg0 := 64, phase := 1 })]
    ln := { link := [(64, { state := 3, ex := [{ msg := { type := 0x22, body := 65536 }, flits := 16 }] })] } }

theorem widthDevice_jobs : widthDevice.portJobs 64 0x0B = [(5, widthDevice.jobs.slot.rd 5)] := by decide +kernel

/-- The slot of an internal job is free once the job has ended (R119). -/
theorem widthDevice_refused : ((widthAck 64 1 true widthDevice).jobs.slot.rd 5).state = .free := by decide +kernel

/-- Refutes O36: a refusal of a width request ends its job, and the slot of an internal one is released and reads FREE. -/
theorem not_marginExchanges : ¬ Obligations.MarginExchanges := by
  unfold Obligations.MarginExchanges
  intro h
  obtain ⟨-, -, -, -, -, -, hwidth, -⟩ := h { dev := widthDevice } 64 0 0 1 0 0 {} {} (by decide +kernel) (by decide +kernel)
  obtain ⟨-, hrefused, -⟩ := hwidth (by decide +kernel)
  have hjobs : (5, widthDevice.jobs.slot.rd 5) ∈ widthDevice.portJobs 64 0x0B := by
    rw [widthDevice_jobs]
    exact List.mem_singleton_self _
  obtain ⟨hfailed, -⟩ := (hrefused _ hjobs widthDevice_jobs).holds rfl
  exact absurd (widthDevice_refused.symm.trans hfailed) (by decide)

end Sys2Proof.Machine

/-! PROOF. Registers of a tile block, and the holding of a Sherix port (R199, R200, Table 6.13). -/

namespace Sys2Proof.Machine

-- One theorem at a time, as in the tests: many at once would ask for more threads than the sandbox gives.
set_option Elab.async false

/-! ### Decode of a tile block (Tables 16.1 and 16.2) -/

/-- A write to the block of tile `t`. -/
theorem Dev.regWrite_tile (d : Dev) (c : CmdPort) {t o : Nat} (ht : t < 9) (ho : o < 0x100000) (v : Nat) :
    d.regWrite c (0x100000 + 0x100000 * t + o) v = d.tileWrite c t o v := by
  have hidx : (0x100000 + 0x100000 * t + o) / 0x100000 - 1 = t := by omega
  have hoff : (0x100000 + 0x100000 * t + o) % 0x100000 = o := by omega
  rw [Dev.regWrite]
  iterate 3 rw [if_neg (by omega)]
  rw [if_pos (by omega), hidx, hoff]

/-- A register of the block of tile `t`. -/
theorem Dev.regAttr_tile (d : Dev) (c : CmdPort) {t o : Nat} (ht : t < 9) (ho : o < 0x100000) :
    d.regAttr c (0x100000 + 0x100000 * t + o) = d.tileAttr t o := by
  have hidx : (0x100000 + 0x100000 * t + o) / 0x100000 - 1 = t := by omega
  have hoff : (0x100000 + 0x100000 * t + o) % 0x100000 = o := by omega
  rw [Dev.regAttr]
  iterate 3 rw [if_neg (by omega)]
  rw [if_pos (by omega), hidx, hoff]

theorem portTile_slot (x : Fin 72) : 8 * portTile x + portSlot x = x.val := by
  unfold portTile portSlot
  omega

theorem portTile_lt (x : Fin 72) : portTile x < 9 := by
  unfold portTile
  omega

theorem portSlot_lt (x : Nat) : portSlot x < 8 := by
  unfold portSlot
  omega

/-- SX_CTRL of port `x`, as a register. -/
theorem Dev.regAttr_sxCtrl (d : Dev) (c : CmdPort) (x : Fin 72) : (d.regAttr c (sherixAddr x 0x04)).form ≠ .wide := by
  have hs := portSlot_lt x
  have hoff : (0xA000 + 0x200 * portSlot x + 4) % 0x200 = 4 := by omega
  rw [show sherixAddr x 4 = 0x100000 + 0x100000 * portTile x + (0xA000 + 0x200 * portSlot x + 4) by unfold sherixAddr; omega,
    Dev.regAttr_tile d c (portTile_lt x) (by omega), Dev.tileAttr, hoff]
  rw [if_neg (show ¬ 0xA000 + 0x200 * portSlot x + 4 < 0x4800 by omega),
    if_neg (show ¬ (0xA000 + 0x200 * portSlot x + 4 = 0x6000 ∨ 0xA000 + 0x200 * portSlot x + 4 = 0x6004) by omega),
    if_pos (show 0xA000 ≤ 0xA000 + 0x200 * portSlot x + 4 ∧ 0xA000 + 0x200 * portSlot x + 4 < 0xB000 by omega)]
  split
  · decide
  · split
    · simp [sherixAttr, attrRW]
    · decide

theorem Dev.regWrite_sxCtrl (d : Dev) (c : CmdPort) (x : Fin 72) (v : Nat) :
    d.regWrite c (sherixAddr x 0x04) v = d.writeSxCtrl x v := by
  have hs := portSlot_lt x
  have hslot : (0xA000 + 0x200 * portSlot x + 4 - 0xA000) / 0x200 = portSlot x := by omega
  have hoff : (0xA000 + 0x200 * portSlot x + 4) % 0x200 = 4 := by omega
  rw [show sherixAddr x 4 = 0x100000 + 0x100000 * portTile x + (0xA000 + 0x200 * portSlot x + 4) by unfold sherixAddr; omega,
    Dev.regWrite_tile d c (portTile_lt x) (by omega), Dev.tileWrite, if_neg (by omega), if_pos (by omega), hslot, portTile_slot,
    hoff, Dev.sherixWrite]
  exact if_pos rfl

/-- A write of SX_CTRL that passes its checks. -/
theorem Dev.write4_sxCtrl {d : Dev} {c : CmdPort} {x : Fin 72} {v : Nat} (h : WritePasses d c (sherixAddr x 0x04) v)
    (hv : v < 2 ^ 32) : d.write4 c (sherixAddr x 0x04) v = (d.countMgmt 0x74 c.code 1).writeSxCtrl x v := by
  rw [Dev.write4_word h (Dev.regAttr_sxCtrl _ _ _) hv, Dev.regWrite_sxCtrl]

/-- The bits of SX_CTRL with one of them written. -/
theorem sxCtrl_withBit (hold auto admin b : Bool) :
    let v := pack [(2, b2n hold), (1, b2n auto), (0, b2n admin)]
    (withBit v 0 b < 2 ^ 32 ∧ bitAt (withBit v 0 b) 0 = b ∧ bitAt (withBit v 0 b) 1 = auto ∧ bitAt (withBit v 0 b) 2 = hold) ∧
    (withBit v 2 b < 2 ^ 32 ∧ bitAt (withBit v 2 b) 0 = admin ∧ bitAt (withBit v 2 b) 1 = auto ∧ bitAt (withBit v 2 b) 2 = b) := by
  revert hold auto admin b
  decide

/-! ### The holds of a port -/

/-- Nothing is released on a port that is not HELD. -/
theorem Dev.unhold_of_not_held {d : Dev} {p : Nat} (h : (d.link p).state ≠ 5) : d.unhold_ p = d := if_neg (fun k => h k.1)

/-- A bit of AUTO_DEGRADE and one of HOLD_DOWN written. -/
def Dev.heldBits (d : Dev) (p : Nat) (auto hold : Bool) : Dev :=
  (d.setLink p (fun l => { l with autoDegrade := auto })).setLink p (fun l => { l with holdDown := hold })

/-- The link with those bits. -/
def Link.withHold (auto hold : Bool) (l : Link) : Link := { l with autoDegrade := auto, holdDown := hold }

theorem Dev.heldBits_same (d : Dev) (p : Nat) (auto hold : Bool) : SameBut [.ln] d (d.heldBits p auto hold) :=
  .trans (Dev.setLink_same _ _ _) (Dev.setLink_same _ _ _)

theorem Dev.heldBits_link (d : Dev) (p : Nat) (auto hold : Bool) : (d.heldBits p auto hold).link p = (d.link p).withHold auto hold := by
  rw [Dev.heldBits, Dev.link_setLink_same, Dev.link_setLink_same]
  rfl

theorem Dev.writeSxCtrl_eq (d : Dev) (p v : Nat) :
    d.writeSxCtrl p v = ((d.heldBits p (bitAt v 1) (bitAt v 2)).unhold_ p).setAdminDown p (bitAt v 0) := rfl

/-- A link that ADMIN_DOWN holds. -/
def Link.shut (l : Link) : Link := { l with adminDown := true, state := 5, lastCause := 7 }

theorem Dev.lanesOff_links (d : Dev) (p : Nat) : Keeps Dev.links d (d.lanesOff p) := by
  unfold Dev.lanesOff
  exact .foldl _ (fun _ _ => Dev.setLane_links _ _ _ _) _ _

/-- ADMIN_DOWN on a port in training. -/
theorem Dev.setAdminDown_of_training {d : Dev} {p : Nat} (hst : (d.link p).state = 1) (ha : (d.link p).adminDown = false) :
    (d.setAdminDown p true).link p = (d.link p).shut ∧ SameBut [.ln] d (d.setAdminDown p true) := by
  unfold Dev.setAdminDown
  extract_lets was d1
  have hlink : d1.link p = { d.link p with adminDown := true } := Dev.link_setLink_same _ _ _
  rw [if_pos (by simp [was, ha]), if_pos (by rw [hlink]; exact hst), (Dev.lanesOff_links _ _).link, Dev.link_setLink_same, hlink]
  exact ⟨rfl, .trans (.trans (Dev.setLink_same _ _ _) (Dev.setLink_same _ _ _)) (Dev.lanesOff_same _ _)⟩

/-- ADMIN_DOWN = 0 where it was 0, on a port that is not HELD. -/
theorem Dev.setAdminDown_of_clear {d : Dev} {p : Nat} (hst : (d.link p).state ≠ 5) :
    (d.setAdminDown p false).link p = { d.link p with adminDown := false } ∧ SameBut [.ln] d (d.setAdminDown p false) := by
  have hlink : (d.setLink p (fun l => { l with adminDown := false })).link p = { d.link p with adminDown := false } := Dev.link_setLink_same _ _ _
  have hrow : d.setAdminDown p false = d.setLink p (fun l => { l with adminDown := false }) :=
    Dev.unhold_of_not_held (by rw [hlink]; exact hst)
  rw [hrow, hlink]
  exact ⟨rfl, Dev.setLink_same _ _ _⟩

/-! ### A port that trains again (R199) -/

theorem Dev.beginLane_links (d : Dev) (t n p logical : Nat) : Keeps Dev.links d (d.beginLane t n p logical) :=
  .trans (Dev.setLane_links _ _ _ _) (Dev.sendLane_links _ _ _ _)

/-- The link of a port whose training begins. -/
def Link.training (l : Link) : Link := { l with state := 1, width := 0, trainFailed := false }

theorem Dev.startTraining_link (d : Dev) (p : Nat) : (d.startTraining p).link p = (d.link p).training := by
  unfold Dev.startTraining
  extract_lets t spares ln d0 d1 d2
  have hlanes : Keeps Dev.links d1 d2 := by
    unfold d2
    exact .foldl _ (fun _ _ => .ite (.refl _ _) (Dev.beginLane_links _ _ _ _ _)) _ _
  rw [Keeps.link (.foldl _ (fun _ _ => .ite (.refl _ _) (.ite (Dev.beginLane_links _ _ _ _ _) (Dev.beginLane_links _ _ _ _ _))) _ _),
    hlanes.link, Dev.link_setLink_same]
  rfl

theorem Dev.retrain_link (d : Dev) (p : Nat) : (d.retrain p).link p = (d.link p).training := by
  rw [Dev.retrain, Dev.link_of_same (Dev.startInternal_same _ _), Dev.startTraining_link]

/-- A HELD port that nothing holds any more trains again. -/
theorem Dev.unhold_of_free {d : Dev} {p : Nat} (hst : (d.link p).state = 5) (hh : (d.link p).heldDown 0 = false) :
    d.unhold_ p = d.retrain p := if_pos ⟨hst, hh⟩

/-- Settles O37. -/
theorem portHolds : Obligations.PortHolds := by
  unfold Obligations.PortHolds
  intro s p x
  have hbits := sxCtrl_withBit (s.dev.link x).holdDown (s.dev.link x).autoDegrade (s.dev.link x).adminDown
  have hcount := Dev.countMgmt_same s.dev 0x74 p.code 1
  have hlink := Dev.link_of_same hcount x
  refine ⟨fun h hst ha => Gives.of_onDev rfl ?shut, fun h hst ha => Gives.of_onDev rfl ?held, fun h hst ha hb hf => Gives.of_onDev rfl ?freed⟩
  case shut =>
    obtain ⟨⟨hv, h0, h1, h2⟩, -⟩ := hbits true
    have hwith := Dev.heldBits_link (s.dev.countMgmt 0x74 p.code 1) x (s.dev.link x).autoDegrade (s.dev.link x).holdDown
    rw [hlink] at hwith
    have hshut := Dev.setAdminDown_of_training (d := (s.dev.countMgmt 0x74 p.code 1).heldBits x (s.dev.link x).autoDegrade (s.dev.link x).holdDown)
      (p := x) (by rw [hwith]; exact hst) (by rw [hwith]; exact ha)
    have hrow : adminDown p x true s.dev = ((s.dev.countMgmt 0x74 p.code 1).heldBits x (s.dev.link x).autoDegrade (s.dev.link x).holdDown).setAdminDown x true := by
      rw [adminDown, Dev.write4_sxCtrl h hv, Dev.writeSxCtrl_eq]
      unfold Dev.sxCtrl
      rw [h0, h1, h2, Dev.unhold_of_not_held (by rw [hwith]; exact fun k => by simp [Link.withHold, hst] at k)]
    rw [hrow, hshut.1]
    exact ⟨rfl, rfl, rfl, .then (.then (.mono hcount (by decide)) (Dev.heldBits_same _ _ _ _)) hshut.2⟩
  case held =>
    obtain ⟨-, hv, h0, h1, h2⟩ := hbits true
    have hwith := Dev.heldBits_link (s.dev.countMgmt 0x74 p.code 1) x (s.dev.link x).autoDegrade true
    rw [hlink] at hwith
    have hup : ((s.dev.link x).withHold (s.dev.link x).autoDegrade true).state ≠ 5 := by
      rw [show ((s.dev.link x).withHold _ true).state = _ from hst]
      decide
    have hclear := Dev.setAdminDown_of_clear (d := (s.dev.countMgmt 0x74 p.code 1).heldBits x (s.dev.link x).autoDegrade true)
      (p := x) (by rw [hwith]; exact hup)
    have hrow : holdDown p x true s.dev = ((s.dev.countMgmt 0x74 p.code 1).heldBits x (s.dev.link x).autoDegrade true).setAdminDown x false := by
      rw [holdDown, Dev.write4_sxCtrl h hv, Dev.writeSxCtrl_eq]
      unfold Dev.sxCtrl
      rw [h0, h1, h2, ha, Dev.unhold_of_not_held (by rw [hwith]; exact hup)]
    rw [hrow, hclear.1, hwith]
    exact ⟨rfl, hst, rfl, .then (.then (.mono hcount (by decide)) (Dev.heldBits_same _ _ _ _)) hclear.2⟩
  case freed =>
    obtain ⟨-, hv, h0, h1, h2⟩ := hbits false
    have hwith := Dev.heldBits_link (s.dev.countMgmt 0x74 p.code 1) x (s.dev.link x).autoDegrade false
    rw [hlink] at hwith
    have hfree : ((s.dev.link x).withHold (s.dev.link x).autoDegrade false).heldDown 0 = false := by
      simp [Link.heldDown, Link.withHold, ha, hb, hf]
    have htrain := Dev.retrain_link ((s.dev.countMgmt 0x74 p.code 1).heldBits x (s.dev.link x).autoDegrade false) x
    rw [hwith] at htrain
    have hclear := Dev.setAdminDown_of_clear (d := ((s.dev.countMgmt 0x74 p.code 1).heldBits x (s.dev.link x).autoDegrade false).retrain x)
      (p := x) (by rw [htrain]; exact Nat.ne_of_lt (by decide : 1 < 5))
    have hrow : holdDown p x false s.dev = (((s.dev.countMgmt 0x74 p.code 1).heldBits x (s.dev.link x).autoDegrade false).retrain x).setAdminDown x false := by
      rw [holdDown, Dev.write4_sxCtrl h hv, Dev.writeSxCtrl_eq]
      unfold Dev.sxCtrl
      rw [h0, h1, h2, ha, Dev.unhold_of_free (by rw [hwith]; exact hst) (by rw [hwith]; exact hfree)]
    rw [hrow, hclear.1, htrain]
    exact ⟨rfl, rfl, .then (.then (.then (.mono hcount (by decide)) (Dev.heldBits_same _ _ _ _)) (Dev.retrain_same _ _)) hclear.2⟩

end Sys2Proof.Machine

/-! PROOF. Links of a PCI Express port: the refutation of O38 (R215, R231). -/

namespace Sys2Proof.Machine

-- One theorem at a time, as in the tests: many at once would ask for more threads than the sandbox gives.
set_option Elab.async false

/-- A device with H port 8, a downstream port of partition 0 with no partner, whose host has enabled the interrupt of
Presence Detect Changed: Slot Control bits 3 and 5, MSI Enable, and Bus Master Enable in both bridges. -/
def hotPlugDevice : Dev :=
  { mode := { base := .m3, authSel := 4 }
    run := { runMode := 3, switchId := 5, tile := [(0, { role := 1, rateMax := 4 }), (1, { role := 1, rateMax := 4 })],
             cut := [(0, 4), (8, 4)], part := [(0, { present := true, upstream := 0, down := 2 ^ 8 })] }
    pcie.cfg := [(cfgKey (fnUp 0) 1, 4), (cfgKey (fnDown 0 8) 1, 4), (cfgKey (fnDown 0 8) 18, 2 ^ 16), (cfgKey (fnDown 0 8) 30, 40)] }


/-- The message goes to the engine link toward the host. -/
theorem hotPlugDevice_message : (receiverDetection 8 hotPlugDevice).sw.eng ≠ hotPlugDevice.sw.eng := by decide +kernel

/-- Refutes O38: where the host has enabled it, receiver detection sends the MSI of Presence Detect Changed, which the
switch core carries. -/
theorem not_pcieLinks : ¬ Obligations.PcieLinks := by
  unfold Obligations.PcieLinks
  intro h
  obtain ⟨-, -, -, -, hdetect, -⟩ := h { dev := hotPlugDevice } .ring 8 0 0 0 0 false false (by decide +kernel) (by decide +kernel)
  obtain ⟨-, -, -, hsame⟩ := (hdetect (by decide +kernel) (by decide +kernel)).holds rfl
  exact hotPlugDevice_message (congrArg SwSt.eng hsame.sw)

end Sys2Proof.Machine

/-! PROOF. TLPs at a PCI Express port: the refutation of O39 (R255). -/

namespace Sys2Proof.Machine

-- One theorem at a time, as in the tests: many at once would ask for more threads than the sandbox gives.
set_option Elab.async false

/-- A completion that is said to take 5,000 cells, all of them in staging. -/
def longStaged : Staged := { got := 5000, pkt := { dst := 8, cls := 2, cells := 5000, body := .tlp { kind := .cpl } } }

/-- A device whose H port 8 holds that completion. -/
def longDevice : Dev :=
  { mode := { base := .m3, authSel := 4 }
    run := { runMode := 3, switchId := 5, tile := [(0, { role := 1, rateMax := 4 }), (1, { role := 1, rateMax := 4 })],
             cut := [(0, 4), (8, 4)], part := [(0, { present := true, upstream := 0, down := 2 ^ 8 })] }
    pcie.port := [(8, { dlActive := true, width := 4, rate := 4 })]
    sw.staging := [(64, [longStaged])] }

/-- In its rounds the arbiter gives a VC 81 quanta of 16 cells at most, which the completion exceeds: it stays. -/
theorem longDevice_stays : (tlpTransmit 8 [0, 0, 0, 0, 1, 0] longDevice).sw.staging.rd (8 * (8 : Fin 72).val + 0) ≠ [] := by decide +kernel

theorem longDevice_staging (u : Nat) (hu : u < 8) :
    longDevice.sw.staging.rd (8 * 8 + u) = if u = 0 then [longStaged] else [] := by
  revert u
  decide +kernel

/-- Refutes O39: the arbiter of an egress port passes a packet only within the cells of its rounds, so that a longer one
stays in staging whatever credits the partner has. -/
theorem not_pcieTraffic : ¬ Obligations.PcieTraffic := by
  unfold Obligations.PcieTraffic
  intro h
  obtain ⟨-, -, -, hsend, -⟩ := h { dev := longDevice } 8 0 { kind := .cpl } 0 0 [0, 0, 0, 0, 1, 0] (by decide +kernel)
    (by decide +kernel) (by decide +kernel) rfl rfl
  have hmem : longStaged ∈ longDevice.sw.staging.rd (8 * 8 + 0) := by
    rw [longDevice_staging 0 (by decide)]
    exact List.mem_singleton_self _
  obtain ⟨hcovered, -⟩ := hsend longStaged hmem (by decide +kernel) (by decide) longDevice_staging (by decide +kernel) rfl rfl rfl (by decide +kernel)
    (by decide +kernel)
  obtain ⟨-, hempty, -⟩ := (hcovered (by decide +kernel)).holds (f := tlpTransmit 8 [0, 0, 0, 0, 1, 0]) rfl
  rw [show ({ dev := longDevice } : State).dev = longDevice from rfl] at hempty
  exact longDevice_stays hempty

end Sys2Proof.Machine

/-! PROOF. The rows that drop a write with a record, under a filter that keeps nothing below an Error: the refutation of O40,
O47, O48 and O49 (R430). -/

namespace Sys2Proof.Machine

-- One theorem at a time, as in the tests: many at once would ask for more threads than the sandbox gives.
set_option Elab.async false

/-- A device in M3, with its H port 8 and the service device of partition 0, whose log filters every record below an Error;
queue 3 of its PF is idle, and no read slot is open. -/
def filterDevice : Dev :=
  { mode := { base := .m3, authSel := 4 }
    run := { runMode := 3, switchId := 5, tile := [(0, { role := 1, rateMax := 4 }), (1, { role := 1, rateMax := 4 })],
             cut := [(0, 4), (8, 4)], part := [(0, { present := true, upstream := 0, down := 2 ^ 8 })], pfMsix := 4 }
    trav := { fn := [(0, { state := 1 })], q := [(3, { state := 1 })] }
    pcie.cfg := [(cfgKey fnPf 1, 6), (cfgKey (fnEngine 0) 1, 6)]
    cairn.minSeverity := 3 }

theorem filterDevice_pcfg : (pcfgAccess .ring 8 7 filterDevice).cairn.queue = [] := by decide +kernel

/-- Refutes O40: a PCFG access of a port that is not shared is dropped, and its Warning is filtered. -/
theorem not_sharedPorts : ¬ Obligations.SharedPorts := by
  unfold Obligations.SharedPorts
  intro h
  obtain ⟨-, -, -, -, -, -, hdrop, -⟩ := h { dev := filterDevice } .ring 8 0 0 7 0 0 (by decide +kernel)
  obtain ⟨-, ⟨r, hr, -⟩, -⟩ := (hdrop (by decide +kernel) (by decide +kernel) rfl).holds rfl
  rw [show ({ dev := filterDevice } : State).dev = filterDevice from rfl, filterDevice_pcfg] at hr
  exact List.not_mem_nil hr

theorem filterDevice_cqHeadRow : (cqHeadRow 0 3 65535 filterDevice).cairn.queue = [] := by decide +kernel

/-- Refutes O47: a CQ_HEAD out of range is dropped, and its Warning is filtered. -/
theorem not_traverseQueues : ¬ Obligations.TraverseQueues := by
  unfold Obligations.TraverseQueues
  intro h
  obtain ⟨-, -, -, -, -, -, -, -, hdrop, -⟩ := h { dev := filterDevice } 0 3 65535 (by decide +kernel) (by decide +kernel)
    (by decide +kernel) (by decide +kernel) (by decide +kernel)
  obtain ⟨-, ⟨r, hr, -⟩, -⟩ := (hdrop (by decide +kernel) (by decide +kernel) rfl).holds rfl
  rw [show ({ dev := filterDevice } : State).dev = filterDevice from rfl, filterDevice_cqHeadRow] at hr
  exact List.not_mem_nil hr

theorem filterDevice_late : (engineReadCompletion 0 0 [] 0 false filterDevice).cairn.queue = [] := by decide +kernel

/-- Refutes O48: a late completion is counted, and its Note is filtered. -/
theorem not_traverseEngines : ¬ Obligations.TraverseEngines := by
  unfold Obligations.TraverseEngines
  intro h
  obtain ⟨-, -, -, -, -, -, hlate, -⟩ := h { dev := filterDevice } 0 0 0 {} 0 0 [] 0 0
  obtain ⟨-, ⟨r, hr, -⟩, -⟩ := (hlate (by decide +kernel) (by decide +kernel) rfl).holds rfl
  rw [show ({ dev := filterDevice } : State).dev = filterDevice from rfl, filterDevice_late] at hr
  exact List.not_mem_nil hr

theorem filterDevice_vfEnable : (vfEnable 0 65535 true filterDevice).cairn.queue = [] := by decide +kernel

/-- Refutes O49: VF Enable with NumVFs above TotalVFs is ignored, and its Warning is filtered. -/
theorem not_functions : ¬ Obligations.Functions := by
  unfold Obligations.Functions
  intro h
  obtain ⟨-, -, henable, -⟩ := h { dev := filterDevice } 0 0 65535 0
  obtain ⟨-, habove, -⟩ := henable (by decide +kernel) (by decide +kernel)
  obtain ⟨-, ⟨r, hr, -⟩, -⟩ := (habove (by decide +kernel) rfl).holds rfl
  rw [show ({ dev := filterDevice } : State).dev = filterDevice from rfl, filterDevice_vfEnable] at hr
  exact List.not_mem_nil hr

end Sys2Proof.Machine

/-! PROOF. Cells between the tiles: the refutation of O41 (R257, R296). -/

namespace Sys2Proof.Machine

-- One theorem at a time, as in the tests: many at once would ask for more threads than the sandbox gives.
set_option Elab.async false

/-- A fabric packet of one cell for H port 7 on a VC that no port has, 8: its place in staging is that of VC 0 of port 8. -/
def strayCell : Cell := { pkt := { dst := 7, vc := 8, cells := 1, body := .fab {} } }

/-- A device whose S port 8 is down, with that cell between the tiles. -/
def strayDevice : Dev :=
  { mode := { base := .m3, authSel := 4 }
    run := { runMode := 3, switchId := 5, tile := [(0, { role := 1, rateMax := 4 }), (1, { role := 2, rateMax := 1 })],
             cut := [(0, 4), (8, 4)], part := [(0, { present := true, upstream := 0, down := 0 })] }
    sw.unconf := [strayCell] }

/-- The packet is whole in the staging of a link that is down, and is injected again. -/
theorem strayDevice_arrival :
    ((cellArrival 0 0 true strayDevice).sw.staging.rd (8 * 7 + 8)).map (fun x => (x.pkt.id, x.got)) ≠ [(0, 1)] := by
  decide +kernel

/-- Refutes O41: a cell of a VC above 7 goes into the staging of another port, and does not stay there when that port's link is
down. -/
theorem not_cellRecovery : ¬ Obligations.CellRecovery := by
  unfold Obligations.CellRecovery
  intro h
  obtain ⟨hcell, -⟩ := h { dev := strayDevice } 0 0 0 strayCell rfl rfl
  obtain ⟨-, hnext, -⟩ := hcell rfl rfl rfl
  obtain ⟨-, -, -, -, hstaged, -⟩ := (hnext rfl rfl rfl (by decide +kernel) rfl).holds rfl
  exact strayDevice_arrival hstaged

end Sys2Proof.Machine

/-! PROOF. The scan for aged packets: the refutation of O42 (R265, R268). -/

namespace Sys2Proof.Machine

-- One theorem at a time, as in the tests: many at once would ask for more threads than the sandbox gives.
set_option Elab.async false

/-- A posted packet of one cell from port 0 to port 8. -/
def agedPkt : Pkt := { ing := 0, dst := 8, cells := 1, wr := 1, body := .tlp {} }

/-- A device whose H port 8 has the number of that packet, which is past its limit, as the one that its link has begun. -/
def begunDevice : Dev :=
  { now := 2 ^ 26
    mode := { base := .m3, authSel := 4 }
    run := { runMode := 3, switchId := 5, tile := [(0, { role := 1, rateMax := 4 }), (1, { role := 1, rateMax := 4 })],
             cut := [(0, 4), (8, 4)], part := [(0, { present := true, upstream := 0, down := 2 ^ 8 })] }
    ln := { link := [(8, { txPkt := [(0, 1)] })] }
    sw.voq := [(voqKey 0 8 0, [agedPkt])] }

/-- The packet ends on its link and is not counted. -/
theorem begunDevice_scan : ((ageingScan 0 begunDevice).ing 0).agedLossless = 0 := by decide +kernel

/-- Refutes O42: a packet that a link has begun ends there when it has aged, and the scan does not count it; that its port is no
S port does not exclude this in every state. -/
theorem not_cellTimes : ¬ Obligations.CellTimes := by
  unfold Obligations.CellTimes
  intro h
  obtain ⟨-, -, -, -, hage⟩ := h { dev := begunDevice } 0 0 0 {} agedPkt (voqKey 0 8 0)
  obtain ⟨haged, -⟩ := hage rfl rfl rfl rfl rfl (by decide +kernel) (by decide +kernel) rfl (by decide) rfl (by decide +kernel) rfl rfl
  obtain ⟨-, hcount, -⟩ := (haged (by decide +kernel)).holds rfl
  rw [show ({ dev := begunDevice } : State).dev = begunDevice from rfl] at hcount
  have hone : ((ageingScan 0 begunDevice).ing 0).agedLossless = 1 := hcount.trans (by decide +kernel)
  rw [begunDevice_scan] at hone
  exact absurd hone (by decide)

end Sys2Proof.Machine

/-! PROOF. A fabric packet that arrives: the refutation of O43 (R284). -/

namespace Sys2Proof.Machine

-- One theorem at a time, as in the tests: many at once would ask for more threads than the sandbox gives.
set_option Elab.async false

/-- A posted packet for switch 6 that has no hop left. -/
def spentPkt : FPkt := { kind := 1, dest := 6, src := 7 }

/-- A device whose S port 8 is UP, with a packet of port 8 in a VOQ that has the number of the next packet already. -/
def numberedDevice : Dev :=
  { mode := { base := .m3, authSel := 4 }
    run := { runMode := 3, switchId := 5, tile := [(0, { role := 1, rateMax := 4 }), (1, { role := 2, rateMax := 1 })],
             cut := [(0, 4), (8, 4)], part := [(0, { present := true, upstream := 0, down := 0 })] }
    ln := { link := [(8, { state := 3 })] }
    sw.voq := [(voqKey 1 0 0, [{ ing := 8 }])] }

/-- The link is owed nothing for the expired packet. -/
theorem numberedDevice_receive : ((fabricPacketReceive 8 spentPkt numberedDevice).link 8).debts = [] := by decide +kernel

/-- Refutes O43: whether a packet has been queued is told by its number, so that in a state where a queued packet has the next
number already, an expired one passes for queued and its credit is not owed back. -/
theorem not_fabricArrival : ¬ Obligations.FabricArrival := by
  unfold Obligations.FabricArrival
  intro h
  obtain ⟨-, -, -, -, hexpired, -⟩ := h { dev := numberedDevice } 8 spentPkt 0 (by decide +kernel) rfl rfl rfl
  obtain ⟨hdebts, -⟩ := (hexpired ⟨rfl, rfl, by decide +kernel, by decide⟩ (by decide) rfl (by decide) (by decide)).holds rfl
  rw [show ({ dev := numberedDevice } : State).dev = numberedDevice from rfl] at hdebts
  have hnil := numberedDevice_receive.symm.trans hdebts
  rw [show (numberedDevice.link (8 : Fin 72)).debts = [] by decide +kernel] at hnil
  exact absurd hnil (by simp)

end Sys2Proof.Machine

/-! PROOF. The fabric registers: the refutation of O45 (R316). -/

namespace Sys2Proof.Machine

-- One theorem at a time, as in the tests: many at once would ask for more threads than the sandbox gives.
set_option Elab.async false

/-- A read of SWITCH_ID by switch 9, at level 3. -/
def idRequest : FPkt := { kind := 0x10, dest := 5, src := 9, addr := 0xC00004, reqF := 3 * 4 }

/-- A device whose S port 64 leads to switch 9, and whose switch ID is wider than its register. -/
def wideIdDevice : Dev :=
  { mode := { base := .m3, authSel := 4, released := true, pwrgd := true, rstN := true }
    run := { runMode := 3, switchId := 2 ^ 32, tile := [(1, { role := 1 }), (8, { role := 2 })], cut := [(8, 3), (64, 4)] }
    ln := { link := [(64, { state := 3 })] }
    fab.bearing := [(9, 192)] }

theorem wideIdDevice_passes : ReadPasses (wideIdDevice.setPort (.far 9) (fun y => { y with farLevel := fld idRequest.reqF 2 2 })) (.far 9) 0xC00004 := by
  decide +kernel

theorem wideIdDevice_way : wideIdDevice.wayOf wideIdDevice.run.switchId 9 7 = .port 64 := by decide +kernel

/-- Byte `i` of the payload of a fabric packet. -/
def Body.payloadByte (i : Nat) : Body → Nat
  | .fab f => f.payload.getD i 0
  | .tlp _ => 0

/-- The answer carries the 32 bits of the register. -/
theorem wideIdDevice_answer : ((regRequest idRequest wideIdDevice).sw.eng.rd (voqKey (portTile 64) 64 7)).map (fun x => x.body.payloadByte 4) = [0] := by
  decide +kernel

/-- Refutes O45: SWITCH_ID is read as 32 bits, so that in a state with a wider switch ID the answer does not hold all of it. -/
theorem not_fabricRegisters : ¬ Obligations.FabricRegisters := by
  unfold Obligations.FabricRegisters
  intro h
  obtain ⟨-, -, -, -, -, -, -, -, -, -, -, hreq⟩ := h { dev := wideIdDevice } .ring false idRequest 64
  obtain ⟨hwaits, -⟩ := (hreq (.far 9) rfl rfl (by decide +kernel) (by decide +kernel) rfl rfl rfl (by decide +kernel)
    wideIdDevice_passes (by decide) wideIdDevice_way).holds rfl
  have hbytes := congrArg (List.map (fun x : Pkt => x.body.payloadByte 4)) hwaits
  rw [show ({ dev := wideIdDevice } : State).dev = wideIdDevice from rfl] at hbytes
  have hzero := wideIdDevice_answer.symm.trans hbytes
  revert hzero
  decide +kernel

end Sys2Proof.Machine

/-! PROOF. Commits of counters: the refutation of O53 (R32, R450). -/

namespace Sys2Proof.Machine

-- One theorem at a time, as in the tests: many at once would ask for more threads than the sandbox gives.
set_option Elab.async false

/-- A device whose counter 0 has a commit that was accepted in the tick MCLK cycle. -/
def lateDevice : Dev := { cnt := { tab := [(0, { pend := some (5, 0), late := true })] } }

/-- Refutes O53: the commit of a counter that was accepted in the tick MCLK cycle waits for the next boundary, so that it has not
taken effect after this one. -/
theorem not_eventsAndCounters : ¬ Obligations.EventsAndCounters := by
  unfold Obligations.EventsAndCounters
  intro h
  obtain ⟨-, -, -, -, heffect, -⟩ := h {} .ring 0 0 0 0 0
  obtain ⟨hsel, -⟩ := heffect lateDevice (5, 0) rfl rfl
  exact absurd hsel (by decide)

end Sys2Proof.Machine

/-! PROOF. The sideband (R460, Table 15.3). -/

namespace Sys2Proof.Machine

-- One theorem at a time, as in the tests: many at once would ask for more threads than the sandbox gives.
set_option Elab.async false

section
variable {d : Dev}

/-! ### Running a command -/

theorem Dev.sbRun_off (h : d.regOn = false) (pec : Bool) (f : Dev → Dev) : d.sbRun pec f = d := by
  simp [Dev.sbRun, h]

theorem Dev.sbRun_wrong (h : d.regOn = true) (f : Dev → Dev) : d.sbRun false f = d.sbAnswer 8 [] := by
  simp [Dev.sbRun, h]

theorem Dev.sbRun_right (h : d.regOn = true) (f : Dev → Dev) : d.sbRun true f = f d := by
  simp [Dev.sbRun, h]

/-- `e` is `x` with the sideband's offset at `o` and a command answered with status `st` and `data`. -/
def SbAnswered (x e : Dev) (o st : Nat) (data : List Nat) : Prop :=
  e.portSt .sideband = { x.portSt .sideband with offset := o } ∧ e.bus = { x.bus with sbStatus := st } ∧
    e.out = x.shown [.response CmdPort.sideband.key st data] ∧ (∀ q : CmdPort, q.key ≠ CmdPort.sideband.key → e.portSt q = x.portSt q) ∧
    SameBut [.bus, .port] x e

theorem Dev.portSt_setPort_same (x : Dev) (p : CmdPort) (f : PortSt → PortSt) : (x.setPort p f).portSt p = f (x.portSt p) :=
  Tab.rd_upd_same _ _ _

theorem Dev.portSt_setPort_other (x : Dev) {p q : CmdPort} (f : PortSt → PortSt) (h : q.key ≠ p.key) :
    (x.setPort p f).portSt q = x.portSt q :=
  Tab.rd_upd_other _ _ _ _ h

theorem Dev.sbAnswer_same (x : Dev) (st : Nat) (data : List Nat) : SameBut [.bus] x (x.sbAnswer st data) :=
  SameBut.then (by simp [sameBut_iff]) (Dev.emit_same _ _)

theorem Dev.sbAnswer_portSt (x : Dev) (st : Nat) (data : List Nat) (q : CmdPort) : (x.sbAnswer st data).portSt q = x.portSt q := rfl

/-- An answer alone leaves the offset. -/
theorem Dev.sbAnswer_answered (x : Dev) (st : Nat) (data : List Nat) :
    SbAnswered x (x.sbAnswer st data) (x.portSt .sideband).offset st data :=
  ⟨rfl, rfl, rfl, fun _ _ => rfl, (Dev.sbAnswer_same _ _ _).mono (by decide)⟩

/-- An answer after the offset has been set. -/
theorem Dev.setSbOffset_answered (x : Dev) (o st : Nat) (data : List Nat) :
    SbAnswered x ((x.setSbOffset o).sbAnswer st data) (o % 2 ^ 32) st data :=
  ⟨(Dev.sbAnswer_portSt _ _ _ _).trans (Dev.portSt_setPort_same x .sideband _), rfl, rfl,
    fun _ hq => (Dev.sbAnswer_portSt _ _ _ _).trans (Dev.portSt_setPort_other x _ hq),
    SameBut.trans ((Dev.setPort_same _ _ _).mono (by decide)) ((Dev.sbAnswer_same _ _ _).mono (by decide))⟩

/-! ### Dynamic addresses -/

theorem Dev.assignAddress_off (h : d.regOn = false) (a : Nat) : d.assignAddress a = d := by
  simp [Dev.assignAddress, h]

/-- The controller's address goes to a target that has none. -/
theorem Dev.assignAddress_on (h : d.regOn = true) (a : Nat) :
    (d.assignAddress a).bus = { d.bus with sbDynamic := some (d.bus.sbDynamic.getD a) } ∧ SameBut [.bus] d (d.assignAddress a) := by
  unfold Dev.assignAddress
  cases hdyn : d.bus.sbDynamic with
  | none =>
    rw [if_pos (by simp [h])]
    exact ⟨rfl, by simp [sameBut_iff]⟩
  | some b =>
    rw [if_neg (by simp)]
    exact ⟨congrArg (fun x => { d.bus with sbDynamic := x }) hdyn, SameBut.refl _ _⟩

theorem rstdaa_on (h : d.regOn = true) :
    (rstdaa d).bus = { d.bus with sbDynamic := none } ∧ SameBut [.bus] d (rstdaa d) := by
  rw [rstdaa, if_pos h]
  exact ⟨rfl, by simp [sameBut_iff]⟩

end

/-- Settles O54: each command runs only with the register fabric on and a right PEC, and answers after its accesses. -/
theorem sideband : Obligations.Sideband := by
  unfold Obligations.Sideband
  intro s a v bs pec h d off cmds answered
  refine ⟨fun hoff c hc => ?off, fun hon => ⟨fun c hc => ?wrong, Gives.of_onDev rfl ?offset, Gives.of_onDev rfl ?read, Gives.of_onDev rfl ?write,
    fun h4 hlo hhi => Gives.of_onDev rfl ?block, Gives.of_onDev rfl ?status, fun c hc => ?assign, Gives.of_onDev rfl ?release⟩⟩
  case off =>
    simp only [cmds, List.cons_append, List.nil_append, List.mem_cons, List.not_mem_nil, or_false] at hc
    rcases hc with rfl | rfl | rfl | rfl | rfl | rfl | rfl | rfl
    · exact Gives.of_onDev rfl (Dev.sbRun_off hoff _ _)
    · exact Gives.of_onDev rfl (Dev.sbRun_off hoff _ _)
    · exact Gives.of_onDev rfl (Dev.sbRun_off hoff _ _)
    · exact Gives.of_onDev rfl (Dev.sbRun_off hoff _ _)
    · exact Gives.of_onDev rfl (Dev.sbRun_off hoff _ _)
    · exact Gives.of_onDev rfl (Dev.assignAddress_off hoff _)
    · exact Gives.of_onDev rfl (Dev.assignAddress_off hoff _)
    · exact Gives.of_onDev rfl (if_neg (ne_true_of_eq_false hoff))
  case wrong =>
    have hbad (f : Dev → Dev) : SbAnswered d (d.sbRun false f) off 8 [] := by
      rw [Dev.sbRun_wrong hon]
      exact Dev.sbAnswer_answered _ _ _
    simp only [cmds, List.mem_cons, List.not_mem_nil, or_false] at hc
    rcases hc with rfl | rfl | rfl | rfl | rfl
    · exact Gives.of_onDev rfl (hbad _)
    · exact Gives.of_onDev rfl (hbad _)
    · exact Gives.of_onDev rfl (hbad _)
    · exact Gives.of_onDev rfl (hbad _)
    · exact Gives.of_onDev rfl (hbad _)
  case offset =>
    rw [sbSetOffset, Dev.sbRun_right hon]
    exact Dev.setSbOffset_answered _ _ _ _
  case read =>
    rw [sbRead, Dev.sbRun_right hon]
    exact Dev.setSbOffset_answered _ _ _ _
  case write =>
    rw [sbWrite, Dev.sbRun_right hon]
    exact Dev.setSbOffset_answered _ _ _ _
  case block =>
    rw [sbWriteBlock, Dev.sbRun_right hon, if_pos ⟨h4, hlo, hhi⟩]
    exact Dev.setSbOffset_answered _ _ _ _
  case status =>
    rw [sbGetStatus, Dev.sbRun_right hon]
    exact ⟨rfl, Dev.emit_same _ _⟩
  case assign =>
    simp only [List.mem_cons, List.not_mem_nil, or_false] at hc
    rcases hc with rfl | rfl
    · exact Gives.of_onDev rfl (Dev.assignAddress_on hon _)
    · exact Gives.of_onDev rfl (Dev.assignAddress_on hon _)
  case release =>
    exact rstdaa_on hon

end Sys2Proof.Machine

/-! PROOF. Frames of the service ring (R461 to R464, R501, R502). -/

namespace Sys2Proof.Machine

-- One theorem at a time, as in the tests: many at once would ask for more threads than the sandbox gives.
set_option Elab.async false

section
variable {d : Dev} {pair type hops : Nat} {ok : Bool} {body : Nat → List Nat} {f : Dev → Dev}

/-! ### A frame at the die -/

/-- In the bypass position a frame leaves as it came. -/
theorem Dev.ringFrameIn_of_bypass (h : d.pkg.srDie = false) :
    (d.ringFrameIn pair type hops ok body f).out = .ring pair (ringFrame type (body hops)) :: d.out ∧
      SameBut [] d (d.ringFrameIn pair type hops ok body f) := by
  rw [Dev.ringFrameIn, Dev.ringIn_of_bypass h]
  exact ⟨rfl, by simp [sameBut_iff]⟩

/-- A die whose management fabric is off does nothing with a frame. -/
theorem Dev.ringFrameIn_of_off (h : d.pkg.srDie = true) (hoff : d.ringOn = false) : d.ringFrameIn pair type hops ok body f = d := by
  simp [Dev.ringFrameIn, Dev.ringIn, h, hoff]

theorem Dev.hears_of_ringOn (h : d.pkg.srDie = true) (hon : d.ringOn = true) : Hears d := by
  simp only [Dev.ringOn, Bool.and_eq_true] at hon
  exact ⟨h, hon.2⟩

/-- A frame with a wrong CRC-32 is counted. -/
theorem Dev.ringFrameIn_of_bad (h : d.pkg.srDie = true) (hon : d.ringOn = true) :
    d.ringFrameIn pair type hops false body f = d.ringBad pair := by
  rw [Dev.ringFrameIn, Dev.ringIn_of_hears (Dev.hears_of_ringOn h hon)]
  simp [hon]

/-- The die acts on an intact frame. -/
theorem Dev.ringFrameIn_of_ok (h : d.pkg.srDie = true) (hon : d.ringOn = true) :
    d.ringFrameIn pair type hops true body f = f d := by
  rw [Dev.ringFrameIn, Dev.ringIn_of_hears (Dev.hears_of_ringOn h hon)]
  simp [hon]

/-- A damaged frame changes the counter of its pair. -/
theorem Dev.ringBad_spec (d : Dev) (pair : Nat) :
    (if pair = 0 then (d.ringBad pair).bus = { d.bus with ringErr0 := satAdd 16 d.bus.ringErr0 1 }
      else (d.ringBad pair).bus = { d.bus with ringErr1 := satAdd 16 d.bus.ringErr1 1 }) ∧ SameBut [.bus] d (d.ringBad pair) := by
  unfold Dev.ringBad
  split
  · exact ⟨rfl, by simp [sameBut_iff]⟩
  · exact ⟨rfl, by simp [sameBut_iff]⟩

/-- A frame goes on with HOPS one less, or ends. -/
theorem Dev.ringForward_spec (d : Dev) (pair type hops : Nat) (body : Nat → List Nat) :
    (2 ≤ hops → (d.ringForward pair type hops body).out = d.shown [.ring pair (ringFrame type (body (hops - 1)))]) ∧
      (hops ≤ 1 → (d.ringForward pair type hops body).out = d.out) ∧ SameBut [] d (d.ringForward pair type hops body) := by
  unfold Dev.ringForward
  split
  next h => exact ⟨fun h2 => by omega, fun _ => rfl, SameBut.refl _ _⟩
  next h => exact ⟨fun _ => rfl, fun h1 => absurd h1 h, Dev.emit_same _ _⟩

/-! ### COMMAND, RESPONSE and ALARM -/

variable {c : RingCmd} {op : Nat} {run : Dev → Dev × List Nat × Nat}

theorem Dev.ringCommand_of_bad (h : d.pkg.srDie = true) (hon : d.ringOn = true) (hc : c.crcOk = false) :
    d.ringCommand pair c op run = d.ringBad pair := by
  rw [Dev.ringCommand, hc]
  exact Dev.ringFrameIn_of_bad h hon

/-- A COMMAND for this Haldion runs, and a RESPONSE goes out in its place. -/
theorem Dev.ringCommand_of_mine (h : d.pkg.srDie = true) (hon : d.ringOn = true) (hc : c.crcOk = true) (hm : d.ringMine c.dest = true) :
    d.ringCommand pair c op run =
      if (run d).1.regOn then (run d).1.emit (.ring pair (ringFrame 0x11 (ringBody (run d).1.ringId c.origin 4095 c.seq (run d).2.2 c.offset (run d).2.1)))
      else (run d).1 := by
  rw [Dev.ringCommand, hc, Dev.ringFrameIn_of_ok h hon, if_pos hm]

/-- Any other COMMAND is forwarded. -/
theorem Dev.ringCommand_of_other (h : d.pkg.srDie = true) (hon : d.ringOn = true) (hc : c.crcOk = true) (hm : d.ringMine c.dest = false) :
    d.ringCommand pair c op run = d.ringForward pair 0x10 c.hops (fun h => ringBody c.dest c.origin h c.seq op c.offset (c.data.map BitVec.toNat)) := by
  rw [Dev.ringCommand, hc, Dev.ringFrameIn_of_ok h hon, if_neg (ne_true_of_eq_false hm)]

end

/-- The device with one ALARM counted. -/
def Dev.alarmed (d : Dev) : Dev := { d with bus.ringAlarms := satAdd 32 d.bus.ringAlarms 1 }

/-- An ALARM is counted, and forwarded unless it is the Haldion's own. -/
theorem Dev.countAlarm_spec (d : Dev) (pair sw source hops : Nat) :
    let body := fun h => toLe 2 sw ++ toLe 2 source ++ toLe 2 h ++ [0, 0]
    let e := if d.alarmed.inRunOrTest && sw == d.alarmed.run.switchId then d.alarmed else d.alarmed.ringForward pair 0x18 hops body
    e.bus = { d.bus with ringAlarms := satAdd 32 d.bus.ringAlarms 1 } ∧
      (d.inRunOrTest = true → sw = d.run.switchId → e.out = d.out) ∧
      ((d.inRunOrTest = false ∨ sw ≠ d.run.switchId) →
        (2 ≤ hops → e.out = d.shown [.ring pair (ringFrame 0x18 (body (hops - 1)))]) ∧ (hops ≤ 1 → e.out = d.out)) ∧
      SameBut [.bus] d e := by
  intro body e
  have hcount : SameBut [.bus] d d.alarmed := by simp [sameBut_iff, Dev.alarmed]
  obtain ⟨hgo, hend, hsame⟩ := Dev.ringForward_spec d.alarmed pair 0x18 hops body
  by_cases hown : (d.inRunOrTest && sw == d.run.switchId) = true
  · have he : e = d.alarmed := if_pos hown
    simp only [Bool.and_eq_true, beq_iff_eq] at hown
    obtain ⟨hrun, hsw⟩ := hown
    rw [he]
    exact ⟨rfl, fun _ _ => rfl, fun h => by simp [hrun, hsw] at h, hcount⟩
  · have he : e = d.alarmed.ringForward pair 0x18 hops body := if_neg hown
    rw [he]
    exact ⟨hsame.bus, fun h1 h2 => by simp [h1, h2] at hown, fun _ => ⟨hgo, hend⟩, hcount.then hsame⟩

/-- The COMMAND rows, each with its OP. -/
def ringCommands (pair : Fin 2) (c : RingCmd) : List (Nat × Instr) :=
  [(0, .ringRead32 pair c), (1, .ringWrite32 pair c), (2, .ringRead64 pair c), (3, .ringWrite64 pair c), (4, .ringWriteBlock pair c)]

/-- The access that each OP makes: its data and its code. -/
def Dev.ringAccess (d : Dev) (c : RingCmd) (op : Nat) : Dev × List Nat × Nat :=
  if op = 0 then d.ringRead c 4 else if op = 1 then d.ringWrite c 4 else if op = 2 then d.ringRead c 8
  else if op = 3 then d.ringWrite c 8 else
    let x := d.writeWords .ring c.offset (dwordsOf (c.data.length / 4) (c.data.map BitVec.toNat))
    (x.1, [], x.2)

/-- Each row is a COMMAND, which makes the access of its OP when its length is one that the OP takes. -/
theorem exec_ringCommands {pair : Fin 2} {c : RingCmd} {x : Nat × Instr} (hx : x ∈ ringCommands pair c) :
    ∃ run : Dev → Dev × List Nat × Nat, (∀ s, exec x.2 s = .next (s.onDev (fun d => d.ringCommand pair c x.1 run))) ∧
      ((x.1 = 4 → c.data.length % 4 = 0 ∧ c.data.length ≤ 256) → ∀ d, run d = d.ringAccess c x.1) := by
  simp only [ringCommands, List.mem_cons, List.not_mem_nil, or_false] at hx
  rcases hx with rfl | rfl | rfl | rfl | rfl
  · exact ⟨fun e => e.ringRead c 4, fun _ => rfl, fun _ _ => rfl⟩
  · exact ⟨fun e => e.ringWrite c 4, fun _ => rfl, fun _ _ => rfl⟩
  · exact ⟨fun e => e.ringRead c 8, fun _ => rfl, fun _ _ => rfl⟩
  · exact ⟨fun e => e.ringWrite c 8, fun _ => rfl, fun _ _ => rfl⟩
  · exact ⟨_, fun _ => rfl, fun hlen _ => if_pos (hlen rfl)⟩

/-- Settles O55: each frame goes through the package switch, the die's reach and its CRC-32 in turn; what is left is the
Haldion's own, or goes on. -/
theorem serviceRing : Obligations.ServiceRing := by
  unfold Obligations.ServiceRing
  intro s pair c code ok sw source hops d access cmds bad passes
  refine ⟨fun hdie => ⟨fun x hx => ?bypassCommand, Gives.of_onDev rfl ?bypassResponse, Gives.of_onDev rfl ?bypassAlarm⟩,
    fun hdie hoff i hi => ?off, fun hdie hon => ⟨fun hc i hi => ?bad, Gives.of_onDev rfl ?badAlarm, fun hc hm x hx hlen => ?mine,
      fun hc hm x hx => ?other, fun hc hne => Gives.of_onDev rfl ?response, fun hc heq => Gives.of_onDev rfl ?own, Gives.of_onDev rfl ?alarm⟩⟩
  case bypassCommand =>
    obtain ⟨run, hrow, -⟩ := exec_ringCommands hx
    exact Gives.of_onDev (hrow s) (Dev.ringFrameIn_of_bypass hdie)
  case bypassResponse => exact Dev.ringFrameIn_of_bypass hdie
  case bypassAlarm => exact Dev.ringFrameIn_of_bypass hdie
  case off =>
    rcases List.mem_append.mp hi with hcmd | hrest
    · obtain ⟨x, hx, rfl⟩ := List.mem_map.mp hcmd
      obtain ⟨run, hrow, -⟩ := exec_ringCommands hx
      refine Gives.of_onDev (hrow s) ?_
      rw [Dev.ringCommand]
      exact Dev.ringFrameIn_of_off hdie hoff
    · simp only [List.mem_cons, List.not_mem_nil, or_false] at hrest
      rcases hrest with rfl | rfl
      · refine Gives.of_onDev rfl ?_
        rw [ringResponse]
        exact Dev.ringFrameIn_of_off hdie hoff
      · refine Gives.of_onDev rfl ?_
        rw [ringAlarm]
        exact Dev.ringFrameIn_of_off hdie hoff
  case bad =>
    rcases List.mem_cons.mp hi with rfl | hcmd
    · refine Gives.of_onDev rfl ?_
      have heq : ringResponse pair c code d = d.ringBad pair := by
        rw [ringResponse, hc]
        exact Dev.ringFrameIn_of_bad hdie hon
      rw [heq]
      exact Dev.ringBad_spec _ _
    · obtain ⟨x, hx, rfl⟩ := List.mem_map.mp hcmd
      obtain ⟨run, hrow, -⟩ := exec_ringCommands hx
      refine Gives.of_onDev (hrow s) ?_
      rw [Dev.ringCommand_of_bad hdie hon hc]
      exact Dev.ringBad_spec _ _
  case badAlarm =>
    rw [ringAlarm, Dev.ringFrameIn_of_bad hdie hon]
    exact Dev.ringBad_spec _ _
  case mine =>
    obtain ⟨run, hrow, hrun⟩ := exec_ringCommands hx
    refine Gives.of_onDev (hrow s) ?_
    rw [Dev.ringCommand_of_mine hdie hon hc hm, hrun hlen]
    rfl
  case other =>
    obtain ⟨run, hrow, -⟩ := exec_ringCommands hx
    refine Gives.of_onDev (hrow s) ?_
    rw [Dev.ringCommand_of_other hdie hon hc hm]
    obtain ⟨hgo, hend, hsame⟩ := Dev.ringForward_spec s.dev pair 0x10 c.hops (fun h => ringBody c.dest c.origin h c.seq x.1 c.offset (c.data.map BitVec.toNat))
    exact ⟨⟨hgo, hend⟩, hsame⟩
  case response =>
    rw [ringResponse, hc, Dev.ringFrameIn_of_ok hdie hon, if_neg hne]
    obtain ⟨hgo, hend, hsame⟩ := Dev.ringForward_spec s.dev pair 0x11 c.hops (fun h => ringBody c.dest c.origin h c.seq code c.offset (c.data.map BitVec.toNat))
    exact ⟨⟨hgo, hend⟩, hsame⟩
  case own =>
    rw [ringResponse, hc, Dev.ringFrameIn_of_ok hdie hon, if_pos heq]
  case alarm =>
    rw [ringAlarm, Dev.ringFrameIn_of_ok hdie hon]
    exact Dev.countAlarm_spec s.dev pair sw source hops

end Sys2Proof.Machine

/-! PROOF. One register access (R8 to R11, R13, R14, R74, R81, R466). -/

namespace Sys2Proof.Machine

-- One theorem at a time, as in the tests: many at once would ask for more threads than the sandbox gives.
set_option Elab.async false

/-! ### Without routes nothing leaves when an event fires -/

/-- From a device whose sources have no route, `e` still has none and has sent nothing. -/
def Unrouted (d e : Dev) : Prop := d.evt.route = [] → e.evt.route = [] ∧ e.out = d.out

theorem Unrouted.refl (d : Dev) : Unrouted d d := fun h => ⟨h, rfl⟩

theorem Unrouted.trans {d e f : Dev} (h : Unrouted d e) (k : Unrouted e f) : Unrouted d f := fun hd =>
  have ⟨he, ho⟩ := h hd
  have ⟨hf, ho'⟩ := k he
  ⟨hf, ho'.trans ho⟩

theorem Unrouted.of_eq {d e : Dev} (hr : e.evt.route = d.evt.route) (ho : e.out = d.out) : Unrouted d e := fun h => ⟨hr.trans h, ho⟩

theorem Unrouted.ite {d e f : Dev} {c : Prop} [Decidable c] (h : Unrouted d e) (k : Unrouted d f) : Unrouted d (if c then e else f) := by
  split
  · exact h
  · exact k

theorem Unrouted.foldl {α : Type} (f : Dev → α → Dev) (h : ∀ x a, Unrouted x (f x a)) (l : List α) (d : Dev) :
    Unrouted d (l.foldl f d) := by
  induction l generalizing d with
  | nil => exact Unrouted.refl d
  | cons a l ih => exact (h d a).trans (ih _)

theorem EventSt.startPulses_route (e new : EventSt) : (e.startPulses new).route = new.route := by
  have hstep (l : List Nat) (x : EventSt) : (l.foldl (fun y n =>
      if bitAt y.pulse n && !e.pinCond n && new.pinCond n then { y with pulseLow := setBit y.pulseLow n } else y) x).route = x.route := by
    induction l generalizing x with
    | nil => rfl
    | cons n l ih =>
      rw [List.foldl_cons, ih]
      split
      · rfl
      · rfl
  exact hstep _ _

/-- A source without a route sets its bit alone. -/
theorem Dev.fire_of_unrouted {d : Dev} (h : d.evt.route = []) (k : Nat) :
    d.fire k = if d.sourcePresent k then { d with evt := d.evt.set k } else d := by
  have hroute : d.evt.route.rd k = {} := by rw [h]; rfl
  simp [Dev.fire, hroute]

theorem Dev.fire_unrouted (d : Dev) (k : Nat) : Unrouted d (d.fire k) := by
  intro h
  rw [Dev.fire_of_unrouted h]
  split
  · exact ⟨(EventSt.startPulses_route _ _).trans h, rfl⟩
  · exact ⟨h, rfl⟩

theorem Dev.cntAny_unrouted (d : Dev) (c : CounterSt) : Unrouted d { d with cnt := c } := .of_eq rfl rfl

theorem Dev.cairnAny_unrouted (d : Dev) (c : CairnSt) : Unrouted d { d with cairn := c } := .of_eq rfl rfl

theorem Dev.setOvf_unrouted (d : Dev) (k : Nat) : Unrouted d (d.setOvf k) :=
  .ite (d.cntAny_unrouted _) ((d.cntAny_unrouted _).trans (Dev.fire_unrouted _ _))

theorem Dev.cntWrap_unrouted (d : Dev) (k : Nat) : Unrouted d (d.cntWrap k) :=
  .ite (.ite (.ite ((d.cntAny_unrouted _).trans (Dev.setOvf_unrouted _ _)) (d.cntAny_unrouted _)) (.refl d)) (Dev.setOvf_unrouted d k)

theorem Dev.cntBump_unrouted (d : Dev) (k v : Nat) : Unrouted d (d.cntBump k v) :=
  .ite (.refl d) (.ite ((d.cntAny_unrouted _).trans (Dev.cntWrap_unrouted _ _)) (d.cntAny_unrouted _))

theorem Dev.countMgmt_unrouted (d : Dev) (ev n v : Nat) : Unrouted d (d.countMgmt ev n v) :=
  .foldl _ (fun _ _ => Dev.cntBump_unrouted _ _ _) _ _

theorem Dev.enqueue_unrouted (d : Dev) (r : CairnRec) : Unrouted d (d.enqueue r) :=
  .ite ((d.cairnAny_unrouted _).trans (Dev.countMgmt_unrouted _ _ _ _))
    (.ite (d.cairnAny_unrouted _) ((d.cairnAny_unrouted _).trans (Dev.countMgmt_unrouted _ _ _ _)))

theorem Dev.log_unrouted (d : Dev) (code sev : Nat) (a : RecArgs) : Unrouted d (d.log code sev a) :=
  .trans (Dev.enqueue_unrouted _ _) (Dev.fire_unrouted _ _)

theorem Dev.refuse_unrouted (d : Dev) (p : CmdPort) (r : Reach) : Unrouted d (d.refuse p r) := by
  cases r with
  | badAccess => exact Dev.log_unrouted _ _ _ _
  | noRegister => exact Dev.log_unrouted _ _ _ _
  | denied => exact Dev.log_unrouted _ _ _ _
  | timeout => exact .of_eq rfl rfl
  | dead => exact .refl d
  | silent => exact .refl d
  | ok => exact .refl d

/-! ### What leaves is among the outputs -/

theorem mem_withLines (old : List Out) (o : Out) : o ∈ withLines old [o] := List.mem_cons_self

theorem Dev.mem_emit_out {d : Dev} (h : d.mode.railFail = false) (o : Out) : o ∈ (d.emit o).out := by
  rw [Dev.emit_out, Dev.shown_on _ _ h]
  exact mem_withLines _ _

/-! ### Refused accesses (R8, R13, R14, R466) -/

/-- `e` is `d` after an access that was refused as `r`: its record, or the count of a timeout. -/
def Refused (d e : Dev) (r : Reach) : Prop :=
  (r = .badAccess → e.evt.status.getLsbD 0x048 = true) ∧ (r = .noRegister → e.evt.status.getLsbD 0x049 = true) ∧
    (r = .denied → e.evt.status.getLsbD 0x046 = true) ∧ (r = .timeout → e.bus = { d.bus with regTimeouts := satAdd 32 d.bus.regTimeouts 1 }) ∧
    (r ≠ .timeout → e.bus = d.bus) ∧
    (d.cairn.queue = [] → (r = .badAccess → d.cairn.minSeverity ≤ 2 → Records e 0x048 2) ∧ (r = .noRegister → d.cairn.minSeverity ≤ 1 → Records e 0x049 1) ∧
      (r = .denied → Records e 0x046 5)) ∧ SameBut (.bus :: recordBlocks) d e

/-- An Error or worse is recorded whatever the floor of MIN_SEVERITY. -/
theorem Dev.log_records_high {d : Dev} {sev : Nat} (code : Nat) (a : RecArgs) (hq : d.cairn.queue = []) (hs : 3 ≤ sev) :
    Records (d.log code sev a) code sev := by
  have hentry : d.cairn.hasEntry sev = true := by simp [CairnSt.hasEntry, hq]
  have hadd (r : CairnRec) (hr : r.severity = sev) : d.enqueue r = { d with cairn.queue := [r] } := by
    rw [Dev.enqueue, if_neg (by simp [sevHigh, hr, hs]), hr, if_pos hentry, hq, List.nil_append]
  rw [Dev.log, hadd _ rfl]
  simp [Records]

/-- Each refusal leaves its own trace. -/
theorem Dev.refuse_spec (d : Dev) (p : CmdPort) {r : Reach} (hr : r = .badAccess ∨ r = .noRegister ∨ r = .denied ∨ r = .timeout) :
    Refused d ((d.countMgmt 0x74 p.code 1).refuse p r) r := by
  have hcount : SameBut accessBlocks d (d.countMgmt 0x74 p.code 1) := Dev.countMgmt_same _ _ _ _
  have hlog (code sev : Nat) (a : RecArgs) : SameBut (.bus :: recordBlocks) d ((d.countMgmt 0x74 p.code 1).log code sev a) :=
    (Dev.counted_then (Dev.log_same _ _ _ _)).mono (by decide)
  rcases hr with rfl | rfl | rfl | rfl
  · exact ⟨fun _ => Dev.log_sets _ _ _ _ (by simp [Dev.sourcePresent]) (by decide), by simp, by simp, by simp,
      fun _ => (Dev.counted_then (Dev.log_same _ _ _ _) : SameBut recordBlocks d _).bus,
      fun hq => ⟨fun _ hs => Dev.log_records _ _ (by rwa [hcount.cairn]) (by rwa [hcount.cairn]), by simp, by simp⟩, hlog _ _ _⟩
  · exact ⟨by simp, fun _ => Dev.log_sets _ _ _ _ (by simp [Dev.sourcePresent]) (by decide), by simp, by simp,
      fun _ => (Dev.counted_then (Dev.log_same _ _ _ _) : SameBut recordBlocks d _).bus,
      fun hq => ⟨by simp, fun _ hs => Dev.log_records _ _ (by rwa [hcount.cairn]) (by rwa [hcount.cairn]), by simp⟩, hlog _ _ _⟩
  · exact ⟨by simp, by simp, fun _ => Dev.log_sets _ _ _ _ (by simp [Dev.sourcePresent]) (by decide), by simp,
      fun _ => (Dev.counted_then (Dev.log_same _ _ _ _) : SameBut recordBlocks d _).bus,
      fun hq => ⟨by simp, by simp, fun _ => Dev.log_records_high _ _ (by rwa [hcount.cairn]) (by decide)⟩, hlog _ _ _⟩
  · exact ⟨by simp, by simp, by simp, fun _ => by simp [Dev.refuse], by simp, by simp,
      SameBut.trans (hcount.mono (by decide)) (by simp [sameBut_iff, Dev.refuse])⟩

/-- What leaves afterwards changes nothing of it. -/
theorem Refused.emit {d e : Dev} {r : Reach} (h : Refused d e r) (o : Out) : Refused d (e.emit o) r := by
  obtain ⟨h1, h2, h3, h4, h5, h6, h7⟩ := h
  exact ⟨h1, h2, h3, h4, h5, h6, h7.trans ((Dev.emit_same _ _).mono (by decide))⟩

/-! ### The fate of an access (R8, R13, R14, R81, R466) -/

section
variable {d : Dev} {p : CmdPort} {a size v : Nat} {full : Bool} {val : Option Nat}

theorem Dev.reach_dead (h : d.regOn = false ∨ d.portLive p = false) : d.reach p a size full val = .dead := by
  rcases h with h | h
  · simp [Dev.reach, h]
  · simp [Dev.reach, h]

theorem Dev.reach_silent (hon : d.regOn = true) (hp : d.portLive p = true)
    (h : d.inRunOrTest = false ∧ bootBlock a = false ∨ (d.regAttr p (a / 4 * 4)).form = .silent) : d.reach p a size full val = .silent := by
  rcases h with ⟨hrun, hboot⟩ | hform
  · simp [Dev.reach, hon, hp, hrun, hboot]
  · simp [Dev.reach, hon, hp, hform]

section
variable (hon : d.regOn = true) (hp : d.portLive p = true) (hmode : d.inRunOrTest = true ∨ bootBlock a = true)
  (hform : (d.regAttr p (a / 4 * 4)).form ≠ .silent)
include hon hp hmode hform

/-- An access of the wrong shape. -/
theorem Dev.reach_badAccess (h : full = false ∨ (size ≠ 4 ∧ size ≠ 8) ∨ a % size ≠ 0 ∨ (size = 8 ∧ (d.regAttr p (a / 4 * 4)).form ≠ .wide)) :
    d.reach p a size full val = .badAccess := by
  have hshown : ¬ (!d.inRunOrTest && !bootBlock a) = true := by
    rcases hmode with h | h
    · simp [h]
    · simp [h]
  unfold Dev.reach
  dsimp only
  rw [if_neg (by simp [hon, hp]), if_neg hshown, if_neg hform, if_pos]
  rcases h with h | ⟨h4, h8⟩ | h | ⟨h8, hw⟩
  · simp [h]
  · simp [h4, h8]
  · simp [h]
  · simp [h8, hw]

/-- An access of the right shape meets the register, the port's rights and the clock of the block, in this order. -/
theorem Dev.reach_of_shape (hfull : full = true) (hsize : size = 4 ∨ size = 8 ∧ (d.regAttr p (a / 4 * 4)).form = .wide) (ha : a % size = 0) :
    d.reach p a size full val =
      if (d.regAttr p (a / 4 * 4)).form = .none || (val.isSome && slotWindow a) then .noRegister
      else if !(match val with
        | some v => d.mayWrite p (d.regAttr p (a / 4 * 4)) v
        | none => d.mayRead p (d.regAttr p (a / 4 * 4))) then .denied
      else if d.bus.pllFallback && dclkBlock a then .timeout
      else .ok := by
  have hshown : ¬ (!d.inRunOrTest && !bootBlock a) = true := by
    rcases hmode with h | h
    · simp [h]
    · simp [h]
  have hshape : ¬ (!full || !(size == 4 || size == 8) || a % size != 0 || (size == 8 && !((d.regAttr p (a / 4 * 4)).form == .wide))) = true := by
    rcases hsize with h4 | ⟨h8, hw⟩
    · simp [hfull, h4 ▸ ha, h4]
    · simp [hfull, h8 ▸ ha, h8, hw]
  unfold Dev.reach
  dsimp only
  exact (if_neg (by simp [hon, hp])).trans ((if_neg hshown).trans ((if_neg hform).trans (if_neg hshape)))

section
variable (hfull : full = true) (hsize : size = 4 ∨ size = 8 ∧ (d.regAttr p (a / 4 * 4)).form = .wide) (ha : a % size = 0)
include hfull hsize ha

theorem Dev.reach_noRegister (h : (d.regAttr p (a / 4 * 4)).form = .none) : d.reach p a size full val = .noRegister := by
  rw [Dev.reach_of_shape hon hp hmode hform hfull hsize ha, if_pos (by simp [h])]

theorem Dev.reach_read (h : (d.regAttr p (a / 4 * 4)).form ≠ .none) : d.reach p a size full none =
    if d.mayRead p (d.regAttr p (a / 4 * 4)) = false then .denied
    else if d.bus.pllFallback && dclkBlock a then .timeout else .ok := by
  rw [Dev.reach_of_shape hon hp hmode hform hfull hsize ha, if_neg (by simp [h])]
  simp

theorem Dev.reach_write (h : (d.regAttr p (a / 4 * 4)).form ≠ .none) (hslot : slotWindow a = false) : d.reach p a size full (some v) =
    if d.mayWrite p (d.regAttr p (a / 4 * 4)) v = false then .denied
    else if d.bus.pllFallback && dclkBlock a then .timeout else .ok := by
  rw [Dev.reach_of_shape hon hp hmode hform hfull hsize ha, if_neg (by simp [h, hslot])]
  simp

end

end

/-- What is answered comes from a register fabric that is on. -/
theorem Dev.railFail_of_reach (h : d.reach p a size full val ≠ .dead) : d.mode.railFail = false := by
  cases hr : d.mode.railFail with
  | false => rfl
  | true => exact absurd (Dev.reach_dead (.inl (by simp [Dev.regOn, hr]))) h

theorem Dev.full_of_reach_ok (h : d.reach p a size full val = .ok) : full = true := by
  refine Decidable.byContradiction (fun hfull => ?_)
  by_cases hdead : d.regOn = false ∨ d.portLive p = false
  · rw [Dev.reach_dead hdead] at h
    cases h
  · rw [not_or, Bool.not_eq_false, Bool.not_eq_false] at hdead
    obtain ⟨hon, hp⟩ := hdead
    by_cases hsilent : d.inRunOrTest = false ∧ bootBlock a = false ∨ (d.regAttr p (a / 4 * 4)).form = .silent
    · rw [Dev.reach_silent hon hp hsilent] at h
      cases h
    · rw [not_or, Classical.not_and_iff_not_or_not, Bool.not_eq_false, Bool.not_eq_false] at hsilent
      obtain ⟨hmode, hform⟩ := hsilent
      rw [Dev.reach_badAccess hon hp hmode hform (.inl (Bool.not_eq_true _ ▸ hfull))] at h
      cases h

theorem Dev.form_ne_wide (h : (d.regAttr p a).form = .word) : (d.regAttr p a).form ≠ .wide := by simp [h]

/-! ### Writes -/

/-- A write that is not answered, or answered as nothing. -/
theorem Dev.busWrite_of_dead (h : d.reach p a size full (some v) = .dead ∨ d.reach p a size full (some v) = .silent) :
    (d.busWrite p a size v full).1 = d := by
  rcases h with h | h
  · simp [Dev.busWrite, h, Dev.countAccess, Dev.refuse]
  · simp [Dev.busWrite, h, Dev.countAccess, Dev.refuse]

/-- A write that is refused. -/
theorem Dev.busWrite_refused {r : Reach} (h : d.reach p a size full (some v) = r)
    (hr : r = .badAccess ∨ r = .noRegister ∨ r = .denied ∨ r = .timeout) : Refused d (d.busWrite p a size v full).1 r := by
  have heq : (d.busWrite p a size v full).1 = (d.countMgmt 0x74 p.code 1).refuse p r := by
    unfold Dev.busWrite
    rw [h]
    rcases hr with rfl | rfl | rfl | rfl
    · rfl
    · rfl
    · rfl
    · rfl
  rw [heq]
  exact Dev.refuse_spec d p hr

/-- What a write leaves that does not pass the checks. -/
theorem Dev.busWrite_not_ok {r : Reach} (hmem : r ∈ [Reach.dead, .silent, .badAccess, .noRegister, .denied, .timeout])
    (h : d.reach p a size full (some v) = r) :
    if r = .dead ∨ r = .silent then (d.busWrite p a size v full).1 = d else Refused d (d.busWrite p a size v full).1 r := by
  split
  next hr => exact Dev.busWrite_of_dead (h ▸ hr)
  next hr =>
    refine Dev.busWrite_refused h ?_
    cases r <;> simp_all

/-- The write of a locked register. -/
theorem Dev.busWrite_locked (h : d.reach p a size full (some v) = .ok) (hl : d.regLocked (d.regAttr p a) = true) :
    (d.busWrite p a size v full).1.evt.status.getLsbD 0x047 = true ∧ SameBut recordBlocks d (d.busWrite p a size v full).1 := by
  have heq : (d.busWrite p a size v full).1 = (d.countMgmt 0x74 p.code 1).lockedWrite p := by
    simp [Dev.busWrite, h, hl, Dev.countAccess]
  rw [heq]
  exact ⟨Dev.log_sets _ _ _ _ (by simp [Dev.sourcePresent]) (by decide), Dev.counted_then (Dev.log_same _ _ _ _)⟩

/-- A 4-byte write of a 32-bit register. -/
theorem Dev.busWrite_word (h : d.reach p a 4 full (some v) = .ok) (hl : d.regLocked (d.regAttr p a) = false)
    (hf : (d.regAttr p a).form ≠ .wide) :
    (d.busWrite p a 4 v full).1 = (d.countMgmt 0x74 p.code 1).regWrite p a (v % 2 ^ 32) := by
  simp [Dev.busWrite, h, hl, hf, Dev.countAccess]

/-- The write of a low half is staged. -/
theorem Dev.busWrite_low (h : d.reach p a 4 true (some v) = .ok) (hl : d.regLocked (d.regAttr p a) = false)
    (hf : (d.regAttr p a).form = .wide) (hb : a = (d.regAttr p a).base) (hv : v < 2 ^ 32) :
    (d.busWrite p a 4 v).1 = (d.countMgmt 0x74 p.code 1).setPort p (fun s => { s with staged := s.staged.wr a (some v) }) := by
  simp [Dev.busWrite, h, hl, hf, Dev.countAccess, ← hb, Nat.mod_eq_of_lt (show v < 4294967296 from hv)]

/-- The write of a high half writes the whole register. -/
theorem Dev.busWrite_high (h : d.reach p a 4 true (some v) = .ok) (hl : d.regLocked (d.regAttr p a) = false)
    (hf : (d.regAttr p a).form = .wide) (hb : a ≠ (d.regAttr p a).base) :
    (d.busWrite p a 4 v).1 = (d.countMgmt 0x74 p.code 1).commitHalves p (d.regAttr p a) v := by
  simp [Dev.busWrite, h, hl, hf, Dev.countAccess, hb]

/-- The staged halves of a port after the one at `base` has been taken. -/
theorem Dev.staged_taken (e : Dev) (base b : Nat) :
    ((e.setPort p (fun s => { s with staged := s.staged.wr base none })).portSt p).staged.rd b =
      if b = base then none else (e.portSt p).staged.rd b := by
  rw [Dev.portSt_setPort_same]
  split
  next hb => rw [hb, Tab.rd_wr_same]
  next hb => exact Tab.rd_wr_other (e.portSt p).staged base b none hb

theorem Dev.halvesTaken_staged (e : Dev) (base lo b : Nat) :
    ((e.halvesTaken p base lo).portSt p).staged.rd b = if b = base then none else (e.portSt p).staged.rd b := by
  rw [Dev.halvesTaken, Dev.staged_taken]
  split
  · rfl
  next hb =>
    rw [Dev.portSt_setPort_same]
    exact Tab.rd_wr_other (e.portSt p).staged base b (some lo) hb

/-- Equal halves are one value to write. -/
theorem Dev.regWrite_halves (e : Dev) (p : CmdPort) (base : Nat) {l lo h hi : Nat} (hl : l = lo) (hh : h = hi) :
    e.regWrite p base (l + 2 ^ 32 * h) = e.regWrite p base (lo + 2 ^ 32 * hi) := by rw [hl, hh]

/-- The whole register is written with the staged low half, or with the current one. -/
theorem Dev.commitHalves_eq {x : Attr} {base lo : Nat} (hb : x.base = base)
    (hlo : (d.portSt p).staged.rd base = some lo ∨ (d.portSt p).staged.rd base = none ∧
      lo = (if x.rw = 0 then (if base = 0x10058 then d.tick.numberReg else 0) else ((d.countMgmt 0x74 p.code 1).regRead p base).2) % 2 ^ 32)
    (hv : v < 2 ^ 32) : (d.countMgmt 0x74 p.code 1).commitHalves p x v =
      ((d.countMgmt 0x74 p.code 1).setPort p (fun y => { y with staged := y.staged.wr base none })).regWrite p base (lo + 2 ^ 32 * v) := by
  subst hb
  have hlow : (match ((d.countMgmt 0x74 p.code 1).portSt p).staged.rd x.base with
      | some v => v
      | none => (d.countMgmt 0x74 p.code 1).lowHalf p x) = lo := by
    rw [Dev.portSt_counted]
    rcases hlo with h | ⟨h, hcur⟩
    · rw [h]
    · rw [h, hcur, Dev.lowHalf, (Dev.countMgmt_same d 0x74 p.code 1).tick]
  exact Dev.regWrite_halves _ p x.base hlow (Nat.mod_eq_of_lt hv)

/-! ### Reads -/

/-- A read that is refused, or shows nothing, returns zero. -/
theorem Dev.readOut_refused {r : Reach} (h : d.reach p a 4 true none = r)
    (hr : r = .badAccess ∨ r = .noRegister ∨ r = .denied ∨ r = .timeout) :
    d.readOut p a 4 = ((d.countMgmt 0x74 p.code 1).refuse p r).emit (.readData p.key 0) := by
  unfold Dev.readOut Dev.busRead
  rw [h]
  rcases hr with rfl | rfl | rfl | rfl
  · rfl
  · rfl
  · rfl
  · rfl

theorem Dev.readOut_dead (h : d.reach p a 4 true none = .dead) : d.readOut p a 4 = d := if_pos h

theorem Dev.readOut_silent (h : d.reach p a 4 true none = .silent) : d.readOut p a 4 = d.emit (.readData p.key 0) := by
  unfold Dev.readOut Dev.busRead
  rw [h]
  rfl

/-- What a read leaves that does not pass the checks. -/
theorem Dev.readOut_not_ok {r : Reach} (hmem : r ∈ [Reach.dead, .silent, .badAccess, .noRegister, .denied, .timeout])
    (h : d.reach p a 4 true none = r) :
    if r = .dead then d.readOut p a 4 = d else if r = .silent then
      (d.readOut p a 4).out = d.shown [.readData p.key 0] ∧ SameBut [] d (d.readOut p a 4)
    else Refused d (d.readOut p a 4) r ∧ Out.readData p.key 0 ∈ (d.readOut p a 4).out ∧
      (d.evt.route = [] → (d.readOut p a 4).out = d.shown [.readData p.key 0]) := by
  split
  next hdead => exact Dev.readOut_dead (h.trans hdead)
  next hdead =>
    split
    next hsilent =>
      rw [Dev.readOut_silent (h.trans hsilent)]
      exact ⟨rfl, Dev.emit_same _ _⟩
    next hsilent =>
      have hr : r = .badAccess ∨ r = .noRegister ∨ r = .denied ∨ r = .timeout := by cases r <;> simp_all
      have hspec := Dev.refuse_spec d p hr
      have hsame : SameBut (.bus :: recordBlocks) d ((d.countMgmt 0x74 p.code 1).refuse p r) := hspec.2.2.2.2.2.2
      rw [Dev.readOut_refused h hr]
      refine ⟨hspec.emit _, Dev.mem_emit_out ?_ _, fun hroute => ?_⟩
      · rw [hsame.mode]
        exact Dev.railFail_of_reach (h ▸ hdead)
      · exact Dev.shown_congr hsame.mode
          ((Dev.countMgmt_unrouted _ _ _ _).trans (Dev.refuse_unrouted _ _ _) hroute).2 _

/-- A read of a 32-bit register. -/
theorem Dev.readOut_word (h : ReadPasses d p a) (hf : (d.regAttr p a).form ≠ .wide) :
    d.readOut p a 4 = ((d.countMgmt 0x74 p.code 1).regRead p a).1.emit
      (.readData p.key (((d.countMgmt 0x74 p.code 1).regRead p a).2 % 2 ^ 32)) := by
  simp [Dev.readOut, Dev.busRead, h, hf, Dev.countAccess, Dev.wordRead]

theorem Dev.latch_taken (e : Dev) (base v : Nat) :
    ((e.setPort p (fun s => { s with latch := s.latch.wr base v })).portSt p).latch.rd base = v := by
  rw [Dev.portSt_setPort_same, Tab.rd_wr_same]

/-- A read of a low half latches the high half. -/
theorem Dev.readOut_low (h : ReadPasses d p a) (hf : (d.regAttr p a).form = .wide) (hb : (d.regAttr p a).base = a) :
    d.readOut p a 4 = (((d.countMgmt 0x74 p.code 1).regRead p a).1.setPort p
        (fun s => { s with latch := s.latch.wr a (((d.countMgmt 0x74 p.code 1).regRead p a).2 / 2 ^ 32 % 2 ^ 32) })).emit
      (.readData p.key (((d.countMgmt 0x74 p.code 1).regRead p a).2 % 2 ^ 32)) := by
  simp [Dev.readOut, Dev.busRead, h, hf, hb, Dev.countAccess, Dev.wordRead]

end

/-- Settles O57: an access goes through the checks of the fabric in order; what passes them reaches the register, or the half
that its port has staged or latched. -/
theorem accesses : Obligations.Accesses := by
  unfold Obligations.Accesses
  intro s p a v w size full x lo d n base word refused
  refine ⟨fun hx val => ?fate, fun r hr => ⟨fun h => Gives.of_onDev rfl (Dev.busWrite_not_ok hr h), fun h => Gives.of_onDev rfl (Dev.busWrite_not_ok hr h),
    fun h => Gives.of_onDev rfl (Dev.busWrite_not_ok hr h), fun h => Gives.of_onDev rfl (Dev.readOut_not_ok hr h),
    fun h => Gives.of_onDev rfl (Dev.readOut_not_ok hr h)⟩, fun h hl => Gives.of_onDev rfl (Dev.busWrite_locked h hl),
    fun hx hl h => ⟨fun h4 hf => Gives.of_onDev rfl ?word, fun h8 hb => Gives.of_onDev rfl ?whole⟩,
    fun h hx hf hb => Gives.of_onDev rfl ?low, fun h hx hf hb hlo => Gives.of_onDev rfl ?high,
    fun h hx hf hb => Gives.of_onDev rfl ?readLow, fun h hx hf => Gives.of_onDev rfl ?read⟩
  case fate =>
    subst hx
    intro r
    refine ⟨Dev.reach_dead, Dev.reach_silent, fun hon hp hmode hform => ⟨Dev.reach_badAccess hon hp hmode hform, fun hfull hsize ha => ?_⟩⟩
    exact ⟨Dev.reach_noRegister hon hp hmode hform hfull hsize ha, fun hreg hval => (congrArg (d.reach p a.toNat size full) hval).trans (Dev.reach_read hon hp hmode hform hfull hsize ha hreg),
      fun hreg hslot hval => (congrArg (d.reach p a.toNat size full) hval).trans (Dev.reach_write hon hp hmode hform hfull hsize ha hreg hslot)⟩
  case word =>
    subst hx h4
    exact Dev.busWrite_word h hl (Dev.form_ne_wide hf)
  case whole =>
    subst hx h8
    obtain rfl := Dev.full_of_reach_ok h
    refine ⟨_, Dev.halvesTaken_same _ _ _ _, fun b => ?_, Dev.busWrite8_ok h hl w.isLt⟩
    rw [Dev.halvesTaken_staged, Dev.portSt_counted]
  case low =>
    subst hx
    obtain ⟨hok, hl⟩ := h
    rw [writeLowHalf, Dev.write4, Dev.busWrite_low hok hl hf hb.symm v.isLt]
    refine ⟨fun b => ?_, ?_, fun q hq => ?_, Dev.counted_then (Dev.setPort_same _ _ _ |>.mono (by decide))⟩
    · rw [Dev.portSt_setPort_same, Dev.portSt_counted]
      split
      next hbase => rw [hbase, Tab.rd_wr_same]
      next hbase => exact Tab.rd_wr_other (s.dev.portSt p).staged base b (some v.toNat) hbase
    · rw [Dev.portSt_setPort_same, Dev.portSt_counted]
    · rw [Dev.portSt_setPort_other _ _ hq, Dev.portSt_counted]
  case high =>
    subst hx
    obtain ⟨hok, hl⟩ := h
    refine ⟨n.setPort p (fun y => { y with staged := y.staged.wr base none }), Dev.setPort_same _ _ _, fun b => ?_, ?_⟩
    · rw [Dev.staged_taken, Dev.portSt_counted]
    · rw [writeHighHalf, Dev.write4, Dev.busWrite_high hok hl hf (by rw [hb]; omega)]
      exact Dev.commitHalves_eq hb hlo v.isLt
  case readLow =>
    subst hx
    rw [readLowHalf, Dev.readOut_low h hf hb]
    refine ⟨rfl, ?_, (Dev.setPort_same _ _ _).then (Dev.emit_same _ _)⟩
    exact Dev.latch_taken _ _ _
  case read =>
    subst hx
    rw [rcRead, Dev.readOut_word h (Dev.form_ne_wide hf)]
    exact ⟨rfl, Dev.emit_same _ _⟩

end Sys2Proof.Machine

/-! PROOF. The Cairn log: the writer, clearing, the Black Box and latched reads (R423, R425, R428 to R439). -/

namespace Sys2Proof.Machine

-- One theorem at a time, as in the tests: many at once would ask for more threads than the sandbox gives.
set_option Elab.async false

/-! ### Storing a record (R425, R429, R437) -/

section
variable (c : CairnSt) (r : CairnRec)

/-- A ring that has taken a record keeps everything but its count. -/
theorem CairnSt.advance_rest (sev : Nat) :
    (c.advance sev).lastSeq = c.lastSeq ∧ (c.advance sev).slots = c.slots ∧ (c.advance sev).queue = c.queue ∧ (c.advance sev).flood = c.flood ∧
      (c.advance sev).bb = c.bb ∧ (c.advance sev).nBb = c.nBb ∧ (c.advance sev).bbFrozen = c.bbFrozen := by
  unfold CairnSt.advance
  split
  · exact ⟨rfl, rfl, rfl, rfl, rfl, rfl, rfl⟩
  · split
    · exact ⟨rfl, rfl, rfl, rfl, rfl, rfl, rfl⟩
    · exact ⟨rfl, rfl, rfl, rfl, rfl, rfl, rfl⟩

/-- The copy into the Black Box leaves the rings. -/
theorem CairnSt.bbCopy_rest : (c.bbCopy r).lastSeq = c.lastSeq ∧ (c.bbCopy r).slots = c.slots ∧ (c.bbCopy r).queue = c.queue ∧ (c.bbCopy r).flood = c.flood := by
  unfold CairnSt.bbCopy
  split
  · split
    · exact ⟨rfl, rfl, rfl, rfl⟩
    · exact ⟨rfl, rfl, rfl, rfl⟩
  · exact ⟨rfl, rfl, rfl, rfl⟩

theorem CairnSt.bbCopy_taken (hs : r.severity = 3 ∨ r.severity = 4) (hf : c.bbFrozen = false) :
    (c.bbCopy r).bb = c.bb.wr (c.nBb % 4096) r ∧ (c.bbCopy r).nBb = c.nBb + 1 := by
  simp [CairnSt.bbCopy, hs, hf]

theorem CairnSt.bbCopy_left (h : (r.severity ≠ 3 ∧ r.severity ≠ 4) ∨ c.bbFrozen = true) : (c.bbCopy r).bb = c.bb ∧ (c.bbCopy r).nBb = c.nBb := by
  unfold CairnSt.bbCopy
  split
  next hs =>
    rw [if_pos (h.resolve_left (by omega))]
    exact ⟨rfl, rfl⟩
  next => exact ⟨rfl, rfl⟩

/-- The record with the next SEQ. -/
def CairnSt.numbered : CairnRec := { r with seq := c.lastSeq + 1 }

/-- The log with the record in its slot. -/
def CairnSt.placed : CairnSt := { c with lastSeq := c.lastSeq + 1, slots := c.slots.wr (c.slotFor r.severity) (c.numbered r) }

theorem CairnSt.store_eq : c.store r = ((c.placed r).advance r.severity).bbCopy (c.numbered r) := rfl

theorem CairnSt.store_rings : (c.store r).lastSeq = c.lastSeq + 1 ∧ (c.store r).slots = c.slots.wr (c.slotFor r.severity) (c.numbered r) ∧
    (c.store r).queue = c.queue ∧ (c.store r).flood = c.flood := by
  obtain ⟨hseq, hslots, hqueue, hflood⟩ := CairnSt.bbCopy_rest ((c.placed r).advance r.severity) (c.numbered r)
  obtain ⟨hseq', hslots', hqueue', hflood', -⟩ := CairnSt.advance_rest (c.placed r) r.severity
  rw [CairnSt.store_eq]
  exact ⟨hseq.trans hseq', hslots.trans hslots', hqueue.trans hqueue', hflood.trans hflood'⟩

theorem CairnSt.store_taken (hs : r.severity = 3 ∨ r.severity = 4) (hf : c.bbFrozen = false) :
    (c.store r).bb.rd (c.nBb % 4096) = c.numbered r ∧ (c.store r).nBb = c.nBb + 1 := by
  obtain ⟨-, -, -, -, -, hn, hfrozen⟩ := CairnSt.advance_rest (c.placed r) r.severity
  obtain ⟨hbb, hcount⟩ := CairnSt.bbCopy_taken ((c.placed r).advance r.severity) (c.numbered r) hs (hfrozen.trans hf)
  rw [CairnSt.store_eq, hbb, hcount, hn]
  exact ⟨Tab.rd_wr_same _ _ _, rfl⟩

theorem CairnSt.store_left (h : (r.severity ≠ 3 ∧ r.severity ≠ 4) ∨ c.bbFrozen = true) :
    (c.store r).bb = c.bb ∧ (c.store r).nBb = c.nBb := by
  obtain ⟨-, -, -, -, hbb, hn, hfrozen⟩ := CairnSt.advance_rest (c.placed r) r.severity
  obtain ⟨hbb', hn'⟩ := CairnSt.bbCopy_left ((c.placed r).advance r.severity) (c.numbered r) (h.imp id hfrozen.trans)
  rw [CairnSt.store_eq]
  exact ⟨hbb'.trans hbb, hn'.trans hn⟩

end

/-- `e` is `d` with `r` stored under the next SEQ, where the log held `c` before. -/
def Stored (d e : Dev) (c : CairnSt) (r : CairnRec) : Prop :=
  e.cairn.lastSeq = c.lastSeq + 1 ∧ e.cairn.slots.rd (c.slotFor r.severity) = { r with seq := c.lastSeq + 1 } ∧
    (∀ y, y ≠ c.slotFor r.severity → e.cairn.slots.rd y = c.slots.rd y) ∧
    (r.severity = 3 ∨ r.severity = 4 → c.bbFrozen = false → e.cairn.bb.rd (c.nBb % 4096) = { r with seq := c.lastSeq + 1 } ∧ e.cairn.nBb = c.nBb + 1) ∧
    ((r.severity ≠ 3 ∧ r.severity ≠ 4) ∨ c.bbFrozen = true → e.cairn.bb = c.bb ∧ e.cairn.nBb = c.nBb) ∧
    (4 ≤ r.severity → c.nHigh = 4095 → e.evt.status.getLsbD 0x3C1 = true) ∧ SameBut recordBlocks d e

theorem Dev.storeRec_same (d : Dev) (r : CairnRec) : SameBut recordBlocks d (d.storeRec r) := by
  have hcount : SameBut recordBlocks d (({ d with cairn := d.cairn.store r } : Dev).countMgmt 0x72 r.severity 1) :=
    SameBut.then (by simp [sameBut_iff, recordBlocks]) (Dev.countMgmt_same _ _ _ _)
  exact .ite (hcount.then (Dev.fire_same _ _)) hcount

theorem Dev.storeRec_cairn (d : Dev) (r : CairnRec) : (d.storeRec r).cairn = d.cairn.store r := by
  unfold Dev.storeRec
  dsimp only
  split
  · simp
  · simp

/-- The record that fills the kept part of its ring fires KEPT_FULL. -/
theorem Dev.storeRec_fills (d : Dev) (r : CairnRec) (hs : 4 ≤ r.severity) (hn : d.cairn.nHigh = 4095) :
    (d.storeRec r).evt.status.getLsbD 0x3C1 = true := by
  unfold Dev.storeRec
  dsimp only
  rw [if_pos (by simp [CairnSt.fillsKept, hs, hn])]
  exact Dev.fire_sets _ _ (by simp [Dev.sourcePresent]) (by decide)

theorem Dev.storeRec_stored (d : Dev) (r : CairnRec) : Stored d (d.storeRec r) d.cairn r := by
  obtain ⟨hseq, hslots, -, -⟩ := CairnSt.store_rings d.cairn r
  unfold Stored
  rw [Dev.storeRec_cairn, hseq, hslots]
  exact ⟨rfl, Tab.rd_wr_same _ _ _, fun y hy => Tab.rd_wr_other _ _ _ _ hy, CairnSt.store_taken _ _, CairnSt.store_left _ _,
    Dev.storeRec_fills d r, Dev.storeRec_same d r⟩

/-- The same with another device before it that differs from `d` in the blocks of a record. -/
theorem Stored.of_same {d d' e : Dev} {c : CairnSt} {r : CairnRec} (h : Stored d' e c r) (hd : SameBut recordBlocks d d') : Stored d e c r := by
  obtain ⟨h1, h2, h3, h4, h5, h6, h7⟩ := h
  exact ⟨h1, h2, h3, h4, h5, h6, hd.trans h7⟩

/-- The writer stores the oldest record. -/
theorem cairnStore_of_queue {d : Dev} {r : CairnRec} {rest : List CairnRec} (hf : d.cairn.flood = none) (hq : d.cairn.queue = r :: rest) :
    Stored d (cairnStore d) d.cairn r ∧ (cairnStore d).cairn.queue = rest := by
  have heq : cairnStore d = ({ d with cairn.queue := rest } : Dev).storeRec r := by
    unfold cairnStore
    rw [hf, hq]
  obtain ⟨-, -, hqueue, -⟩ := CairnSt.store_rings { d.cairn with queue := rest } r
  rw [heq]
  refine ⟨(Dev.storeRec_stored _ _).of_same ((Dev.cairnAny_same _ _).mono (by decide)), ?_⟩
  rw [Dev.storeRec_cairn]
  exact hqueue

/-- FLOOD goes before what is queued. -/
theorem cairnStore_of_flood {d : Dev} {r : CairnRec} (hf : d.cairn.flood = some r) :
    Stored d (cairnStore d) d.cairn r ∧ (cairnStore d).cairn.flood = none ∧ (cairnStore d).cairn.queue = d.cairn.queue := by
  have heq : cairnStore d = ({ d with cairn.flood := none } : Dev).storeRec r := by
    unfold cairnStore
    rw [hf]
  obtain ⟨-, -, hqueue, hflood⟩ := CairnSt.store_rings { d.cairn with flood := none } r
  rw [heq]
  refine ⟨(Dev.storeRec_stored _ _).of_same ((Dev.cairnAny_same _ _).mono (by decide)), ?_⟩
  rw [Dev.storeRec_cairn]
  exact ⟨hflood, hqueue⟩

/-! ### Clearing (R435, R436) -/

/-- Filtering by index keeps the entries of an index that stays. -/
theorem Tab.rd_filter_of_true {α : Type} [Inhabited α] (t : Tab α) (p : Nat → Bool) (i : Nat) (h : p i = true) :
    Tab.rd (t.filter (fun x => p x.1)) i = t.rd i := by
  induction t with
  | nil => rfl
  | cons x t ih =>
    obtain ⟨k, v⟩ := x
    by_cases hk : k = i
    · simp [Tab.rd, Tab.rdD, hk, h]
    · cases hp : p k
      · simpa [hp, Tab.rd, Tab.rdD, hk] using ih
      · simpa [hp, Tab.rd, Tab.rdD, hk] using ih

theorem bitAt_fld_zero (v : Nat) {i w : Nat} (h : i < w) : bitAt (fld v 0 w) i = bitAt v i := by
  have hmod : v % 2 ^ w / 2 ^ i % 2 = v / 2 ^ i % 2 := by
    have hw : 2 ^ w = 2 ^ i * (2 * 2 ^ (w - i - 1)) := by
      rw [← Nat.pow_succ', ← Nat.pow_add]
      congr 1
      omega
    rw [hw, Nat.mod_mul_right_div_self, Nat.mod_mul_right_mod]
  simp [bitAt, fld, hmod]

theorem ringOf_lt (x : Nat) : ringOf x < 3 := by
  unfold ringOf
  split
  · decide
  · split
    · decide
    · decide

/-- A clear removes the rings that SCOPE names. -/
theorem CairnSt.clear_spec (c : CairnSt) (v x : Nat) :
    (c.clear (fld v 0 4)).slots.rd x = (if bitAt v (ringOf x) then {} else c.slots.rd x) ∧
      (c.clear (fld v 0 4)).bb = (if bitAt v 3 then [] else c.bb) ∧ (c.clear (fld v 0 4)).nHigh = (if bitAt v 2 then 0 else c.nHigh) ∧
      (c.clear (fld v 0 4)).lastSeq = c.lastSeq ∧ (c.clear (fld v 0 4)).clearSeq = c.lastSeq := by
  refine ⟨?_, by simp [CairnSt.clear, bitAt_fld_zero], by simp [CairnSt.clear, bitAt_fld_zero], rfl, rfl⟩
  have hring : bitAt (fld v 0 4) (ringOf x) = bitAt v (ringOf x) := bitAt_fld_zero v (Nat.lt_of_lt_of_le (ringOf_lt x) (by decide))
  split
  next h => exact Tab.rd_filter_of_false _ (fun k => !bitAt (fld v 0 4) (ringOf k)) x (by simp [hring, h])
  next h => exact Tab.rd_filter_of_true _ (fun k => !bitAt (fld v 0 4) (ringOf k)) x (by simp [hring, h])

section
variable {d : Dev} {p : CmdPort} {v : Word}

theorem Dev.clearCode_counted (d : Dev) (ev n k v : Nat) : (d.countMgmt ev n k).clearCode v = d.clearCode v := by
  simp [Dev.clearCode]

theorem cairnClear_eq (h : WritePasses d p 0x3C00040 v.toNat) :
    cairnClear p v d = (d.countMgmt 0x74 p.code 1).writeCairnClear p 0x3C00040 v.toNat := by
  rw [cairnClear, Dev.write4_word h (by simp [Dev.regAttr, Dev.cairnAttr, attrWO]) v.isLt]
  simp [Dev.regWrite, Dev.cairnWrite]

/-- A clear that is accepted. -/
theorem cairnClear_accepted (h : WritePasses d p 0x3C00040 v.toNat) (hc : d.clearCode v.toNat = 0) :
    (cairnClear p v d).cairn = { d.cairn.clear (fld v.toNat 0 4) with clearBusy := true, clearCode := 0, clearPort := p.code } ∧
      SameBut recordBlocks d (cairnClear p v d) := by
  have heq : cairnClear p v d = { d.countMgmt 0x74 p.code 1 with
      cairn := { (d.countMgmt 0x74 p.code 1).cairn.clear (fld v.toNat 0 4) with clearBusy := true, clearCode := 0, clearPort := p.code } } := by
    rw [cairnClear_eq h, Dev.writeCairnClear, Dev.clearCode_counted, if_pos hc]
  rw [heq]
  exact ⟨by rw [Dev.countMgmt_cairn], Dev.counted_then ((Dev.cairnAny_same _ _).mono (by decide))⟩

/-- A clear that is refused is dropped with its code. -/
theorem cairnClear_refused (h : WritePasses d p 0x3C00040 v.toNat) (hc : d.clearCode v.toNat ≠ 0) :
    cairnClear p v d = ({ d.countMgmt 0x74 p.code 1 with cairn.clearCode := d.clearCode v.toNat } : Dev).dropped p 0x3C00040 v.toNat 2 := by
  rw [cairnClear_eq h, Dev.writeCairnClear, Dev.clearCode_counted, if_neg hc]

/-- What the clear machine and the readers see of the log; a record that is queued does not change it. -/
def CairnSt.content (c : CairnSt) : Nat × Tab CairnRec × Tab CairnRec × Bool := (c.clearCode, c.slots, c.bb, c.clearBusy)

theorem Dev.enqueue_content (d : Dev) (r : CairnRec) : (d.enqueue r).cairn.content = d.cairn.content := by
  unfold Dev.enqueue
  split
  · rw [Dev.countMgmt_cairn]
    rfl
  · split
    · rfl
    · rw [Dev.countMgmt_cairn]
      rfl

theorem Dev.log_content (d : Dev) (code sev : Nat) (a : RecArgs) : (d.log code sev a).cairn.content = d.cairn.content :=
  (congrArg CairnSt.content (Dev.fire_same _ _).cairn).trans (Dev.enqueue_content _ _)

/-- What a refused clear leaves. -/
theorem cairnClear_refused_spec (h : WritePasses d p 0x3C00040 v.toNat) (hc : d.clearCode v.toNat ≠ 0) :
    (cairnClear p v d).cairn.content = (d.clearCode v.toNat, d.cairn.slots, d.cairn.bb, d.cairn.clearBusy) ∧
      (cairnClear p v d).evt.status.getLsbD 0x04A = true ∧ SameBut recordBlocks d (cairnClear p v d) := by
  rw [cairnClear_refused h hc]
  refine ⟨(Dev.log_content _ _ _ _).trans ?_, Dev.log_sets _ _ _ _ (by simp [Dev.sourcePresent]) (by decide),
    Dev.counted_then (SameBut.then ((Dev.cairnAny_same _ _).mono (by decide)) (Dev.log_same _ _ _ _))⟩
  simp [CairnSt.content]

/-- The end of a clear leaves its Audit record. -/
theorem clearDone_spec (hb : d.cairn.clearBusy = true) (hq : d.cairn.queue = []) :
    (clearDone d).cairn.clearBusy = false ∧ Records (clearDone d) 0x04B 5 ∧ (clearDone d).cairn.slots = d.cairn.slots ∧
      SameBut recordBlocks d (clearDone d) := by
  unfold clearDone
  rw [if_pos hb]
  have hcontent := Dev.log_content ({ d with cairn.clearBusy := false } : Dev) 0x04B 5
    { port := d.cairn.clearPort, detail := [d.cairn.clearScope, d.cairn.clearCount, d.cairn.clearSeq % 2 ^ 32, d.cairn.clearSeq / 2 ^ 32,
      (d.cairn.dropped.rd 0 + d.cairn.dropped.rd 1 + d.cairn.dropped.rd 2) % 2 ^ 32] }
  exact ⟨congrArg (fun x => x.2.2.2) hcontent, Dev.log_records_high _ _ hq (by decide), congrArg (fun x => x.2.1) hcontent,
    SameBut.then ((Dev.cairnAny_same _ _).mono (by decide)) (Dev.log_same _ _ _ _)⟩

end

/-! ### Latched reads (R423, R433, R439) -/

section
variable {d : Dev} {p : CmdPort}

/-- The device of a read of a 32-bit register: what the register does, and the value that the port is shown. -/
theorem Dev.readOut_spec {a : Nat} {e : Dev} {l : List Block} (h : ReadPasses d p a) (hf : (d.regAttr p a).form = .word)
    (he : ((d.countMgmt 0x74 p.code 1).regRead p a).1 = e) (hl : SameBut l (d.countMgmt 0x74 p.code 1) e) :
    (d.readOut p a 4).port = e.port ∧ (d.readOut p a 4).cont = e.cont ∧ SameBut (l ++ accessBlocks) d (d.readOut p a 4) := by
  rw [Dev.readOut_word h (by simp [hf]), he]
  have hout : SameBut (l ++ accessBlocks) e (e.emit (.readData p.key (((d.countMgmt 0x74 p.code 1).regRead p a).2 % 2 ^ 32))) :=
    (Dev.emit_same _ _).mono (by simp)
  exact ⟨rfl, rfl, ((Dev.countMgmt_same _ _ _ _).mono (by simp [accessBlocks])).trans ((hl.mono (by simp)).trans hout)⟩

theorem Dev.regRead_slot {i : Nat} (h : i < 16384) (e : Dev) : e.regRead p (0x3D00000 + 64 * i) = e.readSlot p (e.tenantOf p) i 0 := by
  have ho : 0x3D00000 + 64 * i - 0x3C00000 = 0x100000 + 64 * i := by omega
  have hi : (0x100000 + 64 * i - 0x100000) / 64 = i := by omega
  have hw : (0x100000 + 64 * i) % 64 / 4 = 0 := by omega
  unfold Dev.regRead
  simp (disch := omega) only [if_neg, if_pos]
  unfold Dev.cairnRead
  simp (disch := omega) only [if_neg, if_pos, ho, hi, hw]

theorem Dev.regAttr_slot {i : Nat} (h : i < 16384) (e : Dev) : (e.regAttr p (0x3D00000 + 64 * i)).form = .word := by
  have ho : 0x3D00000 + 64 * i - 0x3C00000 = 0x100000 + 64 * i := by omega
  unfold Dev.regAttr
  simp (disch := omega) only [if_neg, if_pos]
  unfold Dev.cairnAttr
  simp (disch := omega) only [if_neg, if_pos, ho]
  rfl

/-- The first word of a slot latches the rest of the record for the port. -/
theorem slotLatch_spec (i : Fin 16384) (h : ReadPasses d p (0x3D00000 + 64 * i)) :
    ((slotLatch p i d).portSt p).slotLatch =
        some (16384 * (d.portSt p).cairnPage + i, (d.cairn.slots.rd (16384 * (d.portSt p).cairnPage + i)).words) ∧
      (∀ q : CmdPort, q.key ≠ p.key → (slotLatch p i d).portSt q = d.portSt q) ∧ SameBut (.port :: accessBlocks) d (slotLatch p i d) := by
  obtain ⟨hport, -, hsame⟩ := Dev.readOut_spec (l := [.port]) h (Dev.regAttr_slot i.isLt d) (congrArg Prod.fst (Dev.regRead_slot i.isLt _)) (Dev.portAny_same _ _)
  have hst : ∀ q : CmdPort, (slotLatch p i d).portSt q = _ := fun q => congrArg (·.rd q.key) hport
  refine ⟨(congrArg PortSt.slotLatch (hst p)).trans ?_, fun q hq => (hst q).trans ((Dev.portSt_setPort_other _ _ hq).trans (Dev.portSt_counted _ _ _ _ _)), hsame⟩
  refine (congrArg PortSt.slotLatch (Dev.portSt_setPort_same _ _ _)).trans ?_
  simp [Dev.portSt_counted]

/-- The Black Box record under the cursor of the port, latched. -/
theorem bbRecordLatch_spec (h : ReadPasses d p 0x3C01040) :
    ((bbRecordLatch p d).portSt p).bbLatch = some (d.cairn.bb.rd (d.portSt p).bbCursor).words ∧
      ((bbRecordLatch p d).portSt p).bbCursor = (d.portSt p).bbCursor ∧ SameBut (.port :: accessBlocks) d (bbRecordLatch p d) := by
  obtain ⟨hport, -, hsame⟩ := Dev.readOut_spec (l := [.port]) h (by simp [Dev.regAttr, Dev.cairnAttr, attrRO])
    (e := (d.countMgmt 0x74 p.code 1).setPort p (fun s => { s with bbLatch := some (d.cairn.bb.rd (d.portSt p).bbCursor).words }))
    (by simp [Dev.regRead, Dev.cairnRead, Dev.readBb, Dev.portSt_counted]) (Dev.portAny_same _ _)
  have hst : (bbRecordLatch p d).portSt p = _ := (congrArg (·.rd p.key) hport).trans (Dev.portSt_setPort_same _ _ _)
  rw [hst, Dev.portSt_counted]
  exact ⟨rfl, rfl, hsame⟩

/-- The last word of a Black Box record moves the cursor of the port on. -/
theorem bbCursorAdvance_spec (h : ReadPasses d p 0x3C0107C) :
    ((bbCursorAdvance p d).portSt p).bbCursor = ((d.portSt p).bbCursor + 1) % 4096 ∧
      ((bbCursorAdvance p d).portSt p).bbLatch = none ∧ SameBut (.port :: accessBlocks) d (bbCursorAdvance p d) := by
  obtain ⟨hport, -, hsame⟩ := Dev.readOut_spec (l := [.port]) h (by simp [Dev.regAttr, Dev.cairnAttr, attrRO])
    (e := (d.countMgmt 0x74 p.code 1).setPort p (fun s => { s with bbCursor := (s.bbCursor + 1) % 4096, bbLatch := none }))
    (by simp [Dev.regRead, Dev.cairnRead, Dev.readBb]) (Dev.portAny_same _ _)
  have hst : (bbCursorAdvance p d).portSt p = _ := (congrArg (·.rd p.key) hport).trans (Dev.portSt_setPort_same _ _ _)
  rw [hst, Dev.portSt_counted]
  exact ⟨rfl, rfl, hsame⟩

/-- The last word of the oldest fault record drops it from its log. -/
theorem faultLogAdvance_unc (h : ReadPasses d p 0x1103C) :
    (faultLogAdvance p false d).cont.uncLog = d.cont.uncLog.drop 1 ∧ (faultLogAdvance p false d).cont.corLog = d.cont.corLog ∧
      SameBut (.cont :: accessBlocks) d (faultLogAdvance p false d) := by
  obtain ⟨-, hcont, hsame⟩ := Dev.readOut_spec (l := [.cont]) h (by simp [Dev.regAttr, Dev.globalAttr, attrRO])
    (e := { d.countMgmt 0x74 p.code 1 with cont := { d.cont with uncLog := d.cont.uncLog.drop 1 } })
    (by simp [Dev.regRead, Dev.globalRead, Dev.readFaultLog]) (Dev.contAny_same _ _)
  exact ⟨congrArg ContSt.uncLog hcont, (congrArg ContSt.corLog hcont :), hsame⟩

theorem faultLogAdvance_cor (h : ReadPasses d p 0x1105C) :
    (faultLogAdvance p true d).cont.corLog = d.cont.corLog.drop 1 ∧ (faultLogAdvance p true d).cont.uncLog = d.cont.uncLog ∧
      SameBut (.cont :: accessBlocks) d (faultLogAdvance p true d) := by
  obtain ⟨-, hcont, hsame⟩ := Dev.readOut_spec (l := [.cont]) h (by simp [Dev.regAttr, Dev.globalAttr, attrRO])
    (e := { d.countMgmt 0x74 p.code 1 with cont := { d.cont with corLog := d.cont.corLog.drop 1 } })
    (by simp [Dev.regRead, Dev.globalRead, Dev.readFaultLog]) (Dev.contAny_same _ _)
  exact ⟨congrArg ContSt.corLog hcont, (congrArg ContSt.uncLog hcont :), hsame⟩

/-! ### The freeze of the Black Box (R439) -/

theorem bbCtrl_eq {v : Nat} (h : WritePasses d p 0x3C01004 v) (hv : v < 2) :
    d.write4 p 0x3C01004 v = (d.countMgmt 0x74 p.code 1).writeBbCtrl (bitAt v 0) := by
  rw [Dev.write4_word h (by simp [Dev.regAttr, Dev.cairnAttr, attrRW]) (by omega)]
  simp [Dev.regWrite, Dev.cairnWrite]

theorem bbFreeze_spec (h : WritePasses d p 0x3C01004 1) :
    (bbFreeze p d).cairn = { d.cairn with bbFrozen := true } ∧
      (d.cairn.bbFrozen = false → (bbFreeze p d).evt.status.getLsbD 0x3C3 = true) ∧ SameBut recordBlocks d (bbFreeze p d) := by
  have heq : bbFreeze p d = (d.countMgmt 0x74 p.code 1).writeBbCtrl true := bbCtrl_eq h (by decide)
  rw [heq, Dev.writeBbCtrl, if_pos rfl, Dev.countMgmt_cairn]
  cases hf : d.cairn.bbFrozen with
  | true => exact ⟨by simp [← hf], by simp, (Dev.countMgmt_same _ _ _ _).mono (by decide)⟩
  | false => exact ⟨(Dev.fire_same _ _).cairn, fun _ => Dev.fire_sets _ _ (by simp [Dev.sourcePresent]) (by decide),
      Dev.counted_then (SameBut.then ((Dev.cairnAny_same _ _).mono (by decide)) (Dev.fire_same _ _))⟩

theorem bbUnfreeze_spec (h : WritePasses d p 0x3C01004 0) :
    (d.cairn.bbDevice = true → (bbUnfreeze p d).cairn = d.cairn) ∧
      (d.cairn.bbDevice = false → (bbUnfreeze p d).cairn = { d.cairn with bbFrozen := false }) ∧ SameBut recordBlocks d (bbUnfreeze p d) := by
  have heq : bbUnfreeze p d = (d.countMgmt 0x74 p.code 1).writeBbCtrl false := bbCtrl_eq h (by decide)
  rw [heq, Dev.writeBbCtrl, if_neg (by decide), Dev.countMgmt_cairn]
  cases hf : d.cairn.bbDevice with
  | true => exact ⟨fun _ => Dev.countMgmt_cairn _ _ _ _, nofun, (Dev.countMgmt_same _ _ _ _).mono (by decide)⟩
  | false => exact ⟨nofun, fun _ => rfl, Dev.counted_then ((Dev.cairnAny_same _ _).mono (by decide))⟩

end

/-- Settles O52: the writer stores the oldest record under the next SEQ, a clear empties the rings of its SCOPE, and a latched
read takes what the cursor of its port names. -/
theorem cairnLog : Obligations.CairnLog := by
  unfold Obligations.CairnLog
  intro s p r rest v idx x c w stored
  refine ⟨rfl, fun hf hq => Gives.of_onDev rfl (cairnStore_of_queue hf hq), fun hf => Gives.of_onDev rfl (cairnStore_of_flood hf),
    fun hf hq => Gives.of_onDev rfl ?idle, rfl, fun h => ⟨fun hc => Gives.of_onDev rfl ?accepted, fun hc => Gives.of_onDev rfl ?refused⟩,
    fun hb hq => Gives.of_onDev rfl (clearDone_spec hb hq), fun hb => Gives.of_onDev rfl ?notBusy,
    fun h => Gives.of_onDev rfl (slotLatch_spec idx h), fun h => Gives.of_onDev rfl (bbRecordLatch_spec h),
    fun h => Gives.of_onDev rfl (bbCursorAdvance_spec h), fun h => Gives.of_onDev rfl (faultLogAdvance_unc h),
    fun h => Gives.of_onDev rfl (faultLogAdvance_cor h), fun h => Gives.of_onDev rfl (bbFreeze_spec h), fun h => Gives.of_onDev rfl (bbUnfreeze_spec h)⟩
  case idle =>
    have hf' : s.dev.cairn.flood = none := hf
    have hq' : s.dev.cairn.queue = [] := hq
    simp [cairnStore, hf', hq']
  case accepted =>
    obtain ⟨hcairn, hsame⟩ := cairnClear_accepted h hc
    obtain ⟨hslots, hbb, hhigh, hlast, hseq⟩ := CairnSt.clear_spec s.dev.cairn v.toNat x
    rw [hcairn]
    exact ⟨rfl, hseq, hslots, hbb, hhigh, hlast, hsame⟩
  case refused =>
    obtain ⟨hcontent, hstatus, hsame⟩ := cairnClear_refused_spec h hc
    obtain ⟨hcode, hslots, hbb, hbusy⟩ : _ ∧ _ ∧ _ ∧ _ := by simpa [CairnSt.content] using hcontent
    exact ⟨hcode, hslots, hbb, hbusy, hstatus, hsame⟩
  case notBusy =>
    have hb' : s.dev.cairn.clearBusy = false := hb
    simp [clearDone, hb']

end Sys2Proof.Machine

/-! PROOF. The management cores: failure, takeover, watchdog, events and log (R467 to R471, R478). -/

namespace Sys2Proof.Machine

-- One theorem at a time, as in the tests: many at once would ask for more threads than the sandbox gives.
set_option Elab.async false

/-! ### Faults of the management cluster -/

section
variable (d : Dev)

/-- An uncorrectable fault sets its bit of the status and moves no other. -/
theorem Dev.uncFault_uncStatus (bit source stop kind id detail sev : Nat) :
    (d.uncFault bit source stop kind id detail sev).cont.uncStatus = setBit d.cont.uncStatus bit := by
  have hpush (c : ContSt) (t : Trigger) : (c.pushTrigger stop t).uncStatus = c.uncStatus := by
    unfold ContSt.pushTrigger
    dsimp only
    split
    · rfl
    · rfl
  unfold Dev.uncFault
  dsimp only
  split
  · exact hpush _ _
  · exact congrArg ContSt.uncStatus ((Dev.faultLog_same _ _ _ _ _).cont.trans (Dev.haltTests_same _ _).cont)

/-- A fault that concerns no tile leaves the lanes. -/
theorem Dev.uncFault_noTile (bit source stop kind id detail sev : Nat) (h : faultTile stop kind id = none) :
    SameBut (.cont :: recordBlocks) d (d.uncFault bit source stop kind id detail sev) := by
  unfold Dev.uncFault
  dsimp only
  refine SameBut.ite ((d.contAny_same _).mono (by simp)) ?_
  rw [h, ite_self]
  exact ((d.contAny_same _).mono (by simp)).trans ((Dev.faultLog_same _ _ _ _ _).mono (by simp))

end

/-- Setting a bit leaves those below it. -/
theorem bitAt_setBit_below {v i j : Nat} (hij : i < j) : bitAt (setBit v j) i = bitAt v i := by
  have hbit (v : Nat) : bitAt v i = v.testBit i := by simp [bitAt, Nat.testBit_eq_decide_div_mod_eq, Bool.beq_eq_decide_eq]
  unfold setBit
  split
  next => rfl
  next => rw [hbit, hbit, Nat.add_comm, Nat.testBit_two_pow_add_gt hij]

/-! ### The failure of a core (R469) -/

/-- A core as its failure leaves it. -/
def Core.failed (k : Core) (cause : Nat) : Core :=
  { k with state := .failed, role := none, failCause := cause, haltReason := 0, hitIndex := 0, wdCount := 0, bp := [], wp := [], wasStandby := false }

/-- The cores with `c` failed. -/
def CoreSt.lose (t : CoreSt) (c cause : Nat) : CoreSt :=
  { t with core := t.core.upd c (·.failed cause), roleMap := t.roleMap.mapAll (fun _ n => if n = c + 1 then 0 else n) }

/-- The device with `c` failed and its fault reported. -/
def Dev.coreLost (d : Dev) (c cause : Nat) : Dev :=
  (if c = 4 then Dev.takeoverFails { d with cores := d.cores.lose c cause } else { d with cores := d.cores.lose c cause }).uncFault 12 c 9 0xF 0 cause

/-- What the loss of a role brings. -/
def Dev.roleLost (d : Dev) (c : Nat) (role : Option Nat) : Dev :=
  match role with
  | some r => if c < 4 ∧ r < 4 then d.coverRole r else if r < 4 then d.spareExhausted 4 r else d
  | none => d

theorem Dev.coreFail_eq {d : Dev} {c : Nat} (cause : Nat) (h : (d.core c).active = true) :
    d.coreFail c cause = d.watchMode (fun e => (e.coreLost c cause).roleLost c (d.core c).role) := by
  have hguard : ¬ ((d.core c).state == .reset && !(c == 4 && d.cores.takeover) || (d.core c).state == .failed) = true := by
    rcases hs : (d.core c).state with _ | _ | _ | _ | _ <;> simp_all [Core.active]
  exact if_neg hguard

/-- Core `c` has failed with its cause, and no role names it. -/
def CoreSt.Down (t : CoreSt) (c cause : Nat) : Prop :=
  (t.core.rd c).state = .failed ∧ (t.core.rd c).role = none ∧ (t.core.rd c).failCause = cause ∧ ∀ r, t.roleMap.rd r ≠ c + 1

/-- Every value of a mapped table is a mapped value, or the default. -/
theorem Tab.rd_mapAll_ne {α : Type} [Inhabited α] [DecidableEq α] {t : Tab α} {f : Nat → α → α} {x : α} (hf : ∀ k v, f k v ≠ x)
    (hx : default ≠ x) (i : Nat) : (t.mapAll f).rd i ≠ x := by
  induction t with
  | nil => exact hx
  | cons y t ih =>
    obtain ⟨k, v⟩ := y
    unfold Tab.mapAll
    split
    next => exact ih
    next =>
      by_cases hk : k = i
      · simpa [Tab.rd, Tab.rdD, hk] using hf i v
      · simpa [Tab.rd, Tab.rdD, hk] using ih

theorem CoreSt.lose_down (t : CoreSt) (c cause : Nat) : (t.lose c cause).Down c cause := by
  have hcore : (t.lose c cause).core.rd c = (t.core.rd c).failed cause := Tab.rd_upd_same t.core c (·.failed cause)
  unfold CoreSt.Down
  rw [hcore]
  refine ⟨rfl, rfl, rfl, Tab.rd_mapAll_ne (fun _ n => ?_) (Nat.succ_ne_zero c).symm⟩
  split
  · omega
  · omega

/-- The SPC as the start of a takeover leaves it. -/
def Core.taken (k : Core) : Core := { k with state := .reset, role := none, wasStandby := false, bp := [], wp := [] }

/-- The cores with the SPC taken for role `r` under job `k` (R470). -/
def CoreSt.takenFor (t : CoreSt) (r k : Nat) : CoreSt :=
  { t with core := t.core.upd 4 Core.taken
           takeover := true, takeRole := r, takeJob := k, takeLoaded := false, roleMap := t.roleMap.wr 4 0 }

theorem CoreSt.takenFor_down {t : CoreSt} {c cause : Nat} (h : t.Down c cause) (hc : c < 4) (r k : Nat) : (t.takenFor r k).Down c cause := by
  obtain ⟨hstate, hrole, hcause, hmap⟩ := h
  have hcore : (t.takenFor r k).core.rd c = t.core.rd c := Tab.rd_upd_other t.core 4 c Core.taken (by omega)
  unfold CoreSt.Down
  rw [hcore]
  refine ⟨hstate, hrole, hcause, fun x => ?_⟩
  by_cases hx : x = 4
  · rw [hx, show (t.takenFor r k).roleMap.rd 4 = 0 from Tab.rd_wr_same t.roleMap 4 0]
    omega
  · rw [show (t.takenFor r k).roleMap.rd x = t.roleMap.rd x from Tab.rd_wr_other t.roleMap 4 x 0 hx]
    exact hmap x

/-- The blocks that the failure of a core can change. -/
def coreBlocks : List Block := .jobs :: .cores :: .cont :: recordBlocks

/-- The device with the SPC taken for role `r`, before what shows of it. -/
def Dev.spareTaken (d : Dev) (r : Nat) : Dev :=
  let x := d.tickFree.startInternal { op := 0x82, arg0 := r, state := .running, total := d.freeVal 32 }
  { x.1 with cores := x.1.cores.takenFor r (x.2 + 1) }

theorem Dev.startTakeover_spec (d : Dev) (r : Nat) : (∃ k, (d.startTakeover r).cores = d.cores.takenFor r k) ∧
    SameBut (.jobs :: .cores :: recordBlocks) d (d.startTakeover r) := by
  have hjob : SameBut [.jobs] d (d.tickFree.startInternal { op := 0x82, arg0 := r, state := .running, total := d.freeVal 32 }).1 :=
    ((Dev.tickFree_same d).mono (by simp)).trans (Dev.startInternal_same _ _)
  have hw := Dev.watchMode_fires d (fun e => e.spareTaken r)
  refine ⟨⟨(d.tickFree.startInternal { op := 0x82, arg0 := r, state := .running, total := d.freeVal 32 }).2 + 1, hw.cores.trans ?_⟩, ?_⟩
  · exact congrArg (CoreSt.takenFor · r _) hjob.cores
  · exact (hjob.mono (by decide)).trans (SameBut.trans ((Dev.coresAny_same _ _).mono (by decide)) (hw.mono (by decide)))

theorem Dev.coverRole_same (d : Dev) (r : Nat) : SameBut coreBlocks d (d.coverRole r) := by
  unfold Dev.coverRole
  exact .ite ((Dev.spareExhausted_same _ _ _).mono (by decide)) (.ite (.refl _ _) (.ite ((Dev.startTakeover_spec _ _).2.mono (by decide))
    ((Dev.coresAny_same _ _).mono (by decide))))

theorem Dev.spareExhausted_uncStatus (d : Dev) (kind elem : Nat) : (d.spareExhausted kind elem).cont.uncStatus = d.cont.uncStatus := by
  unfold Dev.spareExhausted
  split
  · rfl
  · rw [(Dev.log_same _ _ _ _).cont]

theorem Dev.coverRole_uncStatus (d : Dev) (r : Nat) : (d.coverRole r).cont.uncStatus = d.cont.uncStatus := by
  have hcont {e : Dev} (h : SameBut (.jobs :: .cores :: recordBlocks) d e) : e.cont.uncStatus = d.cont.uncStatus := congrArg ContSt.uncStatus h.cont
  unfold Dev.coverRole
  dsimp only
  split
  · exact Dev.spareExhausted_uncStatus _ _ _
  · split
    · rfl
    · split
      · exact hcont (Dev.startTakeover_spec _ _).2
      · rfl

theorem Dev.coverRole_down {d : Dev} {c cause : Nat} (h : d.cores.Down c cause) (hc : c < 4) (r : Nat) : (d.coverRole r).cores.Down c cause := by
  unfold Dev.coverRole
  dsimp only
  split
  · rw [(Dev.spareExhausted_same _ _ _).cores]
    exact h
  · split
    · exact h
    · split
      · obtain ⟨⟨k, hk⟩, -⟩ := Dev.startTakeover_spec d r
        rw [hk]
        exact CoreSt.takenFor_down h hc r k
      · exact h

theorem Dev.roleLost_down {d : Dev} {c cause : Nat} (h : d.cores.Down c cause) (role : Option Nat) : (d.roleLost c role).cores.Down c cause := by
  cases role with
  | none => exact h
  | some r =>
    unfold Dev.roleLost
    dsimp only
    split
    next hcr => exact Dev.coverRole_down h hcr.1 r
    next =>
      split
      · rw [(Dev.spareExhausted_same _ _ _).cores]
        exact h
      · exact h

theorem Dev.roleLost_rest (d : Dev) (c : Nat) (role : Option Nat) :
    (d.roleLost c role).cont.uncStatus = d.cont.uncStatus ∧ SameBut coreBlocks d (d.roleLost c role) := by
  cases role with
  | none => exact ⟨rfl, .refl _ _⟩
  | some r =>
    unfold Dev.roleLost
    dsimp only
    split
    · exact ⟨Dev.coverRole_uncStatus _ _, Dev.coverRole_same _ _⟩
    · split
      · exact ⟨Dev.spareExhausted_uncStatus _ _ _, (Dev.spareExhausted_same _ _ _).mono (by decide)⟩
      · exact ⟨rfl, .refl _ _⟩

theorem Dev.takeoverFails_spec (d : Dev) : (d.takeoverFails.cores.core = d.cores.core ∧ d.takeoverFails.cores.roleMap = d.cores.roleMap) ∧
    SameBut (.jobs :: .cores :: recordBlocks) d d.takeoverFails := by
  unfold Dev.takeoverFails
  split
  · rw [Dev.endJob_cores]
    exact ⟨⟨rfl, rfl⟩, SameBut.trans ((Dev.tickFree_same d).mono (by simp)) (SameBut.then ((Dev.coresAny_same _ _).mono (by decide)) (Dev.endJob_same _ _ _ _ _))⟩
  · exact ⟨⟨rfl, rfl⟩, .refl _ _⟩

theorem Dev.coreLost_spec (d : Dev) (c cause : Nat) : (d.coreLost c cause).cores.Down c cause ∧
    (d.coreLost c cause).cont.uncStatus = setBit d.cont.uncStatus 12 ∧ SameBut coreBlocks d (d.coreLost c cause) := by
  have hdown := CoreSt.lose_down d.cores c cause
  have hlose : SameBut coreBlocks d { d with cores := d.cores.lose c cause } := (Dev.coresAny_same _ _).mono (by decide)
  have hfault (e : Dev) : SameBut coreBlocks e (e.uncFault 12 c 9 0xF 0 cause) := (Dev.uncFault_noTile e _ _ _ _ _ _ _ (by decide)).mono (by decide)
  unfold Dev.coreLost
  rw [Dev.uncFault_cores, Dev.uncFault_uncStatus]
  split
  · obtain ⟨⟨hcore, hmap⟩, hsame⟩ := Dev.takeoverFails_spec { d with cores := d.cores.lose c cause }
    refine ⟨?_, by rw [hsame.cont], (hlose.trans (hsame.mono (by decide))).trans (hfault _)⟩
    unfold CoreSt.Down
    rw [hcore, hmap]
    exact hdown
  · exact ⟨hdown, rfl, hlose.trans (hfault _)⟩

/-- Device `e` is `d` with core `c` failed. -/
def CoreFailed (c cause : Nat) (d e : Dev) : Prop :=
  (e.core c).state = .failed ∧ (e.core c).role = none ∧ (e.core c).failCause = cause ∧ (∀ r, e.cores.roleMap.rd r ≠ c + 1) ∧
    bitAt e.cont.uncStatus 12 = true ∧ e.part = d.part ∧ e.run = d.run

theorem Dev.coreFail_spec {d : Dev} {c : Nat} (cause : Nat) (h : (d.core c).active = true) :
    (d.coreFail c cause).cores.Down c cause ∧ (d.coreFail c cause).cont.uncStatus = setBit d.cont.uncStatus 12 ∧ SameBut coreBlocks d (d.coreFail c cause) := by
  obtain ⟨hdown, hstatus, hsame⟩ := Dev.coreLost_spec d c cause
  obtain ⟨hstatus', hsame'⟩ := Dev.roleLost_rest (d.coreLost c cause) c (d.core c).role
  have hw := Dev.watchMode_fires d (fun e => (e.coreLost c cause).roleLost c (d.core c).role)
  rw [Dev.coreFail_eq cause h]
  refine ⟨?_, ?_, (hsame.trans hsame').trans (hw.mono (by decide))⟩
  · rw [hw.cores]
    exact Dev.roleLost_down hdown _
  · rw [hw.cont]
    exact hstatus'.trans hstatus

theorem Dev.coreFail_fails {d : Dev} {c : Nat} (cause : Nat) (h : (d.core c).active = true) : CoreFailed c cause d (d.coreFail c cause) := by
  obtain ⟨⟨hstate, hrole, hcause, hmap⟩, hstatus, hsame⟩ := Dev.coreFail_spec cause h
  exact ⟨hstate, hrole, hcause, hmap, hstatus ▸ bitAt_setBit_same _ _, hsame.part, hsame.run⟩

/-! ### A core whose role the SPC can take (R470) -/

section
variable {d : Dev} {c r : Nat} (cause : Nat) (h : (d.core c).active = true) (hc : c < 4) (hr : r < 4) (hrole : (d.core c).role = some r)
include h hc hr hrole

theorem Dev.coreFail_of_role : SameBut [.evt, .pcie] ((d.coreLost c cause).coverRole r) (d.coreFail c cause) := by
  have hlost (e : Dev) : e.roleLost c (some r) = e.coverRole r := if_pos ⟨hc, hr⟩
  rw [Dev.coreFail_eq cause h, ← hlost, ← hrole]
  exact Dev.watchMode_fires d (fun e => (e.coreLost c cause).roleLost c (d.core c).role)

omit h hr hrole in
theorem Dev.coreLost_cores : (d.coreLost c cause).cores = d.cores.lose c cause := by
  unfold Dev.coreLost
  rw [if_neg (by omega), Dev.uncFault_cores]

omit h hr hrole in
theorem Dev.coreLost_core_other {x : Nat} (hx : x ≠ c) : (d.coreLost c cause).core x = d.core x :=
  (congrArg (fun t => t.core.rd x) (Dev.coreLost_cores cause hc)).trans (Tab.rd_upd_other d.cores.core c x (·.failed cause) hx)

variable (hs : (d.core 4).state = .standby)
include hs

omit h hr hrole in
theorem Dev.coverRole_of_standby : (d.coreLost c cause).coverRole r =
    if (d.policy 4).enable then (d.coreLost c cause).startTakeover r else d.coreLost c cause := by
  have hspare : ((d.coreLost c cause).core 4).state = .standby := (congrArg Core.state (Dev.coreLost_core_other cause hc (by omega))).trans hs
  have hpolicy : (d.coreLost c cause).policy 4 = d.policy 4 := congrArg (·.spare.rd 4) (Dev.coreLost_spec d c cause).2.2.run
  unfold Dev.coverRole
  dsimp only
  rw [hspare, hpolicy]
  cases (d.policy 4).enable
  · rfl
  · rfl

/-- The SPC is taken for the role. -/
theorem Dev.coreFail_takes (hp : (d.policy 4).enable = true) : (d.coreFail c cause).cores.takeover = true ∧
    (d.coreFail c cause).cores.takeRole = r ∧ ((d.coreFail c cause).core 4).state = .reset ∧
    ∀ x, x ≠ 4 → x ≠ c → (d.coreFail c cause).core x = d.core x := by
  obtain ⟨⟨k, hk⟩, -⟩ := Dev.startTakeover_spec (d.coreLost c cause) r
  have hcores := (Dev.coreFail_of_role cause h hc hr hrole).cores
  rw [Dev.coverRole_of_standby cause hc hs, if_pos hp, hk] at hcores
  have hcore : ∀ x, (d.coreFail c cause).core x = _ := fun x => congrArg (fun t => t.core.rd x) hcores
  refine ⟨congrArg CoreSt.takeover hcores, congrArg CoreSt.takeRole hcores, ?_, fun x h4 hx => ?_⟩
  · rw [hcore, show (CoreSt.takenFor (d.coreLost c cause).cores r k).core.rd 4 = Core.taken ((d.coreLost c cause).cores.core.rd 4) from Tab.rd_upd_same _ 4 Core.taken]
    rfl
  · exact (hcore x).trans ((Tab.rd_upd_other _ 4 x Core.taken h4).trans (Dev.coreLost_core_other cause hc hx))

/-- With kind 4 of the policy off the role stays without a core. -/
theorem Dev.coreFail_uncovered (hp : (d.policy 4).enable = false) : (d.coreFail c cause).cores.takeover = d.cores.takeover ∧
    (∀ x, x ≠ c → (d.coreFail c cause).core x = d.core x) ∧ SameBut (.cores :: .cont :: recordBlocks) d (d.coreFail c cause) := by
  have hfail := Dev.coreFail_of_role cause h hc hr hrole
  rw [Dev.coverRole_of_standby cause hc hs, if_neg (by simp [hp])] at hfail
  refine ⟨(congrArg CoreSt.takeover hfail.cores).trans (congrArg CoreSt.takeover (Dev.coreLost_cores cause hc) :),
    fun x hx => (congrArg (·.core.rd x) hfail.cores).trans (Dev.coreLost_core_other cause hc hx), ?_⟩
  have hlost : SameBut (.cores :: .cont :: recordBlocks) d (d.coreLost c cause) := by
    unfold Dev.coreLost
    rw [if_neg (by omega)]
    exact SameBut.trans ((Dev.coresAny_same _ _).mono (by decide)) ((Dev.uncFault_noTile _ _ _ _ _ _ _ _ (by decide)).mono (by decide))
  exact hlost.trans (hfail.mono (by decide))

end

/-! ### The rows of a failure (R469) -/

section
variable {d : Dev} {c : Fin 5}

theorem Core.active_of_running {k : Core} (h : k.state = .running) : k.active = true := by simp [Core.active, h]

theorem watchdogExpiry_eq (hs : (d.core c).state = .running) (hr : (d.core c).ready = true) (hw : (d.core c).watchdog ≤ (d.core c).wdCount) :
    watchdogExpiry c d = d.coreFail c 1 := if_pos ⟨hs, hr, hw⟩

theorem watchdogExpiry_of_quiet (h : (d.core c).state ≠ .running ∨ (d.core c).ready = false ∨ (d.core c).wdCount < (d.core c).watchdog) :
    watchdogExpiry c d = d := by
  refine if_neg fun hall => ?_
  obtain ⟨hs, hr, hw⟩ := hall
  rcases h with h | h | h
  · exact h hs
  · simp [hr] at h
  · omega

theorem readyTimeout_eq (ha : (d.core c).active = true) (hr : (d.core c).ready = false) : readyTimeout c d = d.coreFail c 5 :=
  if_pos (by simp [ha, hr])

theorem readyTimeout_of_quiet (h : (d.core c).active = false ∨ (d.core c).ready = true) : readyTimeout c d = d := by
  refine if_neg ?_
  rcases h with h | h
  · simp [h]
  · simp [h]

theorem coreException_fatal (ha : (d.core c).active = true) : coreException c false d = d.coreFail c 2 := by simp [coreException, ha]

theorem coreException_memory (ha : (d.core c).active = true) : coreException c true d = (d.uncFault 3 c 9 0xF 0 0).coreFail c 3 := by
  simp [coreException, ha, Dev.coreMemoryFails]

/-- An uncorrectable error in a memory is a fault of its own, before the core fails. -/
theorem coreException_memory_spec (ha : (d.core c).active = true) :
    CoreFailed c 3 d (coreException c true d) ∧ bitAt (coreException c true d).cont.uncStatus 3 = true := by
  have hcore : (d.uncFault 3 c 9 0xF 0 0).core c = d.core c := by rw [Dev.core, Dev.uncFault_cores]; rfl
  have ha' : ((d.uncFault 3 c 9 0xF 0 0).core c).active = true := hcore ▸ ha
  obtain ⟨-, hstatus, -⟩ := Dev.coreFail_spec 3 ha'
  obtain ⟨hstate, hrole, hcause, hmap, hbit, hpart, hrun⟩ := Dev.coreFail_fails 3 ha'
  rw [coreException_memory ha]
  refine ⟨⟨hstate, hrole, hcause, hmap, hbit, hpart.trans (by simp), hrun.trans (by simp)⟩, ?_⟩
  rw [hstatus, bitAt_setBit_below (by decide), Dev.uncFault_uncStatus, bitAt_setBit_same]

theorem coreException_of_failed (hf : (d.core c).state = .failed) : coreException c true d = d := by
  simp [coreException, Core.active, hf]

/-! ### The SPC starts in its new role (R470) -/

/-- The cores with the SPC started in the role that it takes. -/
def CoreSt.spareStarts (t : CoreSt) (f : Firmware) : CoreSt :=
  { t with core := t.core.upd 4 (fun k => k.start f t.takeRole .running), takeLoaded := true, roleMap := t.roleMap.wr t.takeRole 5 }

theorem takeoverImageLoaded_eq (ht : d.cores.takeover = true) (hl : d.cores.takeLoaded = false) :
    takeoverImageLoaded d = ({ d with cores := d.cores.spareStarts (d.run.firmware.rd d.cores.takeRole) } : Dev).corFault 5 4 d.cores.takeRole :=
  if_pos (by simp [ht, hl])

theorem takeoverImageLoaded_spec (ht : d.cores.takeover = true) (hl : d.cores.takeLoaded = false) :
    (takeoverImageLoaded d).cores = d.cores.spareStarts (d.run.firmware.rd d.cores.takeRole) ∧
      bitAt (takeoverImageLoaded d).cont.corStatus 5 = true ∧ SameBut (.cores :: .cont :: recordBlocks) d (takeoverImageLoaded d) := by
  rw [takeoverImageLoaded_eq ht hl]
  exact ⟨by simp, by rw [Dev.corFault_sets, bitAt_setBit_same], SameBut.trans ((Dev.coresAny_same _ _).mono (by decide)) ((Dev.corFault_same _ _ _ _ _).mono (by decide))⟩

theorem CoreSt.spareStarts_core (t : CoreSt) (f : Firmware) : (t.spareStarts f).core.rd 4 = (t.core.rd 4).start f t.takeRole .running :=
  Tab.rd_upd_same t.core 4 (fun k => k.start f t.takeRole .running)

theorem CoreSt.spareStarts_core_other (t : CoreSt) (f : Firmware) {x : Nat} (hx : x ≠ 4) : (t.spareStarts f).core.rd x = t.core.rd x :=
  Tab.rd_upd_other t.core 4 x (fun k => k.start f t.takeRole .running) hx

end

/-! ### The registers of a core (R469, R477, R478) -/

section
variable {d : Dev} {c : Fin 5}

/-- A write of a register of a core by the core itself. -/
theorem Dev.write4_core {off v : Nat} (h : WritePasses d (.core c) (coreAddr c off) v) (hv : v < 2 ^ 32)
    (hoff : off = 0x8 ∨ off = 0xC ∨ off = 0x7C) :
    d.write4 (.core c) (coreAddr c off) v = (d.countMgmt 0x74 (CmdPort.core c).code 1).coresWrite (.core c) (0x100 * c + off) v := by
  have hsub : coreAddr c off - 0x4000000 = 0x100 * c + off := by unfold coreAddr; omega
  have ha : 0x4000000 ≤ coreAddr c off ∧ coreAddr c off < 0x4000500 := by unfold coreAddr; omega
  have hform : (d.regAttr (.core c) (coreAddr c off)).form = .word := by
    have hmod : (0x100 * c.val + off) % 0x100 = off := by omega
    unfold Dev.regAttr
    simp (disch := omega) only [if_neg, if_pos, hsub]
    unfold coresAttr
    simp (disch := omega) only [if_neg, if_pos, hmod]
    rfl
  rw [Dev.write4_word h (by simp [hform]) hv]
  unfold Dev.regWrite
  simp (disch := omega) only [if_neg, hsub]

theorem Dev.coresWrite_at {e : Dev} {p : CmdPort} {off v : Nat} (hoff : off = 0x8 ∨ off = 0xC ∨ off = 0x7C) :
    e.coresWrite p (0x100 * c + off) v = if off = 0x8 then e.writeKick c v else if off = 0xC then e.writeEvent v else e.writeLog c 15 v := by
  have hdiv : (0x100 * c.val + off) / 0x100 = c := by omega
  have hmod : (0x100 * c.val + off) % 0x100 = off := by omega
  unfold Dev.coresWrite
  dsimp only
  rw [hdiv, hmod, if_neg (by omega)]
  rcases hoff with rfl | rfl | rfl
  · rfl
  · rfl
  · rfl

/-- A core that has written KICK. -/
def Core.kicked (k : Core) (v : Nat) : Core := { k with wdCount := 0, ready := k.ready || bitAt v 0 }

theorem coreKick_eq {v : Word} (h : WritePasses d (.core c) (coreAddr c 0x08) v.toNat) :
    coreKick c v d = (d.countMgmt 0x74 (CmdPort.core c).code 1).writeKick c v.toNat := by
  rw [coreKick, Dev.write4_core h v.isLt (.inl rfl), Dev.coresWrite_at (.inl rfl)]
  rfl

theorem coreEvent_eq {n : Fin 32} (h : WritePasses d (.core c) (coreAddr c 0x0C) n) :
    coreEvent c n d = (d.countMgmt 0x74 (CmdPort.core c).code 1).fire (0x3E0 + n) := by
  have hn : fld n.val 0 5 = n := by simp [fld, Nat.mod_eq_of_lt n.isLt]
  rw [coreEvent, Dev.write4_core h (by omega) (.inr (.inl rfl)), Dev.coresWrite_at (.inr (.inl rfl))]
  exact congrArg (fun k => Dev.fire _ (0x3E0 + k)) hn

theorem coreLog_eq {v : Word} (h : WritePasses d (.core c) (coreAddr c 0x7C) v.toNat) :
    coreLog c v d = (d.countMgmt 0x74 (CmdPort.core c).code 1).writeLog c 15 v.toNat := by
  rw [coreLog, Dev.write4_core h v.isLt (.inr (.inr rfl)), Dev.coresWrite_at (.inr (.inr rfl))]
  rfl

/-- KICK restarts the watchdog and takes READY. -/
theorem coreKick_spec {v : Word} (h : WritePasses d (.core c) (coreAddr c 0x08) v.toNat) :
    (coreKick c v d).core c = (d.core c).kicked v.toNat ∧
      (∀ x, x ≠ c.val → (coreKick c v d).core x = d.core x) ∧ SameBut (.cores :: accessBlocks) d (coreKick c v d) := by
  have hcounted (x : Nat) : (d.countMgmt 0x74 (CmdPort.core c).code 1).core x = d.core x := by simp [Dev.core]
  rw [coreKick_eq h]
  refine ⟨?_, fun x hx => ?_, Dev.counted_then ((Dev.setCore_same _ _ _).mono (by decide))⟩
  · rw [← hcounted]
    exact Tab.rd_upd_same _ _ (Core.kicked · v.toNat)
  · exact (Tab.rd_upd_other _ _ _ (Core.kicked · v.toNat) hx).trans (hcounted x)

end

/-- The record that a core's log words spell. -/
def Dev.coreRecord (d : Dev) (c : Nat) : CairnRec :=
  let w := fun j => (d.core c).log.rd j
  { tick := d.stampTick, offset := d.stampOffset, code := fld (w 5) 0 10, severity := fld (w 5) 16 3, writer := d.roleOf c + 1, partition := fld (w 6) 0 5, cmdPort := fld (w 6) 8 8, inst := fld (w 6) 16 16, detail := [w 8, w 9, w 10, w 11, w 12, w 13, w 14] }

/-- The device with log word 15 of core `c` written. -/
def Dev.logged (d : Dev) (c v : Nat) : Dev := d.setCore c (fun k => { k with log := k.log.wr 15 (v % 2 ^ 32) })

theorem Dev.writeLog_last (d : Dev) (c v : Nat) : d.writeLog c 15 v = (d.logged c v).enqueue ((d.logged c v).coreRecord c) := rfl

theorem coreLog_spec {d : Dev} {c : Fin 5} {v : Word} (h : WritePasses d (.core c) (coreAddr c 0x7C) v.toNat) (hq : d.cairn.queue = [])
    (hs : d.cairn.minSeverity ≤ fld ((d.core c).log.rd 5) 16 3) :
    (∃ r, (coreLog c v d).cairn.queue = [r] ∧ r.writer = d.roleOf c + 1 ∧ r.code = fld ((d.core c).log.rd 5) 0 10 ∧
      r.severity = fld ((d.core c).log.rd 5) 16 3) ∧ SameBut (.cores :: recordBlocks) d (coreLog c v d) := by
  have hcore : ((d.countMgmt 0x74 (CmdPort.core c).code 1).logged c v.toNat).core c =
      { d.core c with log := (d.core c).log.wr 15 (v.toNat % 2 ^ 32) } := by
    simp [Dev.logged, Dev.setCore, Dev.core]
  have hword : (((d.countMgmt 0x74 (CmdPort.core c).code 1).logged c v.toNat).core c).log.rd 5 = (d.core c).log.rd 5 := by
    rw [hcore]
    exact Tab.rd_wr_other _ _ _ _ (by decide)
  have hrole : ((d.countMgmt 0x74 (CmdPort.core c).code 1).logged c v.toNat).roleOf c = d.roleOf c := by
    rw [Dev.roleOf, hcore]
    rfl
  have hcairn : ((d.countMgmt 0x74 (CmdPort.core c).code 1).logged c v.toNat).cairn = d.cairn := Dev.countMgmt_cairn _ _ _ _
  rw [coreLog_eq h, Dev.writeLog_last]
  refine ⟨⟨Dev.coreRecord ((d.countMgmt 0x74 (CmdPort.core c).code 1).logged c v.toNat) c, ?_, congrArg (· + 1) hrole,
      congrArg (fld · 0 10) hword, congrArg (fld · 16 3) hword⟩,
    ((Dev.countMgmt_same _ _ _ _).mono (by decide)).trans (((Dev.setCore_same _ _ _).mono (by decide)).trans ((Dev.enqueue_same _ _).mono (by decide)))⟩
  rw [Dev.enqueue_of_empty (by rw [hcairn, hq]) (by rw [hcairn]; exact Nat.le_trans hs (Nat.le_of_eq (congrArg (fld · 16 3) hword).symm))]

/-- Settles O51: a core that fails loses its role for good; the SPC takes the role when the policy enables it. -/
theorem coreRows : Obligations.CoreRows := by
  unfold Obligations.CoreRows
  intro s c v n k fails
  refine ⟨fun hs hr hw => Gives.of_onDev rfl ?expiry, fun h => Gives.of_onDev rfl (watchdogExpiry_of_quiet h),
    fun r hc hr hs hready hw hrole hspare hp => Gives.of_onDev rfl ?taken,
    fun r hc hr hs hready hw hrole hspare hp => Gives.of_onDev rfl ?uncovered,
    fun ha hr => Gives.of_onDev rfl ?ready, fun h => Gives.of_onDev rfl (readyTimeout_of_quiet h),
    fun ha => ⟨Gives.of_onDev rfl ?fatal, Gives.of_onDev rfl (coreException_memory_spec ha)⟩,
    fun hf => Gives.of_onDev rfl (coreException_of_failed hf), fun ht hl hr => Gives.of_onDev rfl ?loaded,
    fun ht => Gives.of_onDev rfl ?noTakeover, fun h => Gives.of_onDev rfl (coreKick_spec h),
    fun h => Gives.of_onDev rfl ?event, fun h hq hsev => Gives.of_onDev rfl (coreLog_spec h hq hsev)⟩
  case expiry =>
    rw [watchdogExpiry_eq hs hr hw]
    exact Dev.coreFail_fails 1 (Core.active_of_running hs)
  case taken =>
    have ha : (s.dev.core c).active = true := Core.active_of_running hs
    rw [watchdogExpiry_eq hs hready hw]
    exact ⟨Dev.coreFail_fails 1 ha, Dev.coreFail_takes 1 ha hc hr hrole hspare hp⟩
  case uncovered =>
    have ha : (s.dev.core c).active = true := Core.active_of_running hs
    rw [watchdogExpiry_eq hs hready hw]
    exact ⟨Dev.coreFail_fails 1 ha, Dev.coreFail_uncovered 1 ha hc hr hrole hspare hp⟩
  case ready =>
    rw [readyTimeout_eq ha hr]
    exact Dev.coreFail_fails 5 ha
  case fatal =>
    rw [coreException_fatal ha]
    exact Dev.coreFail_fails 2 ha
  case loaded =>
    obtain ⟨hcores, hstatus, hsame⟩ := takeoverImageLoaded_spec ht hl
    have hcore : ∀ x, (takeoverImageLoaded s.dev).core x = _ := fun x => congrArg (fun t => t.core.rd x) hcores
    have hspare : (takeoverImageLoaded s.dev).core 4 = _ := (hcore 4).trans (CoreSt.spareStarts_core _ _)
    rw [hspare, hcores]
    refine ⟨rfl, rfl, rfl, rfl, Tab.rd_wr_same _ _ _, ?_, hstatus, fun x hx => (hcore x).trans (CoreSt.spareStarts_core_other _ _ hx), hsame⟩
    exact Tab.rd_wr_same s.dev.cores.roleMap _ 5
  case noTakeover =>
    have ht' : s.dev.cores.takeover = false := ht
    simp [takeoverImageLoaded, ht']
  case event =>
    rw [coreEvent_eq h]
    exact ⟨Dev.fire_sets _ _ (by simp [Dev.sourcePresent]; omega) (by omega), Dev.counted_then ((Dev.fire_same _ _).mono (by decide))⟩

end Sys2Proof.Machine

/-! PROOF. Containment without a link: commits of the Boundary rules, triggers, restoration, the Transit scan, spare windows and
the rows of SRAM macros (R387, R399 to R420, R466). -/

namespace Sys2Proof.Machine

-- One theorem at a time, as in the tests: many at once would ask for more threads than the sandbox gives.
set_option Elab.async false

/-! ### Fatal faults (R402, R405) -/

/-- Above bit 10 the severities are fixed (Table 13.2). -/
theorem ContSt.severity_fixed (c : ContSt) {b : Nat} (hb : 11 ≤ b) : bitAt c.severity b = bitAt sevFixed b := by
  have hwritable : Nat.land c.uncSev sevWritable ≤ 963 := Nat.and_le_right
  have hlow : c.severity / 2 ^ 11 = sevFixed / 2 ^ 11 := by
    have hfixed : sevFixed = 48 + 2 ^ 11 * (sevFixed / 2 ^ 11) := by decide
    unfold ContSt.severity
    omega
  have hpow : 2 ^ b = 2 ^ 11 * 2 ^ (b - 11) := by rw [← Nat.pow_add]; congr 1; omega
  simp only [bitAt, hpow, ← Nat.div_div_eq_div_mul, hlow]

theorem Dev.isFatal_fixed (d : Dev) {b : Nat} (hb : 11 ≤ b) : d.isFatal b = bitAt sevFixed b := ContSt.severity_fixed _ hb

theorem ContSt.pushTrigger_rest (c : ContSt) (stop : Nat) (t : Trigger) :
    (c.pushTrigger stop t).uncStatus = c.uncStatus ∧ (c.pushTrigger stop t).domain = c.domain := by
  unfold ContSt.pushTrigger
  dsimp only
  split
  · exact ⟨rfl, rfl⟩
  · exact ⟨rfl, rfl⟩

/-- A trigger enters a stop whose places are not all taken. -/
theorem ContSt.pushTrigger_mem {c : ContSt} {stop : Nat} (t : Trigger) (h : (c.stop.rd stop).length ≤ 32) :
    t ∈ (c.pushTrigger stop t).stop.rd stop := by
  unfold ContSt.pushTrigger
  dsimp only
  rw [List.drop_eq_nil_of_le h, if_neg (by simp), Tab.rd_wr_same]
  simp

section
variable {d : Dev} {bit source stop kind id detail sev : Nat} (hf : d.isFatal bit = true) (hm : d.mode.base ≠ .m10)
include hf hm

/-- A fatal fault outside M10 forms a trigger at its stop. -/
theorem Dev.uncFault_fatal : SameBut [.cont] d (d.uncFault bit source stop kind id detail sev) ∧
    (d.uncFault bit source stop kind id detail sev).cont.domain = d.cont.domain ∧
    ((d.cont.stop.rd stop).length ≤ 32 →
      ∃ t ∈ (d.uncFault bit source stop kind id detail sev).cont.stop.rd stop, t.bit = bit ∧ t.kind = kind ∧ t.id = id) := by
  unfold Dev.uncFault
  dsimp only
  rw [if_pos (by simp [hf, hm])]
  exact ⟨Dev.contAny_same _ _, (ContSt.pushTrigger_rest _ _ _).2, fun h => ⟨_, ContSt.pushTrigger_mem _ h, rfl, rfl, rfl⟩⟩

end

/-! ### Commits of the Boundary rules (R387) -/

section
variable {d : Dev} {p : CmdPort}

theorem Dev.bndCommitResult_counted (d : Dev) (p : CmdPort) (t ev n v : Nat) : (d.countMgmt ev n v).bndCommitResult p t = d.bndCommitResult p t :=
  Dev.countMgmt_fun (fun e => e.bndCommitResult p t) d ev n v (fun _ _ _ _ => rfl)

theorem boundaryCommit_eq {table : Fin 256} (h : WritePasses d p 0x300000C (2 ^ 31 + table)) :
    boundaryCommit p table d = (d.countMgmt 0x74 p.code 1).bndCommit p table := by
  have hbit : bitAt (2147483648 + table.val) 31 = true := by
    simp only [bitAt, beq_iff_eq]
    omega
  have hlow : (2147483648 + table.val) % 256 = table := by omega
  rw [boundaryCommit, Dev.write4_word h (by simp [Dev.regAttr, Dev.bndAttr, attrWO]) (by omega)]
  simp [Dev.regWrite, Dev.bndWrite, hbit, hlow]

/-- The Boundary block with the answer of a commit. -/
def BndSt.answered (b : BndSt) (table : Nat) (c : Nat × Nat) : BndSt := { b with code := c.1, detail := c.2, gate := table }

/-- What a commit of the rules of a table answers, and what waits for the boundary. -/
def BndCommitted (d e : Dev) (table : Nat) (c : Nat × Nat) : Prop :=
  e.bnd.code = c.1 ∧ e.bnd.detail = c.2 ∧ e.bnd.gate = table ∧ e.bnd.rule = d.bnd.rule ∧ e.bnd.epoch = d.bnd.epoch ∧
    e.commits = d.commits ++ (if c.1 = 0 then [(d.tickCycleHere, .rules table (d.bnd.grp.rd table).changes)] else []) ∧
    SameBut (.bnd :: .commits :: accessBlocks) d e

theorem Dev.bndCommit_spec (d : Dev) (p : CmdPort) (table : Nat) : BndCommitted d (d.bndCommit p table) table (d.bndCommitResult p table) := by
  unfold Dev.bndCommit
  dsimp only
  split
  next h =>
    unfold BndCommitted
    rw [h, if_pos rfl]
    exact ⟨rfl, rfl, rfl, rfl, rfl, rfl, .trans ((d.bndAny_same _).mono (by decide)) ((Dev.commitsAny_same _ _).mono (by decide))⟩
  next h =>
    unfold BndCommitted
    rw [if_neg h, List.append_nil]
    exact ⟨rfl, rfl, rfl, rfl, rfl, rfl, (d.bndAny_same _).mono (by decide)⟩

theorem boundaryCommit_spec {table : Fin 256} (h : WritePasses d p 0x300000C (2 ^ 31 + table)) :
    BndCommitted d (boundaryCommit p table d) table (d.bndCommitResult p table) := by
  have hcode := Dev.bndCommitResult_counted d p table 0x74 p.code 1
  have hcycle : (d.countMgmt 0x74 p.code 1).tickCycleHere = d.tickCycleHere :=
    Dev.countMgmt_fun Dev.tickCycleHere d _ _ _ (fun _ _ _ _ => rfl)
  obtain ⟨h1, h2, h3, h4, h5, h6, h7⟩ := Dev.bndCommit_spec (d.countMgmt 0x74 p.code 1) p table
  rw [hcode] at h1 h2 h6
  rw [Dev.countMgmt_bnd] at h4 h5 h6
  rw [Dev.countMgmt_commits, hcycle] at h6
  rw [boundaryCommit_eq h]
  exact ⟨h1, h2, h3, h4, h5, h6, ((Dev.countMgmt_same _ _ _ _).mono (by decide)).trans h7⟩

/-! ### Software triggers and the thermal trip (R400, R414) -/

theorem containTrigger_eq {kind : Fin 16} {id : Fin 65536} (h : WritePasses d p 0x11088 (2147483648 + 65536 * kind + id)) :
    containTrigger p kind id d = if d.domainExists kind id then (d.countMgmt 0x74 p.code 1).uncFault 17 id 9 kind id kind
      else (d.countMgmt 0x74 p.code 1).dropped p 0x11088 (2147483648 + 65536 * kind + id) 2 := by
  have hpack : pack [(31, 1), (16, kind.val), (0, id.val)] = 2147483648 + 65536 * kind.val + id.val := by
    simp [pack]
    omega
  have hbit : bitAt (2147483648 + 65536 * kind.val + id.val) 31 = true := by
    simp only [bitAt, beq_iff_eq]
    omega
  have hkind : fld (2147483648 + 65536 * kind.val + id.val) 16 4 = kind := by
    simp only [fld]
    omega
  have hid : fld (2147483648 + 65536 * kind.val + id.val) 0 16 = id := by
    simp only [fld]
    omega
  have hexists : (d.countMgmt 0x74 p.code 1).domainExists kind id = d.domainExists kind id := 
    Dev.countMgmt_fun (fun e => e.domainExists kind id) d _ _ _ (fun _ _ _ _ => rfl)
  rw [containTrigger, hpack, Dev.write4_word h (by simp [Dev.regAttr, Dev.globalAttr, attrWO]) (by omega)]
  simp [Dev.regWrite, Dev.globalWrite, Dev.containTrigger, hbit, hkind, hid, hexists, containBase]

theorem containTrigger_present {kind : Fin 16} {id : Fin 65536} (h : WritePasses d p 0x11088 (2 ^ 31 + 65536 * kind + id)) (hm : d.mode.base ≠ .m10)
    (he : d.domainExists kind id = true) (hq : (d.cont.stop.rd 9).length ≤ 32) :
    bitAt (containTrigger p kind id d).cont.uncStatus 17 = true ∧
      (∃ t ∈ (containTrigger p kind id d).cont.stop.rd 9, t.bit = 17 ∧ t.kind = kind.val ∧ t.id = id.val) ∧
      (containTrigger p kind id d).cont.domain = d.cont.domain ∧ SameBut (.cont :: accessBlocks) d (containTrigger p kind id d) := by
  have hfatal : (d.countMgmt 0x74 p.code 1).isFatal 17 = true := by
    rw [Dev.isFatal_fixed _ (by decide)]
    decide
  obtain ⟨hsame, hdomain, htrigger⟩ := Dev.uncFault_fatal (d := d.countMgmt 0x74 p.code 1) (source := id) (stop := 9) (kind := kind) (id := id) (detail := kind) (sev := 2)
    hfatal (by simpa using hm)
  rw [containTrigger_eq h, if_pos he]
  exact ⟨Dev.uncFault_sets _ _ _ _ _ _ _ _, htrigger (by simpa using hq), hdomain.trans (by simp),
    ((Dev.countMgmt_same _ _ _ _).mono (by decide)).trans (hsame.mono (by decide))⟩

theorem containTrigger_absent {kind : Fin 16} {id : Fin 65536} (h : WritePasses d p 0x11088 (2 ^ 31 + 65536 * kind + id))
    (he : d.domainExists kind id = false) : (containTrigger p kind id d).evt.status.getLsbD 0x04A = true ∧ SameBut recordBlocks d (containTrigger p kind id d) := by
  rw [containTrigger_eq h, if_neg (by simp [he])]
  exact ⟨Dev.log_sets _ _ _ _ (by simp [Dev.sourcePresent]) (by decide), Dev.counted_then (Dev.log_same _ _ _ _)⟩

end

section
variable {d : Dev}

/-- Where no port of PCI Express has moved, no DPC has triggered. -/
theorem Dev.dpcFence_of_pcie {e : Dev} (h : e.pcie = d.pcie) : e.dpcFence d = e := by
  have hnone : (e.hPorts.filter (fun p => (e.pport p).dpcTriggered && !(d.pport p).dpcTriggered)) = [] := by
    simp [Dev.pport, h]
  unfold Dev.dpcFence
  rw [hnone]
  rfl

theorem thermal_spec (h0 : d.mode.base ≠ .m0) (hm : d.mode.base ≠ .m10) (hq : (d.cont.stop.rd 9).length ≤ 32) :
    bitAt (faultDetect .thermal d).cont.uncStatus 14 = true ∧ (∃ t ∈ (faultDetect .thermal d).cont.stop.rd 9, t.bit = 14 ∧ t.kind = 0) ∧
      (faultDetect .thermal d).cont.domain = d.cont.domain ∧ SameBut [.cont] d (faultDetect .thermal d) := by
  have hfatal : d.isFatal 14 = true := by
    rw [Dev.isFatal_fixed _ (by decide)]
    decide
  obtain ⟨hsame, hdomain, htrigger⟩ := Dev.uncFault_fatal (d := d) (source := 0) (stop := 9) (kind := 0) (id := 0) (detail := 0) (sev := 2) hfatal hm
  have heq : faultDetect .thermal d = d.uncFault 14 0 9 0 0 :=
    (if_neg (by simp [h0])).trans (Dev.dpcFence_of_pcie hsame.pcie)
  obtain ⟨t, hmem, hbit, hkind, -⟩ := htrigger hq
  rw [heq]
  exact ⟨Dev.uncFault_sets _ _ _ _ _ _ _ _, ⟨t, hmem, hbit, hkind⟩, hdomain, hsame⟩

theorem thermal_of_reset (h0 : d.mode.base = .m0) : faultDetect .thermal d = d := if_pos (by simp [h0])

/-- The loss of the DCLK PLL (R466). -/
theorem datapathPllLoss_spec (ref : Bool) (h0 : d.mode.base ≠ .m0) (hm : d.mode.base ≠ .m10) (hp : d.bus.pllFallback = false)
    (hq : (d.cont.stop.rd 9).length ≤ 32) :
    (datapathPllLoss ref d).bus.pllFallback = true ∧ (datapathPllLoss ref d).bus.refLost = !ref ∧
      (d.inRunOrTest = true → bitAt (datapathPllLoss ref d).cont.uncStatus 13 = true ∧
        ∃ t ∈ (datapathPllLoss ref d).cont.stop.rd 9, t.bit = 13 ∧ t.kind = 0) ∧ SameBut [.bus, .cont] d (datapathPllLoss ref d) := by
  have hfatal : Dev.isFatal { d with bus.pllFallback := true, bus.refLost := !ref } 13 = true := by
    rw [Dev.isFatal_fixed _ (by decide)]
    decide
  have hbus : SameBut [.bus, .cont] d { d with bus.pllFallback := true, bus.refLost := !ref } := (d.busAny_same _).mono (by decide)
  obtain ⟨hsame, -, htrigger⟩ := Dev.uncFault_fatal (d := { d with bus.pllFallback := true, bus.refLost := !ref })
    (source := 0) (stop := 9) (kind := 0) (id := 0) (detail := 0) (sev := 2) hfatal hm
  unfold datapathPllLoss
  rw [if_neg (by simp [h0, hp])]
  dsimp only
  split
  next hrun =>
    obtain ⟨t, hmem, hbit, hkind, -⟩ := htrigger hq
    rw [hsame.bus]
    exact ⟨rfl, rfl, fun _ => ⟨Dev.uncFault_sets _ _ _ _ _ _ _ _, t, hmem, hbit, hkind⟩, hbus.then hsame⟩
  next hrun => exact ⟨rfl, rfl, fun h => absurd h hrun, hbus⟩

theorem datapathPllLoss_again (ref : Bool) (hp : d.bus.pllFallback = true) : datapathPllLoss ref d = d := if_pos (by simp [hp])

/-- An access of the DCLK blocks times out (R466). -/
theorem regAccessTimeout_spec {p : CmdPort} {a : Word} (hp : d.bus.pllFallback = true) (hd : dclkBlock a.toNat = true)
    (hr : d.reach p (a.toNat / 4 * 4) 4 true none ≠ .dead) (write : Bool) :
    (regAccessTimeout p a write d).bus.regTimeouts = min (2 ^ 32 - 1) (d.bus.regTimeouts + 1) ∧
      (regAccessTimeout p a write d).out = (if write then d.out else d.shown [.readData p.key 0]) ∧ SameBut [.bus] d (regAccessTimeout p a write d) := by
  have heq : regAccessTimeout p a write d = if write then { d with bus.regTimeouts := satAdd 32 d.bus.regTimeouts 1 }
      else Dev.emit { d with bus.regTimeouts := satAdd 32 d.bus.regTimeouts 1 } (.readData p.key 0) := if_pos (by simp [hp, hd, hr])
  rw [heq]
  cases write with
  | true => exact ⟨rfl, rfl, d.busAny_same _⟩
  | false => exact ⟨rfl, rfl, (d.busAny_same _).trans ((Dev.emit_same _ _).mono (by decide))⟩

theorem regAccessTimeout_of_pll {p : CmdPort} {a : Word} (hp : d.bus.pllFallback = false) (write : Bool) : regAccessTimeout p a write d = d :=
  if_neg (by simp [hp])

/-! ### Restoration (R414) -/

/-- A count of an access moves of the PCI Express state only the pending bits. -/
theorem Dev.restoreCode_counted (d : Dev) (k ev n v : Nat) : (d.countMgmt ev n v).restoreCode k = d.restoreCode k := by
  obtain ⟨t, ht⟩ := Dev.countMgmt_pending d ev n v
  rw [Dev.countMgmt_eq, ht]
  rfl

theorem containRestore_eq {p : CmdPort} {k : Fin 64} (h : WritePasses d p 0x11080 (2147483648 + k)) :
    (containRestore p k d).cont = (if d.restoreCode k = 0
        then { d.cont with restoreCode := 0, restorePending := true, domain := d.cont.domain.upd k (fun x => { x with restoring := true }) }
        else { d.cont with restoreCode := d.restoreCode k }) ∧ SameBut (.cont :: accessBlocks) d (containRestore p k d) := by
  have hpack : pack [(31, 1), (0, k.val)] = 2147483648 + k.val := by simp [pack]
  have hbit : bitAt (2147483648 + k.val) 31 = true := by
    simp only [bitAt, beq_iff_eq]
    omega
  have hk : fld (2147483648 + k.val) 0 6 = k := by
    simp only [fld]
    omega
  have heq : containRestore p k d = (d.countMgmt 0x74 p.code 1).containRestore (2147483648 + k.val) := by
    rw [Machine.containRestore, hpack, Dev.write4_word h (by simp [Dev.regAttr, Dev.globalAttr, attrWO]) (by omega)]
    simp [Dev.regWrite, Dev.globalWrite]
  rw [heq]
  unfold Dev.containRestore
  dsimp only
  rw [hbit, hk, Dev.restoreCode_counted, Dev.countMgmt_cont]
  split
  next h => exact absurd h (by decide)
  next =>
    split
    · exact ⟨rfl, ((Dev.countMgmt_same _ _ _ _).mono (by decide)).trans ((Dev.contAny_same _ _).mono (by decide))⟩
    · exact ⟨rfl, ((Dev.countMgmt_same _ _ _ _).mono (by decide)).trans ((Dev.contAny_same _ _).mono (by decide))⟩

theorem Dev.restoreCode_of_free {k : Nat} (h : (d.cont.domain.rd k).valid = false) : d.restoreCode k = 1 := if_pos (by simp [h])

theorem Dev.restoreCode_of_cause {k : Nat} (hv : (d.cont.domain.rd k).valid = true)
    (hc : bitAt d.cont.uncStatus (d.cont.domain.rd k).cause = true) : d.restoreCode k = 2 :=
  (if_neg (by simp [hv])).trans (if_pos (by simp [Dev.causePresent, hc]))

theorem Dev.restoreCode_of_device {k : Nat} (h : (d.cont.domain.rd k).kind = 0) : d.restoreCode k ≠ 0 := by
  unfold Dev.restoreCode
  dsimp only
  split
  · decide
  · split
    · decide
    · split
      · decide
      · simp

theorem containRestore_spec {p : CmdPort} {k : Fin 64} (h : WritePasses d p 0x11080 (2 ^ 31 + k)) :
    (containRestore p k d).cont.restoreCode = d.restoreCode k ∧
      (containRestore p k d).cont.domain.rd k =
        (if d.restoreCode k = 0 then { d.cont.domain.rd k with restoring := true } else d.cont.domain.rd k) ∧
      (∀ y, y ≠ k.val → (containRestore p k d).cont.domain.rd y = d.cont.domain.rd y) ∧
      SameBut (.cont :: accessBlocks) d (containRestore p k d) := by
  obtain ⟨hcont, hsame⟩ := containRestore_eq h
  rw [hcont]
  split
  next hc => exact ⟨hc.symm, Tab.rd_upd_same d.cont.domain k (fun x => { x with restoring := true }),
      fun y hy => Tab.rd_upd_other d.cont.domain k y (fun x => { x with restoring := true }) hy, hsame⟩
  next hc => exact ⟨rfl, rfl, fun _ _ => rfl, hsame⟩

/-! ### The Transit scan (R409 to R411) -/

theorem transitScan_idle (h : ∀ y ∈ d.sw.tr, y.2.state = 1 → d.now < y.2.time + d.trTimeoutOf y.2.part) : transitScan d = d := by
  have hnone : d.sw.tr.filter (fun e => e.2.state == 1 && decide (e.2.time + d.trTimeoutOf e.2.part ≤ d.now)) = [] := by
    simpa using fun k y hy hs => h (k, y) hy hs
  unfold transitScan
  rw [hnone]
  rfl

/-- The Transit table and the count of timeouts. -/
def Dev.transit (d : Dev) : Tab TEntry × Nat := (d.sw.tr, d.sw.timeouts)

theorem transit_of_same {bs : List Block} {d e : Dev} (h : SameBut bs d e) (hb : .sw ∉ bs := by decide) : Keeps Dev.transit d e := by
  unfold Keeps Dev.transit
  rw [h.sw hb]

theorem Dev.trAnswer_transit (d : Dev) (e : TEntry) : Keeps Dev.transit d (d.trAnswer e) := by
  unfold Dev.trAnswer Dev.sendCpl Dev.sendTlp
  exact .ite (transit_of_same (Dev.failSlot_same _ _ _)) (.ite (transit_of_same (Dev.emit_same _ _)) (.of_eq rfl))

theorem Dev.trAbort_transit {k : Nat} (h : (d.trEntry k).state = 1) : Keeps Dev.transit (d.trRetire k true) (d.trAbort k) := by
  unfold Dev.trAbort
  dsimp only
  rw [if_pos h]
  exact .ite (.refl _ _) (Dev.trAnswer_transit _ _)

/-- What a timeout counts before the entry is retired. -/
def Dev.timeoutCounted (d : Dev) (t : TEntry) : Dev :=
  ({ d with sw.timeouts := satAdd 32 d.sw.timeouts 1 } : Dev).countTable 0x51 t.part 1

theorem transitScan_overdue {idx : Nat} {x : TEntry} (htr : d.sw.tr = [(idx, x)]) (hs : x.state = 1) (ht : x.time + d.trTimeoutOf x.part ≤ d.now) :
    ∃ detail, transitScan d = (((d.timeoutCounted x).fire (srcPart x.part 1)).uncFault 8 idx 9 4 x.part detail).trAbort idx := by
  have hone : d.sw.tr.filter (fun e => e.2.state == 1 && decide (e.2.time + d.trTimeoutOf e.2.part ≤ d.now)) = [(idx, x)] := by
    simp [htr, hs, ht]
  apply Exists.intro
  unfold transitScan
  rw [hone]
  rfl

theorem transitScan_overdue_spec {idx : Nat} {x : TEntry} (htr : d.sw.tr = [(idx, x)]) (hs : x.state = 1) (ht : x.time + d.trTimeoutOf x.part ≤ d.now) :
    ((transitScan d).trEntry idx).state = 2 ∧ ((transitScan d).trEntry idx).gen = (if 255 ≤ x.gen then 1 else x.gen + 1) ∧
      bitAt (transitScan d).cont.uncStatus 8 = true ∧ (transitScan d).sw.timeouts = min (2 ^ 32 - 1) (d.sw.timeouts + 1) := by
  obtain ⟨detail, heq⟩ := transitScan_overdue htr hs ht
  have hfault : Keeps Dev.transit { d with sw.timeouts := satAdd 32 d.sw.timeouts 1 }
      (((d.timeoutCounted x).fire (srcPart x.part 1)).uncFault 8 idx 9 4 x.part detail) :=
    ((transit_of_same (Dev.countTable_same _ _ _ _)).trans (transit_of_same (Dev.fire_same _ _))).trans
      (transit_of_same (Dev.uncFault_same _ _ _ _ _ _ _ _))
  have htable := congrArg Prod.fst hfault
  have hcount := congrArg Prod.snd hfault
  generalize hu : ((d.timeoutCounted x).fire (srcPart x.part 1)).uncFault 8 idx 9 4 x.part detail = u at *
  have hentry : u.trEntry idx = x := by
    rw [Dev.trEntry, show u.sw.tr = d.sw.tr from htable, htr]
    simp [Tab.rd, Tab.rdD]
  have habort := Dev.trAbort_transit (d := u) (k := idx) (by rw [hentry, hs])
  have hretired : (u.trAbort idx).trEntry idx = { gen := nextGen 255 x.gen, state := 2, part := x.part } := by
    rw [Dev.trEntry, show (u.trAbort idx).sw.tr = (u.trRetire idx true).sw.tr from congrArg Prod.fst habort, Dev.trRetire, hentry]
    exact Tab.rd_wr_same u.sw.tr idx { gen := nextGen 255 x.gen, state := 2, part := x.part }
  rw [heq, hretired, (Dev.trAbort_same _ _).cont, ← hu, Dev.uncFault_uncStatus, hu]
  exact ⟨rfl, rfl, bitAt_setBit_same _ _, (congrArg Prod.snd habort).trans hcount⟩

theorem quarantineEnd_spec {i : Fin 65536} (h : (d.trEntry i).state = 2) :
    (quarantineEnd i d).trEntry i = { gen := (d.trEntry i).gen } ∧ (∀ y, y ≠ i.val → (quarantineEnd i d).trEntry y = d.trEntry y) ∧
      SameBut [.sw] d (quarantineEnd i d) := by
  unfold quarantineEnd
  rw [if_pos h]
  exact ⟨Tab.rd_wr_same d.sw.tr i _, fun y hy => Tab.rd_wr_other d.sw.tr i y _ hy, Dev.swAny_same _ _⟩

theorem quarantineEnd_of_other {i : Fin 65536} (h : (d.trEntry i).state ≠ 2) : quarantineEnd i d = d := if_neg h

/-! ### Spare windows (R417) -/

theorem spareKey_div {kind n : Nat} (h : n < 2 ^ 20) : spareKey kind n / 1048576 = kind := by
  unfold spareKey
  omega

theorem spareWindowEnd_spec {kind : Fin 5} {n : Nat} (hw : d.spareWindow kind ≠ 0) (hn : n < 2 ^ 20) :
    (spareWindowEnd kind d).cont.count.rd (spareKey kind n) = 0 ∧
      (∀ y, y ≠ kind.val → (spareWindowEnd kind d).cont.count.rd (spareKey y n) = d.cont.count.rd (spareKey y n)) ∧
      SameBut [.cont, .sw] d (spareWindowEnd kind d) := by
  have hcount : (spareWindowEnd kind d).cont.count = d.cont.count.filter (fun e => e.1 / 2 ^ 20 != kind.val) ∧ SameBut [.cont, .sw] d (spareWindowEnd kind d) := by
    unfold spareWindowEnd
    rw [if_neg hw]
    dsimp only
    have hblock : SameBut [.cont, .sw] d (d.spareBlockEnd kind) := (d.contAny_same _).mono (by decide)
    split
    · exact ⟨rfl, hblock.then (Dev.swAny_same _ _)⟩
    · exact ⟨rfl, hblock⟩
  rw [hcount.1]
  refine ⟨Tab.rd_filter_of_false _ (fun k => k / 2 ^ 20 != kind.val) _ ?_, fun y hy => Tab.rd_filter_of_true _ (fun k => k / 2 ^ 20 != kind.val) _ ?_, hcount.2⟩
  · simp [spareKey_div hn]
  · simpa [spareKey_div hn] using hy

theorem spareWindowEnd_of_none {kind : Fin 5} (h : d.spareWindow kind = 0) : spareWindowEnd kind d = d := if_pos h

/-! ### Rows of SRAM macros (R416, R419, R420) -/

/-- An SRAM block with one more corrected error. -/
def Macro.oneCorrected (x : Macro) : Macro := { x with corrected := satAdd 16 x.corrected 1 }

/-- An SRAM block with one more uncorrectable error. -/
def Macro.oneUncorrectable (x : Macro) : Macro := { x with uncorrectable := satAdd 16 x.uncorrectable 1 }

/-- The device with a corrected error counted for block `m`. -/
def Dev.macroCorrected (d : Dev) (m : Nat) : Dev :=
  let e : Dev := { d with cont.macros := d.cont.macros.upd m Macro.oneCorrected }
  if Config.sramOwner m = 3 ∨ Config.sramOwner m = 4 then e.countTable 0x55 0 1 else e

theorem Dev.macroCorrected_spec (d : Dev) (m : Nat) : (d.macroCorrected m).cont = { d.cont with macros := d.cont.macros.upd m Macro.oneCorrected } ∧
    SameBut (.cont :: recordBlocks) d (d.macroCorrected m) := by
  unfold Dev.macroCorrected
  dsimp only
  split
  · exact ⟨(Dev.countTable_same _ _ _ _).cont, SameBut.trans ((d.contAny_same _).mono (by decide)) ((Dev.countTable_same _ _ _ _).mono (by decide))⟩
  · exact ⟨rfl, (d.contAny_same _).mono (by decide)⟩

/-- Without a threshold of kind 3 a corrected error swaps no row. -/
theorem Dev.rowCorrected_eq {m row : Nat} (h : d.spareThreshold 3 = 0) : d.rowCorrected m row = ((d.macroCorrected m).spareCount 3 (512 * m + row)).1 := by
  have hpolicy : (d.macroCorrected m).spareThreshold 3 = 0 := by
    rw [Dev.spareThreshold, Dev.policy, (Dev.macroCorrected_spec d m).2.run]
    exact h
  refine (if_neg ?_ : _ = _)
  show ¬ ((d.macroCorrected m).spareThreshold 3 != 0 && _) = true
  simp [hpolicy]

theorem Dev.rowCorrected_spec {m row : Nat} (h : d.spareThreshold 3 = 0) :
    (d.rowCorrected m row).cont.macros = d.cont.macros.upd m Macro.oneCorrected ∧ (d.rowCorrected m row).cont.uncStatus = d.cont.uncStatus ∧
      (d.rowCorrected m row).cont.corStatus = d.cont.corStatus ∧ SameBut (.cont :: recordBlocks) d (d.rowCorrected m row) := by
  obtain ⟨hcont, hsame⟩ := Dev.macroCorrected_spec d m
  rw [Dev.rowCorrected_eq h, Dev.spareCount]
  dsimp only
  rw [hcont]
  exact ⟨rfl, rfl, rfl, hsame.trans ((Dev.contAny_same _ _).mono (by decide))⟩

theorem Dev.corFault_macros (d : Dev) (bit source detail sev : Nat) :
    (d.corFault bit source detail sev).cont.macros = d.cont.macros ∧ (d.corFault bit source detail sev).cont.uncStatus = d.cont.uncStatus := by
  unfold Dev.corFault
  dsimp only
  rw [(Dev.faultLog_same _ _ _ _ _).cont]
  exact ⟨rfl, rfl⟩

theorem Dev.uncFault_macros (d : Dev) (bit source stop kind id detail sev : Nat) :
    (d.uncFault bit source stop kind id detail sev).cont.macros = d.cont.macros := by
  have hpush (c : ContSt) (t : Trigger) : (c.pushTrigger stop t).macros = c.macros := by
    unfold ContSt.pushTrigger
    dsimp only
    split
    · rfl
    · rfl
  unfold Dev.uncFault
  dsimp only
  split
  · exact hpush _ _
  · rw [(Dev.faultLog_same _ _ _ _ _).cont, (Dev.haltTests_same _ _).cont]

theorem patrolScrub_corrected {m : Nat} {row : Fin 512} (h0 : d.mode.base ≠ .m0) (hm : m < d.macroCount) (ht : d.spareThreshold 3 = 0) :
    ((patrolScrub m row false d).cont.macros.rd m).corrected = min (2 ^ 16 - 1) ((d.cont.macros.rd m).corrected + 1) ∧
      ((patrolScrub m row false d).cont.macros.rd m).uncorrectable = (d.cont.macros.rd m).uncorrectable ∧
      bitAt (patrolScrub m row false d).cont.corStatus 0 = true ∧ (patrolScrub m row false d).cont.uncStatus = d.cont.uncStatus ∧
      SameBut (.cont :: recordBlocks) d (patrolScrub m row false d) := by
  have heq : patrolScrub m row false d = (d.corFault 0 m row).rowCorrected m row := by
    simp [patrolScrub, h0, Dev.scrubFinds, hm, Dev.sramCorrected]
  have ht' : (d.corFault 0 m row).spareThreshold 3 = 0 := by
    rw [Dev.spareThreshold, Dev.policy, Dev.corFault_run]
    exact ht
  obtain ⟨hmacros, hunc⟩ := Dev.corFault_macros d 0 m row 1
  obtain ⟨hmacros', hunc', hcor', hsame⟩ := Dev.rowCorrected_spec (d := d.corFault 0 m row) (m := m) (row := row) ht'
  rw [heq, hmacros', hunc', hcor', hmacros, hunc, Dev.corFault_sets, Tab.rd_upd_same]
  exact ⟨rfl, rfl, bitAt_setBit_same _ _, rfl, (Dev.corFault_same _ _ _ _ _).trans hsame⟩

theorem Dev.autoRow_of_off {e : Dev} (m row : Nat) (h : (e.policy 3).enable = false) : e.autoRow m row = e := if_pos (by simp [h])

/-- With kind 3 of the policy off an uncorrectable error swaps no row. -/
theorem Dev.sramUncorrected_eq {m row : Nat} (hp : (d.policy 3).enable = false) :
    d.sramUncorrected m row = { d with cont.macros := d.cont.macros.upd m Macro.oneUncorrectable } :=
  Dev.autoRow_of_off (e := { d with cont.macros := d.cont.macros.upd m Macro.oneUncorrectable }) m row hp

theorem patrolScrub_uncorrectable {m : Nat} {row : Fin 512} (h0 : d.mode.base ≠ .m0) (hm : m < d.macroCount) (hp : (d.policy 3).enable = false) :
    ((patrolScrub m row true d).cont.macros.rd m).uncorrectable = min (2 ^ 16 - 1) ((d.cont.macros.rd m).uncorrectable + 1) ∧
      ((patrolScrub m row true d).cont.macros.rd m).corrected = (d.cont.macros.rd m).corrected ∧
      SameBut (.cont :: recordBlocks) d (patrolScrub m row true d) := by
  have hrow : SameBut (.cont :: recordBlocks) d (d.sramUncorrected m row) := by
    rw [Dev.sramUncorrected_eq hp]
    exact (d.contAny_same _).mono (by decide)
  have hall : (patrolScrub m row true d).cont.macros = d.cont.macros.upd m Macro.oneUncorrectable ∧
      SameBut (.cont :: recordBlocks) d (patrolScrub m row true d) := by
    have hmacros : (d.sramUncorrected m row).cont.macros = d.cont.macros.upd m Macro.oneUncorrectable := by rw [Dev.sramUncorrected_eq hp]
    unfold patrolScrub
    rw [if_neg h0, Dev.scrubFinds, if_neg (by simp [hm]), if_neg (by decide)]
    dsimp only
    split
    · exact ⟨(Dev.uncFault_macros _ _ _ _ _ _ _ _).trans hmacros, hrow.trans (Dev.uncFault_noTile _ _ _ _ _ _ _ _ (by decide))⟩
    · exact ⟨hmacros, hrow⟩
  rw [hall.1, Tab.rd_upd_same]
  exact ⟨rfl, rfl, hall.2⟩

theorem patrolScrub_absent {m : Nat} {row : Fin 512} (hm : d.macroCount ≤ m) : patrolScrub m row true d = d := by
  have hlt : ¬ m < d.macroCount := by omega
  simp [patrolScrub, Dev.scrubFinds, hlt]

end

end Sys2Proof.Machine

/-! PROOF. The isolation of a LINK domain (R404 to R406). -/

namespace Sys2Proof.Machine

-- One theorem at a time, as in the tests: many at once would ask for more threads than the sandbox gives.
set_option Elab.async false

/-! ### The marks of the links through a fence -/

section
variable (d : Dev)

theorem Dev.setLink_marks_at (p : Nat) (f : Link → Link) :
    (d.setLink p f).linkMarks = fun q => if q = p then (f (d.link p)).marks else d.linkMarks q := by
  funext q
  split
  next h =>
    subst h
    exact congrArg Link.marks (Tab.rd_upd_same d.ln.link q f)
  next h => exact congrArg Link.marks (Tab.rd_upd_other d.ln.link p q f h)

theorem Dev.failover_linkMarks (p : Nat) (replayed : List FPkt) : Keeps Dev.linkMarks d (d.failover p replayed) := by
  unfold Dev.failover
  dsimp only
  refine .trans (.trans (.trans (.foldl _ (fun _ _ => Dev.routeFab_linkMarks _ _ _ _ _ _ _ _ _) _ _) (.foldl _ (fun e v => ?_) _ _))
    (.foldl _ (fun _ _ => .foldl _ (fun _ _ => linkMarks_of_same (Dev.moveVoq_same _ _)) _ _) _ _))
    (.foldl _ (fun _ _ => linkMarks_of_same (Dev.moveEng_same _ _ _)) _ _)
  refine .trans (linkMarks_of_same (e.swAny_same _)) (.foldl _ (fun x s => ?_) _ _)
  split
  · exact .ite (linkMarks_of_same (Dev.leaveEpoch_same _ _)) (Dev.routeFab_linkMarks _ _ _ _ _ _ _ _ _)
  · exact .refl _ _

theorem Dev.setLane_linkMarks (t n : Nat) (f : Lane → Lane) : Keeps Dev.linkMarks d (d.setLane t n f) := by
  unfold Dev.setLane
  exact Dev.lnAny_linkMarks _ _ rfl

theorem Dev.lanesOff_linkMarks (p : Nat) : Keeps Dev.linkMarks d (d.lanesOff p) := by
  unfold Dev.lanesOff
  exact .foldl _ (fun _ _ => Dev.setLane_linkMarks _ _ _ _) _ _

theorem Link.pushMargin_marks (l : Link) (m : Margin) : (l.pushMargin m).marks = l.marks := by
  unfold Link.pushMargin
  dsimp only
  split
  · split
    · rfl
    · split
      · rfl
      · split
        · rfl
        · rfl
  · split
    · rfl
    · split
      · split
        · rfl
        · rfl
      · split
        · rfl
        · rfl

theorem Dev.sendMargin_linkMarks (p : Nat) (m : Margin) : Keeps Dev.linkMarks d (d.sendMargin p m) :=
  Dev.setLink_linkMarks _ _ _ (fun l => l.pushMargin_marks m)

theorem Dev.sendContain_linkMarks (cls kind id : Nat) : Keeps Dev.linkMarks d (d.sendContain cls kind id) := by
  unfold Dev.sendContain
  refine .trans (.foldl _ (fun e p => ?_) _ _) (linkMarks_of_same (Dev.contAny_same _ _))
  exact .foldl _ (fun _ _ => Dev.sendMargin_linkMarks _ _ _) _ _

/-! ### Stops and entries through a fence -/

/-- The stops and the entries of isolated domains. -/
def Dev.contCore (d : Dev) : Tab (List Trigger) × Tab Domain := (d.cont.stop, d.cont.domain)

theorem contCore_of_same {bs : List Block} {d e : Dev} (h : SameBut bs d e) (hb : .cont ∉ bs := by decide) : Keeps Dev.contCore d e := by
  unfold Keeps Dev.contCore
  rw [h.cont hb]

theorem Dev.fencePort_contCore (p status : Nat) : Keeps Dev.contCore d (d.fencePort p status) := by
  unfold Dev.fencePort
  exact .trans (.trans (contCore_of_same (Dev.cutStreams_same _ _)) (.of_eq rfl)) (.foldl _
    (fun _ _ => .trans (contCore_of_same (Dev.endPacket_same _ _)) (contCore_of_same (Dev.answerRemoved_same _ _ _))) _ _)

theorem Dev.sendContain_same (cls kind id : Nat) : SameBut [.ln, .cont] d (d.sendContain cls kind id) := by
  unfold Dev.sendContain
  refine .trans (.foldl _ (fun e p => ?_) _ _) ((Dev.contAny_same _ _).mono (by decide))
  exact .foldl _ (fun _ _ => (Dev.sendMargin_same _ _ _).mono (by decide)) _ _

theorem Dev.sendContain_contCore (cls kind id : Nat) : Keeps Dev.contCore d (d.sendContain cls kind id) := by
  unfold Dev.sendContain
  refine .trans (.foldl _ (fun e p => ?_) _ _) (.of_eq rfl)
  exact .foldl _ (fun _ _ => contCore_of_same (Dev.sendMargin_same _ _ _)) _ _

theorem Dev.abandonJobs_same (kind id : Nat) : SameBut [.jobs] d (d.abandonJobs kind id) := by
  unfold Dev.abandonJobs
  exact .foldl _ (fun e x => .ite (e.jobsAny_same _) (.refl _ _)) _ _

end

/-! ### A link goes down as CONTAINED (R404) -/

section
variable {d : Dev} {p : Nat}

/-- The device with the record of a contained link written and what it was receiving cut short. -/
def Dev.containedStreams (d : Dev) (p : Nat) : Dev :=
  let e := (d.linkDownRecord p 10).cutStreams p
  { e with sw.writing := e.sw.writing.filter (fun x => x.1 / 8 != p) }

/-- The device before the packets of a contained link are moved to other ports. -/
def Dev.containedCut (d : Dev) (p : Nat) : Dev :=
  ((((d.containedStreams p).setLink p (·.cleared 10)).signalLost (16 + p)).endPortJobs p 0x05 .failed 6 0xFFFFFF).endPortJobs p 0x0B .failed 6 0xFFFFFF

theorem Dev.linkDown_contained (h : 2 ≤ (d.link p).state ∧ (d.link p).state ≤ 4) :
    ∃ whole, d.linkDown p 10 = (((d.containedCut p).failover p whole).setLink p (fun l => { l with state := 5 })).lanesOff p := by
  have hheld (l : Link) : l.heldDown 10 = true := by simp [Link.heldDown]
  apply Exists.intro
  unfold Dev.linkDown
  dsimp only
  rw [if_pos h, if_neg (by decide), Dev.afterDown, if_pos (hheld _)]
  rfl

theorem Dev.containedStreams_spec : Keeps Dev.linkMarks d (d.containedStreams p) ∧ SameBut (.ln :: .sw :: .bnd :: recordBlocks) d (d.containedStreams p) := by
  have hrecord : SameBut recordBlocks d (d.linkDownRecord p 10) := Dev.log_same _ _ _ _
  exact ⟨((linkMarks_of_same hrecord).trans (Dev.cutStreams_linkMarks _ _)).trans (linkMarks_of_same (Dev.swAny_same _ _)),
    ((hrecord.mono (by decide)).then (Dev.cutStreams_same _ _)).then (Dev.swAny_same _ _)⟩

theorem Dev.containedCut_spec : (d.containedCut p).linkMarks = (fun q => if q = p then (0, (d.link p).fenced, 10) else d.linkMarks q) ∧
    SameBut (.tick :: .jobs :: .ln :: .sw :: .bnd :: recordBlocks) d (d.containedCut p) := by
  obtain ⟨hstreams, hsame⟩ := Dev.containedStreams_spec (d := d) (p := p)
  have hfenced : ((d.containedStreams p).link p).fenced = (d.link p).fenced := congrArg (fun m => m.2.1) (congrFun hstreams p)
  have hcleared := Dev.setLink_marks_at (d.containedStreams p) p (·.cleared 10)
  have hrest : Keeps Dev.linkMarks ((d.containedStreams p).setLink p (·.cleared 10)) (d.containedCut p) :=
    ((linkMarks_of_same (Dev.signalLost_same _ _)).trans (linkMarks_of_same (Dev.endPortJobs_same _ _ _ _ _ _))).trans
      (linkMarks_of_same (Dev.endPortJobs_same _ _ _ _ _ _))
  refine ⟨(Eq.trans hrest hcleared).trans (funext fun q => ?_),
    ((((hsame.mono (by decide)).then (Dev.setLink_same _ _ _)).then (Dev.signalLost_same _ _)).then (Dev.endPortJobs_same _ _ _ _ _ _)).then
      (Dev.endPortJobs_same _ _ _ _ _ _)⟩
  split
  · exact congrArg (fun f => (0, f, 10)) hfenced
  · exact congrFun hstreams q

/-- The blocks that a contained link can change; the fault block is not among them. -/
def containedBlocks : List Block := .tick :: .jobs :: .ln :: .sw :: .fab :: .bnd :: recordBlocks

theorem Dev.linkDown_contained_spec (h : 2 ≤ (d.link p).state ∧ (d.link p).state ≤ 4) :
    (d.linkDown p 10).linkMarks = (fun q => if q = p then (5, (d.link p).fenced, 10) else d.linkMarks q) ∧
      SameBut containedBlocks d (d.linkDown p 10) := by
  obtain ⟨whole, heq⟩ := Dev.linkDown_contained h
  obtain ⟨hcut, hsame⟩ := Dev.containedCut_spec (d := d) (p := p)
  have hmarks := Eq.trans (Dev.failover_linkMarks (d.containedCut p) p whole) hcut
  have hblocks : SameBut containedBlocks d ((d.containedCut p).failover p whole) := (hsame.mono (by decide)).then (Dev.failover_same _ _ _)
  generalize (d.containedCut p).failover p whole = u at heq hmarks hblocks
  rw [heq]
  refine ⟨(Eq.trans (Dev.lanesOff_linkMarks _ p) (Dev.setLink_marks_at u p _)).trans (funext fun q => ?_),
    (hblocks.then (Dev.setLink_same _ _ _)).then (Dev.lanesOff_same _ _)⟩
  split
  next hq =>
    have hp := congrFun hmarks p
    rw [if_pos rfl] at hp
    exact congrArg (fun m => (5, m.2)) hp
  next hq => rw [congrFun hmarks q, if_neg hq]

/-! ### The fence of a LINK domain (R404) -/

/-- The blocks that the fence of a link can change. -/
def fenceBlocks : List Block := .tick :: .jobs :: .ln :: .sw :: .trav :: .fab :: .bnd :: .cont :: recordBlocks

/-- Between `d` and `e` link `p` has been fenced and taken down as CONTAINED; no stop, entry or other link has moved. -/
def LinkContained (p : Nat) (d e : Dev) : Prop :=
  e.linkMarks = (fun q => if q = p then (5, true, 10) else d.linkMarks q) ∧ Keeps Dev.contCore d e ∧ SameBut fenceBlocks d e

/-- The device with what is queued toward `p` removed and the link marked as fenced. -/
def Dev.fencedAt (d : Dev) (p : Nat) : Dev := (d.fencePort p 4).setLink p (fun l => { l with fenced := true })

theorem Dev.fencedAt_spec (p : Nat) : (d.fencedAt p).linkMarks = (fun q => if q = p then ((d.link p).state, true, (d.link p).lastCause) else d.linkMarks q) ∧
    Keeps Dev.contCore d (d.fencedAt p) ∧ SameBut fenceBlocks d (d.fencedAt p) := by
  have hmarks := Dev.fencePort_linkMarks d p 4
  have hcore := Dev.fencePort_contCore d p 4
  have hblocks := Dev.fencePort_same d p 4
  unfold Dev.fencedAt
  generalize d.fencePort p 4 = u at hmarks hcore hblocks
  refine ⟨(Dev.setLink_marks_at u p _).trans (funext fun q => ?_), hcore.trans (contCore_of_same (Dev.setLink_same _ _ _)),
    (hblocks.mono (by decide)).then (Dev.setLink_same _ _ _)⟩
  split
  · exact congrArg (fun m => (m.1, true, m.2.2)) (congrFun hmarks p)
  · exact congrFun hmarks q

theorem Dev.fenceLink_of_up (h : ((d.fencedAt p).link p).state ≠ 1) : d.fenceLink p false = (d.fencedAt p).linkDown p 10 := by
  unfold Dev.fenceLink
  rw [if_neg (by decide)]
  exact if_neg h

theorem Dev.fenceLink_spec (h : (d.link p).state = 3) : LinkContained p d (d.fenceLink p false) := by
  obtain ⟨hmarks, hcore, hblocks⟩ := Dev.fencedAt_spec (d := d) p
  have heq := Dev.fenceLink_of_up (d := d) (p := p)
  generalize d.fencedAt p = u at heq hmarks hcore hblocks
  have hfenced : (u.link p).marks = ((d.link p).state, true, (d.link p).lastCause) := (congrFun hmarks p).trans (if_pos rfl)
  have hup : (u.link p).state = 3 := (congrArg Prod.fst hfenced).trans h
  obtain ⟨hdown, hrest⟩ := Dev.linkDown_contained_spec (d := u) (p := p) (by omega)
  rw [heq (by omega)]
  refine ⟨hdown.trans (funext fun q => ?_), hcore.trans (contCore_of_same hrest), hblocks.trans (hrest.mono (by decide))⟩
  split
  next hq => exact congrArg (fun m => (5, m.2.1, 10)) hfenced
  next hq => exact (congrFun hmarks q).trans (if_neg hq)

/-- The one port that a LINK domain covers. -/
theorem Dev.covers_link (hs : d.isS p = true) (hp : p < d.ports) : (List.range d.ports).filter (d.covers 2 p) = [p] := by
  have hcovers : d.covers 2 p = (fun q => q == p) := by
    funext q
    by_cases hq : q = p
    · simp [Dev.covers, hq, hs]
    · simp [Dev.covers, hq]
  rw [hcovers, List.filter_beq, List.nodup_range.count, if_pos (List.mem_range.2 hp)]
  rfl

theorem Dev.fenceDomain_link (hs : d.isS p = true) (hp : p < d.ports) : d.fenceDomain 2 p = d.fenceLink p false := by
  unfold Dev.fenceDomain
  rw [if_neg (by decide), Dev.covers_link hs hp]
  simp [hs]

/-! ### The delivery of a trigger (R405, R406) -/

section
variable {t : Trigger}

/-- The entry that the isolation of a trigger's domain makes. -/
def Dev.entryOf (d : Dev) (t : Trigger) : Domain :=
  { valid := true, kind := t.kind, id := t.id, cause := t.bit, tick := d.stampTick % 2 ^ 32, source := t.source }

/-- The device with the isolation of a domain entered in slot 0. -/
def Dev.entered (d : Dev) (t : Trigger) : Dev :=
  { d with cont := { d.cont with domain := d.cont.domain.wr 0 (d.entryOf t), classify := d.cont.classify ++ [(t, false)] } }

theorem Dev.entered_entry (d : Dev) (t : Trigger) : (d.entered t).cont.domain.rd 0 = d.entryOf t := Tab.rd_wr_same d.cont.domain 0 (d.entryOf t)

/-- The first LINK domain that is isolated. -/
theorem Dev.isolate_link (hd : d.cont.domain = []) (hx : d.cont.extra = []) (hk : t.kind = 2) :
    d.isolate t = (((d.entered t).abandonJobs 2 t.id).fenceDomain 2 t.id).sendContain 1 2 t.id := by
  have hfree : (List.range 64).find? (fun k => !(d.cont.domain.rd k).valid) = some 0 := by
    rw [hd]
    decide
  have hmap : d.cont.domain.map (fun x => if x.2.valid ∧ x.2.restoring ∧ d.encloses x.2.kind x.2.id t.kind t.id then (x.1, { x.2 with restoring := false }) else x) =
      d.cont.domain := by
    rw [hd]
    rfl
  have hinside : d.isolated.any (fun x => d.encloses x.1 x.2 t.kind t.id) = false := by simp [Dev.isolated, hd, hx]
  unfold Dev.isolate
  dsimp only
  rw [hmap, hinside, bne_self_eq_false]
  simp only [Bool.false_eq_true, if_false, or_false, hfree]
  rw [if_neg (show ¬ 4 < t.kind by omega), if_neg (show t.kind ≠ 4 by omega), hk]
  simp only [Dev.entered, Dev.entryOf, hk, Option.isNone]

/-- A domain inside an isolated one makes no entry. -/
theorem Dev.isolate_inside (hr : ∀ y ∈ d.cont.domain, y.2.restoring = false)
    (hin : d.isolated.any (fun x => d.encloses x.1 x.2 t.kind t.id) = true) : d.isolate t = { d with cont.classify := d.cont.classify ++ [(t, false)] } := by
  have hmap : d.cont.domain.map (fun x => if x.2.valid ∧ x.2.restoring ∧ d.encloses x.2.kind x.2.id t.kind t.id then (x.1, { x.2 with restoring := false }) else x) =
      d.cont.domain := by
    refine (List.map_congr_left fun y hy => if_neg ?_).trans (List.map_id _)
    simp [hr y hy]
  unfold Dev.isolate
  dsimp only
  rw [hmap, hin, if_pos (.inr rfl)]
  simp

theorem Dev.isolate_link_spec (hd : d.cont.domain = []) (hx : d.cont.extra = []) (hk : t.kind = 2) (hs : d.isS t.id = true) (hp : t.id < d.ports)
    (hl : (d.link t.id).state = 3) :
    (d.isolate t).linkMarks = (fun q => if q = t.id then (5, true, 10) else d.linkMarks q) ∧
      (d.isolate t).contCore = (d.cont.stop, (d.entered t).cont.domain) ∧ SameBut fenceBlocks d (d.isolate t) := by
  have hentered : SameBut [.jobs, .cont] d ((d.entered t).abandonJobs 2 t.id) :=
    ((d.contAny_same _).mono (by decide)).then (Dev.abandonJobs_same _ _ _)
  have hcore : ((d.entered t).abandonJobs 2 t.id).contCore = (d.cont.stop, (d.entered t).cont.domain) := contCore_of_same (Dev.abandonJobs_same _ _ _)
  rw [Dev.isolate_link hd hx hk]
  generalize (d.entered t).abandonJobs 2 t.id = u at hentered hcore
  have hports : u.ports = d.ports := congrArg (fun x => 8 * x.variant.tiles) hentered.part
  have hlink : u.link t.id = d.link t.id := congrArg (fun x => x.link.rd t.id) hentered.ln
  have hmarks : u.linkMarks = d.linkMarks := linkMarks_of_same hentered
  obtain ⟨hfence, hkept, hsame⟩ := Dev.fenceLink_spec (d := u) (p := t.id) (hlink ▸ hl)
  rw [Dev.fenceDomain_link (by rw [Dev.isS_congr hentered.run hentered.part, hs]) (hports ▸ hp)]
  refine ⟨(Eq.trans (Dev.sendContain_linkMarks _ _ _ _) hfence).trans (by rw [hmarks]),
    (Eq.trans (Dev.sendContain_contCore _ _ _ _) hkept).trans hcore,
    ((hentered.mono (by decide)).then hsame).then (Dev.sendContain_same _ _ _ _)⟩

/-- The device with the trigger of a stop taken. -/
def Dev.taken (d : Dev) (stop : Nat) (r : List Trigger) : Dev := { d with cont.stop := d.cont.stop.wr stop r }

theorem triggerDelivery_eq {stop : Fin 10} {r : List Trigger} (h : d.cont.stop.rd stop = t :: r) :
    triggerDelivery stop d = d.watchMode (fun e => (e.taken stop r).isolate t) := by
  unfold triggerDelivery
  rw [h]
  rfl

theorem triggerDelivery_idle {stop : Fin 10} (h : d.cont.stop.rd stop = []) : triggerDelivery stop d = d := by
  unfold triggerDelivery
  rw [h]

/-- The first LINK domain whose trigger is delivered. -/
theorem triggerDelivery_link {stop : Fin 10} {r : List Trigger} (h : d.cont.stop.rd stop = t :: r) (hk : t.kind = 2) (hs : d.isS t.id = true)
    (hp : t.id < d.ports) (hl : (d.link t.id).state = 3) (hd : d.cont.domain = []) (hx : d.cont.extra = []) :
    ((triggerDelivery stop d).cont.domain.rd 0).valid = true ∧ ((triggerDelivery stop d).cont.domain.rd 0).kind = 2 ∧
      ((triggerDelivery stop d).cont.domain.rd 0).id = t.id ∧ ((triggerDelivery stop d).cont.domain.rd 0).cause = t.bit ∧
      ((triggerDelivery stop d).link t.id).fenced = true ∧ ((triggerDelivery stop d).link t.id).state = 5 ∧
      ((triggerDelivery stop d).link t.id).lastCause = 10 ∧ (triggerDelivery stop d).cont.stop.rd stop = r ∧
      (∀ y, y ≠ t.id → ((triggerDelivery stop d).link y).state = (d.link y).state) ∧ (triggerDelivery stop d).run = d.run ∧
      (triggerDelivery stop d).part = d.part := by
  obtain ⟨hmarks, hcore, hsame⟩ := Dev.isolate_link_spec (d := d.taken stop r) hd hx hk hs hp hl
  have hw := Dev.watchMode_fires d (fun e => (e.taken stop r).isolate t)
  rw [← triggerDelivery_eq h] at hw
  have hmarks' : (triggerDelivery stop d).linkMarks = _ := Eq.trans (linkMarks_of_same hw) hmarks
  have hcore' : (triggerDelivery stop d).contCore = _ := Eq.trans (contCore_of_same hw) hcore
  have hdomain : (triggerDelivery stop d).cont.domain.rd 0 = _ := (congrArg (fun x => x.2.rd 0) hcore').trans (Dev.entered_entry _ _)
  have hstop : (triggerDelivery stop d).cont.stop.rd stop = r := (congrArg (fun x => x.1.rd stop) hcore').trans (Tab.rd_wr_same d.cont.stop stop r)
  have hlink := (congrFun hmarks' t.id).trans (if_pos rfl)
  rw [hdomain]
  exact ⟨rfl, hk, rfl, rfl, congrArg (fun m => m.2.1) hlink, congrArg Prod.fst hlink, congrArg (fun m => m.2.2) hlink, hstop,
    fun y hy => congrArg Prod.fst ((congrFun hmarks' y).trans (if_neg hy)), hw.run.trans hsame.run, hw.part.trans hsame.part⟩

/-- A LINK domain inside an isolated TILE domain. -/
theorem triggerDelivery_inside {stop : Fin 10} {r : List Trigger} (h : d.cont.stop.rd stop = t :: r) (hk : t.kind = 2)
    (ht : (1, portTile t.id) ∈ d.isolated) (hr : ∀ y ∈ d.cont.domain, y.2.restoring = false) :
    (triggerDelivery stop d).cont.domain = d.cont.domain ∧ (triggerDelivery stop d).cont.stop.rd stop = r ∧
      (triggerDelivery stop d).cont.classify = d.cont.classify ++ [(t, false)] ∧ SameBut [.cont] d (triggerDelivery stop d) := by
  have hin : (d.taken stop r).isolated.any (fun x => (d.taken stop r).encloses x.1 x.2 t.kind t.id) = true :=
    List.any_eq_true.2 ⟨_, ht, by simp [Dev.encloses, hk]⟩
  have hstay : (d.taken stop r).isolate t = { d.taken stop r with cont.classify := d.cont.classify ++ [(t, false)] } := Dev.isolate_inside hr hin
  have heq : triggerDelivery stop d = { d.taken stop r with cont.classify := d.cont.classify ++ [(t, false)] } := by
    rw [triggerDelivery_eq h, Dev.watchMode_of_eq]
    · exact hstay
    · show ((d.taken stop r).isolate t).modeStatus = d.modeStatus
      rw [hstay]
      rfl
  rw [heq]
  exact ⟨rfl, Tab.rd_wr_same d.cont.stop stop r, rfl, d.contAny_same _⟩

end

end

/-- Settles O50: a trigger isolates the one domain that it names, unless an isolated domain encloses it; what is overdue in
Transit is retired into quarantine; the rows of macros count. -/
theorem containment : Obligations.Containment := by
  unfold Obligations.Containment
  intro s p table kind id stop t r k idx x sk m n row ref a first live q9
  refine ⟨fun h => Gives.of_onDev rfl (boundaryCommit_spec h), fun h hm => ⟨fun he hq => Gives.of_onDev rfl (containTrigger_present h hm he hq),
    fun he => Gives.of_onDev rfl (containTrigger_absent h he)⟩, fun hl hq => Gives.of_onDev rfl (thermal_spec hl.1 hl.2 hq),
    fun h0 => Gives.of_onDev rfl (thermal_of_reset h0), fun h => Gives.of_onDev rfl (triggerDelivery_idle h),
    fun h hk hs hp hl hfirst => Gives.of_onDev rfl (triggerDelivery_link h hk hs hp hl hfirst.1 hfirst.2.1),
    fun h hk ht hr => Gives.of_onDev rfl (triggerDelivery_inside h hk ht hr),
    fun h => ⟨Dev.restoreCode_of_free, Dev.restoreCode_of_cause, Dev.restoreCode_of_device, Gives.of_onDev rfl (containRestore_spec h)⟩,
    fun h => Gives.of_onDev rfl (transitScan_idle h), fun htr hs ht => Gives.of_onDev rfl (transitScan_overdue_spec htr hs ht),
    fun h => Gives.of_onDev rfl (quarantineEnd_spec h), fun h => Gives.of_onDev rfl (quarantineEnd_of_other h),
    fun hw hn => Gives.of_onDev rfl (spareWindowEnd_spec hw hn), fun h => Gives.of_onDev rfl (spareWindowEnd_of_none h),
    fun h0 hm ht => Gives.of_onDev rfl (patrolScrub_corrected h0 hm ht), fun h0 hm hp => Gives.of_onDev rfl (patrolScrub_uncorrectable h0 hm hp),
    fun hm => Gives.of_onDev rfl (patrolScrub_absent hm), fun hl hp hq => Gives.of_onDev rfl (datapathPllLoss_spec ref hl.1 hl.2 hp hq),
    fun hp => Gives.of_onDev rfl (datapathPllLoss_again ref hp),
    fun hp hd hr => ⟨Gives.of_onDev rfl (regAccessTimeout_spec hp hd hr false), Gives.of_onDev rfl (regAccessTimeout_spec hp hd hr true)⟩,
    fun hp => Gives.of_onDev rfl (regAccessTimeout_of_pll hp false)⟩

end Sys2Proof.Machine

/-! PROOF. The Sighting port (R472 to R476, R397). -/

namespace Sys2Proof.Machine

-- One theorem at a time, as in the tests: many at once would ask for more threads than the sandbox gives.
set_option Elab.async false

/-! ### An answer (R472) -/

/-- HALTED of an answer about core `c`. -/
def Dev.haltedBit (d : Dev) (c : Nat) : Nat := if (d.core c).state = .halted then 64 else 0

/-- Device `e` is `x` with a command answered. -/
def SightAnswered (r : SightReq) (x e : Dev) (cmd st data : Nat) : Prop :=
  e.out = x.shown [.response CmdPort.sighting.key (st + e.haltedBit r.core.val) (toLe 8 data)] ∧
    e.sight = { x.sight with lastCmd := cmd, lastStatus := st + e.haltedBit r.core.val } ∧ SameBut [.sight] x e

section
variable (x : Dev) (r : SightReq) (cmd st data : Nat)

theorem Dev.sightAnswer_same : SameBut [.sight] x (x.sightAnswer r cmd st data) :=
  (x.sightAny_same _).trans ((Dev.emit_same _ _).mono (by decide))

theorem Dev.sightAnswer_answered : SightAnswered r x (x.sightAnswer r cmd st data) cmd st data := by
  have hbit : (if (x.core r.core.val).state == .halted then 64 else 0) = (x.sightAnswer r cmd st data).haltedBit r.core.val := by
    simp only [beq_iff_eq]
    rfl
  refine ⟨?_, ?_, Dev.sightAnswer_same _ _ _ _ _⟩
  · rw [← hbit]
    rfl
  · rw [← hbit]
    rfl

/-- The answer leaves first. -/
theorem Dev.sightAnswer_head (h : x.mode.railFail = false) :
    (x.sightAnswer r cmd st data).out.head? = some (.response CmdPort.sighting.key (st + x.haltedBit r.core.val) (toLe 8 data)) := by
  simp [Dev.sightAnswer, Dev.emit, Dev.shown, h, withLines, Dev.haltedBit]

end

/-! ### The checks of a command, in order (R473 to R475) -/

section
variable {d : Dev} {r : SightReq} {cmd lvl : Nat} {boot : Bool} {f : Dev → Dev × Nat × Nat}

theorem Dev.sightRun_off (h : d.regOn = false) : d.sightRun r cmd lvl boot f = d := if_pos (by simp [h])

theorem Dev.sightRun_crc (h : d.regOn = true) (hc : r.crcOk = false) : d.sightRun r cmd lvl boot f = d.sightAnswer r cmd 16 0 := by
  simp [Dev.sightRun, h, hc]

theorem Dev.sightRun_busy (h : d.regOn = true) (hc : r.crcOk = true) (hp : d.sight.pending = true) (h0 : cmd ≠ 0) :
    d.sightRun r cmd lvl boot f = d.sightAnswer r cmd 4 0 := by
  simp [Dev.sightRun, h, hc, hp, h0]

theorem Dev.sightRun_mode (h : d.regOn = true) (hc : r.crcOk = true) (hp : d.sight.pending = false ∨ cmd = 0) (hm : d.inRunOrTest = false)
    (hb : boot = false) : d.sightRun r cmd lvl boot f = d.sightAnswer r cmd 8 0 := by
  have hfree : ¬ (d.sight.pending && cmd != 0) = true := by rcases hp with hp | hp <;> simp [hp]
  unfold Dev.sightRun
  rw [if_neg (by simp [h]), if_neg (by simp [hc]), if_neg hfree, if_pos (by simp [hm, hb])]

theorem Dev.sightRun_denied (h : d.regOn = true) (hc : r.crcOk = true) (hp : d.sight.pending = false ∨ cmd = 0) (hm : d.inRunOrTest = true)
    (hl : d.sightLevel r.core.val < lvl) : d.sightRun r cmd lvl boot f = (d.sightDenied r cmd).sightAnswer r cmd 1 0 := by
  have hfree : ¬ (d.sight.pending && cmd != 0) = true := by rcases hp with hp | hp <;> simp [hp]
  unfold Dev.sightRun
  rw [if_neg (by simp [h]), if_neg (by simp [hc]), if_neg hfree, if_neg (by simp [hm]), if_pos (by simp [hm, hl])]

/-- The command passes every check. -/
def SightTaken (d : Dev) (r : SightReq) (cmd lvl : Nat) (boot : Bool) : Prop :=
  d.regOn = true ∧ r.crcOk = true ∧ (d.sight.pending = false ∨ cmd = 0) ∧ (d.inRunOrTest = true → lvl ≤ d.sightLevel r.core.val) ∧
    (d.inRunOrTest = false → boot = true)

theorem Dev.sightRun_taken (h : SightTaken d r cmd lvl boot) :
    d.sightRun r cmd lvl boot f = (f d).1.sightAnswer r cmd (f d).2.1 (f d).2.2 := by
  obtain ⟨hon, hc, hp, hl, hb⟩ := h
  have hfree : ¬ (d.sight.pending && cmd != 0) = true := by rcases hp with hp | hp <;> simp [hp]
  have hmode : ¬ (!d.inRunOrTest && !boot) = true := by
    cases hm : d.inRunOrTest with
    | true => simp
    | false => simp [hb hm]
  have hlevel : ¬ (d.inRunOrTest && decide (d.sightLevel r.core.val < lvl)) = true := by
    cases hm : d.inRunOrTest with
    | true => simpa using hl hm
    | false => simp
  unfold Dev.sightRun
  rw [if_neg (by simp [hon]), if_neg (by simp [hc]), if_neg hfree, if_neg hmode, if_neg hlevel]

theorem SightTaken.railFail (h : SightTaken d r cmd lvl boot) : d.mode.railFail = false := by
  obtain ⟨hon, -⟩ := h
  simp only [Dev.regOn, Bool.and_eq_true, Bool.not_eq_true'] at hon
  exact hon.1.2

/-- A command that passes and takes place at once answers as its effect says. -/
theorem Dev.sightRun_answered (h : SightTaken d r cmd lvl boot) :
    SightAnswered r (f d).1 (d.sightRun r cmd lvl boot f) cmd (f d).2.1 (f d).2.2 := by
  rw [Dev.sightRun_taken h]
  exact Dev.sightAnswer_answered _ _ _ _ _

end

/-! ### A denied command (R474) -/

theorem Dev.sightDenied_same (d : Dev) (r : SightReq) (cmd : Nat) : SameBut (.bnd :: recordBlocks) d (d.sightDenied r cmd) :=
  SameBut.trans ((d.bndAny_same _).mono (by decide)) ((Dev.log_same _ _ _ _).mono (by decide))

theorem Dev.sightDenied_bnd (d : Dev) (r : SightReq) (cmd : Nat) :
    (d.sightDenied r cmd).bnd = { d.bnd with debugDenied := satAdd 32 d.bnd.debugDenied 1 } := (Dev.log_same _ _ _ _).bnd

theorem Dev.sightDenied_sets (d : Dev) (r : SightReq) (cmd : Nat) : (d.sightDenied r cmd).evt.status.getLsbD 0x382 = true :=
  Dev.log_sets _ _ _ _ (by simp [Dev.sourcePresent]) (by decide)

theorem Dev.sightDenied_records {d : Dev} (r : SightReq) (cmd : Nat) (hq : d.cairn.queue = []) : Records (d.sightDenied r cmd) 0x382 5 :=
  Dev.log_records_high _ _ hq (by decide)

/-- What a command that is denied leaves. -/
def SightRefused (r : SightReq) (d e : Dev) : Prop :=
  e.bnd = { d.bnd with debugDenied := satAdd 32 d.bnd.debugDenied 1 } ∧ e.evt.status.getLsbD 0x382 = true ∧
    (d.cairn.queue = [] → d.cairn.minSeverity ≤ 5 → Records e 0x382 5) ∧ e.cores = d.cores ∧
    e.out.head? = some (.response CmdPort.sighting.key (1 + d.haltedBit r.core.val) (toLe 8 0)) ∧ SameBut (.sight :: .bnd :: recordBlocks) d e

theorem Dev.sightDenied_refused {d : Dev} {r : SightReq} (cmd : Nat) (h : d.mode.railFail = false) :
    SightRefused r d ((d.sightDenied r cmd).sightAnswer r cmd 1 0) := by
  have hdenied := Dev.sightDenied_same d r cmd
  have hanswer := Dev.sightAnswer_same (d.sightDenied r cmd) r cmd 1 0
  refine ⟨hanswer.bnd.trans (Dev.sightDenied_bnd _ _ _), Dev.sightDenied_sets d r cmd, fun hq _ => Dev.sightDenied_records r cmd hq,
    hanswer.cores.trans hdenied.cores, ?_, (hdenied.mono (by decide)).then hanswer⟩
  have hbit : (d.sightDenied r cmd).haltedBit r.core.val = d.haltedBit r.core.val := by
    rw [Dev.haltedBit, Dev.core, hdenied.cores]
    rfl
  rw [Dev.sightAnswer_head _ _ _ _ _ (by rw [hdenied.mode, h]), hbit]

/-! ### The commands (Table 15.9) -/

/-- The commands of the port with their number, their level, and whether M1 and M2 serve them. -/
noncomputable def sightCommands (r : SightReq) : List (Nat × Nat × Bool × Instr) :=
  [(0, 0, true, Instr.sightPoll r), (1, 0, true, .sightIdcode r), (2, 0, true, .sightCoreStatus r), (3, 2, false, .sightHalt r),
    (4, 2, false, .sightResume r), (5, 2, false, .sightStep r), (6, 1, false, .sightRegRead r), (7, 3, false, .sightRegWrite r),
    (8, 1, false, .sightTcmRead r), (9, 3, false, .sightTcmWrite r), (10, 2, false, .sightBreak r), (11, 2, false, .sightWatch r),
    (12, 1, bootBlock r.addr, .sightBarRead r), (13, 3, false, .sightBarWrite r), (14, 1, false, .sightMemRead r), (15, 3, false, .sightMemWrite r)]

/-- Every command goes through the checks at its level. -/
theorem sightCommands_run (r : SightReq) : ∀ x ∈ sightCommands r, ∃ f, ∀ s, exec x.2.2.2 s = .next (s.onDev (fun d => d.sightRun r x.1 x.2.1 x.2.2.1 f)) := by
  simp only [sightCommands, List.forall_mem_cons]
  exact ⟨⟨_, fun _ => rfl⟩, ⟨_, fun _ => rfl⟩, ⟨_, fun _ => rfl⟩, ⟨_, fun _ => rfl⟩, ⟨_, fun _ => rfl⟩, ⟨_, fun _ => rfl⟩, ⟨_, fun _ => rfl⟩,
    ⟨_, fun _ => rfl⟩, ⟨_, fun _ => rfl⟩, ⟨_, fun _ => rfl⟩, ⟨_, fun _ => rfl⟩, ⟨_, fun _ => rfl⟩, ⟨_, fun _ => rfl⟩, ⟨_, fun _ => rfl⟩,
    ⟨_, fun _ => rfl⟩, ⟨_, fun _ => rfl⟩, nofun⟩

section
variable {d e : Dev} {r : SightReq} {cmd lvl : Nat} {boot : Bool} {f : Dev → Dev × Nat × Nat} {st data : Nat}

/-- A command whose effect is known. -/
theorem Dev.sightRun_eq (h : SightTaken d r cmd lvl boot) (hf : f d = (e, st, data)) : d.sightRun r cmd lvl boot f = e.sightAnswer r cmd st data := by
  rw [Dev.sightRun_taken h, hf]

theorem Dev.sightRun_at (h : SightTaken d r cmd lvl boot) (hf : f d = (e, st, data)) : SightAnswered r e (d.sightRun r cmd lvl boot f) cmd st data := by
  rw [Dev.sightRun_eq h hf]
  exact Dev.sightAnswer_answered _ _ _ _ _

/-- With no read pending every command of the level passes. -/
theorem SightTaken.other (h : SightTaken d r cmd lvl boot) (hp : d.sight.pending = false ∨ cmd ≠ 0) (cmd' : Nat) : SightTaken d r cmd' lvl boot := by
  obtain ⟨hon, hc, hfree, hrest⟩ := h
  exact ⟨hon, hc, .inl (hp.elim id fun h0 => hfree.resolve_right h0), hrest⟩

theorem SightAnswered.same (h : SightAnswered r d e cmd st data) : SameBut [.sight] d e := h.2.2

/-! #### POLL, IDCODE, CORE_STATUS -/

theorem sightPoll_idle (h : SightTaken d r 0 0 true) (hp : d.sight.pending = false) : SightAnswered r d (sightPoll r d) 0 0 0 :=
  Dev.sightRun_at h (if_pos (by simp [hp]))

theorem sightPoll_waiting (h : SightTaken d r 0 0 true) (hp : d.sight.pending = true) (hu : (d.trav.slot.rd sightSlot).used = true)
    (hb : (d.trav.slot.rd sightSlot).bytes ≠ 0) : SightAnswered r d (sightPoll r d) 0 2 0 :=
  Dev.sightRun_at h ((if_neg (by simp [hp])).trans (if_pos (by simp [hu, hb])))

/-- The device with the pending read taken. -/
def Dev.sightTaken (d : Dev) : Dev :=
  { d with sight.pending := false, trav.slot := d.trav.slot.wr sightSlot { gen := (d.trav.slot.rd sightSlot).gen + 1 } }

theorem sightPoll_done (h : SightTaken d r 0 0 true) (hp : d.sight.pending = true)
    (hd : (d.trav.slot.rd sightSlot).used = false ∨ (d.trav.slot.rd sightSlot).bytes = 0) :
    let fails := (d.trav.slot.rd sightSlot).used = false ∨ (d.trav.slot.rd sightSlot).kind = 5
    SightAnswered r d.sightTaken (sightPoll r d) 0 (if fails then 32 else 0) (if fails then 0 else leAt (d.trav.slot.rd sightSlot).got 0 8) := by
  intro fails
  have hready : ¬ ((d.trav.slot.rd sightSlot).used && (d.trav.slot.rd sightSlot).bytes != 0) = true := by rcases hd with hd | hd <;> simp [hd]
  refine Dev.sightRun_at h ((if_neg (by simp [hp])).trans ((if_neg hready).trans ?_))
  by_cases hf : fails
  · rw [if_pos hf, if_pos hf]
    exact if_pos (by simpa [fails] using hf)
  · rw [if_neg hf, if_neg hf]
    exact if_neg (by simpa [fails] using hf)

/-! #### HALT, RESUME, STEP, BREAK, WATCH -/

/-- A core that has halted for a reason. -/
def Core.haltedFor (k : Core) (reason hit : Nat) : Core :=
  { k with state := .halted, haltReason := reason, hitIndex := hit, wasStandby := k.state == .standby || (k.state == .halted && k.wasStandby) }

theorem Dev.setCore_same_core (d : Dev) (c : Nat) (g : Core → Core) : (d.setCore c g).core c = g (d.core c) := Tab.rd_upd_same d.cores.core c g

theorem Dev.setCore_other_core (d : Dev) {c n : Nat} (g : Core → Core) (h : n ≠ c) : (d.setCore c g).core n = d.core n :=
  Tab.rd_upd_other d.cores.core c n g h

theorem Dev.core_of_same {bs : List Block} (h : SameBut bs d e) (n : Nat) (hb : .cores ∉ bs := by decide) : e.core n = d.core n := by
  rw [Dev.core, h.cores hb]
  rfl

theorem Dev.haltCore_spec (d : Dev) (c reason hit : Nat) : (d.haltCore c reason hit).core c = (d.core c).haltedFor reason hit ∧
    (∀ n, n ≠ c → (d.haltCore c reason hit).core n = d.core n) ∧ SameBut [.cores, .evt, .pcie] d (d.haltCore c reason hit) := by
  have hw := Dev.watchMode_fires d (fun e => e.setCore c (fun k => k.haltedFor reason hit))
  exact ⟨(Dev.core_of_same hw c).trans (Dev.setCore_same_core _ _ _), fun n hn => (Dev.core_of_same hw n).trans (Dev.setCore_other_core _ _ hn),
    ((Dev.setCore_same _ _ _).mono (by decide)).trans (hw.mono (by decide))⟩

/-- A core that has left its halt. -/
def Core.resumed (k : Core) : Core :=
  { k with state := if k.wasStandby then .standby else .running, haltReason := 0, hitIndex := 0, wasStandby := false, poked := [] }

theorem Dev.takeWaiting_of_none (h : d.cores.waiting = []) : d.takeWaiting = d := by
  unfold Dev.takeWaiting
  rw [h]
  rfl

theorem Dev.resumeCore_spec {c : Nat} (hh : (d.core c).state = .halted) (hn : d.cores.waiting = []) : (d.resumeCore c).core c = (d.core c).resumed ∧
    (∀ n, n ≠ c → (d.resumeCore c).core n = d.core n) ∧ SameBut [.cores, .evt, .pcie] d (d.resumeCore c) := by
  have hw := Dev.watchMode_fires d (fun e => e.setCore c Core.resumed)
  have hnone : (d.watchMode (fun e => e.setCore c Core.resumed)).cores.waiting = [] := by
    rw [hw.cores]
    exact hn
  have heq : d.resumeCore c = d.watchMode (fun e => e.setCore c Core.resumed) :=
    (if_pos (by simp [hh])).trans (Dev.takeWaiting_of_none hnone)
  rw [heq]
  exact ⟨(Dev.core_of_same hw c).trans (Dev.setCore_same_core _ _ _), fun n hn => (Dev.core_of_same hw n).trans (Dev.setCore_other_core _ _ hn),
    ((Dev.setCore_same _ _ _).mono (by decide)).trans (hw.mono (by decide))⟩

theorem sightHalt_active (h : SightTaken d r 3 2 false) (ha : (d.core r.core.val).active = true) :
    (sightHalt r d).core r.core.val = (d.core r.core.val).haltedFor 1 0 ∧ (∀ n, n ≠ r.core.val → (sightHalt r d).core n = d.core n) ∧
      (sightHalt r d).out.head? = some (.response CmdPort.sighting.key 64 (toLe 8 0)) ∧
      SameBut [.sight, .mode, .cores, .evt, .pcie, .cnt] d (sightHalt r d) := by
  obtain ⟨hcore, hother, hsame⟩ := Dev.haltCore_spec d r.core.val 1 0
  have heq : sightHalt r d = (d.haltCore r.core.val 1 0).sightAnswer r 3 0 0 := Dev.sightRun_eq h (by rw [if_pos ha])
  have hanswer := Dev.sightAnswer_same (d.haltCore r.core.val 1 0) r 3 0 0
  rw [heq]
  refine ⟨(Dev.core_of_same hanswer _).trans hcore, fun n hn => (Dev.core_of_same hanswer n).trans (hother n hn), ?_,
    (hsame.mono (by decide)).then hanswer⟩
  rw [Dev.sightAnswer_head _ _ _ _ _ (by rw [hsame.mode, h.railFail]), Dev.haltedBit, hcore]
  rfl

theorem sightHalt_inactive (h : SightTaken d r 3 2 false) (ha : (d.core r.core.val).active = false) : SightAnswered r d (sightHalt r d) 3 0 0 :=
  Dev.sightRun_at h (by rw [if_neg (by simp [ha])])

theorem sightResume_halted (h : SightTaken d r 4 2 false) (hh : (d.core r.core.val).state = .halted) (hn : d.cores.waiting = []) :
    (sightResume r d).core r.core.val = (d.core r.core.val).resumed ∧ (∀ n, n ≠ r.core.val → (sightResume r d).core n = d.core n) ∧
      (sightResume r d).out.head? = some (.response CmdPort.sighting.key 0 (toLe 8 0)) ∧
      SameBut [.sight, .mode, .cores, .evt, .pcie, .cnt] d (sightResume r d) := by
  obtain ⟨hcore, hother, hsame⟩ := Dev.resumeCore_spec hh hn
  have heq : sightResume r d = (d.resumeCore r.core.val).sightAnswer r 4 0 0 := Dev.sightRun_eq h rfl
  have hanswer := Dev.sightAnswer_same (d.resumeCore r.core.val) r 4 0 0
  have hruns : (d.core r.core.val).resumed.state ≠ .halted := by
    unfold Core.resumed
    split <;> simp
  rw [heq]
  refine ⟨(Dev.core_of_same hanswer _).trans hcore, fun n hn => (Dev.core_of_same hanswer n).trans (hother n hn), ?_,
    (hsame.mono (by decide)).then hanswer⟩
  rw [Dev.sightAnswer_head _ _ _ _ _ (by rw [hsame.mode, h.railFail]), Dev.haltedBit, hcore, if_neg hruns]

theorem sightResume_running (h : SightTaken d r 4 2 false) (hh : (d.core r.core.val).state ≠ .halted) : SightAnswered r d (sightResume r d) 4 0 0 :=
  Dev.sightRun_at h (by rw [Dev.resumeCore, if_neg (by simpa using hh)])

/-- A command that changes one core alone. -/
theorem SightAnswered.setCore {c : Nat} {g : Core → Core} (h : SightAnswered r (d.setCore c g) e cmd st data) :
    e.core c = g (d.core c) ∧ (∀ n, n ≠ c → e.core n = d.core n) ∧ SameBut [.sight, .cores] d e :=
  ⟨(Dev.core_of_same h.same c).trans (Dev.setCore_same_core _ _ _), fun n hn => (Dev.core_of_same h.same n).trans (Dev.setCore_other_core _ _ hn),
    ((Dev.setCore_same _ _ _).mono (by decide)).trans (h.same.mono (by decide))⟩

theorem sightStep_halted (h : SightTaken d r 5 2 false) (hh : (d.core r.core.val).state = .halted) :
    SightAnswered r (d.setCore r.core.val (fun k => { k with haltReason := 2, hitIndex := 0, poked := [], ran := true })) (sightStep r d) 5 0 0 :=
  Dev.sightRun_at h (if_pos hh)

theorem sightStep_running (h : SightTaken d r 5 2 false) (hh : (d.core r.core.val).state ≠ .halted) : SightAnswered r d (sightStep r d) 5 0 0 :=
  Dev.sightRun_at h (if_neg hh)

theorem sightBreak_set (h : SightTaken d r 10 2 false) (hi : r.index.val < 8) :
    SightAnswered r (d.setCore r.core.val (fun k => { k with bp := k.bp.wr r.index.val (if bitAt r.data 0 then { enable := true, addr := r.addr } else {}) }))
      (sightBreak r d) 10 0 0 := Dev.sightRun_at h (if_pos hi)

theorem sightBreak_none (h : SightTaken d r 10 2 false) (hi : 8 ≤ r.index.val) : SightAnswered r d (sightBreak r d) 10 32 0 :=
  Dev.sightRun_at h (if_neg (by omega))

theorem sightWatch_set (h : SightTaken d r 11 2 false) (hi : r.index.val < 4) :
    SightAnswered r (d.setCore r.core.val (fun k => { k with wp := k.wp.wr r.index.val (if bitAt r.data 34 then
      { enable := true, addr := r.addr, mask := fld r.data 0 32, read := bitAt r.data 32, write := bitAt r.data 33 } else {}) })) (sightWatch r d) 11 0 0 :=
  Dev.sightRun_at h (if_pos hi)

theorem sightWatch_none (h : SightTaken d r 11 2 false) (hi : 4 ≤ r.index.val) : SightAnswered r d (sightWatch r d) 11 32 0 :=
  Dev.sightRun_at h (if_neg (by omega))

/-! #### REG_READ, REG_WRITE, TCM_READ, TCM_WRITE -/

theorem Dev.coreReg_known {c i : Nat} (h : (d.core c).ran = false ∨ (d.core c).poked.rd (2 ^ 20 + i) = true) : d.coreReg c i = (d, (d.core c).reg.rd i) :=
  if_pos (by
    rw [Bool.or_eq_true]
    exact h.symm.imp id (fun hr => by simp [hr]))

theorem Dev.coreReg_same (d : Dev) (c i : Nat) : SameBut [] d (d.coreReg c i).1 := .ite_fst (.refl _ _) (Dev.tickFree_same _)

theorem sightRegRead_known (h : SightTaken d r 6 1 false) (hi : r.addr % 64 < 34)
    (hk : (d.core r.core.val).ran = false ∨ (d.core r.core.val).poked.rd (2 ^ 20 + r.addr % 64) = true) :
    SightAnswered r d (sightRegRead r d) 6 0 ((d.core r.core.val).reg.rd (r.addr % 64)) :=
  Dev.sightRun_at h ((if_pos hi).trans (by rw [Dev.coreReg_known hk]))

theorem sightRegRead_same (h : SightTaken d r 6 1 false) (hi : r.addr % 64 < 34) : SameBut [.sight] d (sightRegRead r d) :=
  ((Dev.coreReg_same d _ _).mono (by simp)).trans (Dev.sightRun_at (e := (d.coreReg r.core.val (r.addr % 64)).1) h (if_pos hi)).same

theorem sightRegRead_none (h : SightTaken d r 6 1 false) (hi : 34 ≤ r.addr % 64) : SightAnswered r d (sightRegRead r d) 6 32 0 :=
  Dev.sightRun_at h (if_neg (by omega))

theorem sightRegWrite_halted (h : SightTaken d r 7 3 false) (hi : r.addr % 64 < 34) (hh : (d.core r.core.val).state = .halted) :
    SightAnswered r (d.setCoreReg r.core.val (r.addr % 64) (r.data % 2 ^ 64)) (sightRegWrite r d) 7 0 0 :=
  Dev.sightRun_at h ((if_neg (by omega)).trans (by rw [if_pos hh]))

theorem sightRegWrite_none (h : SightTaken d r 7 3 false) (hn : 34 ≤ r.addr % 64 ∨ (d.core r.core.val).state ≠ .halted) :
    SightAnswered r d (sightRegWrite r d) 7 (if 34 ≤ r.addr % 64 then 32 else 0) 0 := by
  refine Dev.sightRun_at h ?_
  by_cases hi : 34 ≤ r.addr % 64
  · rw [if_pos hi, if_pos hi]
  · rw [if_neg hi, if_neg hi, if_neg (hn.resolve_left hi)]

theorem Dev.coreBytes_fresh {c a : Nat} (h : (d.core c).ran = false) (n : Nat) :
    d.coreBytes c a n = (d, (List.range n).map (fun j => (d.core c).mem.rd (a + j))) := by
  have hbyte (i : Nat) : d.coreByte c i = (d, (d.core c).mem.rd i) := if_pos (by simp [h])
  induction n with
  | zero => rfl
  | succ n ih =>
    have hstep : d.coreBytes c a (n + 1) = (((d.coreBytes c a n).1.coreByte c (a + n)).1, (d.coreBytes c a n).2 ++ [((d.coreBytes c a n).1.coreByte c (a + n)).2]) := by
      simp [Dev.coreBytes, List.range_succ]
    rw [hstep, ih, hbyte, List.range_succ, List.map_append]
    rfl

theorem Dev.coreBytes_same (d : Dev) (c a n : Nat) : SameBut [] d (d.coreBytes c a n).1 :=
  have hbyte (e : Dev) (i : Nat) : SameBut [] e (e.coreByte c i).1 := .ite_fst (.refl _ _) (Dev.tickFree_same _)
  SameBut.foldl_fst (fun (x : Dev × List Nat) i => ((x.1.coreByte c (a + i)).1, x.2 ++ [(x.1.coreByte c (a + i)).2])) (fun _ _ => hbyte _ _) _ (d, [])

theorem sightTcmRead_fresh (h : SightTaken d r 8 1 false) (ha : tcmOk r.addr = true) (hr : (d.core r.core.val).ran = false) :
    SightAnswered r d (sightTcmRead r d) 8 0 (leAt ((List.range 8).map (fun j => (d.core r.core.val).mem.rd (r.addr + j))) 0 8) :=
  Dev.sightRun_at h ((if_pos ha).trans (by rw [Dev.coreBytes_fresh hr]))

theorem sightTcmRead_same (h : SightTaken d r 8 1 false) (ha : tcmOk r.addr = true) : SameBut [.sight] d (sightTcmRead r d) :=
  ((Dev.coreBytes_same d _ _ _).mono (by simp)).trans (Dev.sightRun_at (e := (d.coreBytes r.core.val r.addr 8).1) h (if_pos ha)).same

theorem sightTcmRead_none (h : SightTaken d r 8 1 false) (ha : tcmOk r.addr = false) : SightAnswered r d (sightTcmRead r d) 8 32 0 :=
  Dev.sightRun_at h (if_neg (by simp [ha]))

/-- The first `n` bytes written to a core's memory from `a`. -/
def Dev.coreWritten (d : Dev) (c a : Nat) (bs : List Nat) (n : Nat) : Dev :=
  (List.range n).foldl (fun e i => e.setCore c (fun k =>
    { k with mem := k.mem.wr (a + i) (bs.getD i 0), poked := if (d.core c).state == .halted then k.poked.wr (a + i) true else k.poked })) d

theorem Dev.coreWritten_spec (d : Dev) (c a : Nat) (bs : List Nat) (n y : Nat) :
    ((d.coreWritten c a bs n).core c).mem.rd y = (if a ≤ y ∧ y < a + n then bs.getD (y - a) 0 else (d.core c).mem.rd y) ∧
      ((d.coreWritten c a bs n).core c).reg = (d.core c).reg ∧ (∀ m, m ≠ c → (d.coreWritten c a bs n).core m = d.core m) ∧
      SameBut [.cores] d (d.coreWritten c a bs n) := by
  induction n with
  | zero =>
    refine ⟨?_, rfl, fun _ _ => rfl, .refl _ _⟩
    rw [if_neg (by omega)]
    rfl
  | succ n ih =>
    obtain ⟨hmem, hreg, hother, hsame⟩ := ih
    have hstep : d.coreWritten c a bs (n + 1) = (d.coreWritten c a bs n).setCore c (fun k =>
        { k with mem := k.mem.wr (a + n) (bs.getD n 0), poked := if (d.core c).state == .halted then k.poked.wr (a + n) true else k.poked }) := by
      simp [Dev.coreWritten, List.range_succ]
    rw [hstep, Dev.setCore_same_core]
    refine ⟨?_, hreg, fun m hm => (Dev.setCore_other_core _ _ hm).trans (hother m hm), hsame.trans (Dev.setCore_same _ _ _)⟩
    by_cases hy : y = a + n
    · subst hy
      rw [Tab.rd_wr_same, if_pos (by omega), Nat.add_sub_cancel_left]
    · rw [Tab.rd_wr_other _ _ _ _ hy, hmem]
      congr 1
      exact propext ⟨fun h => by omega, fun h => by omega⟩

theorem sightTcmWrite_ok (h : SightTaken d r 9 3 false) (ha : tcmOk r.addr = true) :
    SightAnswered r (d.coreWritten r.core.val r.addr (toLe 8 r.data) 8) (sightTcmWrite r d) 9 0 0 :=
  Dev.sightRun_at h ((if_pos ha).trans (by rw [Dev.setCoreBytes, length_toLe]; rfl))

theorem sightTcmWrite_none (h : SightTaken d r 9 3 false) (ha : tcmOk r.addr = false) : SightAnswered r d (sightTcmWrite r d) 9 32 0 :=
  Dev.sightRun_at h (if_neg (by simp [ha]))

/-! #### BAR_READ, BAR_WRITE -/

theorem sightBarRead_answered (h : SightTaken d r 12 1 (bootBlock r.addr)) :
    SightAnswered r (d.busRead .sighting r.addr r.size).1 (sightBarRead r d) 12
      (if d.reach .sighting r.addr r.size true none = .timeout then 32 else 0) (d.busRead .sighting r.addr r.size).2.1 := Dev.sightRun_at h rfl

theorem sightBarWrite_open (h : SightTaken d r 13 3 false) (hr : d.reach .sighting r.addr r.size true (some r.data) = .ok)
    (hl : d.sightLocked r.addr = false) : SightAnswered r (d.busWrite .sighting r.addr r.size r.data).1 (sightBarWrite r d) 13 0 0 :=
  Dev.sightRun_at h (by rw [hr]; exact if_neg (by simp [hl]))

theorem sightBarWrite_locked (h : SightTaken d r 13 3 false) (hr : d.reach .sighting r.addr r.size true (some r.data) = .ok)
    (hl : d.sightLocked r.addr = true) : SightAnswered r (d.sightDenied r 13) (sightBarWrite r d) 13 1 0 :=
  Dev.sightRun_at h (by rw [hr]; exact if_pos hl)

theorem sightBarWrite_denied (h : SightTaken d r 13 3 false) (hr : d.reach .sighting r.addr r.size true (some r.data) = .denied) :
    SightAnswered r (d.busWrite .sighting r.addr r.size r.data).1 (sightBarWrite r d) 13 1 0 :=
  Dev.sightRun_at h (by rw [hr]; rfl)

/-- A write that its port may not make leaves what a refusal leaves. -/
theorem sightBarWrite_denied_spec (h : SightTaken d r 13 3 false) (hr : d.reach .sighting r.addr r.size true (some r.data) = .denied) :
    (sightBarWrite r d).evt.status.getLsbD 0x046 = true ∧ SameBut (.sight :: recordBlocks) d (sightBarWrite r d) := by
  have hanswer := (sightBarWrite_denied h hr).same
  obtain ⟨-, -, hevent, -, hbus, -, hsame⟩ := Dev.busWrite_refused hr (.inr (.inr (.inl rfl)))
  have hwrite : SameBut recordBlocks d (d.busWrite .sighting r.addr r.size r.data).1 := fun b hb => by
    by_cases hbb : b = .bus
    · subst hbb
      exact hbus (by decide)
    · exact hsame b (by simp [hbb, hb])
  rw [hanswer.evt]
  exact ⟨hevent rfl, (hwrite.mono (by decide)).trans (hanswer.mono (by decide))⟩

/-! #### MEM_READ, MEM_WRITE -/

/-- The check of a memory access. -/
def SightReq.check (r : SightReq) (d : Dev) : Chk := { kind := 3, sw := d.run.switchId, host := r.space.val != 0, space := r.space.val - 1, addr := r.addr }

theorem Dev.sightCheck_locked (cmd access : Nat) (h : (d.verdict (d.checkTable 73) (r.check d)).locked.isSome = true) :
    d.sightCheck r cmd access = (d.sightDenied r cmd, false) := if_pos h

theorem Dev.sightCheck_allowed {access : Nat} (cmd : Nat) (h : (d.verdict (d.checkTable 73) (r.check d)).locked = none)
    (ha : (d.verdict (d.checkTable 73) (r.check d)).allows access = true) : d.sightCheck r cmd access = (d, true) :=
  (if_neg (fun hs => Option.isSome_iff_ne_none.1 hs h)).trans (if_pos ha)

theorem sightMemRead_noSpace (h : SightTaken d r 14 1 false) (hs : d.sightSpaceOk r = false) : SightAnswered r d (sightMemRead r d) 14 32 0 :=
  Dev.sightRun_at h (if_pos (by simp [hs]))

theorem sightMemWrite_noSpace (h : SightTaken d r 15 3 false) (hs : d.sightSpaceOk r = false) : SightAnswered r d (sightMemWrite r d) 15 32 0 :=
  Dev.sightRun_at h (if_pos (by simp [hs]))

theorem sightMemRead_locked (h : SightTaken d r 14 1 false) (hs : d.sightSpaceOk r = true)
    (hl : (d.verdict (d.checkTable 73) (r.check d)).locked.isSome = true) : SightAnswered r (d.sightDenied r 14) (sightMemRead r d) 14 1 0 :=
  Dev.sightRun_at h ((if_neg (by simp [hs])).trans (by rw [Dev.sightCheck_locked 14 0 hl]; rfl))

theorem sightMemWrite_locked (h : SightTaken d r 15 3 false) (hs : d.sightSpaceOk r = true)
    (hl : (d.verdict (d.checkTable 73) (r.check d)).locked.isSome = true) : SightAnswered r (d.sightDenied r 15) (sightMemWrite r d) 15 1 0 :=
  Dev.sightRun_at h ((if_neg (by simp [hs])).trans (by rw [Dev.sightCheck_locked 15 1 hl]; rfl))

/-- The device with the read slot of the debug master waiting. -/
def Dev.sightWaits (d : Dev) : Dev :=
  { d with trav.slot := d.trav.slot.upd sightSlot (fun t => { used := true, gen := t.gen, kind := 6, bytes := 8, time := d.now }) }

theorem sightMemRead_sent (h : SightTaken d r 14 1 false) (hs : d.sightSpaceOk r = true) (hl : (d.verdict (d.checkTable 73) (r.check d)).locked = none)
    (ha : (d.verdict (d.checkTable 73) (r.check d)).allows 0 = true) (hi : (d.sightWaits.sightIssue r false).2 = true) :
    SightAnswered r { (d.sightWaits.sightIssue r false).1 with sight.pending := true } (sightMemRead r d) 14 2 0 :=
  Dev.sightRun_at h ((if_neg (by simp [hs])).trans (by rw [Dev.sightCheck_allowed 14 hl ha]; exact if_pos hi))

theorem sightMemWrite_sent (h : SightTaken d r 15 3 false) (hs : d.sightSpaceOk r = true) (hl : (d.verdict (d.checkTable 73) (r.check d)).locked = none)
    (ha : (d.verdict (d.checkTable 73) (r.check d)).allows 1 = true) (hi : (d.sightIssue r true).2 = true) :
    SightAnswered r (d.sightIssue r true).1 (sightMemWrite r d) 15 0 0 :=
  Dev.sightRun_at h ((if_neg (by simp [hs])).trans (by
    rw [Dev.sightCheck_allowed 15 hl ha]
    exact congrArg (fun b => ((d.sightIssue r true).1, if b then 0 else 32, 0)) hi))

/-! ### What is left of an answer -/

theorem Dev.haltedBit_of_same {bs : List Block} (h : SameBut bs d e) (c : Nat) (hb : .cores ∉ bs := by decide) : e.haltedBit c = d.haltedBit c := by
  rw [Dev.haltedBit, Dev.core_of_same h c hb]
  rfl

theorem sightPoll_done_spec (h : SightTaken d r 0 0 true) (hp : d.sight.pending = true)
    (hd : (d.trav.slot.rd sightSlot).used = false ∨ (d.trav.slot.rd sightSlot).bytes = 0) :
    let fails := (d.trav.slot.rd sightSlot).used = false ∨ (d.trav.slot.rd sightSlot).kind = 5
    (sightPoll r d).sight.pending = false ∧ ((sightPoll r d).trav.slot.rd sightSlot).used = false ∧
      (sightPoll r d).out = d.shown [.response CmdPort.sighting.key ((if fails then 32 else 0) + d.haltedBit r.core.val)
        (toLe 8 (if fails then 0 else leAt (d.trav.slot.rd sightSlot).got 0 8))] ∧ SameBut [.sight, .trav] d (sightPoll r d) := by
  intro fails
  obtain ⟨hout, hsight, hsame⟩ := sightPoll_done h hp hd
  have htaken : SameBut [.sight, .trav] d d.sightTaken := by simp [sameBut_iff, Dev.sightTaken]
  rw [Dev.haltedBit_of_same hsame, Dev.haltedBit_of_same htaken] at hout
  refine ⟨congrArg SightSt.pending hsight, ?_, hout, htaken.then hsame⟩
  rw [hsame.trav]
  exact congrArg RdSlot.used (Tab.rd_wr_same d.trav.slot sightSlot { gen := (d.trav.slot.rd sightSlot).gen + 1 })

theorem sightRegWrite_halted_spec (h : SightTaken d r 7 3 false) (hi : r.addr % 64 < 34) (hh : (d.core r.core.val).state = .halted) (y : Nat) :
    ((sightRegWrite r d).core r.core.val).reg.rd y = (if y = r.addr % 64 then r.data % 2 ^ 64 else (d.core r.core.val).reg.rd y) ∧
      ((sightRegWrite r d).core r.core.val).mem = (d.core r.core.val).mem ∧ ((sightRegWrite r d).core r.core.val).state = .halted ∧
      (∀ n, n ≠ r.core.val → (sightRegWrite r d).core n = d.core n) ∧ SameBut [.sight, .cores] d (sightRegWrite r d) := by
  obtain ⟨hcore, hother, hsame⟩ := (sightRegWrite_halted h hi hh).setCore
  rw [hcore]
  refine ⟨?_, rfl, hh, hother, hsame⟩
  split
  next hy => rw [hy, Tab.rd_wr_same]
  next hy => exact Tab.rd_wr_other _ _ _ _ hy

theorem sightTcmWrite_ok_spec (h : SightTaken d r 9 3 false) (ha : tcmOk r.addr = true) (y : Nat) :
    ((sightTcmWrite r d).core r.core.val).mem.rd y =
        (if r.addr ≤ y ∧ y < r.addr + 8 then r.data / 256 ^ (y - r.addr) % 256 else (d.core r.core.val).mem.rd y) ∧
      ((sightTcmWrite r d).core r.core.val).reg = (d.core r.core.val).reg ∧ (∀ n, n ≠ r.core.val → (sightTcmWrite r d).core n = d.core n) ∧
      SameBut [.sight, .cores] d (sightTcmWrite r d) := by
  have hanswer := (sightTcmWrite_ok h ha).same
  obtain ⟨hmem, hreg, hother, hsame⟩ := Dev.coreWritten_spec d r.core.val r.addr (toLe 8 r.data) 8 y
  rw [Dev.core_of_same hanswer]
  refine ⟨hmem.trans ?_, hreg, fun n hn => (Dev.core_of_same hanswer n).trans (hother n hn), (hsame.mono (by decide)).trans (hanswer.mono (by decide))⟩
  split
  next hy => rw [toLe_getD _ _ _ (by omega)]
  next => rfl

theorem sightBarWrite_locked_spec (h : SightTaken d r 13 3 false) (hr : d.reach .sighting r.addr r.size true (some r.data) = .ok)
    (hl : d.sightLocked r.addr = true) : (sightBarWrite r d).bnd = { d.bnd with debugDenied := satAdd 32 d.bnd.debugDenied 1 } ∧
      SameBut (.sight :: .bnd :: recordBlocks) d (sightBarWrite r d) := by
  have hanswer := (sightBarWrite_locked h hr hl).same
  exact ⟨hanswer.bnd.trans (Dev.sightDenied_bnd _ _ _), ((Dev.sightDenied_same d r 13).mono (by decide)).then hanswer⟩

/-- The answer to a memory access that a locked range takes from the debugger. -/
theorem SightAnswered.locked (h : SightAnswered r (d.sightDenied r cmd) e cmd st data) :
    e.bnd.debugDenied = satAdd 32 d.bnd.debugDenied 1 ∧ e.evt.status.getLsbD 0x382 = true ∧ e.sight.pending = d.sight.pending ∧ e.sw = d.sw ∧
      e.trav = d.trav := by
  obtain ⟨-, hsight, hsame⟩ := h
  have hdenied := Dev.sightDenied_same d r cmd
  refine ⟨?_, ?_, (congrArg SightSt.pending hsight).trans (congrArg SightSt.pending hdenied.sight :), hsame.sw.trans hdenied.sw, hsame.trav.trans hdenied.trav⟩
  · rw [hsame.bnd, Dev.sightDenied_bnd]
  · rw [hsame.evt]
    exact Dev.sightDenied_sets d r cmd

end

/-! ### Breakpoints (R476) -/

theorem breakpointHit_spec {d : Dev} {c : Fin 5} {watch : Bool} {i : Fin 8} (ha : (d.core c).active = true)
    (hon : (if watch then ((d.core c).wp.rd i).enable else ((d.core c).bp.rd i).enable) = true) (hl : 2 ≤ d.debugLevel c) :
    ((breakpointHit c watch i d).core c).state = .halted ∧ ((breakpointHit c watch i d).core c).haltReason = (if watch then 4 else 3) ∧
      ((breakpointHit c watch i d).core c).hitIndex = i.val ∧ (∀ n : Nat, n ≠ c.val → (breakpointHit c watch i d).core n = d.core n) ∧
      SameBut [.mode, .cores, .evt, .pcie, .cnt] d (breakpointHit c watch i d) := by
  have heq : breakpointHit c watch i d = d.haltCore c (if watch then 4 else 3) i := if_pos (by simpa [ha, hl] using hon)
  obtain ⟨hcore, hother, hsame⟩ := Dev.haltCore_spec d c (if watch then 4 else 3) i
  rw [heq, hcore]
  exact ⟨rfl, rfl, rfl, hother, hsame.mono (by decide)⟩

theorem breakpointHit_of_closed {d : Dev} {c : Fin 5} {watch : Bool} {i : Fin 8}
    (h : (d.core c).active = false ∨ (if watch then ((d.core c).wp.rd i).enable else ((d.core c).bp.rd i).enable) = false ∨ d.debugLevel c < 2) :
    breakpointHit c watch i d = d := by
  refine if_neg fun hall => ?_
  simp only [Bool.and_eq_true, decide_eq_true_eq] at hall
  obtain ⟨⟨ha, hon⟩, hl⟩ := hall
  rcases h with h | h | h
  · simp [ha] at h
  · rw [hon] at h
    cases h
  · omega

/-- Settles O56: a command passes the checks of the port in order, or is answered with the first that fails; one that passes
has the effect of Table 15.9. -/
theorem sighting : Obligations.Sighting := by
  unfold Obligations.Sighting
  intro s r bp watch c5 y d c k halted all ans taken modes same waiting
  refine ⟨fun hoff x hx => ?off, fun hon x hx => ⟨fun hc => ?crc, fun hc hp h0 => ?busy, fun hc hp hm hb => ?mode, fun hc hp hm hl => ?denied⟩,
    fun h => ⟨fun hp => Gives.of_onDev rfl (sightPoll_idle h hp), fun t ht hp => ⟨fun hu hb => Gives.of_onDev rfl (sightPoll_waiting h hp (ht ▸ hu) (ht ▸ hb)),
      fun hd => Gives.of_onDev rfl ?poll⟩, fun hp => Gives.of_onDev rfl (Dev.sightRun_at (SightTaken.other h (.inl hp) 1) rfl),
      fun hp => Gives.of_onDev rfl (Dev.sightRun_at (SightTaken.other h (.inl hp) 2) rfl)⟩,
    fun (h : SightTaken s.dev r 3 2 false) => ⟨fun ha => Gives.of_onDev rfl ?halt, fun ha => Gives.of_onDev rfl (sightHalt_inactive h ha),
      fun hh hn => Gives.of_onDev rfl ?resume, fun hh => Gives.of_onDev rfl (sightResume_running (h.other (.inr (by decide)) 4) hh),
      fun hh => Gives.of_onDev rfl ?step, fun hh => Gives.of_onDev rfl (sightStep_running (h.other (.inr (by decide)) 5) hh),
      fun hi => Gives.of_onDev rfl (sightBreak_set (h.other (.inr (by decide)) 10) hi).setCore,
      fun hi => Gives.of_onDev rfl (sightBreak_none (h.other (.inr (by decide)) 10) hi),
      fun hi => Gives.of_onDev rfl (sightWatch_set (h.other (.inr (by decide)) 11) hi).setCore,
      fun hi => Gives.of_onDev rfl (sightWatch_none (h.other (.inr (by decide)) 11) hi)⟩,
    fun (h : SightTaken s.dev r 6 1 false) => ⟨fun hi hk => Gives.of_onDev rfl (sightRegRead_known h hi hk), fun hi => Gives.of_onDev rfl (sightRegRead_same h hi),
      fun hi => Gives.of_onDev rfl (sightRegRead_none h hi),
      fun ha hr => Gives.of_onDev rfl (sightTcmRead_fresh (h.other (.inr (by decide)) 8) ha hr),
      fun ha => Gives.of_onDev rfl (sightTcmRead_same (h.other (.inr (by decide)) 8) ha),
      fun ha => Gives.of_onDev rfl (sightTcmRead_none (h.other (.inr (by decide)) 8) ha),
      fun hs => Gives.of_onDev rfl (sightMemRead_noSpace (h.other (.inr (by decide)) 14) hs)⟩,
    fun h => Gives.of_onDev rfl (sightBarRead_answered h),
    fun (h : SightTaken s.dev r 7 3 false) => ⟨fun hi hh => Gives.of_onDev rfl (sightRegWrite_halted_spec h hi hh y), fun hn => Gives.of_onDev rfl (sightRegWrite_none h hn),
      fun ha => Gives.of_onDev rfl (sightTcmWrite_ok_spec (h.other (.inr (by decide)) 9) ha y),
      fun ha => Gives.of_onDev rfl (sightTcmWrite_none (h.other (.inr (by decide)) 9) ha),
      fun hr hl => Gives.of_onDev rfl (sightBarWrite_open (h.other (.inr (by decide)) 13) hr hl),
      fun hr hl => Gives.of_onDev rfl (sightBarWrite_locked_spec (h.other (.inr (by decide)) 13) hr hl),
      fun hr => Gives.of_onDev rfl (sightBarWrite_denied_spec (h.other (.inr (by decide)) 13) hr),
      fun hs => Gives.of_onDev rfl (sightMemWrite_noSpace (h.other (.inr (by decide)) 15) hs)⟩,
    fun v hv hl hs => ⟨fun h ha hi => Gives.of_onDev rfl ?sent, fun h ha hi => Gives.of_onDev rfl (sightMemWrite_sent h hs (hv ▸ hl) (hv ▸ ha) hi)⟩,
    fun b hb h hs hl => ?locked,
    fun m hm => ⟨fun ha hon hl => Gives.of_onDev rfl (breakpointHit_spec (hm ▸ ha) (hm ▸ hon) hl),
      fun h => Gives.of_onDev rfl (breakpointHit_of_closed (hm ▸ h))⟩⟩
  case off =>
    obtain ⟨f, hf⟩ := sightCommands_run r x hx
    exact Gives.of_onDev (hf s) (Dev.sightRun_off hoff)
  case crc =>
    obtain ⟨f, hf⟩ := sightCommands_run r x hx
    refine Gives.of_onDev (hf s) ?_
    rw [Dev.sightRun_crc hon hc]
    exact Dev.sightAnswer_answered _ _ _ _ _
  case busy =>
    obtain ⟨f, hf⟩ := sightCommands_run r x hx
    refine Gives.of_onDev (hf s) ?_
    rw [Dev.sightRun_busy hon hc hp h0]
    exact Dev.sightAnswer_answered _ _ _ _ _
  case mode =>
    obtain ⟨f, hf⟩ := sightCommands_run r x hx
    refine Gives.of_onDev (hf s) ?_
    rw [Dev.sightRun_mode hon hc hp hm hb]
    exact Dev.sightAnswer_answered _ _ _ _ _
  case denied =>
    obtain ⟨f, hf⟩ := sightCommands_run r x hx
    refine Gives.of_onDev (hf s) ?_
    rw [Dev.sightRun_denied hon hc hp hm hl]
    exact Dev.sightDenied_refused _ (SightTaken.railFail (cmd := 0) (lvl := 0) (boot := true) ⟨hon, hc, .inr rfl, fun _ => Nat.zero_le _, fun _ => rfl⟩)
  case poll =>
    subst ht
    exact sightPoll_done_spec h hp hd
  case halt =>
    obtain ⟨hcore, hother, hhead, hsame⟩ := sightHalt_active h ha
    rw [hcore]
    exact ⟨rfl, rfl, rfl, rfl, rfl, hother, hhead, hsame⟩
  case resume =>
    obtain ⟨hcore, hother, hhead, hsame⟩ := sightResume_halted (SightTaken.other h (.inr (by decide)) 4) hh hn
    rw [hcore]
    exact ⟨rfl, rfl, rfl, rfl, hother, hhead, hsame⟩
  case step =>
    obtain ⟨hcore, hother, hsame⟩ := (sightStep_halted (SightTaken.other h (.inr (by decide)) 5) hh).setCore
    rw [hcore]
    exact ⟨hh, rfl, rfl, hother, hsame⟩
  case sent =>
    obtain ⟨hout, hsight, hsame⟩ := sightMemRead_sent h hs (hv ▸ hl) (hv ▸ ha) hi
    exact ⟨congrArg SightSt.pending hsight, hsame.sw, hsame.trav, hout, (Dev.sightAny_same _ _).trans hsame⟩
  case locked =>
    rcases List.mem_cons.1 hb with rfl | hb
    · exact Gives.of_onDev rfl (sightMemRead_locked h hs hl).locked
    · obtain rfl := List.mem_singleton.1 hb
      exact Gives.of_onDev rfl (sightMemWrite_locked h hs hl).locked

end Sys2Proof.Machine
